-- ==== Sys2Proof/Word.lean ====
section
/-! DEFINITION. The byte, and a sequence of bytes: what the bus, the network, the flash and the buffers carry. -/

namespace Sys2Proof

/-- One byte. -/
abbrev Byte := BitVec 8

/-- Bytes in order of their offset. -/
abbrev Bytes := List Byte

/-- One 32-bit word. -/
abbrev Word32 := BitVec 32

/-- One 64-bit word. -/
abbrev Word64 := BitVec 64

end Sys2Proof
end

