-- ==== Sys2Proof/Syntax.lean ====
section
/-! DEFINITION. The commands of the block: one constructor of `Instr` per row of spec/opcode_table.json, with the
operands the row's rule speaks of. What comes from outside (a message's fields, bytes read from a medium, the end of
a piece of engine work) stands in the operands; everything the Zhevyel itself holds stands in the state. -/

namespace Sys2Proof

/-- A PTP Sync or Follow_Up as it arrives (R54): the port, transport and domain it arrived on, the transmitter's port
identity (ten octets, little-endian), the sequence number, the origin time in nanoseconds of the source timescale (of a
two-step Sync, nothing), and the correctionField in nanoseconds. -/
structure PtpMessage where
  port : Nat
  transport : Nat
  domain : Nat
  sender : Nat
  seq : Nat
  origin : Nat
  correction : Int
deriving DecidableEq, Repr

/-- A PTP Delay_Resp (R54): `forUs` says that it names this device's request. -/
structure PtpDelayResp where
  port : Nat
  transport : Nat
  domain : Nat
  sender : Nat
  forUs : Bool
  seq : Nat
  receipt : Nat
  correction : Int
deriving DecidableEq, Repr

/-- A PTP Announce (R54): the data set of the transmitter that sent it. -/
structure PtpDataSet where
  port : Nat
  transport : Nat
  domain : Nat
  sender : Nat
  grandmaster : Nat
  priority1 : Nat
  clockClass : Nat
  accuracy : Nat
  variance : Nat
  priority2 : Nat
  stepsRemoved : Nat
deriving DecidableEq, Repr

/-- The clear and inner headers of a sealed packet (R394, R395), with whether its tag verifies under the key and nonce
of R396. -/
structure SealHeader where
  counter : Nat
  tagOk : Bool
  msgOffset : Nat
  firstPsn : Nat
  msgLength : Nat
  key : Nat
  addr : Nat
deriving DecidableEq, Repr

/-- A RoCEv2 packet as it arrives (R377): the port, whether the transport is RC, the P_Key, whether the ICRC holds, the
BTH fields, the RETH, immediate and AETH where the opcode carries them, the seal where there is one, the DSCP and the
length of its frame from destination address to FCS. -/
structure Packet where
  port : Nat
  rc : Bool
  pkey : Nat
  icrcOk : Bool
  opcode : Nat
  psn : Nat
  ackReq : Bool
  key : Nat
  addr : Nat
  length : Nat
  imm : Option Nat
  syndrome : Nat
  payload : Bytes
  sealed : Option SealHeader
  dscp : Nat
  frameBytes : Nat
deriving DecidableEq, Repr


/-- The NAND population as it identifies itself (R332 to R335): whether it is uniform, the dies on each channel, the
geometry of a die, the READ ID response, whether the dies are Toggle, whether they offer a parameter page with its
interface (R365), rate, read-retry levels, rated erases and suspend support. -/
structure Population where
  uniform : Bool
  diesPerChannel : Nat
  pageBytes : Nat
  spareBytes : Nat
  planes : Nat
  pagesPerBlock : Nat
  blocksPerPlane : Nat
  cellBits : Nat
  idBytes : Nat
  toggle : Bool
  parameterPage : Bool
  interface : Nat
  rate : Nat
  retryLevels : Nat
  rated : Nat
  suspend : Nat
deriving DecidableEq, Repr

/-- How a unit read went (R345): the levels re-read after the first, the step that ended it (1 hard, 2 a further level, 3
soft, 4 reconstructed, 5 failed), the units of the stripe absent at step 5, the disagreements with the map, the bits
corrected in all and in the worst codeword, the reads that reconstruction took, the ticks added and the die's
temperature. -/
structure UnitResult where
  levels : Nat
  step : Nat
  absent : Nat
  mismatches : Nat
  corrected : Nat
  worst : Nat
  rebuilt : Nat
  ticks : Nat
  temperature : Int
deriving DecidableEq, Repr

/-- The registers of a Pier that a kernel sees (R279, R282): pc, the 32 integer, floating-point and vector registers, and the CSRs it
may write. -/
structure PierRegs where
  pc : Nat
  x : List Nat
  f : List Nat
  v : List Nat
  vl : Nat
  vtype : Nat
  fcsr : Nat
  vxrm : Nat
  vxsat : Nat
  vstart : Nat
deriving DecidableEq, Repr

/-- What a kernel's own instructions did since its last service call, or since entry: how many it retired, its registers as they
then stand, and its stores in order, each an address and bytes. -/
structure KernelStep where
  insns : Nat
  regs : PierRegs
  stores : List (Nat × Bytes)
deriving DecidableEq, Repr

/-- What the data of a GDDR7 read that comes back uncorrectable are (R308, R435): an item's buffer, and whether it is the input of its
stage; a batch in a Shoe; a cache entry, by its place; an entry of the map cache; a mirrored area; a loaded image, by its kind (0
vocabulary, 1 control set, 2 bundle, 3 kernel) and entry; or a node of the free list, with the part whose check fails. -/
inductive MemoryUse where
  | item (entry : Nat) (input : Bool)
  | batch (slot stream epoch index : Nat)
  | cacheEntry (place : Nat)
  | map
  | mirrored
  | image (kind entry : Nat)
  | node (handle : Nat) (group : Bool)
deriving DecidableEq, Repr

/-- What the boot flash says of itself (R461): whether it has a JESD216 SFDP table, its density in bytes, whether it offers 4-byte
addressing, its replay-protected monotonic counters of 32 bits, and its JEDEC identifier (three bytes, the first lowest). -/
structure BootFlash where
  sfdp : Bool
  bytes : Nat
  fourByte : Bool
  counters : Nat
  id : Nat
deriving DecidableEq, Repr

/-- What the HUB finds at start-up (R548, R313): the failing partitions (domain and partition) of logic BIST, persistent ones only, and
the bad rows (array, bank, row) of the destructive march, in the order found and those of the repeated tests among them; what each fuse
entry burned reads back as, good or not; and the GDDR7 channels that fail their training. -/
structure StartUp where
  partitions : List (Nat × Nat)
  rows : List (Nat × Nat × Nat)
  fuses : List Bool
  channels : List Nat
deriving DecidableEq, Repr

/-- The bound monotonic counter as R469 meets it: the value of the authenticated read, nothing where it fails, and whether the
increment and the second read succeed. -/
structure CounterRun where
  value : Option Nat
  advanced : Bool
deriving DecidableEq, Repr

/-- What a rail reports over PMBus (R561): READ_VOUT in millivolts, READ_IOUT in milliamperes, READ_POUT in milliwatts and
STATUS_WORD. -/
structure RailReading where
  vout : Nat
  iout : Nat
  pout : Nat
  status : Nat
deriving DecidableEq, Repr

/-- The conditions of an island for logic BIST (R539): its domain, whether its PLL is locked at its rate, its rail in millivolts, and the
coldest and hottest sensor of its tile in units of 0.25 °C. -/
structure IslandReading where
  domain : Nat
  locked : Bool
  railMv : Nat
  coldest : Int
  hottest : Int
deriving DecidableEq, Repr

/-- A CAN frame as it arrives (R486, R489): whether it is an FD frame, has an extended identifier, or is a remote frame; the fields of
its identifier; and its payload. -/
structure BusFrame where
  fd : Bool
  extended : Bool
  remote : Bool
  function : Nat
  dest : Nat
  src : Nat
  tag : Nat
  payload : Bytes
deriving DecidableEq, Repr

/-- How the sending of a CLAIM ended (R493, R494): without error, with the arbitration lost to another CLAIM of the same address, or in a
collision with an identical identifier. -/
inductive ClaimEnd where
  | sent | lost | collided
deriving DecidableEq, Repr

/-- What the devices around the dictionary answer when a write is a command that asks them: the NAND population (FORMAT), whether an
external shard map can be read and writes to the window still drain (VALIDATE), how many fuses read back as burned (COMMIT_SVN), the
monotonic counters and whether the selected one advances (BIND_BOOT_FLASH), and the readings of the islands (LBIST). -/
structure Outside where
  found : Population
  readable : Bool
  draining : Bool
  burned : Nat
  counters : List Nat
  advanced : Bool
  readings : List IslandReading
deriving DecidableEq, Repr

/-- The commands, one for each row of spec/opcode_table.json. -/
inductive Instr where
  /-- STAGING_OPEN (R26): the slot whose StagingOpen is written to 1 -/
  | stagingOpen (slot : Nat)
  /-- VALIDATE (R27): whether an EXTERNAL shard map can be read, and whether writes accepted before are still being placed -/
  | validate (slot : Nat) (readable draining : Bool)
  /-- ARM (R29) -/
  | arm (slot : Nat)
  /-- DISARM (R33) -/
  | disarm (slot : Nat)
  /-- STOP (R34) -/
  | stop (slot : Nat)
  /-- ABORT (R35) -/
  | abort (slot : Nat)
  /-- JOB_RELEASE (R33) -/
  | jobRelease (slot : Nat)
  /-- LAUNCH (R30) -/
  | launch (slot : Nat)
  /-- SLICE_BOUNDARY (R38): a multiple of SliceTicks is reached -/
  | sliceBoundary
  /-- INFERENCE_SWITCH_START (R39): no pass runs any more -/
  | inferenceSwitchStart
  /-- SLICE_SWITCH_COMPLETE (R39): the class: 0 INFERENCE, 1 DEALER, 2 SHOE, 3 TOKEN -/
  | sliceSwitchComplete (cls : Nat)
  /-- SYNC_SOURCE_WRITE (R69): the value written to SyncSource -/
  | syncSourceWrite (value : Nat)
  /-- PTP_SYNC (R54): a Sync arrives at the present tick; a two-step Sync carries no origin time -/
  | ptpSync (m : PtpMessage) (twoStep : Bool)
  /-- PTP_FOLLOW_UP (R54): a Follow_Up arrives with the origin time of the Sync of its sequence number -/
  | ptpFollowUp (m : PtpMessage)
  /-- PTP_DELAY_RESP (R54): a Delay_Resp arrives -/
  | ptpDelayResp (m : PtpDelayResp)
  /-- PTP_ANNOUNCE (R54): an Announce arrives with the data set of its transmitter -/
  | ptpAnnounce (d : PtpDataSet)
  /-- PPS_IN_EDGE (R50): a rising PPS_IN edge at the present tick, REF_IN being in lock or not -/
  | ppsInEdge (refLocked : Bool)
  /-- ISLAND_REALIGN (R52): the beat after a step -/
  | islandRealign
  /-- SOURCE_LOST (R56): the time for the next Sync or edge has run out -/
  | sourceLost
  /-- REF_IN_LOCK_LOSS (R56): REF_IN goes out of lock -/
  | refInLockLoss
  /-- HOLDOVER_EXPIRY (R57): the holdover error has reached its bound -/
  | holdoverExpiry
  /-- CROSSING_WORD_LATE (R61): a word that entered a crossing into the tile at a tick arrives now, holding operations of the items of these entries -/
  | crossingWordLate (tile crossing entered : Nat) (held : List Nat)
  /-- VIADUCT_FLIT_CRC_ERROR (R64): a flit that entered a link into the tile at a tick arrives now, after being resent -/
  | viaductFlitCrcError (tile link entered : Nat) (held : List Nat)
  /-- VIADUCT_LANE_FAILURE (R431): a lane of a link of the tile keeps failing after retry -/
  | viaductLaneFailure (tile link lane : Nat)
  /-- ITEM_ISSUE (R103): the slot that issues -/
  | itemIssue (slot : Nat)
  /-- CACHE_HIT_COPY_COMPLETE (R186): the item, and whether the bytes came as the entry holds them -/
  | cacheHitCopyComplete (entry : Nat) (ok : Bool)
  /-- SHARD_OPEN_COMPLETE (R72): the copy of a shard on a device, the code of a media failure or 0, and what was read of a peer's copy -/
  | shardOpenComplete (slot shard node media : Nat) (remote : Option Bytes)
  /-- TAR_SCAN_COMPLETE (R83): as SHARD_OPEN_COMPLETE -/
  | tarScanComplete (slot shard node media : Nat) (remote : Option Bytes)
  /-- RECORD_READ_COMPLETE (R76): the Item Table entry that reads -/
  | recordReadComplete (entry : Nat)
  /-- PEER_RECORD_READ_COMPLETE (R88): the bytes read, nothing where the READ failed -/
  | peerRecordReadComplete (entry : Nat) (data : Option Bytes)
  /-- PEER_FETCH_TIMEOUT (R88): the Item Table entry that reads -/
  | peerFetchTimeout (entry : Nat)
  /-- DECOMPRESS_COMPLETE (R126): the item -/
  | decompressComplete (entry : Nat)
  /-- DECODE_COMPLETE (R129): the item -/
  | decodeComplete (entry : Nat)
  /-- DECODE_BUDGET_EXPIRED (R147): the item -/
  | decodeBudgetExpired (entry : Nat)
  /-- SLOW_LANE_DECODE_COMPLETE (R142): the item -/
  | slowLaneDecodeComplete (entry : Nat)
  /-- WORK_LIMIT_EXCEEDED (R144): the item -/
  | workLimitExceeded (entry : Nat)
  /-- CACHE_FILL_COMPLETE (R187): the place among the fills in course -/
  | cacheFillComplete (place : Nat)
  /-- CACHE_COMPRESS_COMPLETE (R189): the place among the entries being compressed -/
  | cacheCompressComplete (place : Nat)
  /-- CACHE_FLASH_READ_COMPLETE (R189): the same of a stored entry -/
  | cacheFlashReadComplete (entry : Nat) (ok : Bool)
  /-- CACHE_DROP_UNPINNED (R191): CacheCommand 1 -/
  | cacheDropUnpinned
  /-- CACHE_DROP_ALL (R191): CacheCommand 2 -/
  | cacheDropAll
  /-- CACHE_PURGE_DIGEST (R191): CacheCommand 3 -/
  | cachePurgeDigest
  /-- TRANSFORM_COMPLETE (R157): the item, and the check its input failed: 0 none, 1 MAGIC, 2 the CRC -/
  | transformComplete (entry check : Nat)
  /-- PREFILL_PASS_COMPLETE (R268): the items of the pass -/
  | prefillPassComplete (entries : List Nat)
  /-- STEP_PASS_COMPLETE (R268): the items of the pass -/
  | stepPassComplete (entries : List Nat)
  /-- TRESTLE_OPERATOR_FAULT (R248): the items of the pass, and the row or column that faulted -/
  | trestleOperatorFault (entries : List Nat) (column : Bool) (line : Nat) (permanent : Bool)
  /-- CURATION_LOG_RELEASE (R265): the value written -/
  | curationLogRelease (slot value : Nat)
  /-- TOKENIZE_COMPLETE (R219): the item -/
  | tokenizeComplete (entry : Nat)
  /-- PEER_READY (R104): the sender and the 32 bytes -/
  | peerReady (uid : Nat) (message : Bytes)
  /-- PREPARED_READ_COMPLETE (R104): the owner, the SampleRef, the bytes read and the valid frames of a signal tensor -/
  | preparedReadComplete (uid ref : Nat) (data : Bytes) (valid : Nat)
  /-- PEER_PREPARE (R106): the sender and the 32 bytes -/
  | peerPrepare (uid : Nat) (message : Bytes)
  /-- PEER_RELEASE (R587): the sender and the 32 bytes -/
  | peerRelease (uid : Nat) (message : Bytes)
  /-- BATCH_START (R196): the media classes of the positions of the next batch, by their index entries -/
  | batchStart (slot stream : Nat) (classes : List Nat)
  /-- PUSH_SLICE_ACKNOWLEDGED (R194): the slice -/
  | pushSliceAcknowledged (slot stream epoch index slice : Nat)
  /-- CREDIT_RETURN (R204): the consumer record, the immediate and whether the message came sealed -/
  | creditReturn (slot consumer immediate : Nat) (sealedMessage : Bool)
  /-- PULL_RELEASE (R206): as CREDIT_RETURN -/
  | pullRelease (slot consumer immediate : Nat) (sealedMessage : Bool)
  /-- CONSUMER_STALL (R207): the consumer record that owes -/
  | consumerStall (slot stream consumer : Nat)
  /-- LATE_DECLARATION (R149): the position -/
  | lateDeclaration (slot stream position : Nat)
  /-- CENSUS_OFFER_RECEIVED (R113): the sender and the 80 bytes -/
  | censusOfferReceived (uid : Nat) (message : Bytes)
  /-- CENSUS_CONTRIBUTION_READ_COMPLETE (R113): whose contribution, and the bytes read -/
  | censusContributionReadComplete (slot epoch uid : Nat) (data : Option Bytes)
  /-- CENSUS_TIMEOUT (R112): the build -/
  | censusTimeout (slot epoch : Nat)
  /-- CENSUS_REQUEST_RECEIVED (R113): the sender and the 80 bytes -/
  | censusRequestReceived (uid : Nat) (message : Bytes)
  /-- CENSUS_FULL_RECEIVED (R113): the sender and the 80 bytes -/
  | censusFullReceived (uid : Nat) (message : Bytes)
  /-- CENSUS_FULL_READ_COMPLETE (R113): the bytes read -/
  | censusFullReadComplete (slot epoch : Nat) (data : Option Bytes)
  /-- VOCAB_LOAD (R226): VocabCommand 1 -/
  | vocabLoad
  /-- VOCAB_BUILD_COMPLETE (R225): the entry being built -/
  | vocabBuildComplete (entry : Nat)
  /-- VOCAB_UNLOAD (R226): VocabCommand 2 -/
  | vocabUnload
  /-- CONTROL_LOAD (R232): ControlCommand 1 -/
  | controlLoad
  /-- CONTROL_BUILD_COMPLETE (R233): the entry being built -/
  | controlBuildComplete (entry : Nat)
  /-- CONTROL_UNLOAD (R232): ControlCommand 2 -/
  | controlUnload
  /-- BUNDLE_LOAD_IMAGE (R258): BundleCommand 1 -/
  | bundleLoadImage
  /-- BUNDLE_LOAD_OBJECT (R258): BundleCommand 2 -/
  | bundleLoadObject
  /-- BUNDLE_LOAD_COMPLETE (R257): the entry whose bundle is being checked -/
  | bundleLoadComplete (entry : Nat)
  /-- BUNDLE_UNLOAD (R258): BundleCommand 3 -/
  | bundleUnload
  /-- KERNEL_LOAD (R297): KernelCommand 1 -/
  | kernelLoad
  /-- KERNEL_BUILD_COMPLETE (R296): the entry whose package is being checked -/
  | kernelBuildComplete (entry : Nat)
  /-- KERNEL_UNLOAD (R297): KernelCommand 2 -/
  | kernelUnload
  /-- KERNEL_ITEM_START (R277): a pool Pier is free -/
  | kernelItemStart
  /-- CHAIN_ALLOC (R286): the item, and what its kernel did up to the call, its arguments in a0 to a3 -/
  | chainAlloc (entry : Nat) (work : KernelStep)
  /-- CHAIN_LENGTH (R286): as CHAIN_ALLOC -/
  | chainLength (entry : Nat) (work : KernelStep)
  /-- REF_ADD (R286): as CHAIN_ALLOC -/
  | refAdd (entry : Nat) (work : KernelStep)
  /-- REF_DROP (R286): as CHAIN_ALLOC -/
  | refDrop (entry : Nat) (work : KernelStep)
  /-- DMA_SUBMIT (R289): as CHAIN_ALLOC -/
  | dmaSubmit (entry : Nat) (work : KernelStep)
  /-- DMA_WAIT (R286): as CHAIN_ALLOC -/
  | dmaWait (entry : Nat) (work : KernelStep)
  /-- DMA_COMPLETE (R288): the item and the tag of its DMA -/
  | dmaComplete (entry tag : Nat)
  /-- DMA_TIMEOUT (R278): the item and the tag of its DMA -/
  | dmaTimeout (entry tag : Nat)
  /-- RNG (R287): as CHAIN_ALLOC -/
  | rng (entry : Nat) (work : KernelStep)
  /-- EMIT (R291): as CHAIN_ALLOC -/
  | emit (entry : Nat) (work : KernelStep)
  /-- PASS (R290): as CHAIN_ALLOC -/
  | pass (entry : Nat) (work : KernelStep)
  /-- FAIL (R290): as CHAIN_ALLOC -/
  | fail (entry : Nat) (work : KernelStep)
  /-- REJECT (R290): as CHAIN_ALLOC -/
  | reject (entry : Nat) (work : KernelStep)
  /-- SERVICE_UNKNOWN (R286): as CHAIN_ALLOC -/
  | serviceUnknown (entry : Nat) (work : KernelStep)
  /-- KERNEL_TRAP (R293): what the kernel did up to the trap, and the code of R293 that names it -/
  | kernelTrap (entry : Nat) (work : KernelStep) (code : Nat)
  /-- INSTRUCTION_LIMIT (R292): what the kernel did up to its last instruction -/
  | instructionLimit (entry : Nat) (work : KernelStep)
  /-- NO_ENDING (R290): what the kernel did up to its return -/
  | noEnding (entry : Nat) (work : KernelStep)
  /-- REFRESH_START (R309): the channel -/
  | refreshStart (channel : Nat)
  /-- REFRESH_END (R309): when the first request held came, and the items whose requests were held -/
  | refreshEnd (channel : Nat) (first : Option Nat) (held : List Nat)
  /-- HOT_SCHEDULE_CHANGE (R309): the channel -/
  | hotScheduleChange (channel : Nat)
  /-- RETRAIN_COMPLETE (R310): whether the training succeeded, the requests held as in REFRESH_END, and the frames in use with what they hold, which are lost where the channel is retired as unreadable -/
  | retrainComplete (channel : Nat) (ok : Bool) (first : Option Nat) (held : List Nat) (frames : Nat) (lost : List MemoryUse)
  /-- GDDR_CORRECTED_ERROR (R311): the frame of the channel -/
  | gddrCorrectedError (channel frame : Nat)
  /-- GDDR_UNCORRECTABLE_READ (R308): the frame of the channel and what its data are -/
  | gddrUncorrectableRead (channel frame : Nat) (data : MemoryUse)
  /-- GDDR_LINK_CRC_FAILURE (R308): the ticks by which the access was delayed, and the items it held -/
  | gddrLinkCrcFailure (channel ticks : Nat) (held : List Nat)
  /-- RETIRE_CHANNEL (R312): the value written -/
  | retireChannel (channel : Nat)
  /-- CHANNEL_MIGRATION_COMPLETE (R312): the frames that were in use, and the pool buffers that stay where no home is left -/
  | channelMigrationComplete (channel frames : Nat) (homeless : List Nat)
  /-- SRAM_UNCORRECTABLE (R308): the word, the item whose attempt used it, whether it held the input of the stage, and whether it held firmware state -/
  | sramUncorrectable (tile address bank : Nat) (entry : Option Nat) (damaged firmware : Bool)
  /-- BUFFER_ALLOCATE (R325): the requester and how many buffers it asks for -/
  | bufferAllocate (requester count : Nat)
  /-- FREE_LIST_REBUILD_COMPLETE (R322): the node stack is written -/
  | freeListRebuildComplete
  /-- BUFFER_GRANT (R325): freed buffers are there -/
  | bufferGrant
  /-- BUFFER_REF_ADD (R323): the buffer, the requester, and the item it is issued for -/
  | bufferRefAdd (handle requester : Nat) (entry : Option Nat)
  /-- BUFFER_REF_DROP (R323): as BUFFER_REF_ADD -/
  | bufferRefDrop (handle requester : Nat) (entry : Option Nat)
  /-- FORMAT (R339): FlashCommand 1, with the population found -/
  | format (found : Population)
  /-- PATROL_FULL (R350): FlashCommand 2 -/
  | patrolFull
  /-- PATROL_STOP (R350): FlashCommand 3 -/
  | patrolStop
  /-- PATROL_READ (R350): the next stripe of a TEST patrol and how its units read -/
  | patrolRead (results : List UnitResult)
  /-- CREATE (R341): ObjectCommand 1 -/
  | create
  /-- APPEND (R341): ObjectCommand 2 -/
  | append
  /-- SEAL (R341): ObjectCommand 3 -/
  | sealObject
  /-- DELETE (R341): ObjectCommand 4 -/
  | delete
  /-- SECURE_DISCARD (R355): ObjectCommand 5 -/
  | secureDiscard
  /-- UNIT_READ_REQUEST (R351): a read of a logical unit with its priority class and the entry it serves -/
  | unitReadRequest (unit cls : Nat) (reader : Option Nat)
  /-- UNIT_READ_COMPLETE (R345): the next read of a die completes, of the background classes where their share is due -/
  | unitReadComplete (channel die : Nat) (background : Bool) (result : UnitResult)
  /-- PROGRAM_COMPLETE (R349): a program on a die completes with its status -/
  | programComplete (channel die : Nat) (ok : Bool) (temperature : Int)
  /-- ERASE_COMPLETE (R349): an erase on a die completes with its status -/
  | eraseComplete (channel die : Nat) (ok : Bool)
  /-- GC_CAMPAIGN_START (R346) -/
  | gcCampaignStart
  /-- GC_COPY_COMPLETE (R346): the copy of the campaign's next unit is programmed -/
  | gcCopyComplete
  /-- BAND_ERASE (R346) -/
  | bandErase
  /-- WEAR_LEVEL_START (R347): the spread of a die index is over the limit -/
  | wearLevelStart (die : Nat)
  /-- JOURNAL_FLUSH (R343) -/
  | journalFlush
  /-- CHECKPOINT (R343) -/
  | checkpoint
  /-- FLUSH_ENERGY_UPDATE (R358) -/
  | flushEnergyUpdate
  /-- HOLDUP_WAIT_TIMEOUT (R358) -/
  | holdupWaitTimeout
  /-- MOUNT_COMPLETE (R360): the mount's steps end: the population and whether checkpoint and journal can be read -/
  | mountComplete (found : Population) (readable : Bool)
  /-- PORT_LINK_UP (R371): the link of a port comes up -/
  | portLinkUp (port : Nat)
  /-- PORT_LINK_DOWN (R371): the link of a port drops -/
  | portLinkDown (port : Nat)
  /-- ARP_REQUEST (R372): an ARP request for an IPv4 address, with the sender fields a reply carries -/
  | arpRequest (port target : Nat) (reply : Bytes)
  /-- NEIGHBOR_SOLICITATION (R372): a neighbour solicitation for an IPv6 address, with the fields a reply carries -/
  | neighborSolicitation (port target : Nat) (reply : Bytes)
  /-- ECHO_REQUEST (R372): an ICMP or ICMPv6 echo request to an address -/
  | echoRequest (port target : Nat) (body : Bytes)
  /-- FRAME_DISCARD (R372): a frame of no accepted kind, or a CNP -/
  | frameDiscard (port : Nat) (cnp : Bool)
  /-- PFC_FRAME_RECEIVED (R375): a PFC frame for a priority, holding operations of the items of these entries -/
  | pfcFrameReceived (port priority quanta : Nat) (held : List Nat)
  /-- PFC_REPEAT (R375): the present fill of a receive buffer -/
  | pfcRepeat (port : Nat) (data : Bool) (fill : Nat)
  /-- PAUSE_STORM_RECEIVED (R376): received pause has held the class for the watchdog's time -/
  | pauseStormReceived (port : Nat) (data : Bool)
  /-- PAUSE_STORM_SENT (R376): XOFF has been held for the watchdog's time -/
  | pauseStormSent (port : Nat) (data : Bool)
  /-- STORM_RECOVERY_EXPIRY (R376): the recovery time of a STORMED class runs out -/
  | stormRecoveryExpiry (port : Nat) (data : Bool)
  /-- RECEIVE_SEND (R377): a SEND packet on a connection -/
  | receiveSend (ctx : Nat) (p : Packet)
  /-- RECEIVE_WRITE (R377): an RDMA WRITE packet on a connection -/
  | receiveWrite (ctx : Nat) (p : Packet)
  /-- RECEIVE_READ_REQUEST (R377): an RDMA READ request on a connection -/
  | receiveReadRequest (ctx : Nat) (p : Packet)
  /-- RECEIVE_READ_RESPONSE (R377): an RDMA READ response packet on a connection -/
  | receiveReadResponse (ctx : Nat) (p : Packet)
  /-- RECEIVE_ACKNOWLEDGE (R388): an Acknowledge packet on a connection -/
  | receiveAcknowledge (ctx : Nat) (p : Packet)
  /-- ACK_DELAY_EXPIRY (R387) -/
  | ackDelayExpiry (ctx : Nat)
  /-- RETRANSMIT_TIMEOUT (R388) -/
  | retransmitTimeout (ctx : Nat)
  /-- RNR_TIMER_EXPIRY (R388) -/
  | rnrTimerExpiry (ctx : Nat)
  /-- REORDER_TIMEOUT (R399) -/
  | reorderTimeout (ctx : Nat)
  /-- REVOKE_DRAIN_COMPLETE (R392): the last placement into a revoking region is complete -/
  | revokeDrainComplete (index : Nat)
  /-- REVOKE_DRAIN_OVERRUN (R392): placements are outstanding past the drain time -/
  | revokeDrainOverrun (index outstanding : Nat)
  /-- CONNECT (R383): a CONNECT arrives from an address -/
  | connect (address : Nat) (datagrams : List Bytes)
  /-- ACCEPT (R383): an ACCEPT arrives -/
  | accept (address : Nat) (datagrams : List Bytes)
  /-- CONFIRM (R385): a CONFIRM arrives -/
  | confirm (address : Nat) (datagrams : List Bytes)
  /-- HANDSHAKE_READY (R385): a READY arrives -/
  | handshakeReady (address : Nat) (datagrams : List Bytes)
  /-- HANDSHAKE_REJECT (R385): a REJECT arrives -/
  | handshakeReject (address : Nat) (datagrams : List Bytes)
  /-- CLOSE (R385): a CLOSE arrives -/
  | close (address : Nat) (datagrams : List Bytes)
  /-- HANDSHAKE_RESEND (R380) -/
  | handshakeResend (ctx : Nat)
  /-- HANDSHAKE_BACKOFF_EXPIRY (R380) -/
  | handshakeBackoffExpiry (ctx : Nat)
  /-- HANDSHAKE_TIMEOUT (R380) -/
  | handshakeTimeout (ctx : Nat)
  /-- PORT_FRAME_SELECT (R413): the port can begin a frame -/
  | portFrameSelect (port : Nat)
  /-- QUEUE_REJOIN (R415): a held DATA queue is looked at again -/
  | queueRejoin (ctx : Nat)
  /-- SHAPER_PROFILE_WRITE (R417): the profile, the sub-index and the value written -/
  | shaperProfileWrite (profile sub value : Nat)
  /-- POLICER_PROFILE_WRITE (R421): the profile, the sub-index and the value written -/
  | policerProfileWrite (profile sub value : Nat)
  /-- KEEPALIVE (R443): the context of a peer connection -/
  | keepalive (ctx : Nat)
  /-- MEMBER_TIMEOUT (R443): the member that makes no progress -/
  | memberTimeout (slot uid : Nat)
  /-- ENGINE_FAULT (R432): the item whose engine faults, and whether the self-check reports the fault as permanent -/
  | engineFault (entry : Nat) (permanent : Bool)
  /-- NODE_FAULT (R431): the firmware fails -/
  | nodeFault
  /-- STEP_ABORT (R444): StepCommand 1 -/
  | stepAbort (slot : Nat)
  /-- ABORT_MESSAGE (R446): an abort message from a member -/
  | abortMessage (uid : Nat) (message : Bytes)
  /-- ABORT_ACK (R446): an acknowledgement from a member -/
  | abortAck (uid : Nat) (message : Bytes)
  /-- ABORT_PROBE (R446) -/
  | abortProbe (slot : Nat)
  /-- RESUME (R450): StepCommand 2 -/
  | resume (slot : Nat)
  /-- JOIN (R450): StepCommand 3 -/
  | join (slot : Nat)
  /-- CANCEL (R450): StepCommand 4 -/
  | cancel (slot : Nat)
  /-- RESUME_TICK (R451) -/
  | resumeTick (slot : Nat)
  /-- REPLACE (R458): MemberCommand 1 -/
  | replace (slot : Nat)
  /-- REMOVE_DOMAIN (R458): MemberCommand 2 -/
  | removeDomain (slot : Nat)
  /-- MEMBER_CLEAR (R458): MemberCommand 3 -/
  | memberClear (slot : Nat)
  /-- RESET_RELEASE (R463): what the boot flash says of itself -/
  | resetRelease (flash : BootFlash)
  /-- BOOT_BODY_READ_COMPLETE (R463) -/
  | bootBodyReadComplete
  /-- HUB_ALIVE (R465): what start-up found, and the bound counter -/
  | hubAlive (start : StartUp) (counter : CounterRun)
  /-- BOOT_WATCHDOG_EXPIRY (R465): what the boot flash says of itself -/
  | bootWatchdogExpiry (flash : BootFlash)
  /-- RECOVERY_ATTEMPT (R466): what the boot flash says of itself -/
  | recoveryAttempt (flash : BootFlash)
  /-- BEACON (R467) -/
  | beacon
  /-- RECOVERY_LINK_TRY (R466) -/
  | recoveryLinkTry
  /-- OFFER (R467): the server's address, IMAGE_LENGTH and IMAGE_DIGEST -/
  | offer (server length digest : Nat)
  /-- DATA (R467): the server's address, OFFSET and the image bytes -/
  | data (server offset : Nat) (data : Bytes)
  /-- RECOVERY_ACK_TIMER (R467) -/
  | recoveryAckTimer
  /-- RECOVERY_TRANSFER_TIMEOUT (R467) -/
  | recoveryTransferTimeout
  /-- STAGE_IMAGE (R477) -/
  | stageImage
  /-- STAGE_OBJECT (R477) -/
  | stageObject
  /-- FW_CHECK_COMPLETE (R477) -/
  | fwCheckComplete
  /-- INSTALL (R478) -/
  | install
  /-- INSTALL_COMPLETE (R478): whether every program, erase and readback succeeded within its retries, and the bytes programmed before a failure -/
  | installComplete (ok : Bool) (programmed : Nat)
  /-- REBOOT (R477) -/
  | reboot
  /-- COMMIT_SVN (R479): the fuses that read back as burned before one that does not -/
  | commitSvn (burned : Nat)
  /-- BIND_BOOT_FLASH (R483): the monotonic counters of the present boot flash as they read, and whether the selected one then advances -/
  | bindBootFlash (counters : List Nat) (advanced : Bool)
  /-- QUOTE (R476) -/
  | quote
  /-- QUOTE_COMPLETE (R476) -/
  | quoteComplete
  /-- MEASURE (R475) -/
  | measure
  /-- REVOKE_ADD (R485) -/
  | revokeAdd
  /-- REVOKE_REMOVE (R485) -/
  | revokeRemove
  /-- REVOKE_CLEAR (R485) -/
  | revokeClear
  /-- WALK (R493): the CONTROL frame -/
  | walk (frame : BusFrame)
  /-- WALK_END (R492): the CONTROL frame -/
  | walkEnd (frame : BusFrame)
  /-- RATE_SWITCH (R492): the CONTROL frame -/
  | rateSwitch (frame : BusFrame)
  /-- RATE_SWITCH_APPLY (R492) -/
  | rateSwitchApply
  /-- EVENT_ACK (R506): the CONTROL frame -/
  | eventAck (frame : BusFrame)
  /-- HELLO_QUERY (R494): the CONTROL frame -/
  | helloQuery (frame : BusFrame)
  /-- WALK_ELIGIBLE (R493): how sending the CLAIM ended, and whether another unit claimed the same address -/
  | walkEligible (outcome : ClaimEnd) (contested : Bool)
  /-- CLAIM_RECEIVED (R493): the CLAIM frame of another unit -/
  | claimReceived (frame : BusFrame)
  /-- CLAIM_HOLD_EXPIRY (R493) -/
  | claimHoldExpiry
  /-- CLAIM_COLLISION_BACKOFF (R494) -/
  | claimCollisionBackoff
  /-- CHAIN_IN_FALL (R494) -/
  | chainInFall
  /-- ADDRESS_CONFLICT (R494): a frame of another unit under this unit's address -/
  | addressConflict (frame : BusFrame)
  /-- HELLO (R494) -/
  | hello
  /-- BDP_READ (R496): the REQUEST frame -/
  | bdpRead (frame : BusFrame)
  /-- BDP_WRITE (R499): the REQUEST frame, and what the devices around answer -/
  | bdpWrite (frame : BusFrame) (outside : Outside)
  /-- SEG_WRITE (R497): the REQUEST frame -/
  | segWrite (frame : BusFrame)
  /-- SEG_READ (R497): the REQUEST frame -/
  | segRead (frame : BusFrame)
  /-- STAGE_WRITE (R498): the REQUEST frame -/
  | stageWrite (frame : BusFrame)
  /-- STAGE_READ (R498): the REQUEST frame -/
  | stageRead (frame : BusFrame)
  /-- BDP_ABORT (R501): the REQUEST frame -/
  | bdpAbort (frame : BusFrame)
  /-- SEGMENT (R497): the SEGMENT frame of the manager, and what the devices around answer -/
  | segment (frame : BusFrame) (outside : Outside)
  /-- BLOCK (R498): the BLOCK frame of the manager, and what the devices around answer -/
  | block (frame : BusFrame) (outside : Outside)
  /-- BLOCK_ACK (R498): the BLOCK_ACK frame of the manager -/
  | blockAck (frame : BusFrame)
  /-- BDP_TIMEOUT (R501): the transfer -/
  | bdpTimeout (transfer : Nat)
  /-- EVENT_REPEAT (R506) -/
  | eventRepeat
  /-- BUS_OFF_RECOVERY (R486) -/
  | busOffRecovery
  /-- REGISTER_WRITE (R514): the object, the place in a DOMAIN, the encoded value, and what the devices around answer -/
  | registerWrite (key offset : Nat) (value : Bytes) (outside : Outside)
  /-- PERSIST_COMMIT (R518): how many programs of the record the boot flash refuses -/
  | persistCommit (refusals : Nat)
  /-- PERSIST_COMPACTION (R519): how many programs of the copies the boot flash refuses -/
  | persistCompaction (refusals : Nat)
  /-- RESTORE_DEFAULTS (R523) -/
  | restoreDefaults
  /-- SNAPSHOT (R530): a multiple of SnapshotTicks is reached -/
  | snapshot
  /-- CLEAR_ALL (R534) -/
  | clearAll
  /-- STOP_ALL (R534) -/
  | stopAll
  /-- COUNTER_CONTROL_WRITE (R526): the counter and the word written -/
  | counterControlWrite (bank n value : Nat)
  /-- COUNTER_VALUE_WRITE (R527): the counter and the value written -/
  | counterValueWrite (bank n value : Nat)
  /-- LBIST (R538): the conditions of the islands as they stand -/
  | lbist (readings : List IslandReading)
  /-- LBIST_ISLAND_COMPLETE (R540): the conditions under which the island was tested, and its failing partitions, a shared one only where it fails three times -/
  | lbistIslandComplete (reading : IslandReading) (failing : List Nat)
  /-- MARCH_PRESERVE (R543) -/
  | marchPreserve
  /-- MARCH_DESTRUCTIVE (R543) -/
  | marchDestructive
  /-- MARCH_WORD_TEST (R543): the array whose next word is tested in every bank, and the banks whose word disagrees -/
  | marchWordTest (array : Nat) (banks : List Nat)
  /-- MARCH_COMPLETE (R544): the array, and its bad rows by bank and row -/
  | marchComplete (array : Nat) (rows : List (Nat × Nat))
  /-- SELFTEST_STOP (R551) -/
  | selftestStop
  /-- PATH_DELAY_SAMPLE (R549): the worst delay of each island in picoseconds, by domain -/
  | pathDelaySample (delays : List (Nat × Nat))
  /-- MARGIN_PLAN (R550) -/
  | marginPlan
  /-- PLAN_NOW (R550) -/
  | planNow
  /-- AVS_STEP (R560): the rail to step -/
  | avsStep (rail : Nat)
  /-- PMBUS_POLL (R561): the 15 rails in order -/
  | pmbusPoll (rails : List RailReading)
  /-- PMB_ALERT (R561): STATUS_WORD of the 15 rails in order -/
  | pmbAlert (status : List Nat)
  /-- PWRGD_FALL (R564) -/
  | pwrgdFall
  /-- RESET_N_ASSERT (R564) -/
  | resetNAssert
  /-- PWR_FAIL_N_FALL (R566) -/
  | pwrFailNFall
  /-- POWER_FAIL_FLUSH_COMPLETE (R566) -/
  | powerFailFlushComplete
  /-- RETAIN (R568) -/
  | retain
  /-- RETAIN_ENTRY_COMPLETE (R568) -/
  | retainEntryComplete
  /-- WAKE (R569) -/
  | wake
  /-- WAKE_N_FALL (R569) -/
  | wakeNFall
  /-- SHUTDOWN (R565) -/
  | shutdown
  /-- SHUTDOWN_COMPLETE (R565) -/
  | shutdownComplete
  /-- HOLDUP_SENSE_SAMPLE (R570): the 16 codes of the reading -/
  | holdupSenseSample (samples : List Nat)
  /-- HOLDUP_MEASURE_DUE (R571) -/
  | holdupMeasureDue
  /-- HOLDUP_COMMAND_MEASURE (R571) -/
  | holdupCommandMeasure
  /-- HOLDUP_MEASURE_PHASE (R571): the 16 codes of the reading -/
  | holdupMeasurePhase (samples : List Nat)
  /-- HOLDUP_CHARGE_TIMEOUT (R571) -/
  | holdupChargeTimeout
  /-- ENERGY_CHECK (R572) -/
  | energyCheck
  /-- THERMAL_SAMPLE (R574): the die sensors of each tile in units of 0.25 °C, and the GDDR7 channels in °C -/
  | thermalSample (dies : List (List Int)) (channels : List Int)
  /-- HARDWARE_TRIP (R574) -/
  | hardwareTrip
  /-- CHAIN_IN_RISE (R505) -/
  | chainInRise
  /-- DELAY_REQ_SEND (R54): the device sends a Delay_Req -/
  | delayReqSend
  /-- PFC_PAUSE_EXPIRY (R375): the pause of a class of a port runs out -/
  | pfcPauseExpiry (port : Nat) (data : Bool)
  /-- PWRGD_RISE (R569) -/
  | pwrgdRise
  /-- CHANNEL_CONTROLLER_FAILURE (R361) -/
  | channelControllerFailure (channel : Nat)
  /-- SEG_READ_RESPONSE (R497): the RESPONSE frame of the manager -/
  | segReadResponse (frame : BusFrame)
  /-- ERROR_FRAME (R486): the error counters of ISO 11898-1 after it, and whether the controller goes bus-off -/
  | errorFrame (transmit receive : Nat) (off : Bool)
  /-- REFILL_COMPLETE (R321): whether NODE_CHECK and GROUP_CHECK of what was read hold -/
  | refillComplete (nodeOk groupOk : Bool)
deriving DecidableEq, Repr

end Sys2Proof
end

