-- ==== Sys2Proof/Machine/Bits.lean ====
section
/-! DEFINITION. Byte order, fields of a byte sequence, and CRC32C: every multi-byte value of the spec is
little-endian unless its table says otherwise (R7). -/

namespace Sys2Proof.Machine

/-- The unsigned value of bytes in little-endian order. -/
def leNat : Bytes → Nat
  | [] => 0
  | b :: t => b.toNat + 256 * leNat t

/-- The unsigned value of bytes in big-endian order. -/
def beNat (b : Bytes) : Nat := leNat b.reverse

/-- The `n` low bytes of `v`, little-endian. -/
def leBytes : Nat → Nat → Bytes
  | 0, _ => []
  | n + 1, v => BitVec.ofNat 8 v :: leBytes n (v / 256)

/-- The `n` low bytes of `v`, big-endian. -/
def beBytes (n v : Nat) : Bytes := (leBytes n v).reverse

/-- The `len` bytes from `off`, fewer where the sequence ends. -/
def slice (off len : Nat) (b : Bytes) : Bytes := (b.drop off).take len

/-- The little-endian field of `n` bytes at `off`. -/
def field (b : Bytes) (off n : Nat) : Nat := leNat (slice off n b)

/-- The byte at `off`, 0 beyond the end. -/
def byteAt (b : Bytes) (off : Nat) : Nat := (b.getD off 0).toNat

/-- `n` zero bytes. -/
def zeros (n : Nat) : Bytes := List.replicate n 0

/-- Every byte is zero. -/
def allZero (b : Bytes) : Bool := b.all (· == 0)

/-- `b` padded with zero bytes to `n`, cut at `n`. -/
def padTo (n : Nat) (b : Bytes) : Bytes := (b ++ zeros (n - b.length)).take n

/-- `b` with `src` written over it from `off` on; bytes between the end of `b` and `off` are zero. -/
def overwrite (b : Bytes) (off : Nat) (src : Bytes) : Bytes :=
  padTo off b ++ src ++ b.drop (off + src.length)

/-- Bytes written as numbers. -/
def bytesOf (l : List Nat) : Bytes := l.map (BitVec.ofNat 8)

/-- The least multiple of `m` not below `n` (`n` itself where `m` is 0). -/
def roundUp (n m : Nat) : Nat := if m = 0 then n else (n + m - 1) / m * m

/-- ⌈a / b⌉. -/
def ceilDiv (a b : Nat) : Nat := if b = 0 then 0 else (a + b - 1) / b

/-- The value of an `w`-bit two's complement number. -/
def toSigned (w v : Nat) : Int := if v % 2 ^ w < 2 ^ (w - 1) then (v % 2 ^ w : Nat) else (v % 2 ^ w : Nat) - (2 ^ w : Nat)

/-- The `w`-bit two's complement code of an integer. -/
def ofSigned (w : Nat) (v : Int) : Nat := (v % (2 ^ w : Nat)).toNat

/-- Bit `i` of `v`. -/
def bit (v i : Nat) : Bool := v.testBit i

/-- The field of `v` from bit `lo` up, `n` bits wide. -/
def bits (v lo n : Nat) : Nat := v / 2 ^ lo % 2 ^ n

/-- One bit of the reflected CRC32C (Castagnoli) shift register, polynomial 0x82F63B78. -/
def crc32cShift (c : Word32) : Word32 :=
  if c.getLsbD 0 then (c >>> 1) ^^^ 0x82F63B78#32 else c >>> 1

/-- One byte of CRC32C. -/
def crc32cByte (c : Word32) (b : Byte) : Word32 :=
  let x := c ^^^ b.setWidth 32
  crc32cShift (crc32cShift (crc32cShift (crc32cShift
    (crc32cShift (crc32cShift (crc32cShift (crc32cShift x)))))))

/-- CRC32C (R7): initial value and final exclusive-or all ones, bytes reflected. -/
def crc32c (b : Bytes) : Nat := ((b.foldl crc32cByte 0xFFFFFFFF#32) ^^^ 0xFFFFFFFF#32).toNat

/-- The largest value of a 64-bit counter, at which every statistics counter stays. -/
def counterMax : Nat := 2 ^ 64 - 1

/-- A counter plus `n`, held at its largest value. -/
def satAdd (max v n : Nat) : Nat := min max (v + n)

/-- The bytes of an ASCII string, character by character. -/
def ascii (l : List Char) : Bytes := l.map fun c => BitVec.ofNat 8 c.toNat

/-- 32-bit values as bytes, little-endian. -/
def words32Bytes (l : List Word32) : Bytes := l.flatMap fun w => leBytes 4 w.toNat

end Sys2Proof.Machine
end

