-- ==== Sys2Proof/Machine/Fp.lean ====
section
/-! DEFINITION. Binary floating point: FP32 arithmetic rounded to nearest-even with no fused operations, and the
narrower types (R160, R171, R249 to R252, R259). A value is taken apart into an exact one, computed exactly, and
rounded once. -/

namespace Sys2Proof.Machine

/-! ## Formats and exact values -/

/-- A floating format: exponent bits, fraction bits, bias, and whether it has infinities as IEEE formats do. -/
structure Fmt where
  exp : Nat
  frac : Nat
  bias : Nat
  ieee : Bool
deriving DecidableEq, Repr

def fp32 : Fmt := { exp := 8, frac := 23, bias := 127, ieee := true }
def fp64 : Fmt := { exp := 11, frac := 52, bias := 1023, ieee := true }
def bf16 : Fmt := { exp := 8, frac := 7, bias := 127, ieee := true }
def fp16 : Fmt := { exp := 5, frac := 10, bias := 15, ieee := true }
def e4m3 : Fmt := { exp := 4, frac := 3, bias := 7, ieee := false }
def e5m2 : Fmt := { exp := 5, frac := 2, bias := 15, ieee := true }

/-- An exact value: not a number, an infinity, or ± mant × 2^exp2. -/
inductive Real where
  | nan
  | inf (neg : Bool)
  | fin (neg : Bool) (mant : Nat) (exp2 : Int)
deriving DecidableEq, Repr, Inhabited

/-- The exponent of the last place of a subnormal. -/
def Fmt.low (f : Fmt) : Int := 1 - (f.bias : Int) - f.frac

/-- The largest finite code, without its sign. -/
def Fmt.maxCode (f : Fmt) : Nat :=
  if f.ieee then (2 ^ f.exp - 1) * 2 ^ f.frac - 1 else 2 ^ (f.exp + f.frac) - 2

/-- The sign bit. -/
def Fmt.sign (f : Fmt) : Nat := 2 ^ (f.exp + f.frac)

/-- The canonical NaN (R250). -/
def Fmt.nanCode (f : Fmt) : Nat :=
  if f.ieee then (2 ^ f.exp - 1) * 2 ^ f.frac + 2 ^ (f.frac - 1) else 2 ^ (f.exp + f.frac) - 1

/-- What a code means (R249). -/
def Fmt.decode (f : Fmt) (c : Nat) : Real :=
  let neg := bit c (f.exp + f.frac)
  let e := bits c f.frac f.exp
  let m := c % 2 ^ f.frac
  if f.ieee ∧ e = 2 ^ f.exp - 1 then (if m = 0 then .inf neg else .nan)
  else if ¬ f.ieee ∧ f.maxCode < c % f.sign then .nan
  else if e = 0 then .fin neg m f.low
  else .fin neg (2 ^ f.frac + m) (f.low + (e - 1 : Nat))

/-- `m × 2^s` rounded half to even to an integer for a negative `s`; `sticky` says that the exact value lies a little
above. -/
def rneShift (m s : Nat) (sticky : Bool) : Nat :=
  let k := m / 2 ^ s
  let r := m % 2 ^ s
  let half := 2 ^ s / 2
  if s = 0 then k
  else if r < half then k
  else if r = half ∧ ¬ sticky then k + k % 2
  else k + 1

/-- The code nearest to ± (m + a little, where `sticky`) × 2^e, ties to even (R160, R250). Beyond the largest finite
value it is that value where `saturate`, else an infinity. -/
def Fmt.round (f : Fmt) (saturate neg : Bool) (m : Nat) (e : Int) (sticky : Bool := false) : Nat :=
  let s := if neg then f.sign else 0
  if m = 0 then s
  else
    let q := max (e + (Nat.log2 m + 1 : Nat) - (f.frac + 1 : Nat)) f.low
    let k := if q ≤ e then m * 2 ^ (e - q).toNat else rneShift m (q - e).toNat sticky
    let code := (q - f.low).toNat * 2 ^ f.frac + k
    if code ≤ f.maxCode then s + code
    else if saturate ∨ ¬ f.ieee then s + f.maxCode
    else s + (2 ^ f.exp - 1) * 2 ^ f.frac

/-- A value rounded into a format. -/
def Fmt.encode (f : Fmt) (saturate : Bool) : Real → Nat
  | .nan => f.nanCode
  | .inf neg =>
    (if neg then f.sign else 0) + (if saturate ∨ ¬ f.ieee then f.maxCode else (2 ^ f.exp - 1) * 2 ^ f.frac)
  | .fin neg m e => f.round saturate neg m e

/-! ## Exact arithmetic -/

/-- The signed mantissa at a lower exponent. -/
def signedAt (neg : Bool) (m : Nat) (e low : Int) : Int :=
  let v : Int := (m * 2 ^ (e - low).toNat : Nat)
  if neg then -v else v

/-- An integer times a power of two. -/
def Real.ofScaled (v : Int) (e : Int) : Real := .fin (decide (v < 0)) v.natAbs e

/-- The exact sum; an exact cancellation gives +0. -/
def Real.add : Real → Real → Real
  | .nan, _ => .nan
  | _, .nan => .nan
  | .inf a, .inf b => if a = b then .inf a else .nan
  | .inf a, _ => .inf a
  | _, .inf b => .inf b
  | .fin na ma ea, .fin nb mb eb =>
    if ma = 0 ∧ mb = 0 then .fin (na && nb) 0 0
    else
      let low := min ea eb
      .ofScaled (signedAt na ma ea low + signedAt nb mb eb low) low

/-- The negation. -/
def Real.neg : Real → Real
  | .nan => .nan
  | .inf a => .inf (!a)
  | .fin n m e => .fin (!n) m e

/-- The exact product. -/
def Real.mul : Real → Real → Real
  | .nan, _ => .nan
  | _, .nan => .nan
  | .inf a, .inf b => .inf (a != b)
  | .inf a, .fin n m _ => if m = 0 then .nan else .inf (a != n)
  | .fin n m _, .inf b => if m = 0 then .nan else .inf (n != b)
  | .fin na ma ea, .fin nb mb eb => .fin (na != nb) (ma * mb) (ea + eb)

/-- Is the value finite? -/
def Real.finite : Real → Bool
  | .fin _ _ _ => true
  | _ => false

/-- The order of two values, as the sign of their difference; nothing where one is not a number. -/
def Real.cmp : Real → Real → Option Ordering
  | .nan, _ => none
  | _, .nan => none
  | .inf a, .inf b => some (if a = b then .eq else if a then .lt else .gt)
  | .inf a, _ => some (if a then .lt else .gt)
  | _, .inf b => some (if b then .gt else .lt)
  | .fin na ma ea, .fin nb mb eb =>
    let low := min ea eb
    some (compare (signedAt na ma ea low) (signedAt nb mb eb low))

/-- A finite value rounded half to even to an integer. -/
def roundHalfEven (neg : Bool) (m : Nat) (e : Int) : Int :=
  let v : Int := (if 0 ≤ e then m * 2 ^ e.toNat else rneShift m (-e).toNat false : Nat)
  if neg then -v else v

/-! ## FP32 -/

/-- An FP32 value by its code. -/
abbrev F32 := Nat

/-- What an FP32 code means. -/
def f32 (a : F32) : Real := fp32.decode a

/-- The FP32 code nearest to an exact value. -/
def toF32 (x : Real) : F32 := fp32.encode false x

def fadd (a b : F32) : F32 := toF32 ((f32 a).add (f32 b))
def fneg (a : F32) : F32 := if bit a 31 then a - 2 ^ 31 else a + 2 ^ 31
def fsub (a b : F32) : F32 := toF32 ((f32 a).add (f32 b).neg)
def fmul (a b : F32) : F32 := toF32 ((f32 a).mul (f32 b))

/-- The quotient rounded to nearest-even: 26 bits and a sticky bit decide it. -/
def fdivIn (f : Fmt) (a b : Nat) : Nat :=
  match f.decode a, f.decode b with
  | .nan, _ => f.nanCode
  | _, .nan => f.nanCode
  | .inf _, .inf _ => f.nanCode
  | .inf x, .fin y _ _ => f.encode false (.inf (x != y))
  | .fin x _ _, .inf y => f.round false (x != y) 0 0
  | .fin x ma ea, .fin y mb eb =>
    if mb = 0 then (if ma = 0 then f.nanCode else f.encode false (.inf (x != y)))
    else
      let sh : Nat := f.frac + 4 + Nat.log2 mb
      let n := ma * 2 ^ sh
      f.round false (x != y) (n / mb) (ea - eb - sh) (n % mb != 0)

def fdiv (a b : F32) : F32 := fdivIn fp32 a b

/-- The integer square root, bit by bit from bit `n` down. -/
def isqrtBits : Nat → Nat → Nat → Nat
  | 0, v, r => if (r + 1) * (r + 1) ≤ v then r + 1 else r
  | n + 1, v, r =>
    let t := r + 2 ^ (n + 1)
    isqrtBits n v (if t * t ≤ v then t else r)

/-- The integer square root. -/
def isqrt (v : Nat) : Nat := isqrtBits (Nat.log2 v / 2 + 1) v 0

/-- The square root rounded to nearest-even; of a negative value not a number, of −0 −0. -/
def fsqrt (a : F32) : F32 :=
  match f32 a with
  | .nan => fp32.nanCode
  | .inf neg => if neg then fp32.nanCode else fp32.encode false (.inf false)
  | .fin neg m e =>
    if m = 0 then a
    else if neg then fp32.nanCode
    else
      let sh : Nat := if (e - 56) % 2 = 0 then 56 else 57
      let n := m * 2 ^ sh
      let r := isqrt n
      fp32.round false false r ((e - sh) / 2) (r * r != n)

/-- An integer, and an integer times a power of two, in FP32. -/
def fint (v : Int) : F32 := toF32 (.ofScaled v 0)
def fscaled (v : Int) (e : Int) : F32 := toF32 (.ofScaled v e)

/-- Order tests; false where one side is not a number. -/
def flt (a b : F32) : Bool := (f32 a).cmp (f32 b) == some .lt
def fle (a b : F32) : Bool := (f32 a).cmp (f32 b) == some .lt || (f32 a).cmp (f32 b) == some .eq

/-- Is an FP32 code finite? -/
def ffinite (a : F32) : Bool := (f32 a).finite

/-- The larger and the smaller of two values, the first on a tie. -/
def fmax (a b : F32) : F32 := if flt a b then b else a
def fmin (a b : F32) : F32 := if flt b a then b else a

/-- A value rounded half to even to an integer, 0 where it is not finite. -/
def ftoInt (a : F32) : Int :=
  match f32 a with
  | .fin neg m e => roundHalfEven neg m e
  | _ => 0

/-- Some constants. -/
def f0 : F32 := 0
def f1 : F32 := 0x3F800000
def fHalf : F32 := 0x3F000000
def f2 : F32 := 0x40000000

/-- The sum of a list, one addition after another from +0 (R259). -/
def fsum (l : List F32) : F32 := l.foldl fadd f0

/-- A power of two as an FP32 value. -/
def fpow2 (e : Int) : F32 := fscaled 1 e

/-- The uniform real in [0, 1) of a draw (R67). -/
def uniformReal (w : Nat) : F32 := fscaled (w / 256 : Nat) (-24)

/-- The uniform real in [a, b) of a draw (R67). -/
def uniformRange (w : Nat) (a b : F32) : F32 := fadd a (fmul (fsub b a) (uniformReal w))

/-- An FP32 literal: the code nearest to num / 10^k. -/
def flit (num : Int) (k : Nat) : F32 :=
  let d := 10 ^ k
  let sh : Nat := 40 + Nat.log2 d
  let n := num.natAbs * 2 ^ sh
  fp32.round false (decide (num < 0)) (n / d) (-(sh : Int)) (n % d != 0)

/-! ## FP64 -/

/-- The FP64 code nearest to num / den. -/
def d64 (num den : Nat) : Nat :=
  let sh : Nat := 64 + Nat.log2 den
  fp64.round false false (num * 2 ^ sh / den) (-(sh : Int)) (num * 2 ^ sh % den != 0)

def dadd (a b : Nat) : Nat := fp64.encode false ((fp64.decode a).add (fp64.decode b))
def dsub (a b : Nat) : Nat := fp64.encode false ((fp64.decode a).add (fp64.decode b).neg)
def dmul (a b : Nat) : Nat := fp64.encode false ((fp64.decode a).mul (fp64.decode b))
def ddiv (a b : Nat) : Nat := fdivIn fp64 a b

/-- Is a at most b? -/
def dle (a b : Nat) : Bool :=
  let c := (fp64.decode a).cmp (fp64.decode b)
  c == some .lt || c == some .eq

/-- The integer part of a value that is neither negative nor infinite. -/
def dfloor (a : Nat) : Option Nat :=
  match fp64.decode a with
  | .fin neg m e => if neg ∧ m ≠ 0 then none else some (if 0 ≤ e then m * 2 ^ e.toNat else m / 2 ^ (-e).toNat)
  | _ => none

/-- Is a less than b? -/
def dlt (a b : Nat) : Bool := (fp64.decode a).cmp (fp64.decode b) == some .lt

/-! ## Element types of tensors (R171) -/

/-- Clamp an integer. -/
def clampInt (lo hi v : Int) : Int := max lo (min hi v)

/-- The bytes of an element type. -/
def elementBytes (t : Nat) : Nat :=
  if t = 2 ∨ t = 3 then 2 else if t = 4 then 4 else 1

/-- An FP32 value as the bytes of an element type; nothing where it is not finite (0x3020). -/
def toElement (t : Nat) (v : F32) : Option Bytes :=
  if ffinite v then
    some (
      if t = 0 then leBytes 1 (clampInt 0 255 (ftoInt v)).toNat
      else if t = 1 then leBytes 1 (ofSigned 8 (clampInt (-128) 127 (ftoInt v)))
      else if t = 2 then leBytes 2 (bf16.encode true (f32 v))
      else if t = 3 then leBytes 2 (fp16.encode true (f32 v))
      else if t = 4 then leBytes 4 v
      else if t = 5 then leBytes 1 (e4m3.encode true (f32 v))
      else leBytes 1 (e5m2.encode true (f32 v)))
  else none

/-- Elements in order; nothing where one is not finite. -/
def toElements (t : Nat) (l : List F32) : Option Bytes :=
  (l.mapM (toElement t)).map List.flatten

end Sys2Proof.Machine
end

