-- ==== Sys2Proof/Config.lean ====
section
/-! DEFINITION. What one unit's manufacture fixes, what the outside standards compute, and the free values: every
constant here is opaque, so no proof can see its value, and a statement proved holds whatever it is. -/

namespace Sys2Proof.Config

/-! ## Fixed at manufacture -/

/-- DeviceUid as a 128-bit little-endian number (R520, R521). -/
opaque deviceUid : Nat

/-- ManufactureSeconds (R520). -/
opaque manufactureSeconds : Nat

/-- MacAddressBase, six bytes as a little-endian number (R520). -/
opaque macAddressBase : Nat

/-- SerialNumber (R520). -/
opaque serialNumber : Bytes

/-- IdentityPublicKey, 68 bytes as a little-endian number (R482). -/
opaque identityPublicKey : Nat

/-- VendorRootKey of each key slot, 68 bytes as a little-endian number (R460, R482). -/
opaque vendorRootKey : Nat → Nat

/-- RailMinMv, fused (R555). -/
opaque railMinMv : Nat → Nat

/-- RailMaxMv, fused (R555). -/
opaque railMaxMv : Nat → Nat

/-- BaselineDelayPs, fused (R555). -/
opaque baselineDelayPs : Nat → Nat

/-- The spare lanes of a Viaduct link of a tile: two for every 64 lanes in use (*Introduction and scope*). -/
opaque viaductSpares (tile link : Nat) : Nat

/-- The bytes of reserve memory that the automaton of a control set takes, by its states (R232, R244). -/
opaque automatonBytes (states : Nat) : Nat

/-- The logical units of the object table (R339, R362). -/
opaque objectTableUnits : Nat

/-- The bytes of an object sealed on another device, by UID and OBJECT_ID, as this device reads them while it builds a census
(R111, R588); nothing where they cannot be read. -/
opaque peerObject : Nat → Nat → Option Bytes

/-- The image in the boot flash as the device leaves manufacture: header block and body (R462). -/
opaque factoryImage : Bytes

/-- The SHAKE256 of the boot ROM, 32 bytes as a little-endian number (R475). -/
opaque bootRomDigest : Nat

/-- SIGNER_SLOT and the signature of the identity certificate (R471). -/
opaque certificateSlot : Nat
opaque certificateSignature : Bytes

/-! ## Computed by outside standards -/

/-- Does a vendor root key, by its slot, verify a signature over some bytes (XMSS^MT, R460)? -/
opaque vendorVerifies (slot : Nat) (signed signature : Bytes) : Bool

/-- The identity key's signature with an index over some bytes (R468). -/
opaque identitySign (index : Nat) (signed : Bytes) : Bytes

/-- The public key of the per-boot key made from a random draw, and its signature with an index over some bytes (R470). -/
opaque bootPublic : Nat → Bytes
opaque bootSign (draw index : Nat) (signed : Bytes) : Bytes

/-- The ML-KEM-1024 encapsulation key of the key pair made from a random draw (FIPS 203, R383). -/
opaque kemPublic : Nat → Bytes

/-- The ciphertext and the shared secret of an encapsulation to a key with a random draw. -/
opaque kemEncaps : Bytes → Nat → Bytes × Bytes

/-- The shared secret that the key pair of a draw decapsulates from a ciphertext. -/
opaque kemDecaps : Nat → Bytes → Bytes

/-- What a credential proves once its certificate chain is verified (R474): the UID it names and its encapsulation
key; nothing where the chain fails. -/
opaque credential : Bytes → Option (Nat × Bytes)

/-! ### Media formats

Each function reads the coded bytes of one outside format as far as its standard goes, and answers either the code with
which the format's own faults are refused (R126, R131 to R139) or what the bytes hold. What this spec itself fixes,
such as the inverse DCT, upsampling, layout and limits, is computed from that. -/

/-- The samples of a JPEG component: the quantised coefficients of its blocks in raster order, each block in natural
order with its quantisation table, or, of a lossless image, the samples themselves. -/
inductive JpegPlane where
  | dct (blocksWide : Nat) (quant : List Nat) (blocks : List (List Int))
  | samples (width : Nat) (values : List Nat)
deriving Inhabited

/-- A JPEG image (ITU-T T.81): extents, precision, process (0 baseline, 1 progressive, 2 lossless), the payload byte of
an APP14 segment that gives the colour transform, whether a DNL marker gave the height, the coefficient positions
visited over all scans, and each component's sampling factors and samples. -/
structure JpegImage where
  width : Nat
  height : Nat
  precision : Nat
  process : Nat
  app14 : Option Nat
  dnl : Bool
  visited : Nat
  comps : List (Nat × Nat × JpegPlane)
deriving Inhabited

/-- The coefficients of a JPEG image. -/
opaque jpeg : Bytes → Except Nat JpegImage

/-- A PNG image (ISO/IEC 15948) after inflating, unfiltering and deinterlacing: the samples of each pixel in raster
order as stored, the palette, and tRNS as its values; with the bytes inflated. -/
structure PngImage where
  width : Nat
  height : Nat
  depth : Nat
  colourType : Nat
  palette : List (List Nat)
  trns : Option (List Nat)
  inflated : Nat
  pixels : List (List Nat)
deriving Inhabited

/-- The pixels of a PNG image. -/
opaque png : Bytes → Except Nat PngImage

/-- A JPEG 2000 image (ISO/IEC 15444-1): its extents after the reduction in effect, the reduction, the enumerated colour
space if a colr box gives one, the component that cdef marks as alpha, whether it lies within the Dealer profile by
decomposition levels and boxes, the block samples times passes, and each component's precision and samples. -/
structure J2kImage where
  width : Nat
  height : Nat
  reduce : Nat
  colour : Option Nat
  alpha : Option Nat
  dealer : Bool
  visited : Nat
  comps : List (Nat × List Nat)
deriving Inhabited

/-- The components of a JPEG 2000 image at a reduction. -/
opaque j2k : Nat → Bytes → Except Nat J2kImage

/-- An audio stream: rate, bits per sample, output gain in Q7.8, packets, and the frames, one list of samples each. -/
structure Audio where
  rate : Nat
  channels : Nat
  depth : Nat
  gain : Nat
  packets : Nat
  frames : List (List Int)
deriving Inhabited

/-- The samples of a FLAC stream (RFC 9639), its MD5 signature checked or not. -/
opaque flac : Bool → Bytes → Except Nat Audio

/-- The samples of an Opus stream in Ogg (RFC 6716). -/
opaque opus : Bytes → Except Nat Audio

/-- A frame of RFC 8878 (1) or of LZ4 (2): its output and the bytes of input it took. -/
opaque inflateFrame : Nat → Bytes → Except Nat (Bytes × Nat)

/-- A Zstandard frame of some bytes at a level. -/
opaque zstdCompress : Nat → Bytes → Bytes

/-! ### Values of arithmetic that the spec does not state -/

/-- The frequency of ROPE for a BASE that is not a positive number, as FP32 codes (R260). -/
opaque ropeBeyond (base i d : Nat) : Nat

/-- FILL of a channel that the parameter block has no value for, as an FP32 code (R167). -/
opaque fillBeyond : Nat → Nat

/-- What a FILL that is no integer gives a tap of an integer source, by its FP32 code (R165, R167). -/
opaque fillInteger : Nat → Int

/-! ## Free values -/

/-- The n-th value the spec leaves open, or that a random generator, a device or a medium supplies. Its argument is
the state's own counter of values taken (`State.freeCount`). -/
opaque freeValue : Nat → Nat

/-- The n-th byte sequence the spec leaves open. -/
opaque freeBytes : Nat → Bytes

end Sys2Proof.Config
end

