-- ==== Sys2Proof/Machine/Hash.lean ====
section
/-! DEFINITION. SHAKE256 of FIPS 202, whose first 32 bytes are the digest of this spec (R7, R461), and the ChaCha20
block of RFC 8439, from which draws are taken (R68). -/

namespace Sys2Proof.Machine

/-! ## Keccak-f[1600] -/

/-- A lane by its coordinates. -/
def lane (a : List Word64) (x y : Nat) : Word64 := a.getD (x % 5 + 5 * (y % 5)) 0

/-- A state given lane by lane, x running fastest. -/
def lanes (f : Nat → Nat → Word64) : List Word64 := (List.range 25).map fun i => f (i % 5) (i / 5)

/-- Step θ. -/
def keccakTheta (a : List Word64) : List Word64 :=
  let c := (List.range 5).map fun x => lane a x 0 ^^^ lane a x 1 ^^^ lane a x 2 ^^^ lane a x 3 ^^^ lane a x 4
  lanes fun x y => lane a x y ^^^ c.getD ((x + 4) % 5) 0 ^^^ (c.getD ((x + 1) % 5) 0).rotateLeft 1

/-- The rotations of step ρ, lane x + 5y at place x + 5y. -/
def rhoOffsets : List Nat :=
  [0, 1, 62, 28, 27, 36, 44, 6, 55, 20, 3, 10, 43, 25, 39, 41, 45, 15, 21, 8, 18, 2, 61, 56, 14]

/-- Steps ρ and π. -/
def keccakRhoPi (a : List Word64) : List Word64 :=
  lanes fun x y =>
    let sx := (x + 3 * y) % 5
    (lane a sx x).rotateLeft (rhoOffsets.getD (sx + 5 * x) 0)

/-- Step χ. -/
def keccakChi (a : List Word64) : List Word64 :=
  lanes fun x y => lane a x y ^^^ ((~~~ lane a (x + 1) y) &&& lane a (x + 2) y)

/-- The constants of step ι. -/
def roundConstants : List Word64 :=
  [0x0000000000000001#64, 0x0000000000008082#64, 0x800000000000808A#64, 0x8000000080008000#64,
   0x000000000000808B#64, 0x0000000080000001#64, 0x8000000080008081#64, 0x8000000000008009#64] ++ [
   0x000000000000008A#64, 0x0000000000000088#64, 0x0000000080008009#64, 0x000000008000000A#64,
   0x000000008000808B#64, 0x800000000000008B#64, 0x8000000000008089#64, 0x8000000000008003#64] ++ [
   0x8000000000008002#64, 0x8000000000000080#64, 0x000000000000800A#64, 0x800000008000000A#64,
   0x8000000080008081#64, 0x8000000000008080#64, 0x0000000080000001#64, 0x8000000080008008#64]

/-- One round. -/
def keccakRound (a : List Word64) (rc : Word64) : List Word64 :=
  match keccakChi (keccakRhoPi (keccakTheta a)) with
  | [] => []
  | h :: t => (h ^^^ rc) :: t

/-- The permutation of 24 rounds. -/
def keccakF (a : List Word64) : List Word64 := roundConstants.foldl keccakRound a

/-! ## SHAKE256 -/

/-- The rate of SHAKE256 in bytes. -/
def shakeRate : Nat := 136

/-- Exclusive-or of a block of bytes into the state. -/
def absorbBlock (a : List Word64) (b : Bytes) : List Word64 :=
  keccakF (lanes fun x y => lane a x y ^^^ BitVec.ofNat 64 (field b (8 * (x + 5 * y)) 8))

/-- Absorb the blocks of a padded message. -/
def absorb : Nat → List Word64 → Bytes → List Word64
  | 0, a, _ => a
  | n + 1, a, b => absorb n (absorbBlock a (b.take shakeRate)) (b.drop shakeRate)

/-- The message with the SHAKE suffix and padding, a whole number of blocks. -/
def shakePad (b : Bytes) : Bytes :=
  let fill := shakeRate - b.length % shakeRate
  if fill = 1 then b ++ [0x9F#8] else b ++ [0x1F#8] ++ zeros (fill - 2) ++ [0x80#8]

/-- The bytes of a state. -/
def stateBytes (a : List Word64) : Bytes := a.flatMap fun w => leBytes 8 w.toNat

/-- `n` blocks of output. -/
def squeeze : Nat → List Word64 → Bytes
  | 0, _ => []
  | n + 1, a => (stateBytes a).take shakeRate ++ squeeze n (keccakF a)

/-- The first `n` bytes of SHAKE256. -/
def shake256 (n : Nat) (b : Bytes) : Bytes :=
  let p := shakePad b
  (squeeze (ceilDiv n shakeRate) (absorb (p.length / shakeRate) (List.replicate 25 0) p)).take n

/-- A 32-byte digest. -/
def digest (b : Bytes) : Bytes := shake256 32 b

/-- A 32-byte digest as the number its object holds. -/
def digestNat (b : Bytes) : Nat := leNat (digest b)

/-! ## ChaCha20 -/

/-- The quarter round on the words at four places. -/
def quarterRound (v : List Word32) (a b c d : Nat) : List Word32 :=
  let xa := v.getD a 0
  let xb := v.getD b 0
  let xc := v.getD c 0
  let xd := v.getD d 0
  let a1 := xa + xb
  let d1 := (xd ^^^ a1).rotateLeft 16
  let c1 := xc + d1
  let b1 := (xb ^^^ c1).rotateLeft 12
  let a2 := a1 + b1
  let d2 := (d1 ^^^ a2).rotateLeft 8
  let c2 := c1 + d2
  let b2 := (b1 ^^^ c2).rotateLeft 7
  (((v.set a a2).set b b2).set c c2).set d d2

/-- Two rounds: columns, then diagonals. -/
def doubleRound (v : List Word32) : List Word32 :=
  let v := quarterRound v 0 4 8 12
  let v := quarterRound v 1 5 9 13
  let v := quarterRound v 2 6 10 14
  let v := quarterRound v 3 7 11 15
  let v := quarterRound v 0 5 10 15
  let v := quarterRound v 1 6 11 12
  let v := quarterRound v 2 7 8 13
  quarterRound v 3 4 9 14

/-- `n` double rounds. -/
def doubleRounds : Nat → List Word32 → List Word32
  | 0, v => v
  | n + 1, v => doubleRounds n (doubleRound v)

/-- The ChaCha20 block function: key of 32 bytes, block counter, nonce of 12 bytes; its sixteen words. -/
def chachaBlock (key : Bytes) (counter : Nat) (nonce : Bytes) : List Word32 :=
  let w (b : Bytes) (i : Nat) : Word32 := BitVec.ofNat 32 (field b (4 * i) 4)
  let init : List Word32 :=
    [0x61707865#32, 0x3320646E#32, 0x79622D32#32, 0x6B206574#32] ++ (List.range 8).map (w key) ++
      [BitVec.ofNat 32 counter] ++ (List.range 3).map (w nonce)
  List.zipWith (· + ·) (doubleRounds 10 init) init

end Sys2Proof.Machine
end

