-- ==== Sys2Proof/Machine/Text.lean ====
section
/-! DEFINITION. Text: UTF-8 and its maximal subparts, conversion at DECODE, vocabularies, longest-match tokenization,
detokenization, and generation control sets (R215 to R236). -/

namespace Sys2Proof.Machine

/-! ## UTF-8 -/

/-- The ranges of the bytes after a first byte; nothing where no row begins with it (R216). -/
def utf8Row (b : Nat) : Option (List (Nat × Nat)) :=
  if b < 0x80 then some []
  else if b < 0xC2 then none
  else if b < 0xE0 then some [(0x80, 0xBF)]
  else if b = 0xE0 then some [(0xA0, 0xBF), (0x80, 0xBF)]
  else if b = 0xED then some [(0x80, 0x9F), (0x80, 0xBF)]
  else if b < 0xF0 then some [(0x80, 0xBF), (0x80, 0xBF)]
  else if b = 0xF0 then some [(0x90, 0xBF), (0x80, 0xBF), (0x80, 0xBF)]
  else if b < 0xF4 then some [(0x80, 0xBF), (0x80, 0xBF), (0x80, 0xBF)]
  else if b = 0xF4 then some [(0x80, 0x8F), (0x80, 0xBF), (0x80, 0xBF)]
  else none

/-- How many of the following bytes fit the ranges. -/
def fitting : List (Nat × Nat) → Bytes → Nat
  | [], _ => 0
  | _, [] => 0
  | (lo, hi) :: r, b :: t => if lo ≤ b.toNat ∧ b.toNat ≤ hi then fitting r t + 1 else 0

/-- A piece of a scanned text: a well-formed sequence, an ill-formed maximal subpart, or one at the end of the text that
a further byte could still complete. -/
inductive PieceKind where
  | good | bad | open
deriving DecidableEq, Repr

/-- The first piece of a text that is not empty (R216): its kind and length. -/
def firstPiece (b : Byte) (t : Bytes) : PieceKind × Nat :=
  match utf8Row b.toNat with
  | none => (.bad, 1)
  | some r =>
    let k := fitting r t
    if k = r.length then (.good, k + 1) else if k = t.length then (.open, k + 1) else (.bad, k + 1)

/-- The pieces of a text, at most `fuel`. -/
def scanPieces : Nat → Bytes → List (PieceKind × Bytes)
  | 0, _ => []
  | _, [] => []
  | fuel + 1, b :: t =>
    let (k, n) := firstPiece b t
    (k, (b :: t).take n) :: scanPieces fuel ((b :: t).drop n)

/-- The pieces of a text. -/
def pieces (b : Bytes) : List (PieceKind × Bytes) := scanPieces b.length b

/-- Is a text well-formed UTF-8 (R216)? -/
def wellFormed (b : Bytes) : Bool := (pieces b).all fun p => p.1 == .good

/-- U+FFFD. -/
def replacement : Bytes := bytesOf [0xEF, 0xBF, 0xBD]

/-- The subparts of a text. -/
def subparts (b : Bytes) : Nat := ((pieces b).filter fun p => p.1 != .good).length

/-- The text with each maximal subpart replaced by U+FFFD, or removed (R218). -/
def cleanText (drop : Bool) (b : Bytes) : Bytes :=
  (pieces b).flatMap fun p => if p.1 = .good then p.2 else if drop then [] else replacement

/-- A field of UTF-8, NUL-padded (R583): its string, nothing where it is ill-formed or a byte follows a NUL. -/
def nulPadded (b : Bytes) : Option Bytes :=
  let s := b.takeWhile (· != 0)
  if wellFormed s && allZero (b.drop s.length) then some s else none

/-! ## Conversion at DECODE -/

/-- The UTF-8 bytes of a code point; of an unpaired surrogate the three-byte pattern of its value (R215). -/
def utf8Encode (c : Nat) : Bytes :=
  if c < 0x80 then bytesOf [c]
  else if c < 0x800 then bytesOf [0xC0 + c / 64, 0x80 + c % 64]
  else if c < 0x10000 then bytesOf [0xE0 + c / 4096, 0x80 + c / 64 % 64, 0x80 + c % 64]
  else bytesOf [0xF0 + c / 262144, 0x80 + c / 4096 % 64, 0x80 + c / 64 % 64, 0x80 + c % 64]

/-- The code units of bytes of even length. -/
def utf16Units (big : Bool) : Bytes → List Nat
  | a :: b :: t => (if big then a.toNat * 256 + b.toNat else a.toNat + 256 * b.toNat) :: utf16Units big t
  | _ => []

/-- Code units as UTF-8, a surrogate pair as one sequence. -/
def unitsToUtf8 : List Nat → Bytes
  | [] => []
  | [u] => utf8Encode u
  | u :: v :: t =>
    if 0xD800 ≤ u ∧ u < 0xDC00 ∧ 0xDC00 ≤ v ∧ v < 0xE000 then
      utf8Encode (0x10000 + (u - 0xD800) * 1024 + (v - 0xDC00)) ++ unitsToUtf8 t
    else utf8Encode u ++ unitsToUtf8 (v :: t)

/-- A list without a leading element of a value. -/
def dropLeading {α : Type} [BEq α] (p : List α) (l : List α) : List α := if p.isPrefixOf l then l.drop p.length else l

/-- The decoded text of a payload of a text kind, or its code (R215). -/
def decodeText (kind : Nat) (b : Bytes) : Except Nat Bytes :=
  if kind = 0x20 then .ok (dropLeading (bytesOf [0xEF, 0xBB, 0xBF]) b)
  else if b.isEmpty then .ok []
  else if b.length % 2 = 1 then .error 0x3801
  else if kind = 0x21 then .ok (unitsToUtf8 (dropLeading [0xFEFF] (utf16Units false b)))
  else if kind = 0x22 then .ok (unitsToUtf8 (dropLeading [0xFEFF] (utf16Units true b)))
  else if b.take 2 = bytesOf [0xFF, 0xFE] then .ok (unitsToUtf8 (utf16Units false (b.drop 2)))
  else if b.take 2 = bytesOf [0xFE, 0xFF] then .ok (unitsToUtf8 (utf16Units true (b.drop 2)))
  else .error 0x3802

/-! ## Vocabulary images -/

/-- V, MAX_TOKEN_BYTES and the pool of an image (R222). -/
def vocabSize (img : Bytes) : Nat := field img 0x0C 4
def vocabLongest (img : Bytes) : Nat := byteAt img 0x18
def vocabPool (img : Bytes) : Bytes := slice (field img 0x10 4) (field img 0x14 4) img

/-- The fields of a token's entry (R223). -/
def tokenOffset (img : Bytes) (t : Nat) : Nat := field img (0x40 + 8 * t) 4
def tokenLength (img : Bytes) (t : Nat) : Nat := byteAt img (0x44 + 8 * t)
def tokenSpecial (img : Bytes) (t : Nat) : Bool := byteAt img (0x45 + 8 * t) == 1

/-- The string of a token. -/
def tokenString (img : Bytes) (t : Nat) : Bytes :=
  slice (field img 0x10 4 + tokenOffset img t) (tokenLength img t) img

/-- The normal tokens of an image. -/
def normalTokens (img : Bytes) : List Nat := (List.range (vocabSize img)).filter fun t => !tokenSpecial img t

/-- lookup of R219. -/
def lookupToken (img : Bytes) (b : Bytes) : Option Nat :=
  (List.range (vocabSize img)).find? fun t => !tokenSpecial img t && tokenString img t == b

/-- Are the elements of a list pairwise distinct? -/
def distinct {α : Type} [BEq α] : List α → Bool
  | [] => true
  | a :: t => !t.contains a && distinct t

/-- Steps 1 to 4 of R224: is the image legal? -/
def vocabImageOk (img : Bytes) : Bool :=
  let v := vocabSize img
  let total := field img 8 4
  let pool := field img 0x14 4
  let longest := vocabLongest img
  let head := slice 0 4 img == bytesOf [0x4B, 0x56, 0x43, 0x31] && field img 4 2 == 1 &&
    field img 0x3C 4 == crc32c (img.take 0x3C) && field img 0x38 4 == crc32c (slice 0x40 (total - 0x40) img)
  let ranges := total == 64 + 8 * v + pool && decide (total ≤ 8388608 ∧ total ≤ img.length) &&
    decide (256 ≤ v ∧ v ≤ 262144) && field img 0x10 4 == 64 + 8 * v && decide (256 ≤ pool ∧ pool ≤ 4194304) &&
    decide (1 ≤ longest ∧ longest ≤ 64) && allZero (slice 0x19 31 img)
  let entry (t : Nat) : Bool :=
    let n := tokenLength img t
    decide (byteAt img (0x45 + 8 * t) ≤ 1) && field img (0x46 + 8 * t) 2 == 0 &&
      decide (tokenOffset img t + n ≤ pool) &&
      (if tokenSpecial img t then decide (n ≤ 64) else decide (1 ≤ n ∧ n ≤ longest))
  let strings := (normalTokens img).map (tokenString img)
  head && ranges && (List.range v).all entry && distinct strings &&
    ((List.range 256).all fun b => strings.contains (bytesOf [b])) && strings.any fun s => s.length == longest

/-- U of R225: the smallest power of two that is at least ⌈V/2⌉. -/
def vocabBuckets (v : Nat) : Nat :=
  2 ^ (((List.range 19).find? fun k => decide (ceilDiv v 2 ≤ 2 ^ k)).getD 18)

/-- The bytes a vocabulary takes in a pipeline tile (R225). -/
def vocabTableBytes (img : Bytes) : Nat := 64 * vocabBuckets (vocabSize img) + 65536 * 8 + field img 0x14 4

/-- A token goes into the first bucket with room among the eight from its own (R225); nothing where all are full. `fill`
lists how many entries each bucket holds. -/
def placeToken (u : Nat) (fill : List (Nat × Nat)) (hash : Nat) : Option (List (Nat × Nat)) :=
  let held (b : Nat) : Nat := ((fill.find? fun e => e.1 == b).map (·.2)).getD 0
  match ((List.range 8).map fun i => (hash + i) % u).find? fun b => decide (held b < 4) with
  | none => none
  | some b => some ((b, held b + 1) :: fill.filter fun e => e.1 != b)

/-- Do all the normal tokens find an entry (R225)? They are placed in the order of their identifiers. -/
def hashPlaces (img : Bytes) : Bool :=
  let u := vocabBuckets (vocabSize img)
  ((normalTokens img).foldl (fun f t => f.bind fun l => placeToken u l (crc32c (tokenString img t) % u)) (some [])).isSome

/-! ## Tokenization -/

/-- The longest token that begins a text, at most `n` bytes long: its identifier and length (R219). -/
def longestToken (img : Bytes) (text : Bytes) : Nat → Option (Nat × Nat)
  | 0 => none
  | n + 1 =>
    match lookupToken img (text.take (n + 1)) with
    | some t => some (t, n + 1)
    | none => longestToken img text n

/-- The tokens of a cleaned text, at most `fuel`. -/
def matchTokens (img : Bytes) : Nat → Bytes → List Nat
  | 0, _ => []
  | fuel + 1, text =>
    match longestToken img text (min (vocabLongest img) text.length) with
    | some (t, n) => t :: matchTokens img fuel (text.drop n)
    | none => []

/-- The TOKENIZE block (R237). -/
structure TokenizeParams where
  vocab : Nat
  policy : Nat
  addBos : Bool
  addEos : Bool
  bos : Nat
  eos : Nat
  maxTokens : Nat
deriving DecidableEq, Repr

/-- The TOKENIZE block's fields (R237). -/
def tokenizeParams (b : Bytes) : TokenizeParams :=
  { vocab := field b 0 32, policy := byteAt b 0x20, addBos := byteAt b 0x21 == 1, addEos := byteAt b 0x22 == 1
    bos := field b 0x24 4, eos := field b 0x28 4, maxTokens := field b 0x2C 4 }

/-- tokenize of R219 on a cleaned text: the identifiers and whether they were cut. -/
def tokenize (img : Bytes) (p : TokenizeParams) (text : Bytes) : List Nat × Bool :=
  let out := (if p.addBos then [p.bos] else []) ++ matchTokens img text.length text
  let e := if p.addEos then 1 else 0
  let cut := decide (0 < p.maxTokens ∧ p.maxTokens < out.length + e)
  let out := if cut then out.take (p.maxTokens - e) else out
  (out ++ (if p.addEos then [p.eos] else []), cut)

/-- Identifiers as bytes. -/
def tokenBytes (l : List Nat) : Bytes := l.flatMap (leBytes 4)

/-- A tokenized sample (R220). -/
def tokenizedSample (tokens : List Nat) (cut cleaned : Bool) (sample tag subs source : Nat) : Bytes :=
  let data := tokenBytes tokens
  ascii ['T', 'K', 'S', '1'] ++ leBytes 2 ((if cut then 1 else 0) + (if cleaned then 2 else 0)) ++ zeros 2 ++
    leBytes 8 sample ++ leBytes 8 tag ++ leBytes 4 tokens.length ++ leBytes 4 (min (2 ^ 32 - 1) subs) ++
    leBytes 8 source ++ zeros 16 ++ leBytes 4 (crc32c data) ++ zeros 4 ++ data

/-- The identifiers of a tokenized sample. -/
def sampleTokens (b : Bytes) : List Nat := (List.range (field b 0x18 4)).map fun i => field b (64 + 4 * i) 4

/-! ## Control sets -/

/-- The fields of a control set's header (R230). -/
def controlSpecial (img : Bytes) : Bool := bit (field img 6 2) 0
def controlStopInclude (img : Bytes) : Bool := bit (field img 6 2) 1
def controlTag (img : Bytes) : Nat := field img 0x18 8

/-- The stop strings from an offset, and the offset after them; nothing where the framing fails (R231). -/
def readStops (img : Bytes) (total : Nat) : Nat → Nat → Option (List Bytes × Nat)
  | 0, off => some ([], off)
  | n + 1, off =>
    let len := byteAt img off
    let next := off + roundUp (1 + len) 4
    if len = 0 ∨ 64 < len ∨ total < next ∨ ¬ allZero (slice (off + 1 + len) (next - off - 1 - len) img) then none
    else (readStops img total n next).map fun r => (slice (off + 1) len img :: r.1, r.2)

/-- The sequence records from an offset, each with its TRIGGER_LEN (R231). -/
def readSequences (img : Bytes) (total : Nat) (forced : Bool) : Nat → Nat → Option (List (Nat × List Nat) × Nat)
  | 0, off => some ([], off)
  | n + 1, off =>
    let len := byteAt img off
    let trig := byteAt img (off + 1)
    let next := off + 4 + 4 * len
    let ok := decide (1 ≤ len ∧ len ≤ 64 ∧ next ≤ total) && field img (off + 2) 2 == 0 &&
      (if forced then decide (1 ≤ trig ∧ trig < len) else trig == 0)
    if ok then
      let toks := (List.range len).map fun i => field img (off + 4 + 4 * i) 4
      (readSequences img total forced n next).map fun r => ((trig, toks) :: r.1, r.2)
    else none

/-- The records of a control set: stop strings, banned and forced records. -/
structure ControlSet where
  stops : List Bytes := []
  banned : List (List Nat) := []
  forced : List (Nat × List Nat) := []
deriving DecidableEq, Repr

/-- The records of an image, nothing where their framing fails (R231). -/
def controlRecords (img : Bytes) : Option ControlSet :=
  let total := field img 8 4
  match readStops img total (field img 0x0C 2) 0x40 with
  | none => none
  | some (stops, o1) =>
    match readSequences img total false (field img 0x10 4) o1 with
    | none => none
    | some (banned, o2) =>
      match readSequences img total true (field img 0x14 4) o2 with
      | none => none
      | some (forced, o3) => if o3 = total then some { stops := stops, banned := banned.map (·.2), forced := forced } else none

/-- Step 1 of R232. -/
def controlImageOk (img : Bytes) : Bool :=
  let total := field img 8 4
  slice 0 4 img == bytesOf [0x4B, 0x47, 0x43, 0x31] && field img 4 2 == 1 &&
    field img 0x3C 4 == crc32c (img.take 0x3C) && field img 0x38 4 == crc32c (slice 0x40 (total - 0x40) img) &&
    decide (field img 6 2 < 4) && decide (64 ≤ total ∧ total ≤ 8388608 ∧ total ≤ img.length) &&
    decide (field img 0x0C 2 ≤ 16) && field img 0x0E 2 == 0 && decide (field img 0x10 4 ≤ 65536) &&
    decide (field img 0x14 4 ≤ 4096) && allZero (slice 0x20 24 img) && (controlRecords img).isSome

/-- Step 3 of R232, for a vocabulary of `v` tokens. -/
def controlLimitsOk (v : Nat) (c : ControlSet) : Bool :=
  let seqs := c.banned ++ c.forced.map (·.2)
  c.stops.all wellFormed && distinct c.stops && (seqs.all fun s => s.all fun t => decide (t < v)) &&
    distinct c.banned && distinct (c.forced.map fun f => f.2.take f.1) &&
    decide ((seqs.map List.length).sum ≤ 1048576)

/-- The states of the automaton (R233): the distinct prefixes of the records, the empty one among them. -/
def automatonStates (c : ControlSet) : Nat :=
  let seqs := c.banned ++ c.forced.map (·.2)
  (([] : List Nat) :: seqs.flatMap fun s => (List.range s.length).map fun i => s.take (i + 1)).eraseDups.length

/-- Is a token in banned(S) (R233)? -/
def ControlSet.bans (c : ControlSet) (s : List Nat) (t : Nat) : Bool :=
  c.banned.any fun r => r.getLast? == some t && r.dropLast.isSuffixOf s

/-- The forced tokens that a sampled step brings: those of the longest trigger that is a suffix of the sequence
(R234). -/
def ControlSet.triggered (c : ControlSet) (s : List Nat) : List Nat :=
  let hit := c.forced.filter fun f => (f.2.take f.1).isSuffixOf s
  match hit with
  | [] => []
  | f :: t =>
    let best := t.foldl (fun (a b : Nat × List Nat) => if a.1 < b.1 then b else a) f
    best.2.drop best.1

/-! ## Detokenization -/

/-- The pending bytes with every subpart replaced that no further byte can complete, the length before the unfinished
trailing sequence, and how many were replaced (R227). -/
def settlePending (p : Bytes) : Bytes × Nat × Nat :=
  let l := pieces p
  let text := l.flatMap fun x => if x.1 = .bad then replacement else x.2
  let tail := (l.filter fun x => x.1 == .open).flatMap (·.2)
  (text, text.length - tail.length, (l.filter fun x => x.1 == .bad).length)

/-- The occurrence of a stop string that ends first, the one that starts first on a tie: start and end (R227). -/
def firstStop (stops : List Bytes) (text : Bytes) : Option (Nat × Nat) :=
  let hits := (List.range (text.length + 1)).flatMap fun e =>
    (stops.filter fun st => decide (st.length ≤ e) && slice (e - st.length) st.length text == st).map fun st =>
      (e - st.length, e)
  match hits with
  | [] => none
  | h :: t => some (t.foldl (fun (a b : Nat × Nat) => if b.2 < a.2 ∨ (b.2 = a.2 ∧ b.1 < a.1) then b else a) h)

/-- The length of the longest suffix of a text that is a proper prefix of some stop string (R227). -/
def heldSuffix (stops : List Bytes) (text : Bytes) : Nat :=
  ((List.range 64).filter fun h => decide (h ≤ text.length) &&
    stops.any fun st => decide (h < st.length) && st.take h == text.drop (text.length - h)).foldl max 0

/-- The outcome of a detokenization step: what is emitted, what stays pending, whether a stop string completed, and the
replacements made. -/
structure DetokStep where
  emit : Bytes := []
  pending : Bytes := []
  stop : Bool := false
  replaced : Nat := 0
deriving DecidableEq, Repr

/-- detok_step of R227 for a token that is not the end-of-sequence token; `add` is its string, or nothing. -/
def detokStep (stops : List Bytes) (stopInclude : Bool) (pending add : Bytes) : DetokStep :=
  let (p, k, n) := settlePending (pending ++ add)
  let text := p.take k
  match firstStop stops text with
  | some (a, b) => { emit := p.take (if stopInclude then b else a), pending := [], stop := true, replaced := n }
  | none =>
    let h := heldSuffix stops text
    { emit := p.take (k - h), pending := p.drop (k - h), stop := false, replaced := n }

/-- The flush of R229: the held bytes, an unfinished trailing sequence as one U+FFFD. -/
def detokFlush (pending : Bytes) : Bytes × Nat :=
  let (p, k, _) := settlePending pending
  if k < p.length then (p.take k ++ replacement, 1) else (p, 0)

end Sys2Proof.Machine
end

