-- ==== Sys2Proof/Machine/Codec.lean ====
section
/-! DEFINITION. DECOMPRESS and DECODE: the engine an input goes to, its limits, the arithmetic of the decoders that the
spec fixes, and the decoded sample (R123 to R144, R151). -/

namespace Sys2Proof.Machine

open Sys2Proof.Config (JpegImage JpegPlane PngImage J2kImage Audio)

/-! ## Settings -/

/-- The settings a decode is made under: the block's fields with their defaults in place, and the device's (R151,
R153). -/
structure DecodeSettings where
  budgetFactor : Nat := 4
  reduce : Nat := 0
  upsample : Nat := 1
  alphaMode : Nat := 0
  flacMd5 : Bool := true
  workLimit : Nat := 0
  maxBytes : Nat := 0
  slowLane : Bool := true
deriving DecidableEq, Repr

/-! ## The decoded sample -/

/-- What the descriptor of a decoded sample says besides its data (R129). -/
structure Descriptor where
  cls : Nat
  kind : Nat
  element : Nat
  channels : Nat
  width : Nat
  height : Nat := 0
  colour : Nat := 0
  alpha : Nat := 0
  depth : Nat
  reduce : Nat := 0
  rowStride : Nat := 0
  planeStride : Nat := 0
  sample : Nat
  gain : Nat := 0
deriving DecidableEq, Repr

/-- A decoded sample: its descriptor of 64 bytes and its data (R129). -/
def Descriptor.encode (d : Descriptor) (data : Bytes) : Bytes :=
  ascii ['D', 'S', 'D', '1'] ++ leBytes 1 d.cls ++ leBytes 1 d.kind ++ leBytes 1 d.element ++ leBytes 1 d.channels ++
    leBytes 4 d.width ++ leBytes 4 d.height ++ leBytes 1 d.colour ++ leBytes 1 d.alpha ++ leBytes 1 d.depth ++
    leBytes 1 d.reduce ++ leBytes 4 d.rowStride ++ leBytes 8 d.planeStride ++ leBytes 8 d.sample ++ leBytes 2 d.gain ++
    zeros 6 ++ leBytes 8 data.length ++ leBytes 4 (crc32c data) ++ zeros 4 ++ data

/-- The descriptor of a decoded sample. -/
def descriptorOf (b : Bytes) : Descriptor :=
  { cls := byteAt b 4, kind := byteAt b 5, element := byteAt b 6, channels := byteAt b 7, width := field b 8 4
    height := field b 12 4, colour := byteAt b 0x10, alpha := byteAt b 0x11, depth := byteAt b 0x12
    reduce := byteAt b 0x13, rowStride := field b 0x14 4, planeStride := field b 0x18 8, sample := field b 0x20 8
    gain := field b 0x28 2 }

/-- The data of a decoded sample. -/
def sampleData (b : Bytes) : Bytes := slice 64 (field b 0x30 8) b

/-- Do MAGIC and DATA_CRC of a decoded sample hold (R178, R186)? -/
def sampleMagicOk (b : Bytes) : Bool := b.take 4 == ascii ['D', 'S', 'D', '1']
def sampleCrcOk (b : Bytes) : Bool := field b 0x38 4 == crc32c (sampleData b)

/-- The bytes of an element of a decoded sample (R129). -/
def decodedElementBytes (e : Nat) : Nat := if e = 0 then 1 else if e = 1 then 2 else 4

/-- A plane of rows, each padded to the stride (R130). -/
def planeBytes (bytes stride : Nat) (rows : List (List Nat)) : Bytes :=
  rows.flatMap fun r => padTo stride (r.flatMap (leBytes bytes))

/-- The row stride of an image (R130). -/
def rowStrideOf (width element : Nat) : Nat := roundUp (width * decodedElementBytes element) 64

/-- An image as a decoded sample (R129, R130). `planes` holds the rows of each channel. -/
def encodeImage (kind element colour alpha depth reduce sample width height : Nat) (planes : List (List (List Nat))) :
    Bytes :=
  let stride := rowStrideOf width element
  let d : Descriptor :=
    { cls := 0, kind := kind, element := element, channels := planes.length, width := width, height := height
      colour := colour, alpha := alpha, depth := depth, reduce := reduce, rowStride := stride
      planeStride := stride * height, sample := sample }
  d.encode (planes.flatMap (planeBytes (decodedElementBytes element) stride))

/-- The plane stride of a signal (R130). -/
def signalStride (frames : Nat) : Nat := roundUp (frames * 4) 64

/-- A signal as a decoded sample; `planes` holds the 32-bit codes of each channel (R130). -/
def encodeSignal (kind element depth rate sample gain frames : Nat) (planes : List (List Nat)) : Bytes :=
  let stride := signalStride frames
  let d : Descriptor :=
    { cls := 1, kind := kind, element := element, channels := planes.length, width := frames, height := rate
      depth := depth, planeStride := stride, sample := sample, gain := gain }
  d.encode (planes.flatMap fun p => padTo stride (p.flatMap (leBytes 4)))

/-- A text as a decoded sample (R130). -/
def encodeText (kind sample : Nat) (text : Bytes) : Bytes :=
  let d : Descriptor :=
    { cls := 2, kind := kind, element := 0, channels := 1, width := text.length, depth := 8, sample := sample }
  d.encode text

/-! ## JPEG -/

/-- round(8,192 × cos(kπ/16)) for k = 0 to 8. -/
def cosTable : List Int := [8192, 8035, 7568, 6811, 5793, 4551, 3135, 1598, 0]

/-- round(8,192 × cos(kπ/16)) for any k. -/
def cosAt (k : Nat) : Int :=
  let m := k % 32
  if m ≤ 8 then cosTable.getD m 0
  else if m ≤ 16 then -cosTable.getD (16 - m) 0
  else if m ≤ 24 then -cosTable.getD (m - 16) 0
  else cosTable.getD (32 - m) 0

/-- C[x][u] (R132). -/
def idctConst (x u : Nat) : Int := if u = 0 then 5793 else cosAt ((2 * x + 1) * u)

/-- The inverse DCT of a dequantised block in natural order: the samples before the level shift, row by row (R132). -/
def idct (f : List Int) : List Int :=
  let g (x v : Nat) : Int := (((List.range 8).map fun u => idctConst x u * f.getD (8 * v + u) 0).sum + 1024) / 2048
  let gs : List Int := (List.range 64).map fun i => g (i % 8) (i / 8)
  (List.range 64).map fun i =>
    (((List.range 8).map fun v => idctConst (i / 8) v * gs.getD (8 * v + i % 8) 0).sum + 65536) / 131072

/-- A block as samples of a precision (R132). -/
def blockSamples (p : Nat) (quant : List Nat) (coeffs : List Int) : List Nat :=
  let f := List.zipWith (fun (c : Int) (q : Nat) => c * q) coeffs quant
  (idct f).map fun v => (clampInt 0 (2 ^ p - 1) (v + 2 ^ (p - 1))).toNat

/-- Row by row access to a list of values. -/
def rowsOf (width : Nat) (height : Nat) (at_ : Nat → Nat → Nat) : List (List Nat) :=
  (List.range height).map fun y => (List.range width).map fun x => at_ x y

/-- The sample of a component at (x, y). -/
def jpegSample (p : Nat) (plane : JpegPlane) : Nat → Nat → Nat :=
  match plane with
  | .dct wide quant blocks =>
    let done := blocks.map (blockSamples p quant)
    fun x y => (done.getD (y / 8 * wide + x / 8) []).getD (y % 8 * 8 + x % 8) 0
  | .samples width values => fun x y => values.getD (y * width + x) 0

/-- The nearer neighbour of output index `i` at factor 2, held within the component (R133). -/
def nearer (i size : Nat) : Nat :=
  if i % 2 = 0 then i / 2 - 1 else min (i / 2 + 1) (size - 1)

/-- A component brought to full size (R133): its factors, its size, and the output pixel. -/
def upsampleAt (mode fx fy cw ch : Nat) (at_ : Nat → Nat → Nat) (x y : Nat) : Nat :=
  let i := min (x / fx) (cw - 1)
  let j := min (y / fy) (ch - 1)
  let tri (f : Nat) : Bool := mode == 1 && f == 2
  if tri fx ∧ tri fy then
    let v (c : Nat) : Nat := 3 * at_ c j + at_ c (nearer y ch)
    (3 * v i + v (nearer x cw) + 8) / 16
  else if tri fx then (3 * at_ i j + at_ (nearer x cw) j + 2) / 4
  else if tri fy then (3 * at_ i j + at_ i (nearer y ch) + 2) / 4
  else at_ i j

/-- COLOUR_MODEL of a JPEG image (R131). -/
def jpegColour (comps : Nat) (app14 : Option Nat) : Nat :=
  match app14 with
  | none => if comps = 1 then 1 else if comps = 3 then 2 else 5
  | some t =>
    if t = 1 then 2 else if t = 2 then 6
    else if comps = 1 then 1 else if comps = 3 then 3 else 5

/-- The largest sampling factors of an image. -/
def jpegFactors (j : JpegImage) : Nat × Nat :=
  ((j.comps.map fun c => c.1).foldl max 1, (j.comps.map fun c => c.2.1).foldl max 1)

/-- The planes of a JPEG image at full size (R132, R133). -/
def jpegPlanes (mode : Nat) (j : JpegImage) : List (List (List Nat)) :=
  let (hm, vm) := jpegFactors j
  j.comps.map fun (h, v, plane) =>
    let cw := ceilDiv (j.width * h) hm
    let ch := ceilDiv (j.height * v) vm
    let at_ := jpegSample j.precision plane
    rowsOf j.width j.height (upsampleAt mode (hm / h) (vm / v) cw ch at_)

/-- Does a JPEG image lie within the image Dealer's profile (R131)? -/
def jpegDealer (j : JpegImage) : Bool :=
  let (hm, vm) := jpegFactors j
  j.process != 2 && j.precision == 8 && (j.comps.length == 1 || j.comps.length == 3) &&
    decide (hm ≤ 2 ∧ vm ≤ 2 ∧ j.width ≤ 16384 ∧ j.height ≤ 16384) && !j.dnl

/-! ## PNG -/

/-- The scale of a grey depth (R135). -/
def greyScale (depth : Nat) : Nat := if depth = 1 then 255 else if depth = 2 then 85 else if depth = 4 then 17 else 1

/-- The channels of a pixel, alpha last where there is one (R135). -/
def pngPixel (p : PngImage) (px : List Nat) : List Nat :=
  let top := if p.depth = 16 then 65535 else 255
  if p.colourType = 3 then
    let i := px.getD 0 0
    let rgb := p.palette.getD i [0, 0, 0]
    match p.trns with
    | some a => rgb ++ [a.getD i 255]
    | none => rgb
  else if p.colourType = 0 ∨ p.colourType = 2 then
    let v := px.map (· * (if p.colourType = 0 then greyScale p.depth else 1))
    match p.trns with
    | some key => v ++ [if px = key then 0 else top]
    | none => v
  else px

/-- Has a PNG image an alpha channel? -/
def pngHasAlpha (p : PngImage) : Bool := p.trns.isSome || p.colourType == 4 || p.colourType == 6

/-- The channels of a list of pixels, cut into rows. -/
def planesOf (width height channels : Nat) (pixels : List (List Nat)) : List (List (List Nat)) :=
  (List.range channels).map fun c => rowsOf width height fun x y => (pixels.getD (y * width + x) []).getD c 0

/-! ## RIFF/WAVE -/

/-- The expansion of an A-law code to 16 bits (G.711). -/
def aLaw (b : Nat) : Int :=
  let a := b ^^^ 0x55
  let t : Int := (a % 16 * 16 : Nat)
  let seg := a / 16 % 8
  let v : Int := if seg = 0 then t + 8 else (t + 0x108) * 2 ^ (seg - 1)
  if a < 128 then -v else v

/-- The expansion of a µ-law code to 16 bits (G.711). -/
def muLaw (b : Nat) : Int :=
  let u := 255 - b
  let t : Int := ((u % 16 * 8 + 0x84) * 2 ^ (u / 16 % 8) : Nat)
  if u < 128 then t - 0x84 else 0x84 - t

/-- The chunks of a RIFF file from an offset: identifier, offset of the data and size. -/
def riffChunks (b : Bytes) : Nat → Nat → List (Bytes × Nat × Nat)
  | 0, _ => []
  | fuel + 1, off =>
    if b.length < off + 8 then []
    else
      let n := field b (off + 4) 4
      (slice off 4 b, off + 8, n) :: riffChunks b fuel (off + 8 + roundUp n 2)

/-- The format of a WAVE file: the tag of the samples, channels, rate and bits per sample, and its block align. -/
structure WavFormat where
  tag : Nat
  channels : Nat
  rate : Nat
  align : Nat
  bits : Nat
deriving DecidableEq, Repr

/-- The fmt chunk; of tag 0xFFFE the subformat's (R140). -/
def wavFormat (b : Bytes) (off : Nat) : WavFormat :=
  let tag := field b off 2
  { tag := if tag = 0xFFFE then field b (off + 24) 2 else tag, channels := field b (off + 2) 2, rate := field b (off + 4) 4
    align := field b (off + 12) 2, bits := field b (off + 14) 2 }

/-- Is a subformat the PCM or float one of 0xFFFE? -/
def subformatOk (b : Bytes) (off : Nat) : Bool :=
  field b off 2 != 0xFFFE ||
    slice (off + 26) 14 b == bytesOf [0, 0, 0, 0, 0x10, 0, 0x80, 0, 0, 0xAA, 0, 0x38, 0x9B, 0x71]

/-- Is a format one that is decoded (R140)? -/
def WavFormat.ok (f : WavFormat) (extensible : Bool) : Bool :=
  decide (1 ≤ f.channels ∧ f.channels ≤ 8) &&
    ((f.tag == 1 && [8, 16, 24, 32].contains f.bits) || (f.tag == 3 && (f.bits == 32 || f.bits == 64)) ||
      (!extensible && (f.tag == 6 || f.tag == 7) && f.bits == 8))

/-- A sample as the 32-bit code of its element (R140). -/
def wavSample (f : WavFormat) (v : Nat) : Nat :=
  if f.tag = 3 then
    let r := if f.bits = 32 then fp32.decode v else fp64.decode v
    fp32.encode false r
  else if f.tag = 6 then ofSigned 32 (aLaw v * 65536)
  else if f.tag = 7 then ofSigned 32 (muLaw v * 65536)
  else if f.bits = 8 then ofSigned 32 (((v : Int) - 128) * 2 ^ 24)
  else ofSigned 32 (toSigned f.bits v * 2 ^ (32 - f.bits))

/-- A WAVE file: its format and the channels' codes, or the code it is refused with (R140). -/
def wavDecode (b : Bytes) : Except Nat (WavFormat × List (List Nat)) :=
  if b.take 4 = ascii ['R', 'F', '6', '4'] then .error 0x2049
  else if b.take 4 ≠ ascii ['R', 'I', 'F', 'F'] ∨ slice 8 4 b ≠ ascii ['W', 'A', 'V', 'E'] then .error 0x2048
  else
    let chunks := riffChunks b b.length 12
    let named (n : Bytes) := chunks.findIdx? fun c => c.1 == n
    match named (ascii ['f', 'm', 't', ' ']), named (ascii ['d', 'a', 't', 'a']) with
    | some i, some j =>
      let (_, fo, fn) := chunks.getD i ([], 0, 0)
      let (_, off, size) := chunks.getD j ([], 0, 0)
      let f := wavFormat b fo
      if j < i ∨ fn < 16 then .error 0x2048
      else if size = 0xFFFFFFFF ∨ ¬ subformatOk b fo ∨ ¬ f.ok (field b fo 2 == 0xFFFE) then .error 0x2049
      else if f.align ≠ f.channels * (f.bits / 8) ∨ b.length < off + size then .error 0x2048
      else
        let frames := size / f.align
        let w := f.bits / 8
        .ok (f, (List.range f.channels).map fun c =>
          (List.range frames).map fun n => wavSample f (field b (off + n * f.align + c * w) w))
    | _, _ => .error 0x2048

/-! ## DECODE -/

/-- What DECODE makes of a payload (R129): the decoded sample, and its size in pixels or frames. -/
structure Decoded where
  bytes : Bytes
  pixels : Nat := 0
  frames : Nat := 0
deriving DecidableEq, Repr

/-- The input as a decoder reads it: whether it lies within the Dealer profile, its DATA_BYTES, whether an image extent
is illegal, its work units, and the decoded sample (R131 to R144). -/
structure Reading where
  dealer : Bool
  dataBytes : Nat
  extentBad : Bool
  work : Nat
  done : Unit → Decoded

/-- An image reading, of channels already at full size. -/
def imageReading (kind element colour alpha depth reduce sample width height channels : Nat) (dealer : Bool)
    (visited : Nat) (planes : Unit → List (List (List Nat))) : Reading :=
  { dealer := dealer
    dataBytes := channels * height * rowStrideOf width element
    extentBad := decide (width = 0 ∨ height = 0 ∨ 65535 < width ∨ 65535 < height)
    work := visited + width * height * channels
    done := fun _ =>
      { bytes := encodeImage kind element colour alpha depth reduce sample width height (planes ())
        pixels := width * height } }

/-- A signal reading. -/
def signalReading (kind element depth rate sample gain frames channels inputWork : Nat)
    (planes : Unit → List (List Nat)) : Reading :=
  { dealer := true
    dataBytes := channels * signalStride frames
    extentBad := false
    work := inputWork + frames * channels
    done := fun _ => { bytes := encodeSignal kind element depth rate sample gain frames (planes ()), frames := frames } }

/-- An integer sample of `bits` bits as the code of an I32 element, its top bit at bit 31 (R130). -/
def msbAligned (bits : Nat) (v : Int) : Nat := ofSigned 32 (v * 2 ^ (32 - bits))

/-- An audio stream as a reading (R138, R139). -/
def audioReading (kind sample inputWork : Nat) (a : Audio) : Reading :=
  signalReading kind 2 a.depth a.rate sample a.gain a.frames.length a.channels inputWork fun _ =>
    (List.range a.channels).map fun c => a.frames.map fun f => msbAligned a.depth (f.getD c 0)

/-- What a decoder reads in a payload of a kind, or the code it is refused with (R131 to R141). -/
def readPayload (d : DecodeSettings) (kind sample : Nat) (b : Bytes) : Except Nat Reading :=
  if 0x20 ≤ kind then
    (decodeText kind b).map fun t =>
      { dealer := true, dataBytes := t.length, extentBad := false, work := b.length + t.length
        done := fun _ => { bytes := encodeText kind sample t } }
  else if b.isEmpty then .error 0x2053
  else if kind = 0x01 then
    (Config.jpeg b).map fun j =>
      let element := if j.precision ≤ 8 then 0 else 1
      imageReading kind element (jpegColour j.comps.length j.app14) 0 j.precision 0 sample j.width j.height
        j.comps.length (jpegDealer j) j.visited fun _ => jpegPlanes d.upsample j
  else if kind = 0x02 then
    (Config.png b).map fun p =>
      let alpha := pngHasAlpha p && d.alphaMode == 0
      let colours := if p.colourType = 0 ∨ p.colourType = 4 then 1 else 3
      let channels := colours + ofNatBool alpha
      imageReading kind (if p.depth = 16 then 1 else 0) (if colours = 1 then 1 else 3) (ofNatBool alpha)
        (if p.depth = 16 then 16 else 8) 0 sample p.width p.height channels
        (decide (p.width ≤ 16384 ∧ p.height ≤ 16384)) p.inflated fun _ =>
          planesOf p.width p.height channels (p.pixels.map (pngPixel p))
  else if kind = 0x03 ∨ kind = 0x04 then
    (Config.j2k d.reduce b).map fun (j : J2kImage) =>
      let alpha := j.alpha.isSome && d.alphaMode == 0
      let comps := j.comps.zipIdx
      let main := comps.filter fun c => some c.2 != j.alpha
      let kept := main ++ (if alpha then comps.filter fun c => some c.2 == j.alpha else [])
      let depth : Nat := (kept.map fun c => c.1.1).foldl max 1
      let colour := match j.colour with
        | some 16 => 3
        | some 17 => 1
        | some 18 => 4
        | _ => if main.length = 1 then 1 else if main.length = 3 then 3 else 0
      imageReading kind (if depth ≤ 8 then 0 else 1) colour (ofNatBool alpha) depth j.reduce sample j.width j.height
        kept.length (j.dealer && decide (j.comps.length ≤ 4 ∧ j.width ≤ 16384 ∧ j.height ≤ 16384)) j.visited fun _ =>
          kept.map fun c => rowsOf j.width j.height fun x y => c.1.2.getD (y * j.width + x) 0
  else if kind = 0x10 then (Config.flac d.flacMd5 b).map (audioReading kind sample b.length)
  else if kind = 0x11 then
    (Config.opus b).map fun a => audioReading kind sample (1000 * a.packets) a
  else
    (wavDecode b).map fun (f, planes) =>
      let frames := (planes.headD []).length
      let depth := if f.tag = 6 ∨ f.tag = 7 then 16 else if f.tag = 3 then 32 else f.bits
      signalReading kind (if f.tag = 3 then 3 else 2) depth f.rate sample 0 frames f.channels b.length fun _ => planes
where
  /-- A flag as a number. -/
  ofNatBool (b : Bool) : Nat := if b then 1 else 0

/-- Is an input outside the Dealer profile (R142)? Input that is refused is refused on a Dealer. -/
def outOfProfile (d : DecodeSettings) (kind : Nat) (b : Bytes) : Bool :=
  match readPayload d kind 0 b with
  | .ok r => !r.dealer
  | .error _ => false

/-- DECODE of a payload (R129 to R144): the decoded sample, or the code with which the item ends. -/
def decodePayload (d : DecodeSettings) (kind sample : Nat) (b : Bytes) : Except Nat Decoded :=
  match readPayload d kind sample b with
  | .error c => .error c
  | .ok r =>
    if r.extentBad then .error 0x2050
    else if d.maxBytes < r.dataBytes + 64 then .error 0x2012
    else if ¬ r.dealer ∧ ¬ d.slowLane then .error 0x2052
    else if d.workLimit < r.work then .error 0x2051
    else .ok (r.done ())

/-! ## DECOMPRESS -/

/-- DECOMPRESS of a frame (R126, R127): the output, or the code. `known` is a known UNCOMPRESSED_LENGTH, `limit` the
output limit where it is unknown. -/
def decompressFrame (framing : Nat) (known : Option Nat) (limit ratio : Nat) (b : Bytes) : Except Nat Bytes :=
  match Config.inflateFrame framing b with
  | .error c => .error c
  | .ok (out, used) =>
    let l := known.getD limit
    if l < out.length ∨ ratio * b.length < out.length then
      (if l < out.length ∧ l ≤ ratio * b.length then .error 0x2010 else .error 0x2011)
    else if used < b.length then .error 0x2005
    else if known.any fun n => decide (out.length < n) then .error 0x2006
    else .ok out

end Sys2Proof.Machine
end

