-- ==== Sys2Proof/Machine/Objects.lean ====
section
/-! DEFINITION. The names of the dictionary objects: each is the key of the object's instance 0, which is
256 × index + sub-index as the dictionary tables of the spec give them (R510, R511, R524). -/

namespace Sys2Proof.Machine.Obj

/-! Objects of 01_jobs_and_manifests.md. -/

/-- ResidentJobCount, U8, RO (R45). -/
abbrev residentJobCount : Nat := 0x200001
/-- SliceTicks, U32, RWS (R45). -/
abbrev sliceTicks : Nat := 0x200002
/-- LaunchLeadMin, U32, RW (R45). -/
abbrev launchLeadMin : Nat := 0x200003
/-- ManifestMaxBytes, U32, CONST (R45). -/
abbrev manifestMaxBytes : Nat := 0x200004
/-- ItemTableInUse, U16, RO (R45). -/
abbrev itemTableInUse : Nat := 0x200005
/-- SliceSwitchCount, U64, RO (R45). -/
abbrev sliceSwitchCount : Nat := 0x200006
/-- SliceOverrunTicks, U64, RO (R45). -/
abbrev sliceOverrunTicks : Nat := 0x200007
/-- ConnectionsReserved, U16, RO (R45). -/
abbrev connectionsReserved : Nat := 0x200008
/-- JobState, U8, RO (R46). -/
abbrev jobState : Nat := 0x210001
/-- JobCommand, U8, WO (R46). -/
abbrev jobCommand : Nat := 0x210002
/-- LaunchTick, U64, RW (R46). -/
abbrev launchTick : Nat := 0x210003
/-- ExpectedDigest, OCTETS[32], RW (R46). -/
abbrev expectedDigest : Nat := 0x210004
/-- ManifestDigest, OCTETS[32], RO (R46). -/
abbrev manifestDigest : Nat := 0x210005
/-- JobLastReason, U16, RO (R46). -/
abbrev jobLastReason : Nat := 0x210006
/-- RejectSection, U16, RO (R46). -/
abbrev rejectSection : Nat := 0x210007
/-- RejectOffset, U32, RO (R46). -/
abbrev rejectOffset : Nat := 0x210008
/-- SliceWeight, U16, RW (R46). -/
abbrev sliceWeight : Nat := 0x210009
/-- CurrentEpoch, U16, RO (R46). -/
abbrev currentEpoch : Nat := 0x21000A
/-- NextBatch, U64, RO (R46). -/
abbrev nextBatch : Nat := 0x21000B
/-- ItemsInFlight, U16, RO (R46). -/
abbrev itemsInFlight : Nat := 0x21000C
/-- ItemsCompleted, U64, RO (R46). -/
abbrev itemsCompleted : Nat := 0x21000D
/-- ItemsSubstituted, U64, RO (R46). -/
abbrev itemsSubstituted : Nat := 0x21000E
/-- ItemsFailed, U64, RO (R46). -/
abbrev itemsFailed : Nat := 0x21000F
/-- SlicesHeld, U64, RO (R46). -/
abbrev slicesHeld : Nat := 0x210010
/-- JobName, STR, RO (R46). -/
abbrev jobName : Nat := 0x210011
/-- ManifestImage, DOMAIN, RW (R47). -/
abbrev manifestImage : Nat := 0x220001
/-- StagedBytes, U32, RO (R47). -/
abbrev stagedBytes : Nat := 0x220002
/-- StagingAddress, U64, RO (R47). -/
abbrev stagingAddress : Nat := 0x220003
/-- StagingOpen, BOOL, WO (R47). -/
abbrev stagingOpen : Nat := 0x220004
/-- StagingKey, U32, RO (R47). -/
abbrev stagingKey : Nat := 0x220005
/-- StreamActive, BOOL, RO (R48). -/
abbrev streamActive : Nat := 0x280001
/-- StreamDelivery, U8, RO (R48). -/
abbrev streamDelivery : Nat := 0x280002
/-- BatchesDelivered, U64, RO (R48). -/
abbrev batchesDelivered : Nat := 0x280003
/-- ConsumersConnected, U16, RO (R48). -/
abbrev consumersConnected : Nat := 0x280004
/-- LastDeliveredBatch, U64, RO (R48). -/
abbrev lastDeliveredBatch : Nat := 0x280005

/-! Objects of 02_determinism_and_global_time.md. -/

/-- GtcNow, U64, RO (R69). -/
abbrev gtcNow : Nat := 0x120001
/-- SyncState, U8, RO (R69). -/
abbrev syncState : Nat := 0x120002
/-- SyncSource, U8, RWS (R69). -/
abbrev syncSource : Nat := 0x120003
/-- GtcOriginSeconds, U64, RWS (R69). -/
abbrev gtcOriginSeconds : Nat := 0x120004
/-- OffsetTicks, I32, RO (R69). -/
abbrev offsetTicks : Nat := 0x120005
/-- SyncWindowTicks, U16, RW (R69). -/
abbrev syncWindowTicks : Nat := 0x120006
/-- SlewLimitPpm, U16, RW (R69). -/
abbrev slewLimitPpm : Nat := 0x120007
/-- StepThresholdTicks, U32, RW (R69). -/
abbrev stepThresholdTicks : Nat := 0x120008
/-- HoldoverDriftPpb, U32, RW (R69). -/
abbrev holdoverDriftPpb : Nat := 0x120009
/-- SyncLossCount, U32, RO (R69). -/
abbrev syncLossCount : Nat := 0x12000A
/-- PpsSecondsNext, U64, WO (R69). -/
abbrev ppsSecondsNext : Nat := 0x12000B
/-- GtcStepCount, U32, RO (R69). -/
abbrev gtcStepCount : Nat := 0x12000C
/-- PtpDomain, U8, RWS (R69). -/
abbrev ptpDomain : Nat := 0x121001
/-- PtpPort, U8, RWS (R69). -/
abbrev ptpPort : Nat := 0x121002
/-- PtpTransport, U8, RWS (R69). -/
abbrev ptpTransport : Nat := 0x121003
/-- PtpAsymmetryTicks, I32, RW (R69). -/
abbrev ptpAsymmetryTicks : Nat := 0x121004
/-- PtpSyncIntervalLog, I32, RWS (R69). -/
abbrev ptpSyncIntervalLog : Nat := 0x121005
/-- PtpMeanPathDelay, U32, RO (R69). -/
abbrev ptpMeanPathDelay : Nat := 0x121006
/-- PtpParentIdentity, OCTETS[10], RO (R69). -/
abbrev ptpParentIdentity : Nat := 0x121007
/-- GddrRefreshCount, U64, RO (R69). -/
abbrev gddrRefreshCount : Nat := 0x122001
/-- GddrRefreshStallTicks, U64, RO (R69). -/
abbrev gddrRefreshStallTicks : Nat := 0x122002
/-- GddrRetrainCount, U64, RO (R69). -/
abbrev gddrRetrainCount : Nat := 0x122003
/-- GddrRetrainStallTicks, U64, RO (R69). -/
abbrev gddrRetrainStallTicks : Nat := 0x122004
/-- NetRetransmitCount, U64, RO (R69). -/
abbrev netRetransmitCount : Nat := 0x122005
/-- NetRetransmitTicks, U64, RO (R69). -/
abbrev netRetransmitTicks : Nat := 0x122006
/-- NetPauseCount, U64, RO (R69). -/
abbrev netPauseCount : Nat := 0x122007
/-- NetPauseTicks, U64, RO (R69). -/
abbrev netPauseTicks : Nat := 0x122008
/-- ViaductRetryCount, U64, RO (R69). -/
abbrev viaductRetryCount : Nat := 0x122009
/-- ViaductRetryTicks, U64, RO (R69). -/
abbrev viaductRetryTicks : Nat := 0x12200A
/-- FlashReadRetryCount, U64, RO (R69). -/
abbrev flashReadRetryCount : Nat := 0x12200B
/-- FlashReadRetryTicks, U64, RO (R69). -/
abbrev flashReadRetryTicks : Nat := 0x12200C
/-- GddrLinkReplayCount, U64, RO (R69). -/
abbrev gddrLinkReplayCount : Nat := 0x12200D
/-- GddrLinkReplayTicks, U64, RO (R69). -/
abbrev gddrLinkReplayTicks : Nat := 0x12200E
/-- FaultRecoveryCount, U64, RO (R69). -/
abbrev faultRecoveryCount : Nat := 0x12200F
/-- FaultRecoveryTicks, U64, RO (R69). -/
abbrev faultRecoveryTicks : Nat := 0x122010
/-- ReleaseLateCount, U64, RO (R69). -/
abbrev releaseLateCount : Nat := 0x123001
/-- ReleaseQuantumTile, U8, CONST (R69). -/
abbrev releaseQuantumTile : Nat := 0x123002
/-- ReleaseQuantumViaduct, U8, CONST (R69). -/
abbrev releaseQuantumViaduct : Nat := 0x123003
/-- ReleaseQuantumPhy, U8, CONST (R69). -/
abbrev releaseQuantumPhy : Nat := 0x123004

/-! Objects of 03_shards_and_sample_index.md. -/

/-- MaxRecordBytes, U32, RWS (R94). -/
abbrev maxRecordBytes : Nat := 0x300001
/-- ShardOpenCacheEntries, U32, RWS (R94). -/
abbrev shardOpenCacheEntries : Nat := 0x300002
/-- PeerFetchTimeoutTicks, U32, RW (R94). -/
abbrev peerFetchTimeoutTicks : Nat := 0x300003
/-- DefaultCostImage, U32, RW (R94). -/
abbrev defaultCostImage : Nat := 0x300004
/-- DefaultCostSignal, U32, RW (R94). -/
abbrev defaultCostSignal : Nat := 0x300005
/-- DefaultCostText, U32, RW (R94). -/
abbrev defaultCostText : Nat := 0x300006
/-- AnnotationEnable, BOOL, RWS (R94). -/
abbrev annotationEnable : Nat := 0x300007
/-- RecordsRead, U64, RO (R95). -/
abbrev recordsRead : Nat := 0x301001
/-- RecordBytesRead, U64, RO (R95). -/
abbrev recordBytesRead : Nat := 0x301002
/-- RecordCrcErrors, U64, RO (R95). -/
abbrev recordCrcErrors : Nat := 0x301003
/-- ShardFaults, U64, RO (R95). -/
abbrev shardFaults : Nat := 0x301004
/-- AlternateReads, U64, RO (R95). -/
abbrev alternateReads : Nat := 0x301005
/-- TarScans, U64, RO (R95). -/
abbrev tarScans : Nat := 0x301006
/-- TarMembersSkipped, U64, RO (R95). -/
abbrev tarMembersSkipped : Nat := 0x301007
/-- TarMembersExcess, U64, RO (R95). -/
abbrev tarMembersExcess : Nat := 0x301008
/-- ShardOpenWaits, U64, RO (R95). -/
abbrev shardOpenWaits : Nat := 0x301009
/-- ShardMapForm, U8, RO (R96). -/
abbrev shardMapForm : Nat := 0x302001
/-- ShardMapNodes, U16, RO (R96). -/
abbrev shardMapNodes : Nat := 0x302002
/-- ShardMapBytes, U64, RO (R96). -/
abbrev shardMapBytes : Nat := 0x302003
/-- ShardsOpened, U32, RO (R96). -/
abbrev shardsOpened : Nat := 0x302004
/-- ShardsFaulted, U32, RO (R96). -/
abbrev shardsFaulted : Nat := 0x302005
/-- AnnotationBytes, U64, RO (R96). -/
abbrev annotationBytes : Nat := 0x302006
/-- LastSourceReason, U16, RO (R96). -/
abbrev lastSourceReason : Nat := 0x302007

/-! Objects of 04_riffle_epochs_and_batches.md. -/

/-- RiffleBlocksPerTick, U8, CONST (R121). -/
abbrev riffleBlocksPerTick : Nat := 0x310001
/-- RiffleEvaluations, U64, RO (R121). -/
abbrev riffleEvaluations : Nat := 0x310002
/-- RiffleWalkPasses, U64, RO (R121). -/
abbrev riffleWalkPasses : Nat := 0x310003
/-- PeerMessagesIgnored, U64, RO (R121). -/
abbrev peerMessagesIgnored : Nat := 0x310004
/-- PreparedCrcErrors, U64, RO (R121). -/
abbrev preparedCrcErrors : Nat := 0x310005
/-- CensusTimeoutTicks, U32, RW (R121). -/
abbrev censusTimeoutTicks : Nat := 0x310006
/-- RiffleWidth, U8, RO (R122). -/
abbrev riffleWidth : Nat := 0x311001
/-- TalonCount, U64, RO (R122). -/
abbrev talonCount : Nat := 0x311002
/-- IssuedPositions, U64, RO (R122). -/
abbrev issuedPositions : Nat := 0x311003
/-- FullBatches, U64, RO (R122). -/
abbrev fullBatches : Nat := 0x311004
/-- PartialBatchPositions, U32, RO (R122). -/
abbrev partialBatchPositions : Nat := 0x311005
/-- CensusState, U8, RO (R122). -/
abbrev censusState : Nat := 0x311006
/-- CensusEpoch, U16, RO (R122). -/
abbrev censusEpoch : Nat := 0x311007
/-- CensusDocuments, U64, RO (R122). -/
abbrev censusDocuments : Nat := 0x311008
/-- CensusTokens, U64, RO (R122). -/
abbrev censusTokens : Nat := 0x311009
/-- CensusSequences, U64, RO (R122). -/
abbrev censusSequences : Nat := 0x31100A
/-- CensusDigest, OCTETS[32], RO (R122). -/
abbrev censusDigest : Nat := 0x31100B
/-- CensusBytes, U64, RO (R122). -/
abbrev censusBytes : Nat := 0x31100C
/-- CensusRestarts, U32, RO (R122). -/
abbrev censusRestarts : Nat := 0x31100D
/-- Substitutions, U64, RO (R122). -/
abbrev substitutions : Nat := 0x31100E
/-- SubstituteClassSkips, U64, RO (R122). -/
abbrev substituteClassSkips : Nat := 0x31100F
/-- SubstitutesCorrupt, U64, RO (R122). -/
abbrev substitutesCorrupt : Nat := 0x311010
/-- MaskedSlots, U64, RO (R122). -/
abbrev maskedSlots : Nat := 0x311011
/-- ProbeEpoch, U16, RW (R122). -/
abbrev probeEpoch : Nat := 0x311012
/-- ProbePosition, U64, RW (R122). -/
abbrev probePosition : Nat := 0x311013
/-- ProbeSample, U64, RO (R122). -/
abbrev probeSample : Nat := 0x311014
/-- PackedBatches, U64, RO (R122). -/
abbrev packedBatches : Nat := 0x311015

/-! Objects of 05_dealers_decode.md. -/

/-- MaxDecodedBytes, U64, RWS (R153). -/
abbrev maxDecodedBytes : Nat := 0x320001
/-- DefaultWorkLimit, U64, RWS (R153). -/
abbrev defaultWorkLimit : Nat := 0x320002
/-- SlowLanePiers, U8, RWS (R153). -/
abbrev slowLanePiers : Nat := 0x320003
/-- BudgetFloorTicks, U32, RW (R153). -/
abbrev budgetFloorTicks : Nat := 0x320004
/-- DispatchLookahead, U32, RW (R153). -/
abbrev dispatchLookahead : Nat := 0x320005
/-- RelaxedGraceTicks, U32, RW (R153). -/
abbrev relaxedGraceTicks : Nat := 0x320006
/-- DefaultMaxRatio, U16, RW (R153). -/
abbrev defaultMaxRatio : Nat := 0x320007
/-- CacheCompressEnginesMin, U8, RW (R153). -/
abbrev cacheCompressEnginesMin : Nat := 0x320008
/-- ImageDealersPerTile, U8, CONST (R153). -/
abbrev imageDealersPerTile : Nat := 0x320101
/-- SignalDealersPerTile, U8, CONST (R153). -/
abbrev signalDealersPerTile : Nat := 0x320102
/-- DealerSparesPerKind, U8, CONST (R153). -/
abbrev dealerSparesPerKind : Nat := 0x320103
/-- ZstdEnginesPerTile, U8, CONST (R153). -/
abbrev zstdEnginesPerTile : Nat := 0x320104
/-- DealerMaxDimension, U16, CONST (R153). -/
abbrev dealerMaxDimension : Nat := 0x320105
/-- SlowLaneMaxDimension, U16, CONST (R153). -/
abbrev slowLaneMaxDimension : Nat := 0x320106
/-- ImageDealersInService, U8, RO (R154). -/
abbrev imageDealersInService : Nat := 0x321001
/-- SignalDealersInService, U8, RO (R154). -/
abbrev signalDealersInService : Nat := 0x321002
/-- ImageSparesLeft, U8, RO (R154). -/
abbrev imageSparesLeft : Nat := 0x321003
/-- SignalSparesLeft, U8, RO (R154). -/
abbrev signalSparesLeft : Nat := 0x321004
/-- ZstdEnginesInService, U8, RO (R154). -/
abbrev zstdEnginesInService : Nat := 0x321005
/-- ItemsDecoded, U64, RO (R154). -/
abbrev itemsDecoded : Nat := 0x321006
/-- PixelsDecoded, U64, RO (R154). -/
abbrev pixelsDecoded : Nat := 0x321007
/-- AudioFramesDecoded, U64, RO (R154). -/
abbrev audioFramesDecoded : Nat := 0x321008
/-- BytesDecompressed, U64, RO (R154). -/
abbrev bytesDecompressed : Nat := 0x321009
/-- Escalations, U64, RO (R154). -/
abbrev escalations : Nat := 0x32100A
/-- SlowLaneItems, U64, RO (R154). -/
abbrev slowLaneItems : Nat := 0x32100B
/-- DealerRetries, U64, RO (R154). -/
abbrev dealerRetries : Nat := 0x32100C
/-- OutputLimitRefusals, U64, RO (R154). -/
abbrev outputLimitRefusals : Nat := 0x32100D
/-- WorkLimitRefusals, U64, RO (R154). -/
abbrev workLimitRefusals : Nat := 0x32100E
/-- BufferWaitTicks, U64, RO (R154). -/
abbrev bufferWaitTicks : Nat := 0x32100F
/-- SlowLaneBusyTicks, U64, RO (R154). -/
abbrev slowLaneBusyTicks : Nat := 0x321010
/-- SlotItemsDecoded, U64, RO (R155). -/
abbrev slotItemsDecoded : Nat := 0x322001
/-- SlotEscalations, U64, RO (R155). -/
abbrev slotEscalations : Nat := 0x322002
/-- SlotSlowLaneItems, U64, RO (R155). -/
abbrev slotSlowLaneItems : Nat := 0x322003
/-- LateDeclared, U64, RO (R155). -/
abbrev lateDeclared : Nat := 0x322004
/-- LongestDecodeTicks, U64, RO (R155). -/
abbrev longestDecodeTicks : Nat := 0x322005
/-- BatchPeriodTicks, U64, RO (R155). -/
abbrev batchPeriodTicks : Nat := 0x322006
/-- LastDecodeReason, U16, RO (R155). -/
abbrev lastDecodeReason : Nat := 0x322007

/-! Objects of 06_warp_colour_signal.md. -/

/-- WarpEnginesPerTile, U8, CONST (R180). -/
abbrev warpEnginesPerTile : Nat := 0x330001
/-- MeshMaxVerticesPerAxis, U16, CONST (R180). -/
abbrev meshMaxVerticesPerAxis : Nat := 0x330002
/-- CoordFractionBits, U8, CONST (R180). -/
abbrev coordFractionBits : Nat := 0x330003
/-- ResampleTableDigest, OCTETS[32], CONST (R180). -/
abbrev resampleTableDigest : Nat := 0x330004
/-- ResampleTableEntries, U32, CONST (R180). -/
abbrev resampleTableEntries : Nat := 0x330005
/-- WarpEnginesInService, U8, RO (R181). -/
abbrev warpEnginesInService : Nat := 0x331001
/-- WarpPixelsOut, U64, RO (R181). -/
abbrev warpPixelsOut : Nat := 0x331002
/-- MeshVerticesComputed, U64, RO (R181). -/
abbrev meshVerticesComputed : Nat := 0x331003
/-- EdgeTaps, U64, RO (R181). -/
abbrev edgeTaps : Nat := 0x331004
/-- SignalFramesOut, U64, RO (R181). -/
abbrev signalFramesOut : Nat := 0x331005
/-- MelFramesOut, U64, RO (R181). -/
abbrev melFramesOut : Nat := 0x331006
/-- WarpRetries, U64, RO (R181). -/
abbrev warpRetries : Nat := 0x331007
/-- TransformInputErrors, U64, RO (R181). -/
abbrev transformInputErrors : Nat := 0x331008
/-- TransformBufferWaitTicks, U64, RO (R181). -/
abbrev transformBufferWaitTicks : Nat := 0x331009
/-- SlotImagesTransformed, U64, RO (R182). -/
abbrev slotImagesTransformed : Nat := 0x332001
/-- SlotSignalsTransformed, U64, RO (R182). -/
abbrev slotSignalsTransformed : Nat := 0x332002
/-- CropFallbacks, U64, RO (R182). -/
abbrev cropFallbacks : Nat := 0x332003
/-- AutoReduceLevels, U64, RO (R182). -/
abbrev autoReduceLevels : Nat := 0x332004
/-- LastTransformReason, U16, RO (R182). -/
abbrev lastTransformReason : Nat := 0x332005

/-! Objects of 07_sample_cache_and_shoe.md. -/

/-- CacheGddrBytes, U64, RWS (R209). -/
abbrev cacheGddrBytes : Nat := 0x340001
/-- CacheFlashBytes, U64, RWS (R209). -/
abbrev cacheFlashBytes : Nat := 0x340002
/-- CacheSegmentBytes, U32, CONST (R209). -/
abbrev cacheSegmentBytes : Nat := 0x340003
/-- CacheMaxEntryBytes, U32, RWS (R209). -/
abbrev cacheMaxEntryBytes : Nat := 0x340004
/-- CachePinMaxBytes, U64, RWS (R209). -/
abbrev cachePinMaxBytes : Nat := 0x340005
/-- CacheCompressLevel, U8, RW (R209). -/
abbrev cacheCompressLevel : Nat := 0x340006
/-- CachePromote, BOOL, RW (R209). -/
abbrev cachePromote : Nat := 0x340007
/-- CacheCommand, U8, WO (R209). -/
abbrev cacheCommand : Nat := 0x340008
/-- CachePurgeDigest, OCTETS[16], RW (R209). -/
abbrev cachePurgeDigest : Nat := 0x340009
/-- CacheGddrUsedBytes, U64, RO (R210). -/
abbrev cacheGddrUsedBytes : Nat := 0x341001
/-- CacheGddrPinnedBytes, U64, RO (R210). -/
abbrev cacheGddrPinnedBytes : Nat := 0x341002
/-- CacheFlashUsedBytes, U64, RO (R210). -/
abbrev cacheFlashUsedBytes : Nat := 0x341003
/-- CacheHitsGddr, U64, RO (R210). -/
abbrev cacheHitsGddr : Nat := 0x341004
/-- CacheHitsFlash, U64, RO (R210). -/
abbrev cacheHitsFlash : Nat := 0x341005
/-- CacheMisses, U64, RO (R210). -/
abbrev cacheMisses : Nat := 0x341006
/-- CacheFills, U64, RO (R210). -/
abbrev cacheFills : Nat := 0x341007
/-- CacheFillsSkipped, U64, RO (R210). -/
abbrev cacheFillsSkipped : Nat := 0x341008
/-- CacheEvictions, U64, RO (R210). -/
abbrev cacheEvictions : Nat := 0x341009
/-- CacheStoredRaw, U64, RO (R210). -/
abbrev cacheStoredRaw : Nat := 0x34100A
/-- CacheCorruptions, U64, RO (R210). -/
abbrev cacheCorruptions : Nat := 0x34100B
/-- CachePurgedEntries, U64, RO (R210). -/
abbrev cachePurgedEntries : Nat := 0x34100C
/-- CacheFlashWritesHeld, U64, RO (R210). -/
abbrev cacheFlashWritesHeld : Nat := 0x34100D
/-- CacheParamDigest, OCTETS[16], RO (R211). -/
abbrev cacheParamDigest : Nat := 0x342001
/-- SlotCacheHits, U64, RO (R211). -/
abbrev slotCacheHits : Nat := 0x342002
/-- SlotCacheMisses, U64, RO (R211). -/
abbrev slotCacheMisses : Nat := 0x342003
/-- SlotCacheFills, U64, RO (R211). -/
abbrev slotCacheFills : Nat := 0x342004
/-- ShoeSpaceBytes, U64, RWS (R212). -/
abbrev shoeSpaceBytes : Nat := 0x350001
/-- ShoeReservedBytes, U64, RO (R212). -/
abbrev shoeReservedBytes : Nat := 0x350002
/-- ShoeUsedBytes, U64, RO (R212). -/
abbrev shoeUsedBytes : Nat := 0x350003
/-- ConsumerStallTicks, U32, RW (R212). -/
abbrev consumerStallTicks : Nat := 0x350004
/-- CreditErrors, U64, RO (R212). -/
abbrev creditErrors : Nat := 0x350005
/-- ReleaseErrors, U64, RO (R212). -/
abbrev releaseErrors : Nat := 0x350006
/-- ConsumerStalls, U64, RO (R212). -/
abbrev consumerStalls : Nat := 0x350007
/-- ShoeReady, U16, RO (R213). -/
abbrev shoeReady : Nat := 0x351001
/-- ShoeAssembling, U16, RO (R213). -/
abbrev shoeAssembling : Nat := 0x351002
/-- LowWaterAlarm, BOOL, RO (R213). -/
abbrev lowWaterAlarm : Nat := 0x351003
/-- LowWaterAlarms, U64, RO (R213). -/
abbrev lowWaterAlarms : Nat := 0x351004
/-- LowWaterTicks, U64, RO (R213). -/
abbrev lowWaterTicks : Nat := 0x351005
/-- SliceBytesMax, U32, RO (R213). -/
abbrev sliceBytesMax : Nat := 0x351006
/-- ShoeNeedBytes, U64, RO (R213). -/
abbrev shoeNeedBytes : Nat := 0x351007
/-- PushStallTicks, U64, RO (R213). -/
abbrev pushStallTicks : Nat := 0x351008
/-- PullRegionAddress, U64, RO (R213). -/
abbrev pullRegionAddress : Nat := 0x351009
/-- PullRegionKey, U32, RO (R213). -/
abbrev pullRegionKey : Nat := 0x35100A
/-- PullSliceStride, U64, RO (R213). -/
abbrev pullSliceStride : Nat := 0x35100B
/-- BatchesAssembled, U64, RO (R213). -/
abbrev batchesAssembled : Nat := 0x35100C

/-! Objects of 08_text_tokens_and_generation_control.md. -/

/-- TokenizerEnginesPerTile, U8, CONST (R240). -/
abbrev tokenizerEnginesPerTile : Nat := 0x360001
/-- TokenizerEnginesInService, U8, RO (R240). -/
abbrev tokenizerEnginesInService : Nat := 0x360002
/-- VocabEntries, U8, CONST (R240). -/
abbrev vocabEntries : Nat := 0x360003
/-- VocabMaxTokens, U32, CONST (R240). -/
abbrev vocabMaxTokens : Nat := 0x360004
/-- VocabMaxTokenBytes, U8, CONST (R240). -/
abbrev vocabMaxTokenBytes : Nat := 0x360005
/-- VocabSramBytesPerTile, U32, CONST (R240). -/
abbrev vocabSramBytesPerTile : Nat := 0x360006
/-- VocabSramUsedBytes, U32, RO (R240). -/
abbrev vocabSramUsedBytes : Nat := 0x360007
/-- VocabImage, DOMAIN, RW (R240). -/
abbrev vocabImage : Nat := 0x360101
/-- VocabCommand, U8, WO (R240). -/
abbrev vocabCommand : Nat := 0x360102
/-- VocabSelect, OCTETS[32], RW (R240). -/
abbrev vocabSelect : Nat := 0x360103
/-- VocabLastReason, U16, RO (R240). -/
abbrev vocabLastReason : Nat := 0x360104
/-- VocabLoadedCount, U8, RO (R240). -/
abbrev vocabLoadedCount : Nat := 0x360105
/-- VocabState, U8, RO (R241). -/
abbrev vocabState : Nat := 0x361001
/-- VocabDigest, OCTETS[32], RO (R241). -/
abbrev vocabDigest : Nat := 0x361002
/-- VocabSize, U32, RO (R241). -/
abbrev vocabSize : Nat := 0x361003
/-- VocabLongest, U8, RO (R241). -/
abbrev vocabLongest : Nat := 0x361004
/-- VocabTableBytes, U32, RO (R241). -/
abbrev vocabTableBytes : Nat := 0x361005
/-- VocabUsers, U8, RO (R241). -/
abbrev vocabUsers : Nat := 0x361006
/-- TextItemsTokenized, U64, RO (R242). -/
abbrev textItemsTokenized : Nat := 0x362001
/-- TextBytesTokenized, U64, RO (R242). -/
abbrev textBytesTokenized : Nat := 0x362002
/-- TokensProduced, U64, RO (R242). -/
abbrev tokensProduced : Nat := 0x362003
/-- IllFormedSubparts, U64, RO (R242). -/
abbrev illFormedSubparts : Nat := 0x362004
/-- Utf16Conversions, U64, RO (R242). -/
abbrev utf16Conversions : Nat := 0x362005
/-- TruncatedItems, U64, RO (R242). -/
abbrev truncatedItems : Nat := 0x362006
/-- TokenizerRetries, U64, RO (R242). -/
abbrev tokenizerRetries : Nat := 0x362007
/-- SlotTextItems, U64, RO (R243). -/
abbrev slotTextItems : Nat := 0x363001
/-- SlotTokens, U64, RO (R243). -/
abbrev slotTokens : Nat := 0x363002
/-- SlotIllFormedSubparts, U64, RO (R243). -/
abbrev slotIllFormedSubparts : Nat := 0x363003
/-- SlotTruncatedItems, U64, RO (R243). -/
abbrev slotTruncatedItems : Nat := 0x363004
/-- SlotVocabEntry, U8, RO (R243). -/
abbrev slotVocabEntry : Nat := 0x363005
/-- LastTextReason, U16, RO (R243). -/
abbrev lastTextReason : Nat := 0x363006
/-- ControlImage, DOMAIN, RW (R244). -/
abbrev controlImage : Nat := 0x370001
/-- ControlCommand, U8, WO (R244). -/
abbrev controlCommand : Nat := 0x370002
/-- ControlSelect, OCTETS[32], RW (R244). -/
abbrev controlSelect : Nat := 0x370003
/-- ControlLastReason, U16, RO (R244). -/
abbrev controlLastReason : Nat := 0x370004
/-- ControlLoadedCount, U8, RO (R244). -/
abbrev controlLoadedCount : Nat := 0x370005
/-- ControlState, U8, RO (R244). -/
abbrev controlState : Nat := 0x371001
/-- ControlDigest, OCTETS[32], RO (R244). -/
abbrev controlDigest : Nat := 0x371002
/-- ControlVocabTag, OCTETS[8], RO (R244). -/
abbrev controlVocabTag : Nat := 0x371003
/-- StopStringCount, U8, RO (R244). -/
abbrev stopStringCount : Nat := 0x371004
/-- BannedCount, U32, RO (R244). -/
abbrev bannedCount : Nat := 0x371005
/-- ForcedCount, U16, RO (R244). -/
abbrev forcedCount : Nat := 0x371006
/-- AutomatonStates, U32, RO (R244). -/
abbrev automatonStates : Nat := 0x371007
/-- ControlBytes, U64, RO (R244). -/
abbrev controlBytes : Nat := 0x371008
/-- ControlUsers, U8, RO (R244). -/
abbrev controlUsers : Nat := 0x371009
/-- TokensDetokenized, U64, RO (R245). -/
abbrev tokensDetokenized : Nat := 0x374001
/-- DetokBytesEmitted, U64, RO (R245). -/
abbrev detokBytesEmitted : Nat := 0x374002
/-- ReplacementsEmitted, U64, RO (R245). -/
abbrev replacementsEmitted : Nat := 0x374003
/-- StopHits, U64, RO (R245). -/
abbrev stopHits : Nat := 0x374004
/-- MaskedSteps, U64, RO (R245). -/
abbrev maskedSteps : Nat := 0x374005
/-- ForcedTokens, U64, RO (R245). -/
abbrev forcedTokens : Nat := 0x374006
/-- ForcedAbandoned, U64, RO (R245). -/
abbrev forcedAbandoned : Nat := 0x374007
/-- DeadEnds, U64, RO (R245). -/
abbrev deadEnds : Nat := 0x374008

/-! Objects of 09_trestle_inference.md. -/

/-- TrestleRows, U16, CONST (R273). -/
abbrev trestleRows : Nat := 0x380001
/-- TrestleCols, U16, CONST (R273). -/
abbrev trestleCols : Nat := 0x380002
/-- TrestleSpareRowsLeft, U8, RO (R273). -/
abbrev trestleSpareRowsLeft : Nat := 0x380003
/-- TrestleSpareColsLeft, U8, RO (R273). -/
abbrev trestleSpareColsLeft : Nat := 0x380004
/-- TrestleState, U8, RO (R273). -/
abbrev trestleState : Nat := 0x380005
/-- InfSramBytes, U32, CONST (R273). -/
abbrev infSramBytes : Nat := 0x380006
/-- BundleAreaBytes, U64, RWS (R273). -/
abbrev bundleAreaBytes : Nat := 0x380007
/-- BundleAreaUsedBytes, U64, RO (R273). -/
abbrev bundleAreaUsedBytes : Nat := 0x380008
/-- CurationLogBytes, U64, RWS (R273). -/
abbrev curationLogBytes : Nat := 0x380009
/-- BundleImage, DOMAIN, RW (R273). -/
abbrev bundleImage : Nat := 0x380101
/-- BundleSourceObject, OCTETS[16], RW (R273). -/
abbrev bundleSourceObject : Nat := 0x380102
/-- BundleCommand, U8, WO (R273). -/
abbrev bundleCommand : Nat := 0x380103
/-- BundleSelect, OCTETS[32], RW (R273). -/
abbrev bundleSelect : Nat := 0x380104
/-- BundleLastReason, U16, RO (R273). -/
abbrev bundleLastReason : Nat := 0x380105
/-- BundleLoadedCount, U8, RO (R273). -/
abbrev bundleLoadedCount : Nat := 0x380106
/-- BundleState, U8, RO (R274). -/
abbrev bundleState : Nat := 0x381001
/-- BundleDigest, OCTETS[32], RO (R274). -/
abbrev bundleDigest : Nat := 0x381002
/-- BundleRole, U8, RO (R274). -/
abbrev bundleRole : Nat := 0x381003
/-- BundleBytes, U64, RO (R274). -/
abbrev bundleBytes : Nat := 0x381004
/-- BundleWorksetKib, U32, RO (R274). -/
abbrev bundleWorksetKib : Nat := 0x381005
/-- BundleOpCount, U32, RO (R274). -/
abbrev bundleOpCount : Nat := 0x381006
/-- BundleUsers, U8, RO (R274). -/
abbrev bundleUsers : Nat := 0x381007
/-- TrestleMacs, U64, RO (R275). -/
abbrev trestleMacs : Nat := 0x384001
/-- TrestleBusyTicks, U64, RO (R275). -/
abbrev trestleBusyTicks : Nat := 0x384002
/-- PassesRun, U64, RO (R275). -/
abbrev passesRun : Nat := 0x384003
/-- TrestleRetries, U64, RO (R275). -/
abbrev trestleRetries : Nat := 0x384004
/-- PierMatrixOperators, U64, RO (R275). -/
abbrev pierMatrixOperators : Nat := 0x384005
/-- GenerationSteps, U64, RO (R275). -/
abbrev generationSteps : Nat := 0x384006
/-- CurationResults, U64, RO (R275). -/
abbrev curationResults : Nat := 0x384007
/-- FilterRejections, U64, RO (R275). -/
abbrev filterRejections : Nat := 0x384008
/-- SlotCuratedItems, U64, RO (R276). -/
abbrev slotCuratedItems : Nat := 0x385001
/-- SlotGeneratedTokens, U64, RO (R276). -/
abbrev slotGeneratedTokens : Nat := 0x385002
/-- SlotFiltered, U64, RO (R276). -/
abbrev slotFiltered : Nat := 0x385003
/-- CurationLogAddress, U64, RO (R276). -/
abbrev curationLogAddress : Nat := 0x385004
/-- CurationLogKey, U32, RO (R276). -/
abbrev curationLogKey : Nat := 0x385005
/-- CurationLogHead, U64, RO (R276). -/
abbrev curationLogHead : Nat := 0x385006
/-- CurationLogRelease, U64, RW (R276). -/
abbrev curationLogRelease : Nat := 0x385007
/-- CurationLogFullTicks, U64, RO (R276). -/
abbrev curationLogFullTicks : Nat := 0x385008
/-- LastCurateReason, U16, RO (R276). -/
abbrev lastCurateReason : Nat := 0x385009

/-! Objects of 10_pier_kernels.md. -/

/-- KernelPiers, U8, RWS (R301). -/
abbrev kernelPiers : Nat := 0x3A0001
/-- KernelSpadMaxBytes, U32, CONST (R301). -/
abbrev kernelSpadMaxBytes : Nat := 0x3A0002
/-- KernelCodeMaxBytes, U32, CONST (R301). -/
abbrev kernelCodeMaxBytes : Nat := 0x3A0003
/-- KernelDataMaxBytes, U32, CONST (R301). -/
abbrev kernelDataMaxBytes : Nat := 0x3A0004
/-- KernelEntries, U8, CONST (R301). -/
abbrev kernelEntries : Nat := 0x3A0005
/-- KernelAbiVersion, U16, CONST (R301). -/
abbrev kernelAbiVersion : Nat := 0x3A0006
/-- KernelHandleMax, U8, CONST (R301). -/
abbrev kernelHandleMax : Nat := 0x3A0007
/-- KernelServiceInsns, U8, CONST (R301). -/
abbrev kernelServiceInsns : Nat := 0x3A0008
/-- KernelImage, DOMAIN, RW (R301). -/
abbrev kernelImage : Nat := 0x3A0101
/-- KernelCommand, U8, WO (R301). -/
abbrev kernelCommand : Nat := 0x3A0102
/-- KernelSelect, OCTETS[32], RW (R301). -/
abbrev kernelSelect : Nat := 0x3A0103
/-- KernelLastReason, U16, RO (R301). -/
abbrev kernelLastReason : Nat := 0x3A0104
/-- KernelLoadedCount, U8, RO (R301). -/
abbrev kernelLoadedCount : Nat := 0x3A0105
/-- KernelState, U8, RO (R302). -/
abbrev kernelState : Nat := 0x3A1001
/-- KernelDigest, OCTETS[32], RO (R302). -/
abbrev kernelDigest : Nat := 0x3A1002
/-- KernelClassMask, U8, RO (R302). -/
abbrev kernelClassMask : Nat := 0x3A1003
/-- KernelOutputForm, U8, RO (R302). -/
abbrev kernelOutputForm : Nat := 0x3A1004
/-- KernelFlags, U32, RO (R302). -/
abbrev kernelFlags : Nat := 0x3A1005
/-- KernelCodeBytes, U32, RO (R302). -/
abbrev kernelCodeBytes : Nat := 0x3A1006
/-- KernelSpadBytes, U32, RO (R302). -/
abbrev kernelSpadBytes : Nat := 0x3A1007
/-- KernelUsers, U8, RO (R302). -/
abbrev kernelUsers : Nat := 0x3A1008
/-- KernelPiersInService, U8, RO (R303). -/
abbrev kernelPiersInService : Nat := 0x3A3001
/-- KernelItems, U64, RO (R303). -/
abbrev kernelItems : Nat := 0x3A3002
/-- KernelInstructions, U64, RO (R303). -/
abbrev kernelInstructions : Nat := 0x3A3003
/-- KernelDmaBytes, U64, RO (R303). -/
abbrev kernelDmaBytes : Nat := 0x3A3004
/-- KernelTraps, U64, RO (R303). -/
abbrev kernelTraps : Nat := 0x3A3005
/-- KernelRetries, U64, RO (R303). -/
abbrev kernelRetries : Nat := 0x3A3006
/-- KernelLimitFailures, U64, RO (R303). -/
abbrev kernelLimitFailures : Nat := 0x3A3007
/-- KernelBufferWaitTicks, U64, RO (R303). -/
abbrev kernelBufferWaitTicks : Nat := 0x3A3008
/-- KernelBusyTicks, U64, RO (R303). -/
abbrev kernelBusyTicks : Nat := 0x3A3009
/-- SlotKernelItems, U64, RO (R304). -/
abbrev slotKernelItems : Nat := 0x3A4001
/-- SlotKernelRejects, U64, RO (R304). -/
abbrev slotKernelRejects : Nat := 0x3A4002
/-- SlotKernelFailures, U64, RO (R304). -/
abbrev slotKernelFailures : Nat := 0x3A4003
/-- SlotTimingReadKernels, U8, RO (R304). -/
abbrev slotTimingReadKernels : Nat := 0x3A4004
/-- LastKernelReason, U16, RO (R304). -/
abbrev lastKernelReason : Nat := 0x3A4005

/-! Objects of 11_gddr7_sram_buffer_pool.md. -/

/-- GddrInstalledBytes, U64, CONST (R327). -/
abbrev gddrInstalledBytes : Nat := 0x3C0001
/-- JobMemoryBytes, U64, RO (R327). -/
abbrev jobMemoryBytes : Nat := 0x3C0002
/-- ReserveBytes, U64, CONST (R327). -/
abbrev reserveBytes : Nat := 0x3C0003
/-- HeapBytes, U64, RO (R327). -/
abbrev heapBytes : Nat := 0x3C0004
/-- HeapUsedBytes, U64, RO (R327). -/
abbrev heapUsedBytes : Nat := 0x3C0005
/-- HeapMinBytes, U64, CONST (R327). -/
abbrev heapMinBytes : Nat := 0x3C0006
/-- ChannelsInService, U8, RO (R327). -/
abbrev channelsInService : Nat := 0x3C0007
/-- ChannelSpareFramesLeft, U32, RO (R327). -/
abbrev channelSpareFramesLeft : Nat := 0x3C0008
/-- RowRepairFramesLeft, U32, RO (R327). -/
abbrev rowRepairFramesLeft : Nat := 0x3C0009
/-- MemoryState, U8, RO (R327). -/
abbrev memoryState : Nat := 0x3C000A
/-- RetireChannel, U8, WO (R327). -/
abbrev retireChannel : Nat := 0x3C000B
/-- DamagedImages, U8, RO (R327). -/
abbrev damagedImages : Nat := 0x3C000C
/-- RetrainDeltaC, U8, RW (R327). -/
abbrev retrainDeltaC : Nat := 0x3C0101
/-- RetrainErrorLimit, U32, RW (R327). -/
abbrev retrainErrorLimit : Nat := 0x3C0102
/-- RetrainPeriodTicks, U64, RW (R327). -/
abbrev retrainPeriodTicks : Nat := 0x3C0103
/-- RetrainMaxConcurrent, U8, RW (R327). -/
abbrev retrainMaxConcurrent : Nat := 0x3C0104
/-- RowRepairThreshold, U16, RW (R327). -/
abbrev rowRepairThreshold : Nat := 0x3C0105
/-- RefreshHoldTicks, U16, CONST (R327). -/
abbrev refreshHoldTicks : Nat := 0x3C0106
/-- GddrCorrectedErrors, U64, RO (R328). -/
abbrev gddrCorrectedErrors : Nat := 0x3C0201
/-- GddrUncorrectedErrors, U64, RO (R328). -/
abbrev gddrUncorrectedErrors : Nat := 0x3C0202
/-- GddrLinkReplays, U64, RO (R328). -/
abbrev gddrLinkReplays : Nat := 0x3C0203
/-- RowRepairs, U64, RO (R328). -/
abbrev rowRepairs : Nat := 0x3C0204
/-- LostFrames, U64, RO (R328). -/
abbrev lostFrames : Nat := 0x3C0205
/-- HeapExhaustions, U64, RO (R328). -/
abbrev heapExhaustions : Nat := 0x3C0206
/-- BankStallCyclesInf, U64, RO (R328). -/
abbrev bankStallCyclesInf : Nat := 0x3C1001
/-- BankStallCyclesPl0, U64, RO (R328). -/
abbrev bankStallCyclesPl0 : Nat := 0x3C1002
/-- BankStallCyclesPl1, U64, RO (R328). -/
abbrev bankStallCyclesPl1 : Nat := 0x3C1003
/-- BankStallCyclesNet, U64, RO (R328). -/
abbrev bankStallCyclesNet : Nat := 0x3C1004
/-- BankStallCyclesMed, U64, RO (R328). -/
abbrev bankStallCyclesMed : Nat := 0x3C1005
/-- BankStallCyclesPier, U64, RO (R328). -/
abbrev bankStallCyclesPier : Nat := 0x3C1006
/-- SameWordMerges, U64, RO (R328). -/
abbrev sameWordMerges : Nat := 0x3C1007
/-- AgeOverrides, U64, RO (R328). -/
abbrev ageOverrides : Nat := 0x3C1008
/-- SramCorrected, U64, RO (R328). -/
abbrev sramCorrected : Nat := 0x3C1009
/-- ChannelState, U8, RO (R329). -/
abbrev channelState : Nat := 0x3C4001
/-- ChannelTemperature, I32, RO (R329). -/
abbrev channelTemperature : Nat := 0x3C4002
/-- ChannelHot, BOOL, RO (R329). -/
abbrev channelHot : Nat := 0x3C4003
/-- ChannelRetrains, U32, RO (R329). -/
abbrev channelRetrains : Nat := 0x3C4004
/-- ChannelLastTrainTick, U64, RO (R329). -/
abbrev channelLastTrainTick : Nat := 0x3C4005
/-- ChannelCorrected, U64, RO (R329). -/
abbrev channelCorrected : Nat := 0x3C4006
/-- ChannelUncorrected, U64, RO (R329). -/
abbrev channelUncorrected : Nat := 0x3C4007
/-- ChannelRowRepairs, U32, RO (R329). -/
abbrev channelRowRepairs : Nat := 0x3C4008
/-- BufferPoolBytes, U64, RWS (R330). -/
abbrev bufferPoolBytes : Nat := 0x3D0001
/-- BufferBytes, U32, CONST (R330). -/
abbrev bufferBytes : Nat := 0x3D0002
/-- PoolBuffers, U32, RO (R330). -/
abbrev poolBuffers : Nat := 0x3D0003
/-- FreeBuffers, U32, RO (R330). -/
abbrev freeBuffers : Nat := 0x3D0004
/-- PrefetchCacheHandles, U16, CONST (R330). -/
abbrev prefetchCacheHandles : Nat := 0x3D0005
/-- PrefetchCacheFill, U16, RO (R330). -/
abbrev prefetchCacheFill : Nat := 0x3D0006
/-- NodeCapacity, U16, CONST (R330). -/
abbrev nodeCapacity : Nat := 0x3D0007
/-- ReservesTotal, U32, RO (R330). -/
abbrev reservesTotal : Nat := 0x3D0008
/-- Allocations, U64, RO (R330). -/
abbrev allocations : Nat := 0x3D0101
/-- Frees, U64, RO (R330). -/
abbrev frees : Nat := 0x3D0102
/-- RefOperations, U64, RO (R330). -/
abbrev refOperations : Nat := 0x3D0103
/-- RefSaturations, U64, RO (R330). -/
abbrev refSaturations : Nat := 0x3D0104
/-- DoubleFrees, U64, RO (R330). -/
abbrev doubleFrees : Nat := 0x3D0105
/-- LastDoubleFreeHandle, U32, RO (R330). -/
abbrev lastDoubleFreeHandle : Nat := 0x3D0106
/-- LastDoubleFreeRequester, U8, RO (R330). -/
abbrev lastDoubleFreeRequester : Nat := 0x3D0107
/-- LinkCheckErrors, U64, RO (R330). -/
abbrev linkCheckErrors : Nat := 0x3D0108
/-- FreeListRebuilds, U64, RO (R330). -/
abbrev freeListRebuilds : Nat := 0x3D0109
/-- BuffersWithheld, U32, RO (R330). -/
abbrev buffersWithheld : Nat := 0x3D010A
/-- RequesterQuota, U32, RWS (R331). -/
abbrev requesterQuota : Nat := 0x3D4001
/-- RequesterReserve, U32, RWS (R331). -/
abbrev requesterReserve : Nat := 0x3D4002
/-- RequesterHeld, U32, RO (R331). -/
abbrev requesterHeld : Nat := 0x3D4003
/-- RequesterHighWater, U32, RO (R331). -/
abbrev requesterHighWater : Nat := 0x3D4004
/-- RequesterWaits, U64, RO (R331). -/
abbrev requesterWaits : Nat := 0x3D4005
/-- RequesterWaitTicks, U64, RO (R331). -/
abbrev requesterWaitTicks : Nat := 0x3D4006
/-- RequesterDoubleFrees, U64, RO (R331). -/
abbrev requesterDoubleFrees : Nat := 0x3D4007

/-! Objects of 12_flash_media.md. -/

/-- StoreState, U8, RO (R364). -/
abbrev storeState : Nat := 0x500001
/-- FlashCommand, U8, WO (R364). -/
abbrev flashCommand : Nat := 0x500002
/-- FlashLastReason, U16, RO (R364). -/
abbrev flashLastReason : Nat := 0x500003
/-- OverProvisionPermille, U16, RWS (R364). -/
abbrev overProvisionPermille : Nat := 0x500004
/-- DiesInService, U16, RO (R364). -/
abbrev diesInService : Nat := 0x500005
/-- DieIndicesOpen, U8, RO (R364). -/
abbrev dieIndicesOpen : Nat := 0x500006
/-- DataBytes, U64, RO (R364). -/
abbrev dataBytes : Nat := 0x500007
/-- UserBytes, U64, RO (R364). -/
abbrev userBytes : Nat := 0x500008
/-- UsedBytes, U64, RO (R364). -/
abbrev usedBytes : Nat := 0x500009
/-- FreeBands, U32, RO (R364). -/
abbrev freeBands : Nat := 0x50000A
/-- ObjectCount, U32, RO (R364). -/
abbrev objectCount : Nat := 0x50000B
/-- StoreTimeSeconds, U64, RO (R364). -/
abbrev storeTimeSeconds : Nat := 0x50000C
/-- FlushEnergyMicroJoules, U32, RO (R364). -/
abbrev flushEnergyMicroJoules : Nat := 0x50000D
/-- HoldUpGate, BOOL, RO (R364). -/
abbrev holdUpGate : Nat := 0x50000E
/-- NandProfile, DOMAIN, RWS (R364). -/
abbrev nandProfile : Nat := 0x50000F
/-- RebuildUnitsLeft, U64, RO (R364). -/
abbrev rebuildUnitsLeft : Nat := 0x500010
/-- ChannelCount, U8, CONST (R365). -/
abbrev channelCount : Nat := 0x500101
/-- DiesPerChannel, U8, RO (R365). -/
abbrev diesPerChannel : Nat := 0x500102
/-- PageBytes, U32, RO (R365). -/
abbrev pageBytes : Nat := 0x500103
/-- SpareBytes, U16, RO (R365). -/
abbrev spareBytes : Nat := 0x500104
/-- PlanesPerDie, U8, RO (R365). -/
abbrev planesPerDie : Nat := 0x500105
/-- PagesPerBlock, U16, RO (R365). -/
abbrev pagesPerBlock : Nat := 0x500106
/-- BlocksPerPlane, U16, RO (R365). -/
abbrev blocksPerPlane : Nat := 0x500107
/-- CellBits, U8, RO (R365). -/
abbrev cellBits : Nat := 0x500108
/-- InterfaceMode, U8, RO (R365). -/
abbrev interfaceMode : Nat := 0x500109
/-- TransferRateMTs, U16, RO (R365). -/
abbrev transferRateMTs : Nat := 0x50010A
/-- RatedEraseCount, U32, RO (R365). -/
abbrev ratedEraseCount : Nat := 0x50010B
/-- ObjectTableMax, U32, CONST (R365). -/
abbrev objectTableMax : Nat := 0x50010C
/-- GcStartFreeBands, U32, RW (R366). -/
abbrev gcStartFreeBands : Nat := 0x500201
/-- GcUrgentFreeBands, U32, RW (R366). -/
abbrev gcUrgentFreeBands : Nat := 0x500202
/-- WearSpreadLimit, U16, RW (R366). -/
abbrev wearSpreadLimit : Nat := 0x500203
/-- RelocateBitErrors, U16, RW (R366). -/
abbrev relocateBitErrors : Nat := 0x500204
/-- PatrolPagesPerSecond, U32, RW (R366). -/
abbrev patrolPagesPerSecond : Nat := 0x500205
/-- BackgroundSharePermille, U16, RW (R366). -/
abbrev backgroundSharePermille : Nat := 0x500206
/-- SuspendMinRunTicks, U32, RW (R366). -/
abbrev suspendMinRunTicks : Nat := 0x500207
/-- ProgramSuspendMax, U8, RW (R366). -/
abbrev programSuspendMax : Nat := 0x500208
/-- EraseSuspendMax, U8, RW (R366). -/
abbrev eraseSuspendMax : Nat := 0x500209
/-- JournalFlushTicks, U32, RW (R366). -/
abbrev journalFlushTicks : Nat := 0x50020A
/-- HoldUpCheckMaxAgeTicks, U32, RW (R366). -/
abbrev holdUpCheckMaxAgeTicks : Nat := 0x50020B
/-- HoldUpWaitLimitTicks, U64, RW (R366). -/
abbrev holdUpWaitLimitTicks : Nat := 0x50020C
/-- FlashReads, U64, RO (R367). -/
abbrev flashReads : Nat := 0x501001
/-- FlashPrograms, U64, RO (R367). -/
abbrev flashPrograms : Nat := 0x501002
/-- FlashErases, U64, RO (R367). -/
abbrev flashErases : Nat := 0x501003
/-- LdpcCorrectedBits, U64, RO (R367). -/
abbrev ldpcCorrectedBits : Nat := 0x501004
/-- SoftDecodes, U64, RO (R367). -/
abbrev softDecodes : Nat := 0x501005
/-- Reconstructions, U64, RO (R367). -/
abbrev reconstructions : Nat := 0x501006
/-- UncorrectableUnits, U64, RO (R367). -/
abbrev uncorrectableUnits : Nat := 0x501007
/-- GcBandsReclaimed, U64, RO (R367). -/
abbrev gcBandsReclaimed : Nat := 0x501008
/-- GcUnitsCopied, U64, RO (R367). -/
abbrev gcUnitsCopied : Nat := 0x501009
/-- WearLevelBands, U64, RO (R367). -/
abbrev wearLevelBands : Nat := 0x50100A
/-- RelocatedBands, U64, RO (R367). -/
abbrev relocatedBands : Nat := 0x50100B
/-- PatrolStripes, U64, RO (R367). -/
abbrev patrolStripes : Nat := 0x50100C
/-- ProgramFailures, U64, RO (R367). -/
abbrev programFailures : Nat := 0x50100D
/-- EraseFailures, U64, RO (R367). -/
abbrev eraseFailures : Nat := 0x50100E
/-- GrownBadBlocks, U64, RO (R367). -/
abbrev grownBadBlocks : Nat := 0x50100F
/-- Suspensions, U64, RO (R367). -/
abbrev suspensions : Nat := 0x501010
/-- MapCacheHits, U64, RO (R367). -/
abbrev mapCacheHits : Nat := 0x501011
/-- MapCacheMisses, U64, RO (R367). -/
abbrev mapCacheMisses : Nat := 0x501012
/-- HoldUpWaits, U64, RO (R367). -/
abbrev holdUpWaits : Nat := 0x501013
/-- SecureDiscards, U64, RO (R367). -/
abbrev secureDiscards : Nat := 0x501014
/-- DiscardResidueBlocks, U64, RO (R367). -/
abbrev discardResidueBlocks : Nat := 0x501015
/-- UncleanMounts, U64, RO (R367). -/
abbrev uncleanMounts : Nat := 0x501016
/-- MaxEraseCount, U32, RO (R367). -/
abbrev maxEraseCount : Nat := 0x501017
/-- MinEraseCount, U32, RO (R367). -/
abbrev minEraseCount : Nat := 0x501018
/-- ObjectSelect, OCTETS[16], RW (R368). -/
abbrev objectSelect : Nat := 0x502001
/-- ObjectCommand, U8, WO (R368). -/
abbrev objectCommand : Nat := 0x502002
/-- ObjectData, DOMAIN, RW (R368). -/
abbrev objectData : Nat := 0x502003
/-- ObjectAppendLength, U32, RW (R368). -/
abbrev objectAppendLength : Nat := 0x502004
/-- ObjectWindowAddress, U64, RO (R368). -/
abbrev objectWindowAddress : Nat := 0x502005
/-- ObjectWindowKey, U32, RO (R368). -/
abbrev objectWindowKey : Nat := 0x502006
/-- ObjectExpectedDigest, OCTETS[32], RW (R368). -/
abbrev objectExpectedDigest : Nat := 0x502007
/-- ObjectState, U8, RO (R368). -/
abbrev objectState : Nat := 0x502008
/-- ObjectLength, U64, RO (R368). -/
abbrev objectLength : Nat := 0x502009
/-- ObjectDigest, OCTETS[32], RO (R368). -/
abbrev objectDigest : Nat := 0x50200A
/-- ObjectLastReason, U16, RO (R368). -/
abbrev objectLastReason : Nat := 0x50200B
/-- ObjectsOpen, U8, RO (R368). -/
abbrev objectsOpen : Nat := 0x50200C
/-- DiscardBandsLeft, U32, RO (R368). -/
abbrev discardBandsLeft : Nat := 0x50200D
/-- ChannelDiesInService, U8, RO (R369). -/
abbrev channelDiesInService : Nat := 0x510001
/-- ChannelControllerState, U8, RO (R369). -/
abbrev channelControllerState : Nat := 0x510002
/-- ChannelReads, U64, RO (R369). -/
abbrev channelReads : Nat := 0x510003
/-- ChannelPrograms, U64, RO (R369). -/
abbrev channelPrograms : Nat := 0x510004
/-- ChannelErases, U64, RO (R369). -/
abbrev channelErases : Nat := 0x510005
/-- ChannelReadRetries, U64, RO (R369). -/
abbrev channelReadRetries : Nat := 0x510006
/-- ChannelBusyTicks, U64, RO (R369). -/
abbrev channelBusyTicks : Nat := 0x510007

/-! Objects of 13_rdma_and_sealed_connections.md. -/

/-- DeviceAddress, OCTETS[16], RWS (R404). -/
abbrev deviceAddress : Nat := 0x400001
/-- DeviceAddressV4, U32, RWS (R404). -/
abbrev deviceAddressV4 : Nat := 0x400002
/-- PortVlan, U16, RWS (R404). -/
abbrev portVlan : Nat := 0x400003
/-- PfcDataPriority, U8, RWS (R404). -/
abbrev pfcDataPriority : Nat := 0x400004
/-- PfcControlPriority, U8, RWS (R404). -/
abbrev pfcControlPriority : Nat := 0x400005
/-- ControlDscp, U8, RWS (R404). -/
abbrev controlDscp : Nat := 0x400006
/-- PeerDscp, U8, RWS (R404). -/
abbrev peerDscp : Nat := 0x400007
/-- HandshakePort, U16, RWS (R404). -/
abbrev handshakePort : Nat := 0x400008
/-- ServiceAdmissionKey, OCTETS[32], WO (R404). -/
abbrev serviceAdmissionKey : Nat := 0x400009
/-- ServiceConnectionsMax, U8, RWS (R404). -/
abbrev serviceConnectionsMax : Nat := 0x40000A
/-- MaxFrameBytes, U16, CONST (R404). -/
abbrev maxFrameBytes : Nat := 0x40000B
/-- PortGatewayMac, OCTETS[6], RWS (R404). -/
abbrev portGatewayMac : Nat := 0x40000C
/-- RetransmitTimeoutTicks, U32, RW (R405). -/
abbrev retransmitTimeoutTicks : Nat := 0x400101
/-- RetryLimit, U8, RW (R405). -/
abbrev retryLimit : Nat := 0x400102
/-- RnrRetryLimit, U8, RW (R405). -/
abbrev rnrRetryLimit : Nat := 0x400103
/-- ConnWindowPackets, U16, CONST (R405). -/
abbrev connWindowPackets : Nat := 0x400104
/-- ReorderTimeoutTicks, U32, RW (R405). -/
abbrev reorderTimeoutTicks : Nat := 0x400105
/-- AckCoalescePackets, U8, RW (R405). -/
abbrev ackCoalescePackets : Nat := 0x400106
/-- AckDelayTicks, U32, RW (R405). -/
abbrev ackDelayTicks : Nat := 0x400107
/-- ConnReceiveSlots, U8, RWS (R405). -/
abbrev connReceiveSlots : Nat := 0x400108
/-- ReadDepth, U8, RWS (R405). -/
abbrev readDepth : Nat := 0x400109
/-- RevokeDrainTicks, U32, RW (R405). -/
abbrev revokeDrainTicks : Nat := 0x40010A
/-- HandshakeRetryTicks, U32, RW (R405). -/
abbrev handshakeRetryTicks : Nat := 0x40010B
/-- HandshakeTimeoutTicks, U32, RW (R405). -/
abbrev handshakeTimeoutTicks : Nat := 0x40010C
/-- SealAuthLimit, U16, RW (R405). -/
abbrev sealAuthLimit : Nat := 0x40010D
/-- PfcXoffBytes, U32, RWS (R405). -/
abbrev pfcXoffBytes : Nat := 0x400201
/-- PfcXonBytes, U32, RWS (R405). -/
abbrev pfcXonBytes : Nat := 0x400202
/-- PfcWatchdogTicks, U32, RW (R405). -/
abbrev pfcWatchdogTicks : Nat := 0x400203
/-- PfcRecoveryTicks, U32, RW (R405). -/
abbrev pfcRecoveryTicks : Nat := 0x400204
/-- RxDataBufferBytes, U32, CONST (R405). -/
abbrev rxDataBufferBytes : Nat := 0x400205
/-- ConnectionsEstablished, U16, RO (R406). -/
abbrev connectionsEstablished : Nat := 0x401001
/-- RegionsRegistered, U32, RO (R406). -/
abbrev regionsRegistered : Nat := 0x401002
/-- HandshakeFailures, U64, RO (R406). -/
abbrev handshakeFailures : Nat := 0x401003
/-- FramesDiscarded, U64, RO (R406). -/
abbrev framesDiscarded : Nat := 0x401004
/-- IcrcErrors, U64, RO (R406). -/
abbrev icrcErrors : Nat := 0x401005
/-- CnpDiscarded, U64, RO (R406). -/
abbrev cnpDiscarded : Nat := 0x401006
/-- RemoteAccessErrors, U64, RO (R406). -/
abbrev remoteAccessErrors : Nat := 0x401007
/-- SealAuthFailures, U64, RO (R406). -/
abbrev sealAuthFailures : Nat := 0x401008
/-- SealReplays, U64, RO (R406). -/
abbrev sealReplays : Nat := 0x401009
/-- ReorderOverflows, U64, RO (R406). -/
abbrev reorderOverflows : Nat := 0x40100A
/-- SequenceNaksSent, U64, RO (R406). -/
abbrev sequenceNaksSent : Nat := 0x40100B
/-- RnrNaksReceived, U64, RO (R406). -/
abbrev rnrNaksReceived : Nat := 0x40100C
/-- PfcStorms, U64, RO (R406). -/
abbrev pfcStorms : Nat := 0x40100D
/-- PortState, U8, RO (R407). -/
abbrev portState : Nat := 0x402001
/-- PortBreakout, U8, RWS (R407). -/
abbrev portBreakout : Nat := 0x402002
/-- PortPhy, U8, RWS (R407). -/
abbrev portPhy : Nat := 0x402003
/-- PortRateGbps, U16, RO (R407). -/
abbrev portRateGbps : Nat := 0x402004
/-- PortConnections, U16, RO (R407). -/
abbrev portConnections : Nat := 0x402005
/-- PortTxBytes, U64, RO (R407). -/
abbrev portTxBytes : Nat := 0x402006
/-- PortRxBytes, U64, RO (R407). -/
abbrev portRxBytes : Nat := 0x402007
/-- PortPauseSent, U64, RO (R407). -/
abbrev portPauseSent : Nat := 0x402008
/-- PortPauseReceived, U64, RO (R407). -/
abbrev portPauseReceived : Nat := 0x402009
/-- PortFecCorrected, U64, RO (R407). -/
abbrev portFecCorrected : Nat := 0x40200A
/-- PortFecUncorrected, U64, RO (R407). -/
abbrev portFecUncorrected : Nat := 0x40200B
/-- JobAdmissionKey, OCTETS[32], WO (R408). -/
abbrev jobAdmissionKey : Nat := 0x410001
/-- OpenAdmission, BOOL, RO (R408). -/
abbrev openAdmission : Nat := 0x410002
/-- SlotConsumerConnections, U16, RO (R408). -/
abbrev slotConsumerConnections : Nat := 0x410003
/-- SlotPeerConnections, U16, RO (R408). -/
abbrev slotPeerConnections : Nat := 0x410004
/-- SlotReconnections, U64, RO (R408). -/
abbrev slotReconnections : Nat := 0x410005
/-- LastNetReason, U16, RO (R408). -/
abbrev lastNetReason : Nat := 0x410006
/-- ConnSelect, U16, RW (R409). -/
abbrev connSelect : Nat := 0x430001
/-- ConnState, U8, RO (R409). -/
abbrev connState : Nat := 0x430002
/-- ConnKind, U8, RO (R409). -/
abbrev connKind : Nat := 0x430003
/-- ConnSlot, U8, RO (R409). -/
abbrev connSlot : Nat := 0x430004
/-- ConnPeerAddress, OCTETS[16], RO (R409). -/
abbrev connPeerAddress : Nat := 0x430005
/-- ConnLocalQpn, U32, RO (R409). -/
abbrev connLocalQpn : Nat := 0x430006
/-- ConnRemoteQpn, U32, RO (R409). -/
abbrev connRemoteQpn : Nat := 0x430007
/-- ConnSealSpray, U8, RO (R409). -/
abbrev connSealSpray : Nat := 0x430008
/-- ConnPort, U8, RO (R409). -/
abbrev connPort : Nat := 0x430009
/-- ConnTxCounter, U64, RO (R409). -/
abbrev connTxCounter : Nat := 0x43000A
/-- ConnRetransmits, U64, RO (R409). -/
abbrev connRetransmits : Nat := 0x43000B
/-- ConnLastReason, U16, RO (R409). -/
abbrev connLastReason : Nat := 0x43000C

/-! Objects of 14_traffic_manager.md. -/

/-- ControlGuardFrames, U16, RW (R427). -/
abbrev controlGuardFrames : Nat := 0x480001
/-- PeerQuantumBytes, U32, RW (R427). -/
abbrev peerQuantumBytes : Nat := 0x480002
/-- ServiceQuantumBytes, U32, RW (R427). -/
abbrev serviceQuantumBytes : Nat := 0x480003
/-- PeerShaperProfile, U8, RWS (R427). -/
abbrev peerShaperProfile : Nat := 0x480004
/-- ServiceShaperProfile, U8, RWS (R427). -/
abbrev serviceShaperProfile : Nat := 0x480005
/-- PeerPolicerProfile, U8, RWS (R427). -/
abbrev peerPolicerProfile : Nat := 0x480006
/-- ServicePolicerProfile, U8, RWS (R427). -/
abbrev servicePolicerProfile : Nat := 0x480007
/-- ShaperResetDefault, U8, RW (R427). -/
abbrev shaperResetDefault : Nat := 0x480008
/-- PolicerColourDefault, U8, RWS (R427). -/
abbrev policerColourDefault : Nat := 0x480009
/-- PolicerRnrTimer, U8, RW (R427). -/
abbrev policerRnrTimer : Nat := 0x48000A
/-- RetransmitPromote, BOOL, RW (R427). -/
abbrev retransmitPromote : Nat := 0x48000B
/-- ShaperResets, U64, RO (R428). -/
abbrev shaperResets : Nat := 0x481001
/-- ShaperHoldTicks, U64, RO (R428). -/
abbrev shaperHoldTicks : Nat := 0x481002
/-- DscpRemarked, U64, RO (R428). -/
abbrev dscpRemarked : Nat := 0x481003
/-- MeteredGreen, U64, RO (R428). -/
abbrev meteredGreen : Nat := 0x481004
/-- MeteredYellow, U64, RO (R428). -/
abbrev meteredYellow : Nat := 0x481005
/-- MeteredRed, U64, RO (R428). -/
abbrev meteredRed : Nat := 0x481006
/-- PolicerRnrSent, U64, RO (R428). -/
abbrev policerRnrSent : Nat := 0x481007
/-- ShapeRateMbps, U32, RW (R429). -/
abbrev shapeRateMbps : Nat := 0x482001
/-- ShapeBurstBytes, U32, RW (R429). -/
abbrev shapeBurstBytes : Nat := 0x482002
/-- ShapeUsers, U16, RO (R429). -/
abbrev shapeUsers : Nat := 0x482003
/-- PolicerKind, U8, RW (R429). -/
abbrev policerKind : Nat := 0x484001
/-- PolicerCirMbps, U32, RW (R429). -/
abbrev policerCirMbps : Nat := 0x484002
/-- PolicerCbsBytes, U32, RW (R429). -/
abbrev policerCbsBytes : Nat := 0x484003
/-- PolicerEbsBytes, U32, RW (R429). -/
abbrev policerEbsBytes : Nat := 0x484004
/-- PolicerPirMbps, U32, RW (R429). -/
abbrev policerPirMbps : Nat := 0x484005
/-- PolicerPbsBytes, U32, RW (R429). -/
abbrev policerPbsBytes : Nat := 0x484006
/-- PolicerUsers, U16, RO (R429). -/
abbrev policerUsers : Nat := 0x484007
/-- SlotShaperProfile, U8, RW (R430). -/
abbrev slotShaperProfile : Nat := 0x490001
/-- SlotQuantumBytes, U32, RW (R430). -/
abbrev slotQuantumBytes : Nat := 0x490002
/-- SlotPolicerProfile, U8, RW (R430). -/
abbrev slotPolicerProfile : Nat := 0x490003
/-- SlotMeteredRed, U64, RO (R430). -/
abbrev slotMeteredRed : Nat := 0x490004
/-- SlotRnrSent, U64, RO (R430). -/
abbrev slotRnrSent : Nat := 0x490005
/-- LastTrafficReason, U16, RO (R430). -/
abbrev lastTrafficReason : Nat := 0x490006
/-- PortDataFramesSent, U64, RO (R430). -/
abbrev portDataFramesSent : Nat := 0x4A0001
/-- PortControlFramesSent, U64, RO (R430). -/
abbrev portControlFramesSent : Nat := 0x4A0002
/-- PortGuardGrants, U64, RO (R430). -/
abbrev portGuardGrants : Nat := 0x4A0003
/-- PortActiveQueues, U16, RO (R430). -/
abbrev portActiveQueues : Nat := 0x4A0004

/-! Objects of 15_faults_replay_abort.md. -/

/-- FaultLogEntries, U16, CONST (R456). -/
abbrev faultLogEntries : Nat := 0x700001
/-- FaultLogNext, U32, RO (R456). -/
abbrev faultLogNext : Nat := 0x700002
/-- FaultSelect, U32, RW (R456). -/
abbrev faultSelect : Nat := 0x700003
/-- FaultRecord, OCTETS[64], RO (R456). -/
abbrev faultRecord : Nat := 0x700004
/-- FaultLog, DOMAIN, RO (R456). -/
abbrev faultLog : Nat := 0x700005
/-- FaultMergeTicks, U32, RW (R456). -/
abbrev faultMergeTicks : Nat := 0x700006
/-- FaultRecordsLost, U64, RO (R456). -/
abbrev faultRecordsLost : Nat := 0x700007
/-- ItemRetryLimit, U8, RWS (R456). -/
abbrev itemRetryLimit : Nat := 0x700008
/-- ElementRetireFaults, U8, RWS (R456). -/
abbrev elementRetireFaults : Nat := 0x700009
/-- ItemHistoryBytes, U64, RWS (R456). -/
abbrev itemHistoryBytes : Nat := 0x70000A
/-- ReplacementLogBytes, U64, RWS (R456). -/
abbrev replacementLogBytes : Nat := 0x70000B
/-- FaultCount, U64, RO (R456). -/
abbrev faultCount : Nat := 0x700101
/-- MemberTimeoutTicks, U32, RW (R456). -/
abbrev memberTimeoutTicks : Nat := 0x701001
/-- KeepaliveTicks, U32, RW (R456). -/
abbrev keepaliveTicks : Nat := 0x701002
/-- AbortRepeatTicks, U32, CONST (R456). -/
abbrev abortRepeatTicks : Nat := 0x701003
/-- AbortActTicks, U32, CONST (R456). -/
abbrev abortActTicks : Nat := 0x701004
/-- AbortsRaised, U64, RO (R456). -/
abbrev abortsRaised : Nat := 0x701005
/-- AbortsReceived, U64, RO (R456). -/
abbrev abortsReceived : Nat := 0x701006
/-- AbortsLate, U64, RO (R456). -/
abbrev abortsLate : Nat := 0x701007
/-- AbortsIgnored, U64, RO (R456). -/
abbrev abortsIgnored : Nat := 0x701008
/-- StepState, U8, RO (R457). -/
abbrev stepState : Nat := 0x710001
/-- StepCommand, U8, WO (R457). -/
abbrev stepCommand : Nat := 0x710002
/-- ResumeTick, U64, RW (R457). -/
abbrev resumeTick : Nat := 0x710003
/-- ReplayEpoch, U16, RW (R457). -/
abbrev replayEpoch : Nat := 0x710004
/-- ResumeCorruptPolicy, U8, RW (R457). -/
abbrev resumeCorruptPolicy : Nat := 0x710005
/-- ExpectedMembershipDigest, OCTETS[32], RW (R457). -/
abbrev expectedMembershipDigest : Nat := 0x710006
/-- MembershipDigest, OCTETS[32], RO (R457). -/
abbrev membershipDigest : Nat := 0x710007
/-- MembersInStep, U16, RO (R457). -/
abbrev membersInStep : Nat := 0x710008
/-- ReplayGeneration, U16, RO (R457). -/
abbrev replayGeneration : Nat := 0x710009
/-- LastAbortCause, U16, RO (R457). -/
abbrev lastAbortCause : Nat := 0x71000A
/-- LastAbortRaiser, OCTETS[16], RO (R457). -/
abbrev lastAbortRaiser : Nat := 0x71000B
/-- LastAbortTick, U64, RO (R457). -/
abbrev lastAbortTick : Nat := 0x71000C
/-- LastAbortBatch, U64, RO (R457). -/
abbrev lastAbortBatch : Nat := 0x71000D
/-- LastAbortStream, U8, RO (R457). -/
abbrev lastAbortStream : Nat := 0x71000E
/-- StepLastReason, U16, RO (R457). -/
abbrev stepLastReason : Nat := 0x71000F
/-- HaltedTicks, U64, RO (R457). -/
abbrev haltedTicks : Nat := 0x710010
/-- ReplayUnrecorded, U64, RO (R457). -/
abbrev replayUnrecorded : Nat := 0x710011
/-- PlacementCollisions, U32, RO (R457). -/
abbrev placementCollisions : Nat := 0x710012
/-- ReplayBatch, U64, RW (R457). -/
abbrev replayBatch : Nat := 0x710021
/-- MemberOldUid, OCTETS[16], RW (R458). -/
abbrev memberOldUid : Nat := 0x714001
/-- MemberNewUid, OCTETS[16], RW (R458). -/
abbrev memberNewUid : Nat := 0x714002
/-- MemberNewAddress, OCTETS[16], RW (R458). -/
abbrev memberNewAddress : Nat := 0x714003
/-- MemberCommand, U8, WO (R458). -/
abbrev memberCommand : Nat := 0x714004
/-- MemberDomainKind, U8, RW (R458). -/
abbrev memberDomainKind : Nat := 0x714005
/-- MemberDomainValue, U16, RW (R458). -/
abbrev memberDomainValue : Nat := 0x714006
/-- PendingChanges, U16, RO (R458). -/
abbrev pendingChanges : Nat := 0x714007
/-- ReplacedNodes, U16, RO (R458). -/
abbrev replacedNodes : Nat := 0x714008
/-- HistorySelect, U64, RW (R459). -/
abbrev historySelect : Nat := 0x718001
/-- HistoryRecord, OCTETS[64], RO (R459). -/
abbrev historyRecord : Nat := 0x718002
/-- HistoryRing, DOMAIN, RO (R459). -/
abbrev historyRing : Nat := 0x718003
/-- HistoryRecords, U64, RO (R459). -/
abbrev historyRecords : Nat := 0x718004
/-- ReplacementsLogged, U64, RO (R459). -/
abbrev replacementsLogged : Nat := 0x718005
/-- ReplacementLogFull, U64, RO (R459). -/
abbrev replacementLogFull : Nat := 0x718006

/-! Objects of 16_boot_identity_firmware.md. -/

/-- BootState, U8, RO (R481). -/
abbrev bootState : Nat := 0x800001
/-- BootCause, U8, RO (R481). -/
abbrev bootCause : Nat := 0x800002
/-- FwVersionMajor, U16, RO (R481). -/
abbrev fwVersionMajor : Nat := 0x800003
/-- FwVersionMinor, U16, RO (R481). -/
abbrev fwVersionMinor : Nat := 0x800004
/-- FwVersionPatch, U16, RO (R481). -/
abbrev fwVersionPatch : Nat := 0x800005
/-- FwSecurityVersion, U16, RO (R481). -/
abbrev fwSecurityVersion : Nat := 0x800006
/-- FuseSecurityVersion, U8, RO (R481). -/
abbrev fuseSecurityVersion : Nat := 0x800007
/-- FwImageDigest, OCTETS[32], RO (R481). -/
abbrev fwImageDigest : Nat := 0x800008
/-- RootKeySlot, U8, RO (R481). -/
abbrev rootKeySlot : Nat := 0x800009
/-- RootKeyRevoked, U8, RO (R481). -/
abbrev rootKeyRevoked : Nat := 0x80000A
/-- BootFailStreak, U8, RO (R481). -/
abbrev bootFailStreak : Nat := 0x80000B
/-- RecoveryAttempts, U32, RO (R481). -/
abbrev recoveryAttempts : Nat := 0x80000C
/-- RecoveryFault, U8, RO (R481). -/
abbrev recoveryFault : Nat := 0x80000D
/-- BootFlashBytes, U64, RO (R481). -/
abbrev bootFlashBytes : Nat := 0x80000E
/-- BootFlashId, OCTETS[3], RO (R481). -/
abbrev bootFlashId : Nat := 0x80000F
/-- FwImage, DOMAIN, RW (R481). -/
abbrev fwImage : Nat := 0x800101
/-- FwSourceObject, OCTETS[16], RW (R481). -/
abbrev fwSourceObject : Nat := 0x800102
/-- FwCommand, U8, WO (R481). -/
abbrev fwCommand : Nat := 0x800103
/-- FwState, U8, RO (R481). -/
abbrev fwState : Nat := 0x800104
/-- FwLastResult, U8, RO (R481). -/
abbrev fwLastResult : Nat := 0x800105
/-- FwStagedDigest, OCTETS[32], RO (R481). -/
abbrev fwStagedDigest : Nat := 0x800106
/-- FwStagedVersion, U64, RO (R481). -/
abbrev fwStagedVersion : Nat := 0x800107
/-- FwInstallProgress, U32, RO (R481). -/
abbrev fwInstallProgress : Nat := 0x800108
/-- IdentityState, U8, RO (R482). -/
abbrev identityState : Nat := 0x801001
/-- IdentityIndex, U64, RO (R482). -/
abbrev identityIndex : Nat := 0x801002
/-- IdentityIndexesLeft, U64, RO (R482). -/
abbrev identityIndexesLeft : Nat := 0x801003
/-- BindingCount, U8, RO (R482). -/
abbrev bindingCount : Nat := 0x801004
/-- IdentityPublicKey, OCTETS[68], CONST (R482). -/
abbrev identityPublicKey : Nat := 0x801005
/-- IdentityCertificate, DOMAIN, RO (R482). -/
abbrev identityCertificate : Nat := 0x801006
/-- BootCertificate, DOMAIN, RO (R482). -/
abbrev bootCertificate : Nat := 0x801007
/-- KemCredential, DOMAIN, RO (R482). -/
abbrev kemCredential : Nat := 0x801008
/-- BootKeyIndexesLeft, U32, RO (R482). -/
abbrev bootKeyIndexesLeft : Nat := 0x801009
/-- VendorRootKey, OCTETS[68], CONST (R482). -/
abbrev vendorRootKey : Nat := 0x801101
/-- QuoteNonce, OCTETS[32], RW (R484). -/
abbrev quoteNonce : Nat := 0x802001
/-- QuoteCommand, U8, WO (R484). -/
abbrev quoteCommand : Nat := 0x802002
/-- Quote, DOMAIN, RO (R484). -/
abbrev quote : Nat := 0x802003
/-- QuoteLastResult, U8, RO (R484). -/
abbrev quoteLastResult : Nat := 0x802004
/-- QuotesIssued, U32, RO (R484). -/
abbrev quotesIssued : Nat := 0x802005
/-- MeasureValue, OCTETS[32], RW (R484). -/
abbrev measureValue : Nat := 0x802006
/-- MeasureCommand, U8, WO (R484). -/
abbrev measureCommand : Nat := 0x802007
/-- Measurement, OCTETS[32], RO (R484). -/
abbrev measurement : Nat := 0x802101
/-- RevokedUidCount, U16, RO (R485). -/
abbrev revokedUidCount : Nat := 0x803001
/-- RevokeUid, OCTETS[16], RW (R485). -/
abbrev revokeUid : Nat := 0x803002
/-- RevokeCommand, U8, WO (R485). -/
abbrev revokeCommand : Nat := 0x803003
/-- RevokedUids, DOMAIN, RO (R485). -/
abbrev revokedUids : Nat := 0x803004
/-- SecurityCommand, U8, WO (R483). -/
abbrev securityCommand : Nat := 0x80100A

/-! Objects of 17_bilyen_bus.md. -/

/-- BusAddress, U8, RO (R508). -/
abbrev busAddress : Nat := 0x110001
/-- BusAddressState, U8, RO (R508). -/
abbrev busAddressState : Nat := 0x110002
/-- ChainPosition, U8, RO (R508). -/
abbrev chainPosition : Nat := 0x110003
/-- ChainLength, U8, RO (R508). -/
abbrev chainLength : Nat := 0x110004
/-- ChainInLevel, BOOL, RO (R508). -/
abbrev chainInLevel : Nat := 0x110005
/-- ChainBroken, BOOL, RO (R508). -/
abbrev chainBroken : Nat := 0x110006
/-- BusNominalRate, U32, CONST (R508). -/
abbrev busNominalRate : Nat := 0x110101
/-- BusDataRate, U32, RW (R508). -/
abbrev busDataRate : Nat := 0x110102
/-- BdpTimeoutTicks, U32, RW (R508). -/
abbrev bdpTimeoutTicks : Nat := 0x110103
/-- BlockFrames, U8, RW (R508). -/
abbrev blockFrames : Nat := 0x110104
/-- EventMask, U8, RW (R508). -/
abbrev eventMask : Nat := 0x110105
/-- EventRepeatTicks, U32, RW (R508). -/
abbrev eventRepeatTicks : Nat := 0x110106
/-- WalkSettleTicks, U32, CONST (R508). -/
abbrev walkSettleTicks : Nat := 0x110107
/-- ClaimHoldTicks, U32, CONST (R508). -/
abbrev claimHoldTicks : Nat := 0x110108
/-- BdpLastAbort, U16, RO (R508). -/
abbrev bdpLastAbort : Nat := 0x110109
/-- BusFramesReceived, U64, RO (R509). -/
abbrev busFramesReceived : Nat := 0x111001
/-- BusFramesSent, U64, RO (R509). -/
abbrev busFramesSent : Nat := 0x111002
/-- BusFramesDiscarded, U64, RO (R509). -/
abbrev busFramesDiscarded : Nat := 0x111003
/-- BusErrorFrames, U64, RO (R509). -/
abbrev busErrorFrames : Nat := 0x111004
/-- BusOffCount, U32, RO (R509). -/
abbrev busOffCount : Nat := 0x111005
/-- TransmitErrorCount, U8, RO (R509). -/
abbrev transmitErrorCount : Nat := 0x111006
/-- ReceiveErrorCount, U8, RO (R509). -/
abbrev receiveErrorCount : Nat := 0x111007
/-- TransfersCompleted, U64, RO (R509). -/
abbrev transfersCompleted : Nat := 0x111008
/-- TransfersAborted, U64, RO (R509). -/
abbrev transfersAborted : Nat := 0x111009
/-- EventsSent, U64, RO (R509). -/
abbrev eventsSent : Nat := 0x11100A
/-- EventsLost, U64, RO (R509). -/
abbrev eventsLost : Nat := 0x11100B
/-- WalksSeen, U32, RO (R509). -/
abbrev walksSeen : Nat := 0x11100C
/-- AddressConflicts, U32, RO (R509). -/
abbrev addressConflicts : Nat := 0x11100D

/-! Objects of 18_object_dictionary_reference.md. -/

/-- VendorName, STR, CONST (R520). -/
abbrev vendorName : Nat := 0x100001
/-- FamilyName, STR, CONST (R520). -/
abbrev familyName : Nat := 0x100002
/-- ProductName, STR, CONST (R520). -/
abbrev productName : Nat := 0x100003
/-- PartNumber, STR, CONST (R520). -/
abbrev partNumber : Nat := 0x100004
/-- OrderingCode, STR, CONST (R520). -/
abbrev orderingCode : Nat := 0x100005
/-- Stepping, U8, CONST (R520). -/
abbrev stepping : Nat := 0x100006
/-- PackageCode, STR, CONST (R520). -/
abbrev packageCode : Nat := 0x100007
/-- DeviceUid, OCTETS[16], CONST (R520). -/
abbrev deviceUid : Nat := 0x100008
/-- SerialNumber, STR, CONST (R520). -/
abbrev serialNumber : Nat := 0x100009
/-- ManufactureSeconds, U64, CONST (R520). -/
abbrev manufactureSeconds : Nat := 0x10000A
/-- MacAddressBase, OCTETS[6], CONST (R520). -/
abbrev macAddressBase : Nat := 0x10000B
/-- MacAddressCount, U8, CONST (R520). -/
abbrev macAddressCount : Nat := 0x10000C
/-- DictionaryVersion, U16, CONST (R520). -/
abbrev dictionaryVersion : Nat := 0x10000D
/-- DictionaryMapDigest, OCTETS[32], RO (R520). -/
abbrev dictionaryMapDigest : Nat := 0x10000E
/-- DescribeIndex, U16, RW (R522). -/
abbrev describeIndex : Nat := 0x102001
/-- DescribeSub, U8, RW (R522). -/
abbrev describeSub : Nat := 0x102002
/-- Description, OCTETS[16], RO (R522). -/
abbrev description : Nat := 0x102003
/-- DictionaryMap, DOMAIN, RO (R522). -/
abbrev dictionaryMap : Nat := 0x102004
/-- PersistCommand, U8, WO (R523). -/
abbrev persistCommand : Nat := 0x101001
/-- PersistPending, U16, RO (R523). -/
abbrev persistPending : Nat := 0x101002
/-- PersistRecords, U32, RO (R523). -/
abbrev persistRecords : Nat := 0x101003
/-- PersistFreeBytes, U32, RO (R523). -/
abbrev persistFreeBytes : Nat := 0x101004
/-- PersistCompactions, U32, RO (R523). -/
abbrev persistCompactions : Nat := 0x101005
/-- PersistErrors, U32, RO (R523). -/
abbrev persistErrors : Nat := 0x101006

/-! Objects of 19_counters.md. -/

/-- CounterBanks, U8, CONST (R534). -/
abbrev counterBanks : Nat := 0x600001
/-- CountersTotal, U16, CONST (R534). -/
abbrev countersTotal : Nat := 0x600002
/-- SnapshotTicks, U32, RW (R534). -/
abbrev snapshotTicks : Nat := 0x600003
/-- SnapshotEnable, BOOL, RW (R534). -/
abbrev snapshotEnable : Nat := 0x600004
/-- SnapshotSeq, U64, RO (R534). -/
abbrev snapshotSeq : Nat := 0x600005
/-- SnapshotRingEntries, U16, CONST (R534). -/
abbrev snapshotRingEntries : Nat := 0x600006
/-- SnapshotSelect, U64, RW (R534). -/
abbrev snapshotSelect : Nat := 0x600007
/-- Snapshot, DOMAIN, RO (R534). -/
abbrev snapshot : Nat := 0x600008
/-- SnapshotRing, DOMAIN, RO (R534). -/
abbrev snapshotRing : Nat := 0x600009
/-- SnapshotRecordBytes, U16, CONST (R534). -/
abbrev snapshotRecordBytes : Nat := 0x60000A
/-- SnapshotLatencyTicks, U32, CONST (R534). -/
abbrev snapshotLatencyTicks : Nat := 0x60000B
/-- SnapshotsMissed, U64, RO (R534). -/
abbrev snapshotsMissed : Nat := 0x60000C
/-- BandwidthWindowSnapshots, U8, RW (R534). -/
abbrev bandwidthWindowSnapshots : Nat := 0x60000D
/-- CounterCommand, U8, WO (R534). -/
abbrev counterCommand : Nat := 0x60000E
/-- BankCounters, U8, CONST (R535). -/
abbrev bankCounters : Nat := 0x601001
/-- BankClockDomain, U8, CONST (R535). -/
abbrev bankClockDomain : Nat := 0x601002
/-- BankOverflows, U64, RO (R535). -/
abbrev bankOverflows : Nat := 0x601003
/-- CounterControl, U32, RW (R535). -/
abbrev counterControl : Nat := 0x610001
/-- CounterValue, U32, RW (R535). -/
abbrev counterValue : Nat := 0x610002
/-- CounterValue64, U64, RO (R535). -/
abbrev counterValue64 : Nat := 0x610003
/-- CounterOverflowed, BOOL, RO (R535). -/
abbrev counterOverflowed : Nat := 0x610004
/-- PortTxDataMbps, U32, RO (R536). -/
abbrev portTxDataMbps : Nat := 0x640001
/-- PortTxWirePermille, U16, RO (R536). -/
abbrev portTxWirePermille : Nat := 0x640002
/-- PortRxDataMbps, U32, RO (R536). -/
abbrev portRxDataMbps : Nat := 0x640003
/-- PortRxWirePermille, U16, RO (R536). -/
abbrev portRxWirePermille : Nat := 0x640004
/-- PortWindowTicks, U64, RO (R536). -/
abbrev portWindowTicks : Nat := 0x640005

/-! Objects of 20_selftest_repair_ageing.md. -/

/-- SelftestState, U8, RO (R552). -/
abbrev selftestState : Nat := 0x740001
/-- SelftestCommand, U8, WO (R552). -/
abbrev selftestCommand : Nat := 0x740002
/-- SelftestIslandMask, U32, RW (R552). -/
abbrev selftestIslandMask : Nat := 0x740003
/-- SelftestArrayMask, U8, RW (R552). -/
abbrev selftestArrayMask : Nat := 0x740004
/-- LbistPatterns, U32, RW (R552). -/
abbrev lbistPatterns : Nat := 0x740005
/-- LbistVoltageOffsetMv, I32, RW (R552). -/
abbrev lbistVoltageOffsetMv : Nat := 0x740006
/-- LbistParallel, U8, RW (R552). -/
abbrev lbistParallel : Nat := 0x740007
/-- StartupSelftest, U8, RW (R552). -/
abbrev startupSelftest : Nat := 0x740008
/-- StartupLbistPatterns, U32, RW (R552). -/
abbrev startupLbistPatterns : Nat := 0x740009
/-- MarchPreserveCycles, U32, RW (R552). -/
abbrev marchPreserveCycles : Nat := 0x74000A
/-- SelftestLastResult, U8, RO (R552). -/
abbrev selftestLastResult : Nat := 0x74000B
/-- LbistLastFailIsland, U8, RO (R552). -/
abbrev lbistLastFailIsland : Nat := 0x74000C
/-- SelftestRuns, U64, RO (R552). -/
abbrev selftestRuns : Nat := 0x74000D
/-- LbistPartitions, U16, CONST (R553). -/
abbrev lbistPartitions : Nat := 0x741101
/-- LbistChainFlops, U16, CONST (R553). -/
abbrev lbistChainFlops : Nat := 0x741102
/-- LbistFailedPartitions, U16, RO (R553). -/
abbrev lbistFailedPartitions : Nat := 0x741103
/-- LbistLastTick, U64, RO (R553). -/
abbrev lbistLastTick : Nat := 0x741104
/-- MarchLastTick, U64, RO (R553). -/
abbrev marchLastTick : Nat := 0x744001
/-- MarchBadRows, U32, RO (R553). -/
abbrev marchBadRows : Nat := 0x744002
/-- MarchSpareRowsMin, U8, RO (R553). -/
abbrev marchSpareRowsMin : Nat := 0x744003
/-- RepairFuseEntries, U16, CONST (R554). -/
abbrev repairFuseEntries : Nat := 0x750001
/-- RepairFusesUsed, U16, RO (R554). -/
abbrev repairFusesUsed : Nat := 0x750002
/-- RepairFuseMap, DOMAIN, RO (R554). -/
abbrev repairFuseMap : Nat := 0x750003
/-- RepairJournal, DOMAIN, RO (R554). -/
abbrev repairJournal : Nat := 0x750004
/-- RepairJournalDropped, U32, RO (R554). -/
abbrev repairJournalDropped : Nat := 0x750005
/-- FuseBurnEnable, BOOL, RW (R554). -/
abbrev fuseBurnEnable : Nat := 0x750006
/-- FuseBurnFailures, U32, RO (R554). -/
abbrev fuseBurnFailures : Nat := 0x750007
/-- SoftRepairs, U32, RO (R554). -/
abbrev softRepairs : Nat := 0x750008
/-- RepairConflicts, U32, RO (R554). -/
abbrev repairConflicts : Nat := 0x750009
/-- PlanIntervalTicks, U64, RW (R555). -/
abbrev planIntervalTicks : Nat := 0x760001
/-- TargetSlackPs, U16, RW (R555). -/
abbrev targetSlackPs : Nat := 0x760002
/-- FloorSlackPs, U16, RW (R555). -/
abbrev floorSlackPs : Nat := 0x760003
/-- AgeingState, U8, RO (R555). -/
abbrev ageingState : Nat := 0x760004
/-- PlannerCommand, U8, WO (R555). -/
abbrev plannerCommand : Nat := 0x760005
/-- VoltageRaises, U32, RO (R555). -/
abbrev voltageRaises : Nat := 0x760006
/-- VoltageLowers, U32, RO (R555). -/
abbrev voltageLowers : Nat := 0x760007
/-- RailPlannedMv, U16, RO (R555). -/
abbrev railPlannedMv : Nat := 0x761001
/-- RailMinMv, U16, CONST (R555). -/
abbrev railMinMv : Nat := 0x761002
/-- RailMaxMv, U16, CONST (R555). -/
abbrev railMaxMv : Nat := 0x761003
/-- PathDelayPs, U16, RO (R555). -/
abbrev pathDelayPs : Nat := 0x764101
/-- BaselineDelayPs, U16, CONST (R555). -/
abbrev baselineDelayPs : Nat := 0x764102
/-- SlackPs, I32, RO (R555). -/
abbrev slackPs : Nat := 0x764103
/-- AgeingPs, I32, RO (R555). -/
abbrev ageingPs : Nat := 0x764104

/-! Objects of 21_signals_power_package.md. -/

/-- PowerState, U8, RO (R579). -/
abbrev powerState : Nat := 0x180001
/-- PowerCommand, U8, WO (R579). -/
abbrev powerCommand : Nat := 0x180002
/-- PowerLastResult, U8, RO (R579). -/
abbrev powerLastResult : Nat := 0x180003
/-- PowerInputW, U32, RO (R579). -/
abbrev powerInputW : Nat := 0x180004
/-- PowerPeakW, U32, RO (R579). -/
abbrev powerPeakW : Nat := 0x180005
/-- PowerPollTicks, U32, RW (R579). -/
abbrev powerPollTicks : Nat := 0x180006
/-- PowerOverTdpTicks, U64, RO (R579). -/
abbrev powerOverTdpTicks : Nat := 0x180007
/-- RetainSramMv, U16, RW (R579). -/
abbrev retainSramMv : Nat := 0x180008
/-- AvsClockKhz, U32, RWS (R579). -/
abbrev avsClockKhz : Nat := 0x180009
/-- RetainEntries, U32, RO (R579). -/
abbrev retainEntries : Nat := 0x18000A
/-- TdpWatts, U16, CONST (R579). -/
abbrev tdpWatts : Nat := 0x18000B
/-- HoldUpState, U8, RO (R580). -/
abbrev holdUpState : Nat := 0x180101
/-- HoldUpCommand, U8, WO (R580). -/
abbrev holdUpCommand : Nat := 0x180102
/-- HoldUpVolts, U32, RO (R580). -/
abbrev holdUpVolts : Nat := 0x180103
/-- HoldUpCapacitanceUf, U32, RO (R580). -/
abbrev holdUpCapacitanceUf : Nat := 0x180104
/-- HoldUpEsrMilliohms, U32, RO (R580). -/
abbrev holdUpEsrMilliohms : Nat := 0x180105
/-- HoldUpEnergyMicroJoules, U32, RO (R580). -/
abbrev holdUpEnergyMicroJoules : Nat := 0x180106
/-- HoldUpLastTestTick, U64, RO (R580). -/
abbrev holdUpLastTestTick : Nat := 0x180107
/-- HoldUpDividerRatio, U16, RWS (R580). -/
abbrev holdUpDividerRatio : Nat := 0x180108
/-- HoldUpLoadOhms, U16, RWS (R580). -/
abbrev holdUpLoadOhms : Nat := 0x180109
/-- HoldUpTestTicks, U32, RWS (R580). -/
abbrev holdUpTestTicks : Nat := 0x18010A
/-- HoldUpCapTicks, U64, RW (R580). -/
abbrev holdUpCapTicks : Nat := 0x18010B
/-- HoldUpMinMv, U32, RWS (R580). -/
abbrev holdUpMinMv : Nat := 0x18010C
/-- HoldUpEfficiencyPermille, U16, RWS (R580). -/
abbrev holdUpEfficiencyPermille : Nat := 0x18010D
/-- HoldUpMarginPermille, U16, RW (R580). -/
abbrev holdUpMarginPermille : Nat := 0x18010E
/-- HoldUpEsrMaxMilliohms, U32, RW (R580). -/
abbrev holdUpEsrMaxMilliohms : Nat := 0x18010F
/-- HoldUpTests, U32, RO (R580). -/
abbrev holdUpTests : Nat := 0x180110
/-- TempWarnC, U8, RW (R581). -/
abbrev tempWarnC : Nat := 0x180201
/-- TempShutdownC, U8, RW (R581). -/
abbrev tempShutdownC : Nat := 0x180202
/-- TempMaxC, I32, RO (R581). -/
abbrev tempMaxC : Nat := 0x180203
/-- ThermalWarnings, U32, RO (R581). -/
abbrev thermalWarnings : Nat := 0x180204
/-- TileSensorCount, U8, CONST (R581). -/
abbrev tileSensorCount : Nat := 0x181001
/-- TileTempC, I32, RO (R581). -/
abbrev tileTempC : Nat := 0x181002
/-- TileTempMaxC, I32, RO (R581). -/
abbrev tileTempMaxC : Nat := 0x181003
/-- RailName, STR, CONST (R582). -/
abbrev railName : Nat := 0x182001
/-- RailPmbusAddress, U8, RWS (R582). -/
abbrev railPmbusAddress : Nat := 0x182002
/-- RailVoutMv, U32, RO (R582). -/
abbrev railVoutMv : Nat := 0x182003
/-- RailIoutMa, U32, RO (R582). -/
abbrev railIoutMa : Nat := 0x182004
/-- RailPoutMw, U32, RO (R582). -/
abbrev railPoutMw : Nat := 0x182005
/-- RailStatusWord, U16, RO (R582). -/
abbrev railStatusWord : Nat := 0x182006
/-- RailFaults, U32, RO (R582). -/
abbrev railFaults : Nat := 0x182007

end Sys2Proof.Machine.Obj
end

