-- ==== Sys2Proof/Machine/Catalogue.lean ====
section
/-! DEFINITION. The object dictionary as the spec's tables give it: for every object its key, how many instances
it has, its type (R512), access (R513), range and persistence (R516). The rows are the tables of
the owning chapters; the parts that differ from instance to instance stand in the functions after them. -/

namespace Sys2Proof.Machine

/-- The types of R512. -/
inductive ObjType where
  | bool | u8 | u16 | u32 | u64 | i32 | i64 | f32
  | str (max : Nat)
  | octets (n : Nat)
  | domain (max : Nat)
deriving DecidableEq, Repr

/-- The access kinds of R513. -/
inductive Access where
  | ro | rw | wo | rws | const
deriving DecidableEq, Repr

/-- A range of a dictionary table: any value of the type, one span, multiples within a span, or several spans. A
range that names another object is checked by `relationOk` (Machine/Dictionary.lean). -/
inductive ObjRange where
  | any
  | span (lo hi : Int)
  | mult (lo hi m : Int)
  | spans (l : List (Int × Int))
deriving DecidableEq, Repr

/-- One row of a dictionary table. `key` is the key of instance 0, `count` the number of instances at consecutive
indices, `subs` the number of sub-indices of an array within one index (R511). -/
structure ObjRow where
  key : Nat
  count : Nat
  subs : Nat
  ty : ObjType
  acc : Access
  range : ObjRange
  persist : Bool
deriving DecidableEq, Repr

/-- The object rows of spec/01_jobs_and_manifests.md. -/
def rows01 : List ObjRow :=
  [
  ⟨Obj.residentJobCount, 1, 1, .u8, .ro, .any, false⟩,
  ⟨Obj.sliceTicks, 1, 1, .u32, .rws, (.mult 100000 100000000 1000), true⟩,
  ⟨Obj.launchLeadMin, 1, 1, .u32, .rw, (.span (1000000) 1000000000), true⟩,
  ⟨Obj.manifestMaxBytes, 1, 1, .u32, .const, .any, false⟩,
  ⟨Obj.itemTableInUse, 1, 1, .u16, .ro, .any, false⟩,
  ⟨Obj.sliceSwitchCount, 1, 1, .u64, .ro, .any, false⟩,
  ⟨Obj.sliceOverrunTicks, 1, 1, .u64, .ro, .any, false⟩,
  ⟨Obj.connectionsReserved, 1, 1, .u16, .ro, .any, false⟩,
  ⟨Obj.jobState, 64, 1, .u8, .ro, .any, false⟩,
  ⟨Obj.jobCommand, 64, 1, .u8, .wo, (.span (1) 6), false⟩,
  ⟨Obj.launchTick, 64, 1, .u64, .rw, .any, false⟩,
  ⟨Obj.expectedDigest, 64, 1, (.octets 32), .rw, .any, false⟩,
  ⟨Obj.manifestDigest, 64, 1, (.octets 32), .ro, .any, false⟩,
  ⟨Obj.jobLastReason, 64, 1, .u16, .ro, .any, false⟩,
  ⟨Obj.rejectSection, 64, 1, .u16, .ro, .any, false⟩,
  ⟨Obj.rejectOffset, 64, 1, .u32, .ro, .any, false⟩] ++ [
  ⟨Obj.sliceWeight, 64, 1, .u16, .rw, (.span (1) 1000), false⟩,
  ⟨Obj.currentEpoch, 64, 1, .u16, .ro, .any, false⟩,
  ⟨Obj.nextBatch, 64, 1, .u64, .ro, .any, false⟩,
  ⟨Obj.itemsInFlight, 64, 1, .u16, .ro, .any, false⟩,
  ⟨Obj.itemsCompleted, 64, 1, .u64, .ro, .any, false⟩,
  ⟨Obj.itemsSubstituted, 64, 1, .u64, .ro, .any, false⟩,
  ⟨Obj.itemsFailed, 64, 1, .u64, .ro, .any, false⟩,
  ⟨Obj.slicesHeld, 64, 1, .u64, .ro, .any, false⟩,
  ⟨Obj.jobName, 64, 1, (.str 32), .ro, .any, false⟩,
  ⟨Obj.manifestImage, 64, 1, (.domain 67108864), .rw, .any, false⟩,
  ⟨Obj.stagedBytes, 64, 1, .u32, .ro, .any, false⟩,
  ⟨Obj.stagingAddress, 64, 1, .u64, .ro, .any, false⟩,
  ⟨Obj.stagingOpen, 64, 1, .bool, .wo, (.span (1) 1), false⟩,
  ⟨Obj.stagingKey, 64, 1, .u32, .ro, .any, false⟩,
  ⟨Obj.streamActive, 1024, 1, .bool, .ro, .any, false⟩,
  ⟨Obj.streamDelivery, 1024, 1, .u8, .ro, .any, false⟩] ++ [
  ⟨Obj.batchesDelivered, 1024, 1, .u64, .ro, .any, false⟩,
  ⟨Obj.consumersConnected, 1024, 1, .u16, .ro, .any, false⟩,
  ⟨Obj.lastDeliveredBatch, 1024, 1, .u64, .ro, .any, false⟩]

/-- The object rows of spec/02_determinism_and_global_time.md. -/
def rows02 : List ObjRow :=
  [
  ⟨Obj.gtcNow, 1, 1, .u64, .ro, .any, false⟩,
  ⟨Obj.syncState, 1, 1, .u8, .ro, .any, false⟩,
  ⟨Obj.syncSource, 1, 1, .u8, .rws, (.span (0) 2), true⟩,
  ⟨Obj.gtcOriginSeconds, 1, 1, .u64, .rws, .any, true⟩,
  ⟨Obj.offsetTicks, 1, 1, .i32, .ro, .any, false⟩,
  ⟨Obj.syncWindowTicks, 1, 1, .u16, .rw, (.span (2) 20), true⟩,
  ⟨Obj.slewLimitPpm, 1, 1, .u16, .rw, (.span (1) 100), true⟩,
  ⟨Obj.stepThresholdTicks, 1, 1, .u32, .rw, (.span (100) 1000000000), true⟩,
  ⟨Obj.holdoverDriftPpb, 1, 1, .u32, .rw, (.span (1) 10000), true⟩,
  ⟨Obj.syncLossCount, 1, 1, .u32, .ro, .any, false⟩,
  ⟨Obj.ppsSecondsNext, 1, 1, .u64, .wo, .any, false⟩,
  ⟨Obj.gtcStepCount, 1, 1, .u32, .ro, .any, false⟩,
  ⟨Obj.ptpDomain, 1, 1, .u8, .rws, (.span (0) 127), true⟩,
  ⟨Obj.ptpPort, 1, 1, .u8, .rws, (.span (0) 15), true⟩,
  ⟨Obj.ptpTransport, 1, 1, .u8, .rws, (.span (0) 2), true⟩,
  ⟨Obj.ptpAsymmetryTicks, 1, 1, .i32, .rw, (.span (-10000) 10000), true⟩] ++ [
  ⟨Obj.ptpSyncIntervalLog, 1, 1, .i32, .rws, (.span (-7) 0), true⟩,
  ⟨Obj.ptpMeanPathDelay, 1, 1, .u32, .ro, .any, false⟩,
  ⟨Obj.ptpParentIdentity, 1, 1, (.octets 10), .ro, .any, false⟩,
  ⟨Obj.gddrRefreshCount, 1, 1, .u64, .ro, .any, false⟩,
  ⟨Obj.gddrRefreshStallTicks, 1, 1, .u64, .ro, .any, false⟩,
  ⟨Obj.gddrRetrainCount, 1, 1, .u64, .ro, .any, false⟩,
  ⟨Obj.gddrRetrainStallTicks, 1, 1, .u64, .ro, .any, false⟩,
  ⟨Obj.netRetransmitCount, 1, 1, .u64, .ro, .any, false⟩,
  ⟨Obj.netRetransmitTicks, 1, 1, .u64, .ro, .any, false⟩,
  ⟨Obj.netPauseCount, 1, 1, .u64, .ro, .any, false⟩,
  ⟨Obj.netPauseTicks, 1, 1, .u64, .ro, .any, false⟩,
  ⟨Obj.viaductRetryCount, 1, 1, .u64, .ro, .any, false⟩,
  ⟨Obj.viaductRetryTicks, 1, 1, .u64, .ro, .any, false⟩,
  ⟨Obj.flashReadRetryCount, 1, 1, .u64, .ro, .any, false⟩,
  ⟨Obj.flashReadRetryTicks, 1, 1, .u64, .ro, .any, false⟩,
  ⟨Obj.gddrLinkReplayCount, 1, 1, .u64, .ro, .any, false⟩] ++ [
  ⟨Obj.gddrLinkReplayTicks, 1, 1, .u64, .ro, .any, false⟩,
  ⟨Obj.faultRecoveryCount, 1, 1, .u64, .ro, .any, false⟩,
  ⟨Obj.faultRecoveryTicks, 1, 1, .u64, .ro, .any, false⟩,
  ⟨Obj.releaseLateCount, 1, 1, .u64, .ro, .any, false⟩,
  ⟨Obj.releaseQuantumTile, 1, 1, .u8, .const, .any, false⟩,
  ⟨Obj.releaseQuantumViaduct, 1, 1, .u8, .const, .any, false⟩,
  ⟨Obj.releaseQuantumPhy, 1, 1, .u8, .const, .any, false⟩]

/-- The object rows of spec/03_shards_and_sample_index.md. -/
def rows03 : List ObjRow :=
  [
  ⟨Obj.maxRecordBytes, 1, 1, .u32, .rws, (.span (4096) 1073741824), true⟩,
  ⟨Obj.shardOpenCacheEntries, 1, 1, .u32, .rws, (.span (1024) 1048576), true⟩,
  ⟨Obj.peerFetchTimeoutTicks, 1, 1, .u32, .rw, (.span (100000) 1000000000), true⟩,
  ⟨Obj.defaultCostImage, 1, 1, .u32, .rw, (.span (1) 4294967295), true⟩,
  ⟨Obj.defaultCostSignal, 1, 1, .u32, .rw, (.span (1) 4294967295), true⟩,
  ⟨Obj.defaultCostText, 1, 1, .u32, .rw, (.span (1) 4294967295), true⟩,
  ⟨Obj.annotationEnable, 1, 1, .bool, .rws, .any, true⟩,
  ⟨Obj.recordsRead, 1, 1, .u64, .ro, .any, false⟩,
  ⟨Obj.recordBytesRead, 1, 1, .u64, .ro, .any, false⟩,
  ⟨Obj.recordCrcErrors, 1, 1, .u64, .ro, .any, false⟩,
  ⟨Obj.shardFaults, 1, 1, .u64, .ro, .any, false⟩,
  ⟨Obj.alternateReads, 1, 1, .u64, .ro, .any, false⟩,
  ⟨Obj.tarScans, 1, 1, .u64, .ro, .any, false⟩,
  ⟨Obj.tarMembersSkipped, 1, 1, .u64, .ro, .any, false⟩,
  ⟨Obj.tarMembersExcess, 1, 1, .u64, .ro, .any, false⟩,
  ⟨Obj.shardOpenWaits, 1, 1, .u64, .ro, .any, false⟩] ++ [
  ⟨Obj.shardMapForm, 64, 1, .u8, .ro, .any, false⟩,
  ⟨Obj.shardMapNodes, 64, 1, .u16, .ro, .any, false⟩,
  ⟨Obj.shardMapBytes, 64, 1, .u64, .ro, .any, false⟩,
  ⟨Obj.shardsOpened, 64, 1, .u32, .ro, .any, false⟩,
  ⟨Obj.shardsFaulted, 64, 1, .u32, .ro, .any, false⟩,
  ⟨Obj.annotationBytes, 64, 1, .u64, .ro, .any, false⟩,
  ⟨Obj.lastSourceReason, 64, 1, .u16, .ro, .any, false⟩]

/-- The object rows of spec/04_riffle_epochs_and_batches.md. -/
def rows04 : List ObjRow :=
  [
  ⟨Obj.riffleBlocksPerTick, 1, 1, .u8, .const, .any, false⟩,
  ⟨Obj.riffleEvaluations, 1, 1, .u64, .ro, .any, false⟩,
  ⟨Obj.riffleWalkPasses, 1, 1, .u64, .ro, .any, false⟩,
  ⟨Obj.peerMessagesIgnored, 1, 1, .u64, .ro, .any, false⟩,
  ⟨Obj.preparedCrcErrors, 1, 1, .u64, .ro, .any, false⟩,
  ⟨Obj.censusTimeoutTicks, 1, 1, .u32, .rw, (.span (10000000) 4000000000), true⟩,
  ⟨Obj.riffleWidth, 64, 1, .u8, .ro, .any, false⟩,
  ⟨Obj.talonCount, 64, 1, .u64, .ro, .any, false⟩,
  ⟨Obj.issuedPositions, 64, 1, .u64, .ro, .any, false⟩,
  ⟨Obj.fullBatches, 64, 1, .u64, .ro, .any, false⟩,
  ⟨Obj.partialBatchPositions, 64, 1, .u32, .ro, .any, false⟩,
  ⟨Obj.censusState, 64, 1, .u8, .ro, .any, false⟩,
  ⟨Obj.censusEpoch, 64, 1, .u16, .ro, .any, false⟩,
  ⟨Obj.censusDocuments, 64, 1, .u64, .ro, .any, false⟩,
  ⟨Obj.censusTokens, 64, 1, .u64, .ro, .any, false⟩,
  ⟨Obj.censusSequences, 64, 1, .u64, .ro, .any, false⟩] ++ [
  ⟨Obj.censusDigest, 64, 1, (.octets 32), .ro, .any, false⟩,
  ⟨Obj.censusBytes, 64, 1, .u64, .ro, .any, false⟩,
  ⟨Obj.censusRestarts, 64, 1, .u32, .ro, .any, false⟩,
  ⟨Obj.substitutions, 64, 1, .u64, .ro, .any, false⟩,
  ⟨Obj.substituteClassSkips, 64, 1, .u64, .ro, .any, false⟩,
  ⟨Obj.substitutesCorrupt, 64, 1, .u64, .ro, .any, false⟩,
  ⟨Obj.maskedSlots, 64, 1, .u64, .ro, .any, false⟩,
  ⟨Obj.probeEpoch, 64, 1, .u16, .rw, .any, false⟩,
  ⟨Obj.probePosition, 64, 1, .u64, .rw, (.span (0) 1099511627775), false⟩,
  ⟨Obj.probeSample, 64, 1, .u64, .ro, .any, false⟩,
  ⟨Obj.packedBatches, 64, 1, .u64, .ro, .any, false⟩]

/-- The object rows of spec/05_dealers_decode.md. -/
def rows05 : List ObjRow :=
  [
  ⟨Obj.maxDecodedBytes, 1, 1, .u64, .rws, (.span (1048576) 17179869184), true⟩,
  ⟨Obj.defaultWorkLimit, 1, 1, .u64, .rws, (.span (1048576) 281474976710656), true⟩,
  ⟨Obj.slowLanePiers, 1, 1, .u8, .rws, (.span (0) 16), true⟩,
  ⟨Obj.budgetFloorTicks, 1, 1, .u32, .rw, (.span (10000) 1000000000), true⟩,
  ⟨Obj.dispatchLookahead, 1, 1, .u32, .rw, (.span (4096) 16777216), true⟩,
  ⟨Obj.relaxedGraceTicks, 1, 1, .u32, .rw, (.span (0) 1000000000), true⟩,
  ⟨Obj.defaultMaxRatio, 1, 1, .u16, .rw, (.span (1) 65535), true⟩,
  ⟨Obj.cacheCompressEnginesMin, 1, 1, .u8, .rw, (.span (0) 4), true⟩,
  ⟨Obj.imageDealersPerTile, 1, 1, .u8, .const, .any, false⟩,
  ⟨Obj.signalDealersPerTile, 1, 1, .u8, .const, .any, false⟩,
  ⟨Obj.dealerSparesPerKind, 1, 1, .u8, .const, .any, false⟩,
  ⟨Obj.zstdEnginesPerTile, 1, 1, .u8, .const, .any, false⟩,
  ⟨Obj.dealerMaxDimension, 1, 1, .u16, .const, .any, false⟩,
  ⟨Obj.slowLaneMaxDimension, 1, 1, .u16, .const, .any, false⟩,
  ⟨Obj.imageDealersInService, 1, 1, .u8, .ro, .any, false⟩,
  ⟨Obj.signalDealersInService, 1, 1, .u8, .ro, .any, false⟩] ++ [
  ⟨Obj.imageSparesLeft, 1, 1, .u8, .ro, .any, false⟩,
  ⟨Obj.signalSparesLeft, 1, 1, .u8, .ro, .any, false⟩,
  ⟨Obj.zstdEnginesInService, 1, 1, .u8, .ro, .any, false⟩,
  ⟨Obj.itemsDecoded, 1, 1, .u64, .ro, .any, false⟩,
  ⟨Obj.pixelsDecoded, 1, 1, .u64, .ro, .any, false⟩,
  ⟨Obj.audioFramesDecoded, 1, 1, .u64, .ro, .any, false⟩,
  ⟨Obj.bytesDecompressed, 1, 1, .u64, .ro, .any, false⟩,
  ⟨Obj.escalations, 1, 1, .u64, .ro, .any, false⟩,
  ⟨Obj.slowLaneItems, 1, 1, .u64, .ro, .any, false⟩,
  ⟨Obj.dealerRetries, 1, 1, .u64, .ro, .any, false⟩,
  ⟨Obj.outputLimitRefusals, 1, 1, .u64, .ro, .any, false⟩,
  ⟨Obj.workLimitRefusals, 1, 1, .u64, .ro, .any, false⟩,
  ⟨Obj.bufferWaitTicks, 1, 1, .u64, .ro, .any, false⟩,
  ⟨Obj.slowLaneBusyTicks, 1, 1, .u64, .ro, .any, false⟩,
  ⟨Obj.slotItemsDecoded, 64, 1, .u64, .ro, .any, false⟩,
  ⟨Obj.slotEscalations, 64, 1, .u64, .ro, .any, false⟩] ++ [
  ⟨Obj.slotSlowLaneItems, 64, 1, .u64, .ro, .any, false⟩,
  ⟨Obj.lateDeclared, 64, 1, .u64, .ro, .any, false⟩,
  ⟨Obj.longestDecodeTicks, 64, 1, .u64, .ro, .any, false⟩,
  ⟨Obj.batchPeriodTicks, 64, 1, .u64, .ro, .any, false⟩,
  ⟨Obj.lastDecodeReason, 64, 1, .u16, .ro, .any, false⟩]

/-- The object rows of spec/06_warp_colour_signal.md. -/
def rows06 : List ObjRow :=
  [
  ⟨Obj.warpEnginesPerTile, 1, 1, .u8, .const, .any, false⟩,
  ⟨Obj.meshMaxVerticesPerAxis, 1, 1, .u16, .const, .any, false⟩,
  ⟨Obj.coordFractionBits, 1, 1, .u8, .const, .any, false⟩,
  ⟨Obj.resampleTableDigest, 1, 1, (.octets 32), .const, .any, false⟩,
  ⟨Obj.resampleTableEntries, 1, 1, .u32, .const, .any, false⟩,
  ⟨Obj.warpEnginesInService, 1, 1, .u8, .ro, .any, false⟩,
  ⟨Obj.warpPixelsOut, 1, 1, .u64, .ro, .any, false⟩,
  ⟨Obj.meshVerticesComputed, 1, 1, .u64, .ro, .any, false⟩,
  ⟨Obj.edgeTaps, 1, 1, .u64, .ro, .any, false⟩,
  ⟨Obj.signalFramesOut, 1, 1, .u64, .ro, .any, false⟩,
  ⟨Obj.melFramesOut, 1, 1, .u64, .ro, .any, false⟩,
  ⟨Obj.warpRetries, 1, 1, .u64, .ro, .any, false⟩,
  ⟨Obj.transformInputErrors, 1, 1, .u64, .ro, .any, false⟩,
  ⟨Obj.transformBufferWaitTicks, 1, 1, .u64, .ro, .any, false⟩,
  ⟨Obj.slotImagesTransformed, 64, 1, .u64, .ro, .any, false⟩,
  ⟨Obj.slotSignalsTransformed, 64, 1, .u64, .ro, .any, false⟩] ++ [
  ⟨Obj.cropFallbacks, 64, 1, .u64, .ro, .any, false⟩,
  ⟨Obj.autoReduceLevels, 64, 1, .u64, .ro, .any, false⟩,
  ⟨Obj.lastTransformReason, 64, 1, .u16, .ro, .any, false⟩]

/-- The object rows of spec/07_sample_cache_and_shoe.md. -/
def rows07 : List ObjRow :=
  [
  ⟨Obj.cacheGddrBytes, 1, 1, .u64, .rws, (.mult 0 103079215104 1073741824), true⟩,
  ⟨Obj.cacheFlashBytes, 1, 1, .u64, .rws, (.span (0) 70368744177664), true⟩,
  ⟨Obj.cacheSegmentBytes, 1, 1, .u32, .const, .any, false⟩,
  ⟨Obj.cacheMaxEntryBytes, 1, 1, .u32, .rws, (.span (65536) 1073741824), true⟩,
  ⟨Obj.cachePinMaxBytes, 1, 1, .u64, .rws, .any, true⟩,
  ⟨Obj.cacheCompressLevel, 1, 1, .u8, .rw, (.span (1) 19), true⟩,
  ⟨Obj.cachePromote, 1, 1, .bool, .rw, .any, true⟩,
  ⟨Obj.cacheCommand, 1, 1, .u8, .wo, (.span (1) 3), false⟩,
  ⟨Obj.cachePurgeDigest, 1, 1, (.octets 16), .rw, .any, false⟩,
  ⟨Obj.cacheGddrUsedBytes, 1, 1, .u64, .ro, .any, false⟩,
  ⟨Obj.cacheGddrPinnedBytes, 1, 1, .u64, .ro, .any, false⟩,
  ⟨Obj.cacheFlashUsedBytes, 1, 1, .u64, .ro, .any, false⟩,
  ⟨Obj.cacheHitsGddr, 1, 1, .u64, .ro, .any, false⟩,
  ⟨Obj.cacheHitsFlash, 1, 1, .u64, .ro, .any, false⟩,
  ⟨Obj.cacheMisses, 1, 1, .u64, .ro, .any, false⟩,
  ⟨Obj.cacheFills, 1, 1, .u64, .ro, .any, false⟩] ++ [
  ⟨Obj.cacheFillsSkipped, 1, 1, .u64, .ro, .any, false⟩,
  ⟨Obj.cacheEvictions, 1, 1, .u64, .ro, .any, false⟩,
  ⟨Obj.cacheStoredRaw, 1, 1, .u64, .ro, .any, false⟩,
  ⟨Obj.cacheCorruptions, 1, 1, .u64, .ro, .any, false⟩,
  ⟨Obj.cachePurgedEntries, 1, 1, .u64, .ro, .any, false⟩,
  ⟨Obj.cacheFlashWritesHeld, 1, 1, .u64, .ro, .any, false⟩,
  ⟨Obj.cacheParamDigest, 64, 1, (.octets 16), .ro, .any, false⟩,
  ⟨Obj.slotCacheHits, 64, 1, .u64, .ro, .any, false⟩,
  ⟨Obj.slotCacheMisses, 64, 1, .u64, .ro, .any, false⟩,
  ⟨Obj.slotCacheFills, 64, 1, .u64, .ro, .any, false⟩,
  ⟨Obj.shoeSpaceBytes, 1, 1, .u64, .rws, (.span (1073741824) 274877906944), true⟩,
  ⟨Obj.shoeReservedBytes, 1, 1, .u64, .ro, .any, false⟩,
  ⟨Obj.shoeUsedBytes, 1, 1, .u64, .ro, .any, false⟩,
  ⟨Obj.consumerStallTicks, 1, 1, .u32, .rw, (.span (10000000) 4000000000), true⟩,
  ⟨Obj.creditErrors, 1, 1, .u64, .ro, .any, false⟩,
  ⟨Obj.releaseErrors, 1, 1, .u64, .ro, .any, false⟩] ++ [
  ⟨Obj.consumerStalls, 1, 1, .u64, .ro, .any, false⟩,
  ⟨Obj.shoeReady, 64, 1, .u16, .ro, .any, false⟩,
  ⟨Obj.shoeAssembling, 64, 1, .u16, .ro, .any, false⟩,
  ⟨Obj.lowWaterAlarm, 64, 1, .bool, .ro, .any, false⟩,
  ⟨Obj.lowWaterAlarms, 64, 1, .u64, .ro, .any, false⟩,
  ⟨Obj.lowWaterTicks, 64, 1, .u64, .ro, .any, false⟩,
  ⟨Obj.sliceBytesMax, 64, 1, .u32, .ro, .any, false⟩,
  ⟨Obj.shoeNeedBytes, 64, 1, .u64, .ro, .any, false⟩,
  ⟨Obj.pushStallTicks, 64, 1, .u64, .ro, .any, false⟩,
  ⟨Obj.pullRegionAddress, 64, 1, .u64, .ro, .any, false⟩,
  ⟨Obj.pullRegionKey, 64, 1, .u32, .ro, .any, false⟩,
  ⟨Obj.pullSliceStride, 64, 1, .u64, .ro, .any, false⟩,
  ⟨Obj.batchesAssembled, 64, 1, .u64, .ro, .any, false⟩]

/-- The object rows of spec/08_text_tokens_and_generation_control.md. -/
def rows08 : List ObjRow :=
  [
  ⟨Obj.tokenizerEnginesPerTile, 1, 1, .u8, .const, .any, false⟩,
  ⟨Obj.tokenizerEnginesInService, 1, 1, .u8, .ro, .any, false⟩,
  ⟨Obj.vocabEntries, 1, 1, .u8, .const, .any, false⟩,
  ⟨Obj.vocabMaxTokens, 1, 1, .u32, .const, .any, false⟩,
  ⟨Obj.vocabMaxTokenBytes, 1, 1, .u8, .const, .any, false⟩,
  ⟨Obj.vocabSramBytesPerTile, 1, 1, .u32, .const, .any, false⟩,
  ⟨Obj.vocabSramUsedBytes, 1, 1, .u32, .ro, .any, false⟩,
  ⟨Obj.vocabImage, 1, 1, (.domain 8388608), .rw, .any, false⟩,
  ⟨Obj.vocabCommand, 1, 1, .u8, .wo, (.span (1) 2), false⟩,
  ⟨Obj.vocabSelect, 1, 1, (.octets 32), .rw, .any, false⟩,
  ⟨Obj.vocabLastReason, 1, 1, .u16, .ro, .any, false⟩,
  ⟨Obj.vocabLoadedCount, 1, 1, .u8, .ro, .any, false⟩,
  ⟨Obj.vocabState, 8, 1, .u8, .ro, .any, false⟩,
  ⟨Obj.vocabDigest, 8, 1, (.octets 32), .ro, .any, false⟩,
  ⟨Obj.vocabSize, 8, 1, .u32, .ro, .any, false⟩,
  ⟨Obj.vocabLongest, 8, 1, .u8, .ro, .any, false⟩] ++ [
  ⟨Obj.vocabTableBytes, 8, 1, .u32, .ro, .any, false⟩,
  ⟨Obj.vocabUsers, 8, 1, .u8, .ro, .any, false⟩,
  ⟨Obj.textItemsTokenized, 1, 1, .u64, .ro, .any, false⟩,
  ⟨Obj.textBytesTokenized, 1, 1, .u64, .ro, .any, false⟩,
  ⟨Obj.tokensProduced, 1, 1, .u64, .ro, .any, false⟩,
  ⟨Obj.illFormedSubparts, 1, 1, .u64, .ro, .any, false⟩,
  ⟨Obj.utf16Conversions, 1, 1, .u64, .ro, .any, false⟩,
  ⟨Obj.truncatedItems, 1, 1, .u64, .ro, .any, false⟩,
  ⟨Obj.tokenizerRetries, 1, 1, .u64, .ro, .any, false⟩,
  ⟨Obj.slotTextItems, 64, 1, .u64, .ro, .any, false⟩,
  ⟨Obj.slotTokens, 64, 1, .u64, .ro, .any, false⟩,
  ⟨Obj.slotIllFormedSubparts, 64, 1, .u64, .ro, .any, false⟩,
  ⟨Obj.slotTruncatedItems, 64, 1, .u64, .ro, .any, false⟩,
  ⟨Obj.slotVocabEntry, 64, 1, .u8, .ro, .any, false⟩,
  ⟨Obj.lastTextReason, 64, 1, .u16, .ro, .any, false⟩,
  ⟨Obj.controlImage, 1, 1, (.domain 8388608), .rw, .any, false⟩] ++ [
  ⟨Obj.controlCommand, 1, 1, .u8, .wo, (.span (1) 2), false⟩,
  ⟨Obj.controlSelect, 1, 1, (.octets 32), .rw, .any, false⟩,
  ⟨Obj.controlLastReason, 1, 1, .u16, .ro, .any, false⟩,
  ⟨Obj.controlLoadedCount, 1, 1, .u8, .ro, .any, false⟩,
  ⟨Obj.controlState, 16, 1, .u8, .ro, .any, false⟩,
  ⟨Obj.controlDigest, 16, 1, (.octets 32), .ro, .any, false⟩,
  ⟨Obj.controlVocabTag, 16, 1, (.octets 8), .ro, .any, false⟩,
  ⟨Obj.stopStringCount, 16, 1, .u8, .ro, .any, false⟩,
  ⟨Obj.bannedCount, 16, 1, .u32, .ro, .any, false⟩,
  ⟨Obj.forcedCount, 16, 1, .u16, .ro, .any, false⟩,
  ⟨Obj.automatonStates, 16, 1, .u32, .ro, .any, false⟩,
  ⟨Obj.controlBytes, 16, 1, .u64, .ro, .any, false⟩,
  ⟨Obj.controlUsers, 16, 1, .u8, .ro, .any, false⟩,
  ⟨Obj.tokensDetokenized, 1, 1, .u64, .ro, .any, false⟩,
  ⟨Obj.detokBytesEmitted, 1, 1, .u64, .ro, .any, false⟩,
  ⟨Obj.replacementsEmitted, 1, 1, .u64, .ro, .any, false⟩] ++ [
  ⟨Obj.stopHits, 1, 1, .u64, .ro, .any, false⟩,
  ⟨Obj.maskedSteps, 1, 1, .u64, .ro, .any, false⟩,
  ⟨Obj.forcedTokens, 1, 1, .u64, .ro, .any, false⟩,
  ⟨Obj.forcedAbandoned, 1, 1, .u64, .ro, .any, false⟩,
  ⟨Obj.deadEnds, 1, 1, .u64, .ro, .any, false⟩]

/-- The object rows of spec/09_trestle_inference.md. -/
def rows09 : List ObjRow :=
  [
  ⟨Obj.trestleRows, 1, 1, .u16, .const, .any, false⟩,
  ⟨Obj.trestleCols, 1, 1, .u16, .const, .any, false⟩,
  ⟨Obj.trestleSpareRowsLeft, 1, 1, .u8, .ro, .any, false⟩,
  ⟨Obj.trestleSpareColsLeft, 1, 1, .u8, .ro, .any, false⟩,
  ⟨Obj.trestleState, 1, 1, .u8, .ro, .any, false⟩,
  ⟨Obj.infSramBytes, 1, 1, .u32, .const, .any, false⟩,
  ⟨Obj.bundleAreaBytes, 1, 1, .u64, .rws, (.mult 1073741824 68719476736 1073741824), true⟩,
  ⟨Obj.bundleAreaUsedBytes, 1, 1, .u64, .ro, .any, false⟩,
  ⟨Obj.curationLogBytes, 1, 1, .u64, .rws, (.mult 16777216 17179869184 4096), true⟩,
  ⟨Obj.bundleImage, 1, 1, (.domain 67108864), .rw, .any, false⟩,
  ⟨Obj.bundleSourceObject, 1, 1, (.octets 16), .rw, .any, false⟩,
  ⟨Obj.bundleCommand, 1, 1, .u8, .wo, (.span (1) 3), false⟩,
  ⟨Obj.bundleSelect, 1, 1, (.octets 32), .rw, .any, false⟩,
  ⟨Obj.bundleLastReason, 1, 1, .u16, .ro, .any, false⟩,
  ⟨Obj.bundleLoadedCount, 1, 1, .u8, .ro, .any, false⟩,
  ⟨Obj.bundleState, 32, 1, .u8, .ro, .any, false⟩] ++ [
  ⟨Obj.bundleDigest, 32, 1, (.octets 32), .ro, .any, false⟩,
  ⟨Obj.bundleRole, 32, 1, .u8, .ro, .any, false⟩,
  ⟨Obj.bundleBytes, 32, 1, .u64, .ro, .any, false⟩,
  ⟨Obj.bundleWorksetKib, 32, 1, .u32, .ro, .any, false⟩,
  ⟨Obj.bundleOpCount, 32, 1, .u32, .ro, .any, false⟩,
  ⟨Obj.bundleUsers, 32, 1, .u8, .ro, .any, false⟩,
  ⟨Obj.trestleMacs, 1, 1, .u64, .ro, .any, false⟩,
  ⟨Obj.trestleBusyTicks, 1, 1, .u64, .ro, .any, false⟩,
  ⟨Obj.passesRun, 1, 1, .u64, .ro, .any, false⟩,
  ⟨Obj.trestleRetries, 1, 1, .u64, .ro, .any, false⟩,
  ⟨Obj.pierMatrixOperators, 1, 1, .u64, .ro, .any, false⟩,
  ⟨Obj.generationSteps, 1, 1, .u64, .ro, .any, false⟩,
  ⟨Obj.curationResults, 1, 1, .u64, .ro, .any, false⟩,
  ⟨Obj.filterRejections, 1, 1, .u64, .ro, .any, false⟩,
  ⟨Obj.slotCuratedItems, 64, 1, .u64, .ro, .any, false⟩,
  ⟨Obj.slotGeneratedTokens, 64, 1, .u64, .ro, .any, false⟩] ++ [
  ⟨Obj.slotFiltered, 64, 1, .u64, .ro, .any, false⟩,
  ⟨Obj.curationLogAddress, 64, 1, .u64, .ro, .any, false⟩,
  ⟨Obj.curationLogKey, 64, 1, .u32, .ro, .any, false⟩,
  ⟨Obj.curationLogHead, 64, 1, .u64, .ro, .any, false⟩,
  ⟨Obj.curationLogRelease, 64, 1, .u64, .rw, .any, false⟩,
  ⟨Obj.curationLogFullTicks, 64, 1, .u64, .ro, .any, false⟩,
  ⟨Obj.lastCurateReason, 64, 1, .u16, .ro, .any, false⟩]

/-- The object rows of spec/10_pier_kernels.md. -/
def rows10 : List ObjRow :=
  [
  ⟨Obj.kernelPiers, 1, 1, .u8, .rws, (.span (0) 32), true⟩,
  ⟨Obj.kernelSpadMaxBytes, 1, 1, .u32, .const, .any, false⟩,
  ⟨Obj.kernelCodeMaxBytes, 1, 1, .u32, .const, .any, false⟩,
  ⟨Obj.kernelDataMaxBytes, 1, 1, .u32, .const, .any, false⟩,
  ⟨Obj.kernelEntries, 1, 1, .u8, .const, .any, false⟩,
  ⟨Obj.kernelAbiVersion, 1, 1, .u16, .const, .any, false⟩,
  ⟨Obj.kernelHandleMax, 1, 1, .u8, .const, .any, false⟩,
  ⟨Obj.kernelServiceInsns, 1, 1, .u8, .const, .any, false⟩,
  ⟨Obj.kernelImage, 1, 1, (.domain 1310784), .rw, .any, false⟩,
  ⟨Obj.kernelCommand, 1, 1, .u8, .wo, (.span (1) 2), false⟩,
  ⟨Obj.kernelSelect, 1, 1, (.octets 32), .rw, .any, false⟩,
  ⟨Obj.kernelLastReason, 1, 1, .u16, .ro, .any, false⟩,
  ⟨Obj.kernelLoadedCount, 1, 1, .u8, .ro, .any, false⟩,
  ⟨Obj.kernelState, 16, 1, .u8, .ro, .any, false⟩,
  ⟨Obj.kernelDigest, 16, 1, (.octets 32), .ro, .any, false⟩,
  ⟨Obj.kernelClassMask, 16, 1, .u8, .ro, .any, false⟩] ++ [
  ⟨Obj.kernelOutputForm, 16, 1, .u8, .ro, .any, false⟩,
  ⟨Obj.kernelFlags, 16, 1, .u32, .ro, .any, false⟩,
  ⟨Obj.kernelCodeBytes, 16, 1, .u32, .ro, .any, false⟩,
  ⟨Obj.kernelSpadBytes, 16, 1, .u32, .ro, .any, false⟩,
  ⟨Obj.kernelUsers, 16, 1, .u8, .ro, .any, false⟩,
  ⟨Obj.kernelPiersInService, 1, 1, .u8, .ro, .any, false⟩,
  ⟨Obj.kernelItems, 1, 1, .u64, .ro, .any, false⟩,
  ⟨Obj.kernelInstructions, 1, 1, .u64, .ro, .any, false⟩,
  ⟨Obj.kernelDmaBytes, 1, 1, .u64, .ro, .any, false⟩,
  ⟨Obj.kernelTraps, 1, 1, .u64, .ro, .any, false⟩,
  ⟨Obj.kernelRetries, 1, 1, .u64, .ro, .any, false⟩,
  ⟨Obj.kernelLimitFailures, 1, 1, .u64, .ro, .any, false⟩,
  ⟨Obj.kernelBufferWaitTicks, 1, 1, .u64, .ro, .any, false⟩,
  ⟨Obj.kernelBusyTicks, 1, 1, .u64, .ro, .any, false⟩,
  ⟨Obj.slotKernelItems, 64, 1, .u64, .ro, .any, false⟩,
  ⟨Obj.slotKernelRejects, 64, 1, .u64, .ro, .any, false⟩] ++ [
  ⟨Obj.slotKernelFailures, 64, 1, .u64, .ro, .any, false⟩,
  ⟨Obj.slotTimingReadKernels, 64, 1, .u8, .ro, .any, false⟩,
  ⟨Obj.lastKernelReason, 64, 1, .u16, .ro, .any, false⟩]

/-- The object rows of spec/11_gddr7_sram_buffer_pool.md. -/
def rows11 : List ObjRow :=
  [
  ⟨Obj.gddrInstalledBytes, 1, 1, .u64, .const, .any, false⟩,
  ⟨Obj.jobMemoryBytes, 1, 1, .u64, .ro, .any, false⟩,
  ⟨Obj.reserveBytes, 1, 1, .u64, .const, .any, false⟩,
  ⟨Obj.heapBytes, 1, 1, .u64, .ro, .any, false⟩,
  ⟨Obj.heapUsedBytes, 1, 1, .u64, .ro, .any, false⟩,
  ⟨Obj.heapMinBytes, 1, 1, .u64, .const, .any, false⟩,
  ⟨Obj.channelsInService, 1, 1, .u8, .ro, .any, false⟩,
  ⟨Obj.channelSpareFramesLeft, 1, 1, .u32, .ro, .any, false⟩,
  ⟨Obj.rowRepairFramesLeft, 1, 1, .u32, .ro, .any, false⟩,
  ⟨Obj.memoryState, 1, 1, .u8, .ro, .any, false⟩,
  ⟨Obj.retireChannel, 1, 1, .u8, .wo, (.span (0) 95), false⟩,
  ⟨Obj.damagedImages, 1, 1, .u8, .ro, .any, false⟩,
  ⟨Obj.retrainDeltaC, 1, 1, .u8, .rw, (.span (2) 40), true⟩,
  ⟨Obj.retrainErrorLimit, 1, 1, .u32, .rw, (.span (1) 65535), true⟩,
  ⟨Obj.retrainPeriodTicks, 1, 1, .u64, .rw, (.span (1000000000) 3600000000000), true⟩,
  ⟨Obj.retrainMaxConcurrent, 1, 1, .u8, .rw, (.span (1) 12), true⟩] ++ [
  ⟨Obj.rowRepairThreshold, 1, 1, .u16, .rw, (.span (1) 1024), true⟩,
  ⟨Obj.refreshHoldTicks, 1, 1, .u16, .const, .any, false⟩,
  ⟨Obj.gddrCorrectedErrors, 1, 1, .u64, .ro, .any, false⟩,
  ⟨Obj.gddrUncorrectedErrors, 1, 1, .u64, .ro, .any, false⟩,
  ⟨Obj.gddrLinkReplays, 1, 1, .u64, .ro, .any, false⟩,
  ⟨Obj.rowRepairs, 1, 1, .u64, .ro, .any, false⟩,
  ⟨Obj.lostFrames, 1, 1, .u64, .ro, .any, false⟩,
  ⟨Obj.heapExhaustions, 1, 1, .u64, .ro, .any, false⟩,
  ⟨Obj.bankStallCyclesInf, 1, 1, .u64, .ro, .any, false⟩,
  ⟨Obj.bankStallCyclesPl0, 1, 1, .u64, .ro, .any, false⟩,
  ⟨Obj.bankStallCyclesPl1, 1, 1, .u64, .ro, .any, false⟩,
  ⟨Obj.bankStallCyclesNet, 1, 1, .u64, .ro, .any, false⟩,
  ⟨Obj.bankStallCyclesMed, 1, 1, .u64, .ro, .any, false⟩,
  ⟨Obj.bankStallCyclesPier, 1, 1, .u64, .ro, .any, false⟩,
  ⟨Obj.sameWordMerges, 1, 1, .u64, .ro, .any, false⟩,
  ⟨Obj.ageOverrides, 1, 1, .u64, .ro, .any, false⟩] ++ [
  ⟨Obj.sramCorrected, 1, 1, .u64, .ro, .any, false⟩,
  ⟨Obj.channelState, 96, 1, .u8, .ro, .any, false⟩,
  ⟨Obj.channelTemperature, 96, 1, .i32, .ro, .any, false⟩,
  ⟨Obj.channelHot, 96, 1, .bool, .ro, .any, false⟩,
  ⟨Obj.channelRetrains, 96, 1, .u32, .ro, .any, false⟩,
  ⟨Obj.channelLastTrainTick, 96, 1, .u64, .ro, .any, false⟩,
  ⟨Obj.channelCorrected, 96, 1, .u64, .ro, .any, false⟩,
  ⟨Obj.channelUncorrected, 96, 1, .u64, .ro, .any, false⟩,
  ⟨Obj.channelRowRepairs, 96, 1, .u32, .ro, .any, false⟩,
  ⟨Obj.bufferPoolBytes, 1, 1, .u64, .rws, (.mult 17179869184 274877906944 1073741824), true⟩,
  ⟨Obj.bufferBytes, 1, 1, .u32, .const, .any, false⟩,
  ⟨Obj.poolBuffers, 1, 1, .u32, .ro, .any, false⟩,
  ⟨Obj.freeBuffers, 1, 1, .u32, .ro, .any, false⟩,
  ⟨Obj.prefetchCacheHandles, 1, 1, .u16, .const, .any, false⟩,
  ⟨Obj.prefetchCacheFill, 1, 1, .u16, .ro, .any, false⟩,
  ⟨Obj.nodeCapacity, 1, 1, .u16, .const, .any, false⟩] ++ [
  ⟨Obj.reservesTotal, 1, 1, .u32, .ro, .any, false⟩,
  ⟨Obj.allocations, 1, 1, .u64, .ro, .any, false⟩,
  ⟨Obj.frees, 1, 1, .u64, .ro, .any, false⟩,
  ⟨Obj.refOperations, 1, 1, .u64, .ro, .any, false⟩,
  ⟨Obj.refSaturations, 1, 1, .u64, .ro, .any, false⟩,
  ⟨Obj.doubleFrees, 1, 1, .u64, .ro, .any, false⟩,
  ⟨Obj.lastDoubleFreeHandle, 1, 1, .u32, .ro, .any, false⟩,
  ⟨Obj.lastDoubleFreeRequester, 1, 1, .u8, .ro, .any, false⟩,
  ⟨Obj.linkCheckErrors, 1, 1, .u64, .ro, .any, false⟩,
  ⟨Obj.freeListRebuilds, 1, 1, .u64, .ro, .any, false⟩,
  ⟨Obj.buffersWithheld, 1, 1, .u32, .ro, .any, false⟩,
  ⟨Obj.requesterQuota, 64, 1, .u32, .rws, (.span (1) 8388608), true⟩,
  ⟨Obj.requesterReserve, 64, 1, .u32, .rws, .any, true⟩,
  ⟨Obj.requesterHeld, 64, 1, .u32, .ro, .any, false⟩,
  ⟨Obj.requesterHighWater, 64, 1, .u32, .ro, .any, false⟩,
  ⟨Obj.requesterWaits, 64, 1, .u64, .ro, .any, false⟩] ++ [
  ⟨Obj.requesterWaitTicks, 64, 1, .u64, .ro, .any, false⟩,
  ⟨Obj.requesterDoubleFrees, 64, 1, .u64, .ro, .any, false⟩]

/-- The object rows of spec/12_flash_media.md. -/
def rows12 : List ObjRow :=
  [
  ⟨Obj.storeState, 1, 1, .u8, .ro, .any, false⟩,
  ⟨Obj.flashCommand, 1, 1, .u8, .wo, (.span (1) 3), false⟩,
  ⟨Obj.flashLastReason, 1, 1, .u16, .ro, .any, false⟩,
  ⟨Obj.overProvisionPermille, 1, 1, .u16, .rws, (.span (50) 500), true⟩,
  ⟨Obj.diesInService, 1, 1, .u16, .ro, .any, false⟩,
  ⟨Obj.dieIndicesOpen, 1, 1, .u8, .ro, .any, false⟩,
  ⟨Obj.dataBytes, 1, 1, .u64, .ro, .any, false⟩,
  ⟨Obj.userBytes, 1, 1, .u64, .ro, .any, false⟩,
  ⟨Obj.usedBytes, 1, 1, .u64, .ro, .any, false⟩,
  ⟨Obj.freeBands, 1, 1, .u32, .ro, .any, false⟩,
  ⟨Obj.objectCount, 1, 1, .u32, .ro, .any, false⟩,
  ⟨Obj.storeTimeSeconds, 1, 1, .u64, .ro, .any, false⟩,
  ⟨Obj.flushEnergyMicroJoules, 1, 1, .u32, .ro, .any, false⟩,
  ⟨Obj.holdUpGate, 1, 1, .bool, .ro, .any, false⟩,
  ⟨Obj.nandProfile, 1, 1, (.domain 256), .rws, .any, true⟩,
  ⟨Obj.rebuildUnitsLeft, 1, 1, .u64, .ro, .any, false⟩] ++ [
  ⟨Obj.channelCount, 1, 1, .u8, .const, .any, false⟩,
  ⟨Obj.diesPerChannel, 1, 1, .u8, .ro, .any, false⟩,
  ⟨Obj.pageBytes, 1, 1, .u32, .ro, .any, false⟩,
  ⟨Obj.spareBytes, 1, 1, .u16, .ro, .any, false⟩,
  ⟨Obj.planesPerDie, 1, 1, .u8, .ro, .any, false⟩,
  ⟨Obj.pagesPerBlock, 1, 1, .u16, .ro, .any, false⟩,
  ⟨Obj.blocksPerPlane, 1, 1, .u16, .ro, .any, false⟩,
  ⟨Obj.cellBits, 1, 1, .u8, .ro, .any, false⟩,
  ⟨Obj.interfaceMode, 1, 1, .u8, .ro, .any, false⟩,
  ⟨Obj.transferRateMTs, 1, 1, .u16, .ro, .any, false⟩,
  ⟨Obj.ratedEraseCount, 1, 1, .u32, .ro, .any, false⟩,
  ⟨Obj.objectTableMax, 1, 1, .u32, .const, .any, false⟩,
  ⟨Obj.gcStartFreeBands, 1, 1, .u32, .rw, (.span (16) 65536), true⟩,
  ⟨Obj.gcUrgentFreeBands, 1, 1, .u32, .rw, .any, true⟩,
  ⟨Obj.wearSpreadLimit, 1, 1, .u16, .rw, (.span (20) 10000), true⟩,
  ⟨Obj.relocateBitErrors, 1, 1, .u16, .rw, (.span (8) 1024), true⟩] ++ [
  ⟨Obj.patrolPagesPerSecond, 1, 1, .u32, .rw, (.span (1) 1000000), true⟩,
  ⟨Obj.backgroundSharePermille, 1, 1, .u16, .rw, (.span (0) 500), true⟩,
  ⟨Obj.suspendMinRunTicks, 1, 1, .u32, .rw, (.span (0) 10000000), true⟩,
  ⟨Obj.programSuspendMax, 1, 1, .u8, .rw, (.span (0) 16), true⟩,
  ⟨Obj.eraseSuspendMax, 1, 1, .u8, .rw, (.span (0) 64), true⟩,
  ⟨Obj.journalFlushTicks, 1, 1, .u32, .rw, (.span (100000) 100000000), true⟩,
  ⟨Obj.holdUpCheckMaxAgeTicks, 1, 1, .u32, .rw, (.span (1000000) 1000000000), true⟩,
  ⟨Obj.holdUpWaitLimitTicks, 1, 1, .u64, .rw, (.span (100000000) 1000000000000), true⟩,
  ⟨Obj.flashReads, 1, 1, .u64, .ro, .any, false⟩,
  ⟨Obj.flashPrograms, 1, 1, .u64, .ro, .any, false⟩,
  ⟨Obj.flashErases, 1, 1, .u64, .ro, .any, false⟩,
  ⟨Obj.ldpcCorrectedBits, 1, 1, .u64, .ro, .any, false⟩,
  ⟨Obj.softDecodes, 1, 1, .u64, .ro, .any, false⟩,
  ⟨Obj.reconstructions, 1, 1, .u64, .ro, .any, false⟩,
  ⟨Obj.uncorrectableUnits, 1, 1, .u64, .ro, .any, false⟩,
  ⟨Obj.gcBandsReclaimed, 1, 1, .u64, .ro, .any, false⟩] ++ [
  ⟨Obj.gcUnitsCopied, 1, 1, .u64, .ro, .any, false⟩,
  ⟨Obj.wearLevelBands, 1, 1, .u64, .ro, .any, false⟩,
  ⟨Obj.relocatedBands, 1, 1, .u64, .ro, .any, false⟩,
  ⟨Obj.patrolStripes, 1, 1, .u64, .ro, .any, false⟩,
  ⟨Obj.programFailures, 1, 1, .u64, .ro, .any, false⟩,
  ⟨Obj.eraseFailures, 1, 1, .u64, .ro, .any, false⟩,
  ⟨Obj.grownBadBlocks, 1, 1, .u64, .ro, .any, false⟩,
  ⟨Obj.suspensions, 1, 1, .u64, .ro, .any, false⟩,
  ⟨Obj.mapCacheHits, 1, 1, .u64, .ro, .any, false⟩,
  ⟨Obj.mapCacheMisses, 1, 1, .u64, .ro, .any, false⟩,
  ⟨Obj.holdUpWaits, 1, 1, .u64, .ro, .any, false⟩,
  ⟨Obj.secureDiscards, 1, 1, .u64, .ro, .any, false⟩,
  ⟨Obj.discardResidueBlocks, 1, 1, .u64, .ro, .any, false⟩,
  ⟨Obj.uncleanMounts, 1, 1, .u64, .ro, .any, false⟩,
  ⟨Obj.maxEraseCount, 1, 1, .u32, .ro, .any, false⟩,
  ⟨Obj.minEraseCount, 1, 1, .u32, .ro, .any, false⟩] ++ [
  ⟨Obj.objectSelect, 1, 1, (.octets 16), .rw, .any, false⟩,
  ⟨Obj.objectCommand, 1, 1, .u8, .wo, (.span (1) 5), false⟩,
  ⟨Obj.objectData, 1, 1, (.domain 67108864), .rw, .any, false⟩,
  ⟨Obj.objectAppendLength, 1, 1, .u32, .rw, (.span (0) 67108864), false⟩,
  ⟨Obj.objectWindowAddress, 1, 1, .u64, .ro, .any, false⟩,
  ⟨Obj.objectWindowKey, 1, 1, .u32, .ro, .any, false⟩,
  ⟨Obj.objectExpectedDigest, 1, 1, (.octets 32), .rw, .any, false⟩,
  ⟨Obj.objectState, 1, 1, .u8, .ro, .any, false⟩,
  ⟨Obj.objectLength, 1, 1, .u64, .ro, .any, false⟩,
  ⟨Obj.objectDigest, 1, 1, (.octets 32), .ro, .any, false⟩,
  ⟨Obj.objectLastReason, 1, 1, .u16, .ro, .any, false⟩,
  ⟨Obj.objectsOpen, 1, 1, .u8, .ro, .any, false⟩,
  ⟨Obj.discardBandsLeft, 1, 1, .u32, .ro, .any, false⟩,
  ⟨Obj.channelDiesInService, 32, 1, .u8, .ro, .any, false⟩,
  ⟨Obj.channelControllerState, 32, 1, .u8, .ro, .any, false⟩,
  ⟨Obj.channelReads, 32, 1, .u64, .ro, .any, false⟩] ++ [
  ⟨Obj.channelPrograms, 32, 1, .u64, .ro, .any, false⟩,
  ⟨Obj.channelErases, 32, 1, .u64, .ro, .any, false⟩,
  ⟨Obj.channelReadRetries, 32, 1, .u64, .ro, .any, false⟩,
  ⟨Obj.channelBusyTicks, 32, 1, .u64, .ro, .any, false⟩]

/-- The object rows of spec/13_rdma_and_sealed_connections.md. -/
def rows13 : List ObjRow :=
  [
  ⟨Obj.deviceAddress, 1, 1, (.octets 16), .rws, .any, true⟩,
  ⟨Obj.deviceAddressV4, 1, 1, .u32, .rws, .any, true⟩,
  ⟨Obj.portVlan, 1, 1, .u16, .rws, (.span (0) 4094), true⟩,
  ⟨Obj.pfcDataPriority, 1, 1, .u8, .rws, .any, true⟩,
  ⟨Obj.pfcControlPriority, 1, 1, .u8, .rws, (.span (0) 7), true⟩,
  ⟨Obj.controlDscp, 1, 1, .u8, .rws, (.span (0) 63), true⟩,
  ⟨Obj.peerDscp, 1, 1, .u8, .rws, (.span (0) 63), true⟩,
  ⟨Obj.handshakePort, 1, 1, .u16, .rws, .any, true⟩,
  ⟨Obj.serviceAdmissionKey, 1, 1, (.octets 32), .wo, .any, false⟩,
  ⟨Obj.serviceConnectionsMax, 1, 1, .u8, .rws, (.span (0) 64), true⟩,
  ⟨Obj.maxFrameBytes, 1, 1, .u16, .const, .any, false⟩,
  ⟨Obj.portGatewayMac, 1, 1, (.octets 6), .rws, .any, true⟩,
  ⟨Obj.retransmitTimeoutTicks, 1, 1, .u32, .rw, (.span (10000) 1000000000), true⟩,
  ⟨Obj.retryLimit, 1, 1, .u8, .rw, (.span (1) 7), true⟩,
  ⟨Obj.rnrRetryLimit, 1, 1, .u8, .rw, (.span (0) 7), true⟩,
  ⟨Obj.connWindowPackets, 1, 1, .u16, .const, .any, false⟩] ++ [
  ⟨Obj.reorderTimeoutTicks, 1, 1, .u32, .rw, (.span (1000) 10000000), true⟩,
  ⟨Obj.ackCoalescePackets, 1, 1, .u8, .rw, (.span (1) 64), true⟩,
  ⟨Obj.ackDelayTicks, 1, 1, .u32, .rw, (.span (100) 1000000), true⟩,
  ⟨Obj.connReceiveSlots, 1, 1, .u8, .rws, (.span (4) 128), true⟩,
  ⟨Obj.readDepth, 1, 1, .u8, .rws, (.span (1) 16), true⟩,
  ⟨Obj.revokeDrainTicks, 1, 1, .u32, .rw, (.span (10000) 100000000), true⟩,
  ⟨Obj.handshakeRetryTicks, 1, 1, .u32, .rw, (.span (1000000) 1000000000), true⟩,
  ⟨Obj.handshakeTimeoutTicks, 1, 1, .u32, .rw, (.span (10000000) 4000000000), true⟩,
  ⟨Obj.sealAuthLimit, 1, 1, .u16, .rw, (.span (1) 65535), true⟩,
  ⟨Obj.pfcXoffBytes, 1, 1, .u32, .rws, .any, true⟩,
  ⟨Obj.pfcXonBytes, 1, 1, .u32, .rws, .any, true⟩,
  ⟨Obj.pfcWatchdogTicks, 1, 1, .u32, .rw, (.span (1000000) 4000000000), true⟩,
  ⟨Obj.pfcRecoveryTicks, 1, 1, .u32, .rw, (.span (1000000) 4000000000), true⟩,
  ⟨Obj.rxDataBufferBytes, 1, 1, .u32, .const, .any, false⟩,
  ⟨Obj.connectionsEstablished, 1, 1, .u16, .ro, .any, false⟩,
  ⟨Obj.regionsRegistered, 1, 1, .u32, .ro, .any, false⟩] ++ [
  ⟨Obj.handshakeFailures, 1, 1, .u64, .ro, .any, false⟩,
  ⟨Obj.framesDiscarded, 1, 1, .u64, .ro, .any, false⟩,
  ⟨Obj.icrcErrors, 1, 1, .u64, .ro, .any, false⟩,
  ⟨Obj.cnpDiscarded, 1, 1, .u64, .ro, .any, false⟩,
  ⟨Obj.remoteAccessErrors, 1, 1, .u64, .ro, .any, false⟩,
  ⟨Obj.sealAuthFailures, 1, 1, .u64, .ro, .any, false⟩,
  ⟨Obj.sealReplays, 1, 1, .u64, .ro, .any, false⟩,
  ⟨Obj.reorderOverflows, 1, 1, .u64, .ro, .any, false⟩,
  ⟨Obj.sequenceNaksSent, 1, 1, .u64, .ro, .any, false⟩,
  ⟨Obj.rnrNaksReceived, 1, 1, .u64, .ro, .any, false⟩,
  ⟨Obj.pfcStorms, 1, 1, .u64, .ro, .any, false⟩,
  ⟨Obj.portState, 16, 1, .u8, .ro, .any, false⟩,
  ⟨Obj.portBreakout, 16, 1, .u8, .rws, (.span (0) 1), true⟩,
  ⟨Obj.portPhy, 16, 1, .u8, .rws, (.span (0) 2), true⟩,
  ⟨Obj.portRateGbps, 16, 1, .u16, .ro, .any, false⟩,
  ⟨Obj.portConnections, 16, 1, .u16, .ro, .any, false⟩] ++ [
  ⟨Obj.portTxBytes, 16, 1, .u64, .ro, .any, false⟩,
  ⟨Obj.portRxBytes, 16, 1, .u64, .ro, .any, false⟩,
  ⟨Obj.portPauseSent, 16, 1, .u64, .ro, .any, false⟩,
  ⟨Obj.portPauseReceived, 16, 1, .u64, .ro, .any, false⟩,
  ⟨Obj.portFecCorrected, 16, 1, .u64, .ro, .any, false⟩,
  ⟨Obj.portFecUncorrected, 16, 1, .u64, .ro, .any, false⟩,
  ⟨Obj.jobAdmissionKey, 64, 1, (.octets 32), .wo, .any, false⟩,
  ⟨Obj.openAdmission, 64, 1, .bool, .ro, .any, false⟩,
  ⟨Obj.slotConsumerConnections, 64, 1, .u16, .ro, .any, false⟩,
  ⟨Obj.slotPeerConnections, 64, 1, .u16, .ro, .any, false⟩,
  ⟨Obj.slotReconnections, 64, 1, .u64, .ro, .any, false⟩,
  ⟨Obj.lastNetReason, 64, 1, .u16, .ro, .any, false⟩,
  ⟨Obj.connSelect, 1, 1, .u16, .rw, (.span (0) 17471), false⟩,
  ⟨Obj.connState, 1, 1, .u8, .ro, .any, false⟩,
  ⟨Obj.connKind, 1, 1, .u8, .ro, .any, false⟩,
  ⟨Obj.connSlot, 1, 1, .u8, .ro, .any, false⟩] ++ [
  ⟨Obj.connPeerAddress, 1, 1, (.octets 16), .ro, .any, false⟩,
  ⟨Obj.connLocalQpn, 1, 1, .u32, .ro, .any, false⟩,
  ⟨Obj.connRemoteQpn, 1, 1, .u32, .ro, .any, false⟩,
  ⟨Obj.connSealSpray, 1, 1, .u8, .ro, .any, false⟩,
  ⟨Obj.connPort, 1, 1, .u8, .ro, .any, false⟩,
  ⟨Obj.connTxCounter, 1, 1, .u64, .ro, .any, false⟩,
  ⟨Obj.connRetransmits, 1, 1, .u64, .ro, .any, false⟩,
  ⟨Obj.connLastReason, 1, 1, .u16, .ro, .any, false⟩]

/-- The object rows of spec/14_traffic_manager.md. -/
def rows14 : List ObjRow :=
  [
  ⟨Obj.controlGuardFrames, 1, 1, .u16, .rw, (.span (1) 1024), true⟩,
  ⟨Obj.peerQuantumBytes, 1, 1, .u32, .rw, (.span (4278) 16777216), true⟩,
  ⟨Obj.serviceQuantumBytes, 1, 1, .u32, .rw, (.span (4278) 16777216), true⟩,
  ⟨Obj.peerShaperProfile, 1, 1, .u8, .rws, (.spans [(0, 31), (255, 255)]), true⟩,
  ⟨Obj.serviceShaperProfile, 1, 1, .u8, .rws, (.spans [(0, 31), (255, 255)]), true⟩,
  ⟨Obj.peerPolicerProfile, 1, 1, .u8, .rws, (.spans [(0, 31), (255, 255)]), true⟩,
  ⟨Obj.servicePolicerProfile, 1, 1, .u8, .rws, (.spans [(0, 31), (255, 255)]), true⟩,
  ⟨Obj.shaperResetDefault, 1, 1, .u8, .rw, (.span (0) 1), true⟩,
  ⟨Obj.policerColourDefault, 1, 1, .u8, .rws, (.span (0) 1), true⟩,
  ⟨Obj.policerRnrTimer, 1, 1, .u8, .rw, (.span (1) 31), true⟩,
  ⟨Obj.retransmitPromote, 1, 1, .bool, .rw, .any, true⟩,
  ⟨Obj.shaperResets, 1, 1, .u64, .ro, .any, false⟩,
  ⟨Obj.shaperHoldTicks, 1, 1, .u64, .ro, .any, false⟩,
  ⟨Obj.dscpRemarked, 1, 1, .u64, .ro, .any, false⟩,
  ⟨Obj.meteredGreen, 1, 1, .u64, .ro, .any, false⟩,
  ⟨Obj.meteredYellow, 1, 1, .u64, .ro, .any, false⟩] ++ [
  ⟨Obj.meteredRed, 1, 1, .u64, .ro, .any, false⟩,
  ⟨Obj.policerRnrSent, 1, 1, .u64, .ro, .any, false⟩,
  ⟨Obj.shapeRateMbps, 32, 1, .u32, .rw, (.span (0) 400000), true⟩,
  ⟨Obj.shapeBurstBytes, 32, 1, .u32, .rw, (.span (4278) 268435456), true⟩,
  ⟨Obj.shapeUsers, 32, 1, .u16, .ro, .any, false⟩,
  ⟨Obj.policerKind, 32, 1, .u8, .rw, (.span (0) 1), true⟩,
  ⟨Obj.policerCirMbps, 32, 1, .u32, .rw, (.span (0) 400000), true⟩,
  ⟨Obj.policerCbsBytes, 32, 1, .u32, .rw, (.span (4258) 268435456), true⟩,
  ⟨Obj.policerEbsBytes, 32, 1, .u32, .rw, (.spans [(0, 0), (4258, 268435456)]), true⟩,
  ⟨Obj.policerPirMbps, 32, 1, .u32, .rw, (.span (0) 400000), true⟩,
  ⟨Obj.policerPbsBytes, 32, 1, .u32, .rw, (.span (4258) 268435456), true⟩,
  ⟨Obj.policerUsers, 32, 1, .u16, .ro, .any, false⟩,
  ⟨Obj.slotShaperProfile, 64, 1, .u8, .rw, (.spans [(0, 31), (255, 255)]), false⟩,
  ⟨Obj.slotQuantumBytes, 64, 1, .u32, .rw, (.span (4278) 16777216), false⟩,
  ⟨Obj.slotPolicerProfile, 64, 1, .u8, .rw, (.spans [(0, 31), (255, 255)]), false⟩,
  ⟨Obj.slotMeteredRed, 64, 1, .u64, .ro, .any, false⟩] ++ [
  ⟨Obj.slotRnrSent, 64, 1, .u64, .ro, .any, false⟩,
  ⟨Obj.lastTrafficReason, 64, 1, .u16, .ro, .any, false⟩,
  ⟨Obj.portDataFramesSent, 16, 1, .u64, .ro, .any, false⟩,
  ⟨Obj.portControlFramesSent, 16, 1, .u64, .ro, .any, false⟩,
  ⟨Obj.portGuardGrants, 16, 1, .u64, .ro, .any, false⟩,
  ⟨Obj.portActiveQueues, 16, 1, .u16, .ro, .any, false⟩]

/-- The object rows of spec/15_faults_replay_abort.md. -/
def rows15 : List ObjRow :=
  [
  ⟨Obj.faultLogEntries, 1, 1, .u16, .const, .any, false⟩,
  ⟨Obj.faultLogNext, 1, 1, .u32, .ro, .any, false⟩,
  ⟨Obj.faultSelect, 1, 1, .u32, .rw, .any, false⟩,
  ⟨Obj.faultRecord, 1, 1, (.octets 64), .ro, .any, false⟩,
  ⟨Obj.faultLog, 1, 1, (.domain 262144), .ro, .any, false⟩,
  ⟨Obj.faultMergeTicks, 1, 1, .u32, .rw, (.span (0) 1000000000), true⟩,
  ⟨Obj.faultRecordsLost, 1, 1, .u64, .ro, .any, false⟩,
  ⟨Obj.itemRetryLimit, 1, 1, .u8, .rws, (.span (1) 8), true⟩,
  ⟨Obj.elementRetireFaults, 1, 1, .u8, .rws, (.span (1) 16), true⟩,
  ⟨Obj.itemHistoryBytes, 1, 1, .u64, .rws, (.mult 16777216 17179869184 4096), true⟩,
  ⟨Obj.replacementLogBytes, 1, 1, .u64, .rws, (.mult 1048576 4294967296 4096), true⟩,
  ⟨Obj.faultCount, 1, 12, .u64, .ro, .any, false⟩,
  ⟨Obj.memberTimeoutTicks, 1, 1, .u32, .rw, (.span (2000000) 1000000000), true⟩,
  ⟨Obj.keepaliveTicks, 1, 1, .u32, .rw, (.span (100000) 100000000), true⟩,
  ⟨Obj.abortRepeatTicks, 1, 1, .u32, .const, .any, false⟩,
  ⟨Obj.abortActTicks, 1, 1, .u32, .const, .any, false⟩] ++ [
  ⟨Obj.abortsRaised, 1, 1, .u64, .ro, .any, false⟩,
  ⟨Obj.abortsReceived, 1, 1, .u64, .ro, .any, false⟩,
  ⟨Obj.abortsLate, 1, 1, .u64, .ro, .any, false⟩,
  ⟨Obj.abortsIgnored, 1, 1, .u64, .ro, .any, false⟩,
  ⟨Obj.stepState, 64, 1, .u8, .ro, .any, false⟩,
  ⟨Obj.stepCommand, 64, 1, .u8, .wo, (.span (1) 4), false⟩,
  ⟨Obj.resumeTick, 64, 1, .u64, .rw, .any, false⟩,
  ⟨Obj.replayEpoch, 64, 1, .u16, .rw, .any, false⟩,
  ⟨Obj.resumeCorruptPolicy, 64, 1, .u8, .rw, (.span (0) 2), false⟩,
  ⟨Obj.expectedMembershipDigest, 64, 1, (.octets 32), .rw, .any, false⟩,
  ⟨Obj.membershipDigest, 64, 1, (.octets 32), .ro, .any, false⟩,
  ⟨Obj.membersInStep, 64, 1, .u16, .ro, .any, false⟩,
  ⟨Obj.replayGeneration, 64, 1, .u16, .ro, .any, false⟩,
  ⟨Obj.lastAbortCause, 64, 1, .u16, .ro, .any, false⟩,
  ⟨Obj.lastAbortRaiser, 64, 1, (.octets 16), .ro, .any, false⟩,
  ⟨Obj.lastAbortTick, 64, 1, .u64, .ro, .any, false⟩] ++ [
  ⟨Obj.lastAbortBatch, 64, 1, .u64, .ro, .any, false⟩,
  ⟨Obj.lastAbortStream, 64, 1, .u8, .ro, .any, false⟩,
  ⟨Obj.stepLastReason, 64, 1, .u16, .ro, .any, false⟩,
  ⟨Obj.haltedTicks, 64, 1, .u64, .ro, .any, false⟩,
  ⟨Obj.replayUnrecorded, 64, 1, .u64, .ro, .any, false⟩,
  ⟨Obj.placementCollisions, 64, 1, .u32, .ro, .any, false⟩,
  ⟨Obj.replayBatch, 64, 16, .u64, .rw, .any, false⟩,
  ⟨Obj.memberOldUid, 64, 1, (.octets 16), .rw, .any, false⟩,
  ⟨Obj.memberNewUid, 64, 1, (.octets 16), .rw, .any, false⟩,
  ⟨Obj.memberNewAddress, 64, 1, (.octets 16), .rw, .any, false⟩,
  ⟨Obj.memberCommand, 64, 1, .u8, .wo, (.span (1) 3), false⟩,
  ⟨Obj.memberDomainKind, 64, 1, .u8, .rw, (.span (0) 3), false⟩,
  ⟨Obj.memberDomainValue, 64, 1, .u16, .rw, (.span (1) 65535), false⟩,
  ⟨Obj.pendingChanges, 64, 1, .u16, .ro, .any, false⟩,
  ⟨Obj.replacedNodes, 64, 1, .u16, .ro, .any, false⟩,
  ⟨Obj.historySelect, 64, 1, .u64, .rw, .any, false⟩] ++ [
  ⟨Obj.historyRecord, 64, 1, (.octets 64), .ro, .any, false⟩,
  ⟨Obj.historyRing, 64, 1, (.domain 17179869184), .ro, .any, false⟩,
  ⟨Obj.historyRecords, 64, 1, .u64, .ro, .any, false⟩,
  ⟨Obj.replacementsLogged, 64, 1, .u64, .ro, .any, false⟩,
  ⟨Obj.replacementLogFull, 64, 1, .u64, .ro, .any, false⟩]

/-- The object rows of spec/16_boot_identity_firmware.md. -/
def rows16 : List ObjRow :=
  [
  ⟨Obj.bootState, 1, 1, .u8, .ro, .any, false⟩,
  ⟨Obj.bootCause, 1, 1, .u8, .ro, .any, false⟩,
  ⟨Obj.fwVersionMajor, 1, 1, .u16, .ro, .any, false⟩,
  ⟨Obj.fwVersionMinor, 1, 1, .u16, .ro, .any, false⟩,
  ⟨Obj.fwVersionPatch, 1, 1, .u16, .ro, .any, false⟩,
  ⟨Obj.fwSecurityVersion, 1, 1, .u16, .ro, .any, false⟩,
  ⟨Obj.fuseSecurityVersion, 1, 1, .u8, .ro, .any, false⟩,
  ⟨Obj.fwImageDigest, 1, 1, (.octets 32), .ro, .any, false⟩,
  ⟨Obj.rootKeySlot, 1, 1, .u8, .ro, .any, false⟩,
  ⟨Obj.rootKeyRevoked, 1, 1, .u8, .ro, .any, false⟩,
  ⟨Obj.bootFailStreak, 1, 1, .u8, .ro, .any, false⟩,
  ⟨Obj.recoveryAttempts, 1, 1, .u32, .ro, .any, false⟩,
  ⟨Obj.recoveryFault, 1, 1, .u8, .ro, .any, false⟩,
  ⟨Obj.bootFlashBytes, 1, 1, .u64, .ro, .any, false⟩,
  ⟨Obj.bootFlashId, 1, 1, (.octets 3), .ro, .any, false⟩,
  ⟨Obj.fwImage, 1, 1, (.domain 50331648), .rw, .any, false⟩] ++ [
  ⟨Obj.fwSourceObject, 1, 1, (.octets 16), .rw, .any, false⟩,
  ⟨Obj.fwCommand, 1, 1, .u8, .wo, (.span (1) 5), false⟩,
  ⟨Obj.fwState, 1, 1, .u8, .ro, .any, false⟩,
  ⟨Obj.fwLastResult, 1, 1, .u8, .ro, .any, false⟩,
  ⟨Obj.fwStagedDigest, 1, 1, (.octets 32), .ro, .any, false⟩,
  ⟨Obj.fwStagedVersion, 1, 1, .u64, .ro, .any, false⟩,
  ⟨Obj.fwInstallProgress, 1, 1, .u32, .ro, .any, false⟩,
  ⟨Obj.identityState, 1, 1, .u8, .ro, .any, false⟩,
  ⟨Obj.identityIndex, 1, 1, .u64, .ro, .any, false⟩,
  ⟨Obj.identityIndexesLeft, 1, 1, .u64, .ro, .any, false⟩,
  ⟨Obj.bindingCount, 1, 1, .u8, .ro, .any, false⟩,
  ⟨Obj.identityPublicKey, 1, 1, (.octets 68), .const, .any, false⟩,
  ⟨Obj.identityCertificate, 1, 1, (.domain 10005), .ro, .any, false⟩,
  ⟨Obj.bootCertificate, 1, 1, (.domain 10045), .ro, .any, false⟩,
  ⟨Obj.kemCredential, 1, 1, (.domain 24342), .ro, .any, false⟩,
  ⟨Obj.bootKeyIndexesLeft, 1, 1, .u32, .ro, .any, false⟩] ++ [
  ⟨Obj.vendorRootKey, 1, 4, (.octets 68), .const, .any, false⟩,
  ⟨Obj.quoteNonce, 1, 1, (.octets 32), .rw, .any, false⟩,
  ⟨Obj.quoteCommand, 1, 1, .u8, .wo, (.span (1) 1), false⟩,
  ⟨Obj.quote, 1, 1, (.domain 23078), .ro, .any, false⟩,
  ⟨Obj.quoteLastResult, 1, 1, .u8, .ro, .any, false⟩,
  ⟨Obj.quotesIssued, 1, 1, .u32, .ro, .any, false⟩,
  ⟨Obj.measureValue, 1, 1, (.octets 32), .rw, .any, false⟩,
  ⟨Obj.measureCommand, 1, 1, .u8, .wo, (.span (1) 1), false⟩,
  ⟨Obj.measurement, 1, 8, (.octets 32), .ro, .any, false⟩,
  ⟨Obj.revokedUidCount, 1, 1, .u16, .ro, .any, false⟩,
  ⟨Obj.revokeUid, 1, 1, (.octets 16), .rw, .any, false⟩,
  ⟨Obj.revokeCommand, 1, 1, .u8, .wo, (.span (1) 3), false⟩,
  ⟨Obj.revokedUids, 1, 1, (.domain 4096), .ro, .any, true⟩,
  ⟨Obj.securityCommand, 1, 1, .u8, .wo, (.span (1) 1), false⟩]

/-- The object rows of spec/17_bilyen_bus.md. -/
def rows17 : List ObjRow :=
  [
  ⟨Obj.busAddress, 1, 1, .u8, .ro, .any, false⟩,
  ⟨Obj.busAddressState, 1, 1, .u8, .ro, .any, false⟩,
  ⟨Obj.chainPosition, 1, 1, .u8, .ro, .any, false⟩,
  ⟨Obj.chainLength, 1, 1, .u8, .ro, .any, false⟩,
  ⟨Obj.chainInLevel, 1, 1, .bool, .ro, .any, false⟩,
  ⟨Obj.chainBroken, 1, 1, .bool, .ro, .any, false⟩,
  ⟨Obj.busNominalRate, 1, 1, .u32, .const, .any, false⟩,
  ⟨Obj.busDataRate, 1, 1, .u32, .rw, (.spans [(2000000, 2000000), (4000000, 4000000), (5000000, 5000000)]), true⟩,
  ⟨Obj.bdpTimeoutTicks, 1, 1, .u32, .rw, (.span (10000000) 4000000000), true⟩,
  ⟨Obj.blockFrames, 1, 1, .u8, .rw, (.span (8) 64), true⟩,
  ⟨Obj.eventMask, 1, 1, .u8, .rw, .any, true⟩,
  ⟨Obj.eventRepeatTicks, 1, 1, .u32, .rw, (.span (10000000) 4000000000), true⟩,
  ⟨Obj.walkSettleTicks, 1, 1, .u32, .const, .any, false⟩,
  ⟨Obj.claimHoldTicks, 1, 1, .u32, .const, .any, false⟩,
  ⟨Obj.bdpLastAbort, 1, 1, .u16, .ro, .any, false⟩,
  ⟨Obj.busFramesReceived, 1, 1, .u64, .ro, .any, false⟩] ++ [
  ⟨Obj.busFramesSent, 1, 1, .u64, .ro, .any, false⟩,
  ⟨Obj.busFramesDiscarded, 1, 1, .u64, .ro, .any, false⟩,
  ⟨Obj.busErrorFrames, 1, 1, .u64, .ro, .any, false⟩,
  ⟨Obj.busOffCount, 1, 1, .u32, .ro, .any, false⟩,
  ⟨Obj.transmitErrorCount, 1, 1, .u8, .ro, .any, false⟩,
  ⟨Obj.receiveErrorCount, 1, 1, .u8, .ro, .any, false⟩,
  ⟨Obj.transfersCompleted, 1, 1, .u64, .ro, .any, false⟩,
  ⟨Obj.transfersAborted, 1, 1, .u64, .ro, .any, false⟩,
  ⟨Obj.eventsSent, 1, 1, .u64, .ro, .any, false⟩,
  ⟨Obj.eventsLost, 1, 1, .u64, .ro, .any, false⟩,
  ⟨Obj.walksSeen, 1, 1, .u32, .ro, .any, false⟩,
  ⟨Obj.addressConflicts, 1, 1, .u32, .ro, .any, false⟩]

/-- The object rows of spec/18_object_dictionary_reference.md. -/
def rows18 : List ObjRow :=
  [
  ⟨Obj.vendorName, 1, 1, (.str 255), .const, .any, false⟩,
  ⟨Obj.familyName, 1, 1, (.str 255), .const, .any, false⟩,
  ⟨Obj.productName, 1, 1, (.str 255), .const, .any, false⟩,
  ⟨Obj.partNumber, 1, 1, (.str 255), .const, .any, false⟩,
  ⟨Obj.orderingCode, 1, 1, (.str 255), .const, .any, false⟩,
  ⟨Obj.stepping, 1, 1, .u8, .const, .any, false⟩,
  ⟨Obj.packageCode, 1, 1, (.str 255), .const, .any, false⟩,
  ⟨Obj.deviceUid, 1, 1, (.octets 16), .const, .any, false⟩,
  ⟨Obj.serialNumber, 1, 1, (.str 32), .const, .any, false⟩,
  ⟨Obj.manufactureSeconds, 1, 1, .u64, .const, .any, false⟩,
  ⟨Obj.macAddressBase, 1, 1, (.octets 6), .const, .any, false⟩,
  ⟨Obj.macAddressCount, 1, 1, .u8, .const, .any, false⟩,
  ⟨Obj.dictionaryVersion, 1, 1, .u16, .const, .any, false⟩,
  ⟨Obj.dictionaryMapDigest, 1, 1, (.octets 32), .ro, .any, false⟩,
  ⟨Obj.describeIndex, 1, 1, .u16, .rw, .any, false⟩,
  ⟨Obj.describeSub, 1, 1, .u8, .rw, .any, false⟩] ++ [
  ⟨Obj.description, 1, 1, (.octets 16), .ro, .any, false⟩,
  ⟨Obj.dictionaryMap, 1, 1, (.domain 1048576), .ro, .any, false⟩,
  ⟨Obj.persistCommand, 1, 1, .u8, .wo, (.span (1) 1), false⟩,
  ⟨Obj.persistPending, 1, 1, .u16, .ro, .any, false⟩,
  ⟨Obj.persistRecords, 1, 1, .u32, .ro, .any, false⟩,
  ⟨Obj.persistFreeBytes, 1, 1, .u32, .ro, .any, false⟩,
  ⟨Obj.persistCompactions, 1, 1, .u32, .ro, .any, false⟩,
  ⟨Obj.persistErrors, 1, 1, .u32, .ro, .any, false⟩]

/-- The object rows of spec/19_counters.md. -/
def rows19 : List ObjRow :=
  [
  ⟨Obj.counterBanks, 1, 1, .u8, .const, .any, false⟩,
  ⟨Obj.countersTotal, 1, 1, .u16, .const, .any, false⟩,
  ⟨Obj.snapshotTicks, 1, 1, .u32, .rw, (.mult 1000000 1000000000 1000000), true⟩,
  ⟨Obj.snapshotEnable, 1, 1, .bool, .rw, .any, false⟩,
  ⟨Obj.snapshotSeq, 1, 1, .u64, .ro, .any, false⟩,
  ⟨Obj.snapshotRingEntries, 1, 1, .u16, .const, .any, false⟩,
  ⟨Obj.snapshotSelect, 1, 1, .u64, .rw, .any, false⟩,
  ⟨Obj.snapshot, 1, 1, (.domain 3232), .ro, .any, false⟩,
  ⟨Obj.snapshotRing, 1, 1, (.domain 3309568), .ro, .any, false⟩,
  ⟨Obj.snapshotRecordBytes, 1, 1, .u16, .const, .any, false⟩,
  ⟨Obj.snapshotLatencyTicks, 1, 1, .u32, .const, .any, false⟩,
  ⟨Obj.snapshotsMissed, 1, 1, .u64, .ro, .any, false⟩,
  ⟨Obj.bandwidthWindowSnapshots, 1, 1, .u8, .rw, (.span (1) 64), true⟩,
  ⟨Obj.counterCommand, 1, 1, .u8, .wo, (.span (1) 2), false⟩,
  ⟨Obj.bankCounters, 8, 1, .u8, .const, .any, false⟩,
  ⟨Obj.bankClockDomain, 8, 1, .u8, .const, .any, false⟩] ++ [
  ⟨Obj.bankOverflows, 8, 1, .u64, .ro, .any, false⟩,
  ⟨Obj.counterControl, 256, 1, .u32, .rw, .any, false⟩,
  ⟨Obj.counterValue, 256, 1, .u32, .rw, .any, false⟩,
  ⟨Obj.counterValue64, 256, 1, .u64, .ro, .any, false⟩,
  ⟨Obj.counterOverflowed, 256, 1, .bool, .ro, .any, false⟩,
  ⟨Obj.portTxDataMbps, 16, 1, .u32, .ro, .any, false⟩,
  ⟨Obj.portTxWirePermille, 16, 1, .u16, .ro, .any, false⟩,
  ⟨Obj.portRxDataMbps, 16, 1, .u32, .ro, .any, false⟩,
  ⟨Obj.portRxWirePermille, 16, 1, .u16, .ro, .any, false⟩,
  ⟨Obj.portWindowTicks, 16, 1, .u64, .ro, .any, false⟩]

/-- The object rows of spec/20_selftest_repair_ageing.md. -/
def rows20 : List ObjRow :=
  [
  ⟨Obj.selftestState, 1, 1, .u8, .ro, .any, false⟩,
  ⟨Obj.selftestCommand, 1, 1, .u8, .wo, (.span (1) 4), false⟩,
  ⟨Obj.selftestIslandMask, 1, 1, .u32, .rw, .any, false⟩,
  ⟨Obj.selftestArrayMask, 1, 1, .u8, .rw, .any, false⟩,
  ⟨Obj.lbistPatterns, 1, 1, .u32, .rw, (.mult 1024 262144 1024), false⟩,
  ⟨Obj.lbistVoltageOffsetMv, 1, 1, .i32, .rw, (.span (-50) 0), false⟩,
  ⟨Obj.lbistParallel, 1, 1, .u8, .rw, (.span (1) 13), true⟩,
  ⟨Obj.startupSelftest, 1, 1, .u8, .rw, .any, true⟩,
  ⟨Obj.startupLbistPatterns, 1, 1, .u32, .rw, (.mult 1024 262144 1024), true⟩,
  ⟨Obj.marchPreserveCycles, 1, 1, .u32, .rw, (.span (10) 1000000), false⟩,
  ⟨Obj.selftestLastResult, 1, 1, .u8, .ro, .any, false⟩,
  ⟨Obj.lbistLastFailIsland, 1, 1, .u8, .ro, .any, true⟩,
  ⟨Obj.selftestRuns, 1, 1, .u64, .ro, .any, false⟩,
  ⟨Obj.lbistPartitions, 17, 1, .u16, .const, .any, false⟩,
  ⟨Obj.lbistChainFlops, 17, 1, .u16, .const, .any, false⟩,
  ⟨Obj.lbistFailedPartitions, 17, 1, .u16, .ro, .any, false⟩] ++ [
  ⟨Obj.lbistLastTick, 17, 1, .u64, .ro, .any, false⟩,
  ⟨Obj.marchLastTick, 84, 1, .u64, .ro, .any, false⟩,
  ⟨Obj.marchBadRows, 84, 1, .u32, .ro, .any, false⟩,
  ⟨Obj.marchSpareRowsMin, 84, 1, .u8, .ro, .any, false⟩,
  ⟨Obj.repairFuseEntries, 1, 1, .u16, .const, .any, false⟩,
  ⟨Obj.repairFusesUsed, 1, 1, .u16, .ro, .any, false⟩,
  ⟨Obj.repairFuseMap, 1, 1, (.domain 8192), .ro, .any, false⟩,
  ⟨Obj.repairJournal, 1, 1, (.domain 2048), .ro, .any, true⟩,
  ⟨Obj.repairJournalDropped, 1, 1, .u32, .ro, .any, false⟩,
  ⟨Obj.fuseBurnEnable, 1, 1, .bool, .rw, .any, true⟩,
  ⟨Obj.fuseBurnFailures, 1, 1, .u32, .ro, .any, false⟩,
  ⟨Obj.softRepairs, 1, 1, .u32, .ro, .any, false⟩,
  ⟨Obj.repairConflicts, 1, 1, .u32, .ro, .any, false⟩,
  ⟨Obj.planIntervalTicks, 1, 1, .u64, .rw, (.span (10000000000) 86400000000000), true⟩,
  ⟨Obj.targetSlackPs, 1, 1, .u16, .rw, (.span (30) 300), true⟩,
  ⟨Obj.floorSlackPs, 1, 1, .u16, .rw, .any, true⟩] ++ [
  ⟨Obj.ageingState, 1, 1, .u8, .ro, .any, false⟩,
  ⟨Obj.plannerCommand, 1, 1, .u8, .wo, (.span (1) 1), false⟩,
  ⟨Obj.voltageRaises, 1, 1, .u32, .ro, .any, false⟩,
  ⟨Obj.voltageLowers, 1, 1, .u32, .ro, .any, false⟩,
  ⟨Obj.railPlannedMv, 8, 1, .u16, .ro, .any, true⟩,
  ⟨Obj.railMinMv, 8, 1, .u16, .const, .any, false⟩,
  ⟨Obj.railMaxMv, 8, 1, .u16, .const, .any, false⟩,
  ⟨Obj.pathDelayPs, 17, 1, .u16, .ro, .any, false⟩,
  ⟨Obj.baselineDelayPs, 17, 1, .u16, .const, .any, false⟩,
  ⟨Obj.slackPs, 17, 1, .i32, .ro, .any, false⟩,
  ⟨Obj.ageingPs, 17, 1, .i32, .ro, .any, false⟩]

/-- The object rows of spec/21_signals_power_package.md. -/
def rows21 : List ObjRow :=
  [
  ⟨Obj.powerState, 1, 1, .u8, .ro, .any, false⟩,
  ⟨Obj.powerCommand, 1, 1, .u8, .wo, (.span (1) 3), false⟩,
  ⟨Obj.powerLastResult, 1, 1, .u8, .ro, .any, false⟩,
  ⟨Obj.powerInputW, 1, 1, .u32, .ro, .any, false⟩,
  ⟨Obj.powerPeakW, 1, 1, .u32, .ro, .any, false⟩,
  ⟨Obj.powerPollTicks, 1, 1, .u32, .rw, (.span (100000) 100000000), true⟩,
  ⟨Obj.powerOverTdpTicks, 1, 1, .u64, .ro, .any, false⟩,
  ⟨Obj.retainSramMv, 1, 1, .u16, .rw, .any, true⟩,
  ⟨Obj.avsClockKhz, 1, 1, .u32, .rws, (.span (1000) 50000), true⟩,
  ⟨Obj.retainEntries, 1, 1, .u32, .ro, .any, false⟩,
  ⟨Obj.tdpWatts, 1, 1, .u16, .const, .any, false⟩,
  ⟨Obj.holdUpState, 1, 1, .u8, .ro, .any, false⟩,
  ⟨Obj.holdUpCommand, 1, 1, .u8, .wo, (.span (1) 1), false⟩,
  ⟨Obj.holdUpVolts, 1, 1, .u32, .ro, .any, false⟩,
  ⟨Obj.holdUpCapacitanceUf, 1, 1, .u32, .ro, .any, false⟩,
  ⟨Obj.holdUpEsrMilliohms, 1, 1, .u32, .ro, .any, false⟩] ++ [
  ⟨Obj.holdUpEnergyMicroJoules, 1, 1, .u32, .ro, .any, false⟩,
  ⟨Obj.holdUpLastTestTick, 1, 1, .u64, .ro, .any, false⟩,
  ⟨Obj.holdUpDividerRatio, 1, 1, .u16, .rws, (.span (2) 1000), true⟩,
  ⟨Obj.holdUpLoadOhms, 1, 1, .u16, .rws, (.span (1) 10000), true⟩,
  ⟨Obj.holdUpTestTicks, 1, 1, .u32, .rws, (.span (200000) 100000000), true⟩,
  ⟨Obj.holdUpCapTicks, 1, 1, .u64, .rw, (.span (10000000000) 86400000000000), true⟩,
  ⟨Obj.holdUpMinMv, 1, 1, .u32, .rws, (.span (1000) 60000), true⟩,
  ⟨Obj.holdUpEfficiencyPermille, 1, 1, .u16, .rws, (.span (500) 1000), true⟩,
  ⟨Obj.holdUpMarginPermille, 1, 1, .u16, .rw, (.span (1000) 4000), true⟩,
  ⟨Obj.holdUpEsrMaxMilliohms, 1, 1, .u32, .rw, (.span (1) 10000), true⟩,
  ⟨Obj.holdUpTests, 1, 1, .u32, .ro, .any, false⟩,
  ⟨Obj.tempWarnC, 1, 1, .u8, .rw, (.span (70) 100), true⟩,
  ⟨Obj.tempShutdownC, 1, 1, .u8, .rw, (.span (90) 105), true⟩,
  ⟨Obj.tempMaxC, 1, 1, .i32, .ro, .any, false⟩,
  ⟨Obj.thermalWarnings, 1, 1, .u32, .ro, .any, false⟩,
  ⟨Obj.tileSensorCount, 8, 1, .u8, .const, .any, false⟩] ++ [
  ⟨Obj.tileTempC, 8, 1, .i32, .ro, .any, false⟩,
  ⟨Obj.tileTempMaxC, 8, 1, .i32, .ro, .any, false⟩,
  ⟨Obj.railName, 15, 1, (.str 255), .const, .any, false⟩,
  ⟨Obj.railPmbusAddress, 15, 1, .u8, .rws, (.span (8) 119), true⟩,
  ⟨Obj.railVoutMv, 15, 1, .u32, .ro, .any, false⟩,
  ⟨Obj.railIoutMa, 15, 1, .u32, .ro, .any, false⟩,
  ⟨Obj.railPoutMw, 15, 1, .u32, .ro, .any, false⟩,
  ⟨Obj.railStatusWord, 15, 1, .u16, .ro, .any, false⟩,
  ⟨Obj.railFaults, 15, 1, .u32, .ro, .any, false⟩]

/-- Every row of the dictionary. -/
def catalogue : List ObjRow :=
  rows01 ++ rows02 ++ rows03 ++ rows04 ++ rows05 ++ rows06 ++ rows07 ++ rows08 ++ rows09 ++ rows10 ++ rows11 ++ rows12 ++ rows13 ++ rows14 ++ rows15 ++ rows16 ++ rows17 ++ rows18 ++ rows19 ++ rows20 ++ rows21

/-- The objects whose default (R515) is the same for every instance and not 0: key of instance 0, instances,
sub-indices, default. -/
def defaultRows : List (Nat × Nat × Nat × Nat) :=
  [
  (Obj.sliceTicks, 1, 1, 1000000),
  (Obj.launchLeadMin, 1, 1, 10000000),
  (Obj.manifestMaxBytes, 1, 1, 67108864),
  (Obj.lastDeliveredBatch, 1024, 1, 0xffffffffffffffff),
  (Obj.syncSource, 1, 1, 1),
  (Obj.syncWindowTicks, 1, 1, 10),
  (Obj.slewLimitPpm, 1, 1, 100),
  (Obj.stepThresholdTicks, 1, 1, 1000),
  (Obj.holdoverDriftPpb, 1, 1, 50),
  (Obj.ptpTransport, 1, 1, 1),
  (Obj.ptpSyncIntervalLog, 1, 1, 4294967292),
  (Obj.releaseQuantumTile, 1, 1, 4),
  (Obj.releaseQuantumViaduct, 1, 1, 8),
  (Obj.releaseQuantumPhy, 1, 1, 8),
  (Obj.maxRecordBytes, 1, 1, 268435456),
  (Obj.shardOpenCacheEntries, 1, 1, 65536),
  (Obj.peerFetchTimeoutTicks, 1, 1, 2000000),
  (Obj.defaultCostImage, 1, 1, 4096),
  (Obj.defaultCostSignal, 1, 1, 2048),
  (Obj.defaultCostText, 1, 1, 256),
  (Obj.annotationEnable, 1, 1, 1),
  (Obj.riffleBlocksPerTick, 1, 1, 8),
  (Obj.censusTimeoutTicks, 1, 1, 500000000),
  (Obj.probeSample, 64, 1, 0xffffffffffffffff)] ++ [
  (Obj.maxDecodedBytes, 1, 1, 1073741824),
  (Obj.defaultWorkLimit, 1, 1, 34359738368),
  (Obj.slowLanePiers, 1, 1, 4),
  (Obj.budgetFloorTicks, 1, 1, 200000),
  (Obj.dispatchLookahead, 1, 1, 65536),
  (Obj.relaxedGraceTicks, 1, 1, 2000000),
  (Obj.defaultMaxRatio, 1, 1, 4096),
  (Obj.cacheCompressEnginesMin, 1, 1, 1),
  (Obj.imageDealersPerTile, 1, 1, 16),
  (Obj.signalDealersPerTile, 1, 1, 8),
  (Obj.dealerSparesPerKind, 1, 1, 2),
  (Obj.zstdEnginesPerTile, 1, 1, 4),
  (Obj.dealerMaxDimension, 1, 1, 16384),
  (Obj.slowLaneMaxDimension, 1, 1, 65535),
  (Obj.imageDealersInService, 1, 1, 32),
  (Obj.signalDealersInService, 1, 1, 16),
  (Obj.imageSparesLeft, 1, 1, 4),
  (Obj.signalSparesLeft, 1, 1, 4),
  (Obj.zstdEnginesInService, 1, 1, 8),
  (Obj.warpEnginesPerTile, 1, 1, 4),
  (Obj.meshMaxVerticesPerAxis, 1, 1, 1025),
  (Obj.coordFractionBits, 1, 1, 14),
  (Obj.resampleTableEntries, 1, 1, 65537)] ++ [
  (Obj.warpEnginesInService, 1, 1, 8),
  (Obj.cacheGddrBytes, 1, 1, 34359738368),
  (Obj.cacheSegmentBytes, 1, 1, 268435456),
  (Obj.cacheMaxEntryBytes, 1, 1, 67108864),
  (Obj.cachePinMaxBytes, 1, 1, 17179869184),
  (Obj.cacheCompressLevel, 1, 1, 3),
  (Obj.cachePromote, 1, 1, 1),
  (Obj.shoeSpaceBytes, 1, 1, 68719476736),
  (Obj.consumerStallTicks, 1, 1, 1000000000),
  (Obj.tokenizerEnginesPerTile, 1, 1, 2),
  (Obj.tokenizerEnginesInService, 1, 1, 4),
  (Obj.vocabEntries, 1, 1, 8),
  (Obj.vocabMaxTokens, 1, 1, 262144),
  (Obj.vocabMaxTokenBytes, 1, 1, 64),
  (Obj.vocabSramBytesPerTile, 1, 1, 16777216),
  (Obj.slotVocabEntry, 64, 1, 0xff),
  (Obj.trestleRows, 1, 1, 256),
  (Obj.trestleCols, 1, 1, 256),
  (Obj.trestleSpareRowsLeft, 1, 1, 8),
  (Obj.trestleSpareColsLeft, 1, 1, 8),
  (Obj.infSramBytes, 1, 1, 100663296),
  (Obj.bundleAreaBytes, 1, 1, 17179869184),
  (Obj.curationLogBytes, 1, 1, 268435456),
  (Obj.kernelPiers, 1, 1, 8)] ++ [
  (Obj.kernelSpadMaxBytes, 1, 1, 983040),
  (Obj.kernelCodeMaxBytes, 1, 1, 1048576),
  (Obj.kernelDataMaxBytes, 1, 1, 262144),
  (Obj.kernelEntries, 1, 1, 16),
  (Obj.kernelAbiVersion, 1, 1, 1),
  (Obj.kernelHandleMax, 1, 1, 64),
  (Obj.kernelServiceInsns, 1, 1, 64),
  (Obj.gddrInstalledBytes, 1, 1, 412316860416),
  (Obj.jobMemoryBytes, 1, 1, 377957122048),
  (Obj.reserveBytes, 1, 1, 34359738368),
  (Obj.heapBytes, 1, 1, 51539607552),
  (Obj.heapMinBytes, 1, 1, 4294967296),
  (Obj.channelsInService, 1, 1, 96),
  (Obj.channelSpareFramesLeft, 1, 1, 131136),
  (Obj.rowRepairFramesLeft, 1, 1, 65472),
  (Obj.retrainDeltaC, 1, 1, 8),
  (Obj.retrainErrorLimit, 1, 1, 64),
  (Obj.retrainPeriodTicks, 1, 1, 60000000000),
  (Obj.retrainMaxConcurrent, 1, 1, 2),
  (Obj.rowRepairThreshold, 1, 1, 16),
  (Obj.refreshHoldTicks, 1, 1, 300),
  (Obj.bufferPoolBytes, 1, 1, 274877906944),
  (Obj.bufferBytes, 1, 1, 32768),
  (Obj.poolBuffers, 1, 1, 8388608)] ++ [
  (Obj.freeBuffers, 1, 1, 8388608),
  (Obj.prefetchCacheHandles, 1, 1, 512),
  (Obj.prefetchCacheFill, 1, 1, 512),
  (Obj.nodeCapacity, 1, 1, 7936),
  (Obj.lastDoubleFreeHandle, 1, 1, 0xffffffff),
  (Obj.lastDoubleFreeRequester, 1, 1, 0xff),
  (Obj.requesterQuota, 64, 1, 8388608),
  (Obj.overProvisionPermille, 1, 1, 70),
  (Obj.channelCount, 1, 1, 32),
  (Obj.objectTableMax, 1, 1, 67108864),
  (Obj.gcStartFreeBands, 1, 1, 512),
  (Obj.gcUrgentFreeBands, 1, 1, 64),
  (Obj.wearSpreadLimit, 1, 1, 200),
  (Obj.relocateBitErrors, 1, 1, 72),
  (Obj.patrolPagesPerSecond, 1, 1, 2000),
  (Obj.backgroundSharePermille, 1, 1, 100),
  (Obj.suspendMinRunTicks, 1, 1, 200000),
  (Obj.programSuspendMax, 1, 1, 2),
  (Obj.eraseSuspendMax, 1, 1, 8),
  (Obj.journalFlushTicks, 1, 1, 1000000),
  (Obj.holdUpCheckMaxAgeTicks, 1, 1, 100000000),
  (Obj.holdUpWaitLimitTicks, 1, 1, 10000000000),
  (Obj.pfcDataPriority, 1, 1, 3),
  (Obj.pfcControlPriority, 1, 1, 6)] ++ [
  (Obj.controlDscp, 1, 1, 48),
  (Obj.peerDscp, 1, 1, 26),
  (Obj.handshakePort, 1, 1, 4793),
  (Obj.serviceConnectionsMax, 1, 1, 64),
  (Obj.maxFrameBytes, 1, 1, 4258),
  (Obj.retransmitTimeoutTicks, 1, 1, 1000000),
  (Obj.retryLimit, 1, 1, 7),
  (Obj.rnrRetryLimit, 1, 1, 7),
  (Obj.connWindowPackets, 1, 1, 256),
  (Obj.reorderTimeoutTicks, 1, 1, 20000),
  (Obj.ackCoalescePackets, 1, 1, 16),
  (Obj.ackDelayTicks, 1, 1, 4000),
  (Obj.connReceiveSlots, 1, 1, 64),
  (Obj.readDepth, 1, 1, 16),
  (Obj.revokeDrainTicks, 1, 1, 2000000),
  (Obj.handshakeRetryTicks, 1, 1, 10000000),
  (Obj.handshakeTimeoutTicks, 1, 1, 1000000000),
  (Obj.sealAuthLimit, 1, 1, 64),
  (Obj.pfcXoffBytes, 1, 1, 524288),
  (Obj.pfcXonBytes, 1, 1, 262144),
  (Obj.pfcWatchdogTicks, 1, 1, 100000000),
  (Obj.pfcRecoveryTicks, 1, 1, 1000000000),
  (Obj.rxDataBufferBytes, 1, 1, 786432),
  (Obj.portPhy, 16, 1, 1)] ++ [
  (Obj.openAdmission, 64, 1, 1),
  (Obj.connSlot, 1, 1, 0xff),
  (Obj.connPort, 1, 1, 0xff),
  (Obj.controlGuardFrames, 1, 1, 64),
  (Obj.peerQuantumBytes, 1, 1, 17112),
  (Obj.serviceQuantumBytes, 1, 1, 8556),
  (Obj.peerShaperProfile, 1, 1, 0xff),
  (Obj.serviceShaperProfile, 1, 1, 0xff),
  (Obj.peerPolicerProfile, 1, 1, 0xff),
  (Obj.servicePolicerProfile, 1, 1, 0xff),
  (Obj.policerRnrTimer, 1, 1, 12),
  (Obj.retransmitPromote, 1, 1, 1),
  (Obj.shapeBurstBytes, 32, 1, 1048576),
  (Obj.policerCbsBytes, 32, 1, 1048576),
  (Obj.policerPbsBytes, 32, 1, 1048576),
  (Obj.slotShaperProfile, 64, 1, 0xff),
  (Obj.slotQuantumBytes, 64, 1, 8556),
  (Obj.slotPolicerProfile, 64, 1, 0xff),
  (Obj.faultLogEntries, 1, 1, 4096),
  (Obj.faultLogNext, 1, 1, 1),
  (Obj.faultMergeTicks, 1, 1, 1000000),
  (Obj.itemRetryLimit, 1, 1, 3),
  (Obj.elementRetireFaults, 1, 1, 3),
  (Obj.itemHistoryBytes, 1, 1, 536870912)] ++ [
  (Obj.replacementLogBytes, 1, 1, 67108864),
  (Obj.memberTimeoutTicks, 1, 1, 20000000),
  (Obj.keepaliveTicks, 1, 1, 1000000),
  (Obj.abortRepeatTicks, 1, 1, 100000),
  (Obj.abortActTicks, 1, 1, 20000),
  (Obj.membershipDigest, 64, 1, 0x2f76d56e64270cb5821bb862ea52cd3f24eb3e74eb3f3b23138da80b2bddb946),
  (Obj.lastAbortBatch, 64, 1, 0xffffffffffffffff),
  (Obj.lastAbortStream, 64, 1, 0xff),
  (Obj.bindingCount, 1, 1, 1),
  (Obj.identityPublicKey, 1, 1, Config.identityPublicKey),
  (Obj.busAddress, 1, 1, 125),
  (Obj.busNominalRate, 1, 1, 500000),
  (Obj.busDataRate, 1, 1, 2000000),
  (Obj.bdpTimeoutTicks, 1, 1, 500000000),
  (Obj.blockFrames, 1, 1, 64),
  (Obj.eventMask, 1, 1, 0xff),
  (Obj.eventRepeatTicks, 1, 1, 100000000),
  (Obj.walkSettleTicks, 1, 1, 1000000),
  (Obj.claimHoldTicks, 1, 1, 100000),
  (Obj.deviceUid, 1, 1, Config.deviceUid),
  (Obj.manufactureSeconds, 1, 1, Config.manufactureSeconds),
  (Obj.macAddressBase, 1, 1, Config.macAddressBase),
  (Obj.macAddressCount, 1, 1, 16),
  (Obj.dictionaryVersion, 1, 1, 1)] ++ [
  (Obj.describeIndex, 1, 1, 0x1000),
  (Obj.describeSub, 1, 1, 0x1),
  (Obj.counterBanks, 1, 1, 8),
  (Obj.countersTotal, 1, 1, 160),
  (Obj.snapshotTicks, 1, 1, 10000000),
  (Obj.snapshotEnable, 1, 1, 1),
  (Obj.snapshotRingEntries, 1, 1, 1024),
  (Obj.snapshotRecordBytes, 1, 1, 3232),
  (Obj.snapshotLatencyTicks, 1, 1, 50000),
  (Obj.bandwidthWindowSnapshots, 1, 1, 10),
  (Obj.lbistPatterns, 1, 1, 65536),
  (Obj.lbistParallel, 1, 1, 4),
  (Obj.startupSelftest, 1, 1, 3),
  (Obj.startupLbistPatterns, 1, 1, 16384),
  (Obj.marchPreserveCycles, 1, 1, 1000),
  (Obj.marchSpareRowsMin, 84, 1, 4),
  (Obj.repairFuseEntries, 1, 1, 2048),
  (Obj.fuseBurnEnable, 1, 1, 1),
  (Obj.planIntervalTicks, 1, 1, 3600000000000),
  (Obj.targetSlackPs, 1, 1, 90),
  (Obj.floorSlackPs, 1, 1, 40),
  (Obj.powerState, 1, 1, 1),
  (Obj.powerPollTicks, 1, 1, 1000000),
  (Obj.retainSramMv, 1, 1, 600)] ++ [
  (Obj.avsClockKhz, 1, 1, 25000),
  (Obj.tdpWatts, 1, 1, 750),
  (Obj.holdUpDividerRatio, 1, 1, 50),
  (Obj.holdUpLoadOhms, 1, 1, 27),
  (Obj.holdUpTestTicks, 1, 1, 2000000),
  (Obj.holdUpCapTicks, 1, 1, 3600000000000),
  (Obj.holdUpMinMv, 1, 1, 36000),
  (Obj.holdUpEfficiencyPermille, 1, 1, 900),
  (Obj.holdUpMarginPermille, 1, 1, 1500),
  (Obj.holdUpEsrMaxMilliohms, 1, 1, 200),
  (Obj.tempWarnC, 1, 1, 95),
  (Obj.tempShutdownC, 1, 1, 105)]

/-- The islands of R537, which have the instances of 0x7410 + d and 0x7640 + d. -/
def islandExists (d : Nat) : Bool := [1, 2, 3, 4, 5, 6, 7, 8, 10, 13, 14, 15, 17].contains d

/-- The arrays of R543, which have the instances of 0x7440 + a. -/
def arrayExists (a : Nat) : Bool := a ≤ 4 || (16 ≤ a && a ≤ 83)

/-- The counters of each bank (R525). -/
def bankCounterCount (b : Nat) : Nat := if b = 5 || b = 6 then 32 else if b < 8 then 16 else 0

/-- The clock domain of each bank (R525, R58). -/
def bankDomain (b : Nat) : Nat := [3, 5, 7, 8, 10, 13, 15, 19].getD b 0

/-- The die sensors of each tile (R574). -/
def tileSensors (t : Nat) : Nat := [16, 8, 8, 4, 4, 6, 4, 4].getD t 0

/-- The LBIST partitions of each island (R537). -/
def islandPartitions (d : Nat) : Nat :=
  if d = 1 then 529 else if d = 2 then 69 else if d = 4 || d = 6 then 39 else if d = 8 || d = 10 then 7 else 1

/-- The longest scan chain of each island (R537). -/
def islandChain (d : Nat) : Nat :=
  if d = 3 || d = 5 || d = 7 then 768 else if d = 8 || d = 10 then 896 else 1024

/-- A text as its bytes. -/
def textBytes (t : List Char) : Bytes := t.map fun c => BitVec.ofNat 8 c.toNat

/-- The rail names of R559. -/
def railNames : List (List Char) :=
  [['V','D','D','_','I','N','F'], ['V','D','D','_','P','L'], ['V','D','D','_','M','E','M'],
   ['V','D','D','_','N','E','T'], ['V','D','D','_','M','E','D'], ['V','D','D','_','H','U','B'],
   ['V','D','D','_','A','O','N'], ['V','D','D','S','_','S','R','A','M'], ['V','D','D','_','G','7'],
   ['V','D','D','Q','_','G','7'], ['V','P','P','_','G','7'], ['V','D','D','A','_','S','D','S'],
   ['V','D','D','H','_','S','D','S'], ['V','C','C','Q','_','N','A','N','D'], ['V','D','D','I','O','_','1','8']]

/-- The sub-index of a key. -/
def keySub (k : Nat) : Nat := k % 256

/-- The index of a key. -/
def keyIndex (k : Nat) : Nat := k / 256

/-- The sub-index under which the tables list a key's object: the Shoe objects of stream k stand at 16k + f
(R213), every other object at its own sub-index. -/
def tableSub (k : Nat) : Nat :=
  if 0x3510 ≤ keyIndex k ∧ keyIndex k < 0x3550 then keySub k % 16 else keySub k

/-- Does the row describe this key? -/
def ObjRow.covers (r : ObjRow) (k : Nat) : Bool :=
  keyIndex r.key ≤ keyIndex k && keyIndex k < keyIndex r.key + r.count &&
    keySub r.key ≤ tableSub k && tableSub k < keySub r.key + r.subs

/-- Does any row of the index describe this index (R510)? -/
def ObjRow.atIndex (r : ObjRow) (i : Nat) : Bool := keyIndex r.key ≤ i && i < keyIndex r.key + r.count

/-- An instance of a block that the blocks' own rules leave out (R511, R525, R537, R543). -/
def instanceUnused (i : Nat) : Bool :=
  (0x6100 ≤ i && i < 0x6200 && bankCounterCount ((i - 0x6100) / 32) ≤ (i - 0x6100) % 32) ||
  (0x7411 ≤ i && i < 0x7422 && !islandExists (i - 0x7410)) ||
  (0x7641 ≤ i && i < 0x7652 && !islandExists (i - 0x7640)) ||
  (0x7440 ≤ i && i < 0x7494 && !arrayExists (i - 0x7440))

/-- The row of a key's object, if the dictionary has the object (R510, R511). -/
def findRow (k : Nat) : Option ObjRow :=
  if instanceUnused (keyIndex k) then none else catalogue.find? (·.covers k)

/-- Is the index used at all (R510)? -/
def indexUsed (i : Nat) : Bool := !instanceUnused i && catalogue.any (·.atIndex i)

/-- The default of a key (R515), 0 where no row gives another. The values that differ from instance to instance are
those of R525, R537, R555, R559, R561 and R574, and those fixed at manufacture. -/
def defaultOf (k : Nat) : Nat :=
  let i := keyIndex k
  let u := keySub k
  if i = 0x8011 then Config.vendorRootKey (u - 1)
  else if 0x7610 ≤ i ∧ i < 0x7618 then
    (if u = 1 then Config.railMinMv (i - 0x7610) + 50
     else if u = 2 then Config.railMinMv (i - 0x7610)
     else if u = 3 then Config.railMaxMv (i - 0x7610) else 0)
  else if 0x7641 ≤ i ∧ i < 0x7652 ∧ u = 2 then Config.baselineDelayPs (i - 0x7640)
  else if 0x6010 ≤ i ∧ i < 0x6018 then
    (if u = 1 then bankCounterCount (i - 0x6010) else if u = 2 then bankDomain (i - 0x6010) else 0)
  else if 0x1810 ≤ i ∧ i < 0x1818 ∧ u = 1 then tileSensors (i - 0x1810)
  else if 0x7411 ≤ i ∧ i < 0x7422 then
    (if u = 1 then islandPartitions (i - 0x7410) else if u = 2 then islandChain (i - 0x7410) else 0)
  else if 0x1820 ≤ i ∧ i < 0x182F ∧ u = 2 then 0x40 + (i - 0x1820)
  else
    match defaultRows.find? fun r =>
        keyIndex r.1 ≤ i && i < keyIndex r.1 + r.2.1 && keySub r.1 ≤ u && u < keySub r.1 + r.2.2.1 with
    | some r => r.2.2.2
    | none => 0

/-- The contents of the constant strings (R520, R582). -/
def constText (k : Nat) : Option Bytes :=
  if k = Obj.vendorName then
    some (textBytes ['E','v','o','l','d','o','v','a','l',' ','S','e','m','i','c','o','n','d','u','c','t','o','r'])
  else if k = Obj.familyName then some (textBytes ['R','o','s','s','a','r'])
  else if k = Obj.productName then some (textBytes ['Z','h','e','v','y','e','l'])
  else if k = Obj.partNumber then some (textBytes ['R','Z','-','4','8','3','0'])
  else if k = Obj.orderingCode then some (textBytes ['R','Z','-','4','8','3','0','-','A','0','-','L','C'])
  else if k = Obj.packageCode then some (textBytes ['L','C'])
  else if k = Obj.serialNumber then some Config.serialNumber
  else if 0x1820 ≤ keyIndex k ∧ keyIndex k < 0x182F ∧ keySub k = 1 then
    some (textBytes (railNames.getD (keyIndex k - 0x1820) []))
  else none

end Sys2Proof.Machine
end

