-- ==== Sys2Proof/Machine/State.lean ====
section
/-! DEFINITION. The state of the Zhevyel as plain data: every dictionary object (`dict` for the values of fixed
size, `blobs` for strings and domains), the machinery behind them chapter by chapter, the queue of waiting
commands, and what has left the device. -/

namespace Sys2Proof.Machine

/-! ## What leaves the device -/

/-- The outputs that the device drives as levels (R557). -/
inductive Pin where
  | chainOut | retainReq | powerOffReqN | thermTripN | chargerEnable | loadEnable
deriving DecidableEq, Repr

/-- A frame, message, packet or pin change that the device has put out, in its own words. -/
inductive Sent where
  /-- A CAN FD frame: its 29-bit identifier and payload (R489). -/
  | bus (ident : Nat) (payload : Bytes)
  /-- An Ethernet frame answered on a port: what it is (1 ARP reply, 2 neighbour advertisement, 3 echo reply,
  4 PFC, 5 PTP Delay_Req) and its body. -/
  | frame (port : Nat) (what : Nat) (body : Bytes)
  /-- A UDP datagram to an address and port (handshake R381, recovery R467). -/
  | udp (address : Nat) (udpPort : Nat) (body : Bytes)
  /-- A RoCEv2 packet of a connection on a port (R377): DSCP, BTH opcode, PSN, TX_COUNTER of a sealed one, the words of
  its extension headers, and the payload. -/
  | packet (ctx : Nat) (port : Nat) (dscp : Nat) (opcode : Nat) (psn : Nat) (counter : Option Nat) (ext : List Nat)
      (payload : Bytes)
  /-- A signal driven to a level. -/
  | pin (signal : Pin) (level : Bool)
  /-- A command to a power device: 1 an AVSBus voltage write of a rail in millivolts, 2 a PMBus CLEAR_FAULTS to an address. -/
  | board (kind : Nat) (address : Nat) (value : Nat)
deriving DecidableEq, Repr

/-- The answer to the last dictionary access: the BDP abort code (0 for OK), the REASON, and the value of a read
(R495, R500). -/
structure Answer where
  abort : Nat := 0
  reason : Nat := 0
  data : Bytes := []
deriving DecidableEq, Repr

/-! ## The Bilyen bus -/

/-- An unacknowledged event (R504, R506): `sentAt` is the tick of its last sending. -/
structure BusEvent where
  seq : Nat
  kind : Nat
  subkind : Nat
  tick : Nat
  body : Bytes
  sentAt : Option Nat
deriving DecidableEq, Repr

/-- The services of an open transfer (R496). -/
inductive Service where
  | segWrite | segRead | stageWrite | stageRead
deriving DecidableEq, Repr

/-- An open BDP transfer (R497, R498, R502). `data` is what has been taken or is to be sent, `next` the number of
the next segment or of the next frame of the present block, `block` the present block, `last` the tick of the last
frame of the transfer. -/
structure Transfer where
  num : Nat
  service : Service
  key : Nat
  offset : Nat
  length : Nat
  crc : Nat
  data : Bytes
  next : Nat
  block : Nat
  blockFrames : Nat
  last : Nat
deriving DecidableEq, Repr

/-- The bus controller and the chain (R486 to R506). -/
structure Bus where
  /-- NEXT of the walk in progress (R493). -/
  next : Nat := 0
  /-- BASE of the last WALK. -/
  base : Nat := 0
  /-- The tick at which the last WALK frame ended, while the walk is on for this unit. -/
  walkTick : Option Nat := none
  /-- The tick since which CHAIN_IN has been high. -/
  chainHighSince : Option Nat := none
  /-- The tick at which this unit's CLAIM was sent without error. -/
  claimTick : Option Nat := none
  chainOut : Bool := false
  conflictSeen : Bool := false
  /-- A claim collided with an identical identifier: the unit waits its random delay until this tick. -/
  backoffUntil : Option Nat := none
  lastHello : Nat := 0
  /-- The data rate in force, in bit/s (R488). -/
  rate : Nat := 2000000
  /-- A RATE_SWITCH: the new rate and the tick it takes effect. -/
  rateSwitch : Option (Nat × Nat) := none
  eventSeq : Nat := 0
  events : List BusEvent := []
  transfers : List Transfer := []
  busOff : Bool := false
deriving DecidableEq, Repr

/-! ## Persistence -/

/-- A record of the persistent area of the boot flash (R517). -/
structure PersistRecord where
  seq : Nat
  key : Nat
  value : Bytes
  committed : Bool
  damaged : Bool := false
deriving DecidableEq, Repr

/-- The persistent area and the writes waiting for it (R518, R519): each pending write carries its acceptance tick. -/
structure Persist where
  records : List PersistRecord := []
  pending : List (Nat × Bytes × Nat) := []
  nextSeq : Nat := 1
  /-- Erased blocks of the 240 besides the one being written, and the bytes written in that one. -/
  erased : Nat := 239
  fill : Nat := 0
deriving DecidableEq, Repr

/-! ## Faults -/

/-- A fault record (R434). `read` says whether it has been read through FaultRecord or FaultLog (R436). -/
structure FaultRec where
  seq : Nat
  cls : Nat
  tile : Nat
  reason : Nat
  tick : Nat
  unit : Nat
  action : Nat
  slot : Nat
  requester : Nat
  operation : Nat
  ref : Nat
  detail0 : Nat
  detail1 : Nat
  repeats : Nat
  lastTick : Nat
  read : Bool := false
deriving DecidableEq, Repr

/-- One engine, Pier or Trestle line: its kind and number as R435 codes them, its spare standing, and the ticks of
its recent faults (R432). -/
structure Element where
  kind : Nat
  num : Nat
  inService : Bool := true
  spare : Bool := false
  faults : List Nat := []
deriving DecidableEq, Repr

/-! ## Time -/

/-- A PTP Sync awaiting its Follow_Up (R54): its message and its arrival tick. -/
structure PtpPending where
  m : PtpMessage
  t2 : Nat
deriving DecidableEq, Repr

/-- The synchronisation machinery (R50 to R57, R586). -/
structure Time where
  /-- The frequency term F and the correction C, in parts per 10^9 (R586). -/
  freq : Int := 0
  corr : Int := 0
  /-- Consecutive measurements inside and outside the window since the last change of state (R56). -/
  inside : Nat := 0
  outside : Nat := 0
  /-- The tick of the last Sync of the chosen transmitter or of the last PPS_IN edge. -/
  lastSeen : Nat := 0
  /-- A source is being seen. -/
  seen : Bool := false
  /-- The tick at which the source was lost and the size of the offset then (R57). -/
  lossTick : Nat := 0
  lossOffset : Nat := 0
  /-- PpsSecondsNext waits for the next edge. -/
  ppsPending : Option Nat := none
  /-- The source second of the last PPS_IN edge, once one has been loaded. -/
  ppsSecond : Option Nat := none
  refLocked : Bool := true
  /-- A step has not yet been followed by the realignment of the islands (R52). -/
  awaitRealign : Bool := false
  /-- The transmitters heard (R54), the best of which is PtpParentIdentity. -/
  masters : List PtpDataSet := []
  twoStep : Option PtpPending := none
  /-- t2 − t1 of the last Sync exchange, the sequence number of the last Delay_Req sent and its t3 (R54). -/
  t2mt1 : Int := 0
  delaySeq : Nat := 0
  t3 : Option Nat := none
deriving DecidableEq, Repr

/-! ## Counters -/

/-- A snapshot record (R531): its number, its tick and its bytes. -/
structure SnapRec where
  seq : Nat
  tick : Nat
  bytes : Bytes
deriving DecidableEq, Repr

/-- The counter reader (R530 to R533) and the port totals TX_BYTES, TX_FRAMES, RX_BYTES, RX_FRAMES of each port. -/
structure Counters where
  ring : List SnapRec := []
  /-- Snapshots not taken since the last record. -/
  missed : Nat := 0
  stepped : Bool := false
  reprogrammed : Bool := false
  totals : List (List Nat) := List.replicate 16 [0, 0, 0, 0]
deriving DecidableEq, Repr

/-! ## Jobs -/

/-- A stage record of STAGE_GRAPH (R18). -/
structure StageRec where
  kind : Nat
  classMask : Nat
  refIndex : Nat
  requester : Nat
  param : Bytes
  /-- PARAM_OFFSET, from the start of the section. -/
  paramOffset : Nat := 0
deriving DecidableEq, Repr

/-- An entry of BUNDLES (R20). -/
structure BundleRef where
  refKind : Nat
  minSramKib : Nat
  digest : Nat
deriving DecidableEq, Repr

/-- A stream record (R21), its modes after inheritance from MODE_SET. -/
structure StreamRec where
  classMask : Nat
  delivery : Nat
  sealMode : Nat
  sprayMode : Nat
  layout : Nat
  firstConsumer : Nat
  count : Nat
  depth : Nat
  lowWater : Nat
deriving DecidableEq, Repr

/-- A consumer record (R22). -/
structure ConsumerRec where
  address : Nat
  qpn : Nat
  key : Nat
  ringAddress : Nat
  ringSlots : Nat
  slotBytes : Nat
  dscp : Nat
deriving DecidableEq, Repr

/-- A node or assembler entry (R23, R85): the UID as a 128-bit little-endian number, and the address. -/
structure NodeRec where
  uid : Nat
  address : Nat
deriving DecidableEq, Repr

/-- A shard entry (R85). -/
structure ShardRec where
  objectId : Nat
  first : Nat
  count : Nat
  format : Nat
  primary : Nat
  alternates : List Nat
deriving DecidableEq, Repr

/-- A placement tag record (R440). -/
structure TagRec where
  tray : Nat
  shelf : Nat
  loop : Nat
  switch : Nat
deriving DecidableEq, Repr

/-- The working structures of a validated manifest (R27). -/
structure Job where
  name : Bytes := []
  seed : Nat := 0
  corpusId : Nat := 0
  /-- N, T in use, and the epochs (R17, R101). -/
  n : Nat := 1
  t : Nat := 0
  epochFirst : Nat := 0
  epochCount : Nat := 1
  mapForm : Nat := 0
  nodes : List NodeRec := []
  shards : List ShardRec := []
  tags : List TagRec := []
  stages : List StageRec := []
  bundles : List BundleRef := []
  streams : List StreamRec := []
  consumers : List ConsumerRec := []
  assemblers : List NodeRec := []
  /-- BATCH_GEOMETRY (R24). -/
  batchSize : Nat := 1
  sliceCount : Nat := 1
  seqLen : Nat := 0
  packWindow : Nat := 0
  imageHeight : Nat := 0
  imageWidth : Nat := 0
  imageChannels : Nat := 0
  elementType : Nat := 0
  audioFrames : Nat := 0
  /-- MODE_SET (R25). -/
  orderMode : Nat := 0
  corruptPolicy : Nat := 0
  cacheMode : Nat := 0
  lastBatch : Nat := 0
  shaperReset : Nat := 0
  policerColour : Nat := 0
  sampling : Nat := 0
  digest : Nat := 0
deriving DecidableEq, Repr

/-- An index entry of an opened shard (R73, R83): the fault that marks its sample, or 0. -/
structure IndexEntry where
  offset : Nat
  recordBytes : Nat
  length : Nat
  cls : Nat
  kind : Nat
  framing : Nat
  cost : Nat
  tokens : Nat
  code : Nat := 0
deriving DecidableEq, Repr

/-- What the node knows of one copy of a shard (R72, R83, R91): `node` is the node of the copy, `fault` the shard
fault of that copy or 0, `entries` its index, `tagged` whether TOKEN_COUNT fields are valid for the job's
vocabulary (R78), `waiters` the Item Table entries that wait for the open. -/
structure ShardOpen where
  shard : Nat
  node : Nat
  opening : Bool
  fault : Nat := 0
  entries : List IndexEntry := []
  tagged : Bool := false
  /-- Every sample at or after this record ends with `endCode` (R83). -/
  endAt : Nat := 0
  endCode : Nat := 0
  waiters : List Nat := []
  lastUse : Nat := 0
deriving DecidableEq, Repr

/-- A replacement list entry (R442); `new` all zero removes. -/
structure Replacement where
  old : Nat
  new : Nat
  address : Nat
deriving DecidableEq, Repr

/-- A census record (R110). -/
structure CensusRec where
  position : Nat
  count : Nat
  cls : Nat
  source : Nat
deriving DecidableEq, Repr

/-- A contribution to a census build (R112, R113): who offers it, the region, the counts and the digest, and the
records once read and checked. -/
structure Contribution where
  uid : Nat
  key : Nat
  address : Nat
  textRecords : Nat
  dirRecords : Nat
  digest : Nat
  text : Option (List CensusRec) := none
  dir : List CensusRec := []
deriving DecidableEq, Repr

/-- A census of one epoch (R110 to R113). `state` is the value of CensusState. -/
structure Census where
  epoch : Nat
  state : Nat
  restarts : Nat
  started : Nat
  contributions : List Contribution := []
  text : List CensusRec := []
  dir : List CensusRec := []
  digest : Nat := 0
  /-- Only the Talon directory is being built, beside a text census already held (R451). -/
  dirOnly : Bool := false
  /-- FULLs heard while joining: sender, key, address, counts, digest (R113). -/
  fulls : List Contribution := []
  /-- The export region of the merged census, once READY. -/
  exportKey : Nat := 0
  /-- The spares that have asked for it before it is READY; and, at a spare, that the text census has still to be asked for
  (R113, R451). -/
  requests : List Nat := []
  wantsText : Bool := false
deriving DecidableEq, Repr

/-- The annotation of a sample (R79). -/
structure Annotation where
  sample : Nat
  cost : Nat
  tokens : Nat
deriving DecidableEq, Repr

/-- A history record (R438). -/
structure HistoryRec where
  ref : Nat
  sample : Nat
  talon : Nat
  kind : Nat
  ending : Nat
  reason : Nat
  attempt : Nat
  lastState : Nat
  lastStage : Nat
  flags : Nat
  perturb : Nat
  retries : Nat
  generation : Nat
  faultSeq : Nat
  faultPc : Nat
  issueTick : Nat
  endTicks : Nat
deriving DecidableEq, Repr

/-- An abort in course at its raiser (R445, R446): the message fields and the members that have not acknowledged. -/
structure AbortMsg where
  cause : Nat
  raiseTick : Nat
  raiser : Nat
  raiseSeq : Nat
  epoch : Nat
  stream : Nat
  batch : Nat
  reason : Nat
  subject : Nat
deriving DecidableEq, Repr

/-- The sliced classes of R37. -/
inductive SliceClass where
  | inference | dealer | shoe | token
deriving DecidableEq, Repr

/-- A switch of a sliced class in course (R39): the class, the slice boundary it belongs to, the slots that hold the class
afterwards, and whether the working sets are being saved and restored. -/
structure Switch where
  cls : SliceClass
  since : Nat
  holders : List Nat
  saving : Bool := false
deriving DecidableEq, Repr

/-- One resident slot's machinery. Its objects stand in the dictionary. -/
structure Slot where
  /-- The staging window: its bytes by offset, a byte not listed being 0; one past the highest byte written; whether it
  is registered. -/
  window : List Host.Cell := []
  windowTop : Nat := 0
  windowOpen : Bool := false
  /-- VALIDATE has been accepted and the window's revocation drains (R27, R392). -/
  validating : Bool := false
  job : Option Job := none
  /-- Credits and held classes of the time-slicing (R38), in the order of `SliceClass`. -/
  credits : List Int := [0, 0, 0, 0]
  holds : List Bool := [true, true, true, true]
  /-- The share of the Item Table (R36). -/
  share : Nat := 0
  /-- The next position to evaluate for issue, in the epoch CurrentEpoch. -/
  nextPosition : Nat := 0
  /-- Issue is at an end: the last position of the last epoch has been issued, or STOP. -/
  issueDone : Bool := false
  shards : List ShardOpen := []
  annotations : List Annotation := []
  censuses : List Census := []
  /-- The replacement lists in force and pending (R442). -/
  inForce : List Replacement := []
  pendingList : List Replacement := []
  /-- The list in force before the last resume, which tells whose batches changed hands (R453). -/
  oldForce : List Replacement := []
  /-- A READY spare armed by JOIN (R450). -/
  joined : Bool := false
  /-- The point of the last replay: its epoch and the first batch of each stream (R451). -/
  replayFrom : Option (Nat × List Nat) := none
  /-- After a resume: issue waits for a packing plan to know where it restarts, and the packed ReplayBatch has still to be held
  against the plan (R450, R451). -/
  awaitStart : Bool := false
  awaitCheck : Bool := false
  /-- A slot resumed in DRAINING issues again up to here, an epoch and a position. -/
  mark : Option (Nat × Nat) := none
  raiseSeq : Nat := 0
  /-- This node's own abort in course, and who has yet to acknowledge it. -/
  raised : Option AbortMsg := none
  unacked : List Nat := []
  lastProbe : Nat := 0
  /-- The tick of the last halt. -/
  haltTick : Nat := 0
  history : List HistoryRec := []
  replacementLog : List HistoryRec := []
  /-- The EXTERNAL shard map can be read on this node, as VALIDATE found (R86). -/
  mapReadable : Bool := true
  /-- The ticks of the last increments of NextBatch, at most 17 (R146), and the packed batches of each epoch planned. -/
  batchTicks : List Nat := []
  packedCounts : List (Nat × Nat) := []
deriving DecidableEq, Repr

/-! ## Buffers and chains -/

/-- A chain (R319): its data buffers in order, its index buffers (second level, then root), and its length. -/
structure Chain where
  buffers : List Nat
  index : List Nat
  length : Nat
deriving DecidableEq, Repr

/-- A node of the free stack (R320): its own handle and its groups of 256 handles, group 0 first. -/
structure FreeNode where
  self : Nat
  groups : List (List Nat)
deriving DecidableEq, Repr

/-- A request for buffers (R325): its requester, how many it asks for, the holder it serves, the tick it arrived,
whether it has been granted and the handles it has received so far. The holder is the entry of an item, or a
number from 65,536 on for a holder of another kind. -/
structure BufferWait where
  requester : Nat
  count : Nat
  holder : Nat
  since : Nat
  granted : Bool := false
  waited : Bool := false
  got : List Nat := []
deriving DecidableEq, Repr

/-- An allocated buffer: its handle, the requester it is charged to and its reference count (R323). -/
structure Held where
  handle : Nat
  requester : Nat
  count : Nat
deriving DecidableEq, Repr

/-- The Buffer Pool Manager (R318 to R326). `cache` is the prefetch cache, last pushed first; `nodes` the nodes on
top of the stack; `rest` the ranges (first handle, length) of the nodes written at the last build or rebuild and not
yet reached, in ascending order. -/
structure Pool where
  cache : List Nat := (List.range 512).reverse
  nodes : List FreeNode := []
  rest : List (Nat × Nat) := [(512, 8388096)]
  held : List Held := []
  waiting : List BufferWait := []
  rebuilding : Bool := false
  rebuildSince : Nat := 0
  /-- Buffers on a channel without a home, withheld when freed (R313). -/
  homeless : List Nat := []
deriving DecidableEq, Repr

/-- A GDDR7 channel's machinery (R309 to R312); its state, temperature and counts stand in the dictionary. -/
structure Channel where
  /-- The tick a refresh hold began. -/
  refreshing : Option Nat := none
  /-- The tick a retraining hold began. -/
  training : Option Nat := none
  trainTemperature : Int := 0
  trainFails : Nat := 0
  /-- A temperature crossing waits for the next multiple of 3,900: the schedule to take. -/
  hotPending : Option Bool := none
  /-- The ticks of link replays and of uncorrectable errors still in their windows. -/
  replays : List Nat := []
  uncorrectable : List Nat := []
  /-- Corrected errors of each frame since power-up, and the frames waiting for repair. -/
  corrected : List (Nat × Nat) := []
  repairs : List Nat := []
deriving DecidableEq, Repr

/-! ## Regions and connections -/

/-- The kinds of region of R390. -/
inductive RegionKind where
  | staging | objectWindow | shoeExport | sampleExport | recordExport | censusExport | curationLog
deriving DecidableEq, Repr

/-- A registered region (R390, R392): `owner` is the slot, `part` what of the slot it maps (a stream, an Item Table
entry, an epoch), or nothing; `content` what an export of its own copy maps (R104, R113); `revoking` the tick phase 1
of its revocation began; `overrun` says that phase 1 was cut short, so the memory waits for the placements. -/
structure Region where
  index : Nat
  generation : Nat
  tag : Nat
  kind : RegionKind
  base : Nat
  length : Nat
  owner : Nat
  part : Nat := 0
  revoking : Option Nat := none
  overrun : Bool := false
  content : Bytes := []
deriving DecidableEq, Repr

/-- A packet on its way out (R377, R393 to R395): `imm` its immediate, `aeth` its AETH, `length` the message or DMA
length, `queued` the tick it was queued at, `resent` whether it is a retransmission. -/
structure OutPacket where
  opcode : Nat
  psn : Nat
  ackReq : Bool := false
  key : Nat := 0
  addr : Nat := 0
  length : Nat := 0
  msgOffset : Nat := 0
  firstPsn : Nat := 0
  imm : Option Nat := none
  aeth : Option Nat := none
  payload : Bytes := []
  queued : Nat := 0
  resent : Bool := false
deriving DecidableEq, Repr

/-- What a message of this device does (R377). -/
inductive MessageKind where
  | send | write | read
deriving DecidableEq, Repr

/-- A message sent or to be sent and not yet acknowledged whole (R386): where it goes, its bytes (of a READ, its
length), its immediate, and the PSNs of its packets. -/
structure OutMessage where
  kind : MessageKind
  key : Nat := 0
  addr : Nat := 0
  body : Bytes := []
  length : Nat := 0
  imm : Option Nat := none
  firstPsn : Nat := 0
  lastPsn : Nat := 0
deriving DecidableEq, Repr

/-- An RDMA READ this device has outstanding: the PSN of its request, its length, and what has been placed. -/
structure ReadOut where
  firstPsn : Nat
  length : Nat
  data : Bytes := []
deriving DecidableEq, Repr

/-- A message arriving whose packets are not all behind ePSN (R400): its first and last PSN where known, and its
immediate; a SEND has the bytes of its receive entry. -/
structure InMessage where
  firstPsn : Nat
  lastPsn : Nat
  isSend : Bool
  key : Nat := 0
  addr : Nat := 0
  length : Nat := 0
  imm : Option Nat := none
  body : Bytes := []
deriving DecidableEq, Repr

/-- A connection context (R379 to R400, R410 to R423). -/
structure Conn where
  ctx : Nat
  /-- 0 consumer, 1 peer, 2 service (R382). -/
  kind : Nat
  slot : Nat := 0xFF
  consumer : Nat := 0xFFFF
  uid : Nat := 0
  address : Nat := 0
  sealMode : Bool := false
  sprayMode : Bool := false
  /-- ConnState (R409). -/
  st : Nat := 0
  localQpn : Nat := 0
  remoteQpn : Nat := 0
  /-- The handshake: who initiates, the attempt, its last message (type and body) with the sends made and the tick of
  the last, the delay before the next attempt, and what the keys are derived from (R380 to R385). -/
  initiator : Bool := false
  attempt : Nat := 0
  lastMessage : Option (Nat × Bytes) := none
  sends : Nat := 0
  lastSend : Nat := 0
  started : Nat := 0
  delay : Nat := 0
  retryAt : Option Nat := none
  kemDraw : Nat := 0
  params : Bytes := []
  connectBody : Bytes := []
  acceptBody : Bytes := []
  m0 : Bytes := []
  m : Bytes := []
  /-- The seal: the next TX_COUNTER, the highest accepted and the ones seen in the window, the ticks of failures. -/
  txCounter : Nat := 0
  rxHigh : Option Nat := none
  rxSeen : List Nat := []
  authFails : List Nat := []
  /-- Sending: the next PSN, the two egress queues, what is sent and unacknowledged, progress and retries. -/
  nextPsn : Nat := 0
  dataQ : List OutPacket := []
  ctlQ : List OutPacket := []
  unacked : List OutPacket := []
  messages : List OutMessage := []
  sendsSince : Nat := 0
  progress : Nat := 0
  /-- The tick of the last traffic carried (R443). -/
  carried : Nat := 0
  retries : Nat := 0
  rnrRetries : Nat := 0
  rnrUntil : Option (Nat × Nat) := none
  credits : Nat := 0
  readDepth : Nat := 1
  readsOut : List ReadOut := []
  /-- Receiving: the expected PSN, the map of marked PSNs ahead of it, since when a gap has stood, the arrivals not yet
  acknowledged and the tick of the oldest, messages not yet complete, READs being answered, the red PSN (R423). -/
  ePsn : Nat := 0
  marked : List Nat := []
  gapSince : Option Nat := none
  nakSent : Bool := false
  arrivals : Nat := 0
  oldest : Option Nat := none
  msn : Nat := 0
  inbound : List InMessage := []
  readsIn : Nat := 0
  red : Option Nat := none
  /-- The traffic manager: shaper tokens and meter buckets, in units of 1/8,000 byte, and the ticks they stand at; the
  deficit; the port whose active list it stands on; the tick since which it is held for tokens. -/
  tok : Nat := 0
  tokTick : Nat := 0
  cTok : Nat := 0
  eTok : Nat := 0
  pTok : Nat := 0
  meterTick : Nat := 0
  deficit : Nat := 0
  onList : Option Nat := none
  heldSince : Option Nat := none
  port : Nat := 0xFF
  retransmits : Nat := 0
  lastReason : Nat := 0
deriving DecidableEq, Repr

/-- One class of a port: the tick until which received pause holds it and since when, until when it is STORMED, since
when this device has held XOFF and when PFC was last sent, and whether the watchdog has stopped its pause (R375,
R376). -/
structure PortClass where
  pausedUntil : Option Nat := none
  pausedSince : Nat := 0
  stormedUntil : Option Nat := none
  xoffSince : Option Nat := none
  pfcSent : Nat := 0
  silenced : Bool := false
deriving DecidableEq, Repr

/-- A port's machinery: its two classes, its active list of DATA queues, its handshake FIFO (address, datagram, tick
queued) and the run of CONTROL frames (R410 to R415). -/
structure Port where
  data : PortClass := {}
  control : PortClass := {}
  active : List Nat := []
  /-- The queue at the head is in the middle of its visit. -/
  visiting : Bool := false
  fifo : List (Nat × Bytes × Nat) := []
  controlRun : Nat := 0
deriving DecidableEq, Repr

/-- An object window (R341): the object it belongs to, its bytes by offset, a byte not listed being 0, and one past the
highest byte written. -/
structure ObjectWindow where
  object : Nat
  cells : List Host.Cell := []
  top : Nat := 0
deriving DecidableEq, Repr

/-! ## Items, batches and Shoes -/

/-- An offer of a prepared sample to an assembler: to whom, and the key of the region that exports it, 0 where a failure
is reported and nothing is exported (R104, R105). -/
structure Export where
  uid : Nat
  key : Nat
deriving DecidableEq, Repr

/-- An item of the Item Table (R103, R437), or, from entry 4,096 on, a sample prepared on request under the SampleRef of
the position it fills (R106, R107). -/
structure Item where
  entry : Nat
  slot : Nat
  epoch : Nat
  position : Nat
  sample : Nat
  /-- What its index entry says (R73): the media class, 3 until it is known, the payload kind, FRAMING, PAYLOAD_LENGTH,
  UNCOMPRESSED_LENGTH (0 unknown), DECODE_COST and a valid TOKEN_COUNT (0 none). -/
  cls : Nat := 3
  kind : Nat := 0
  framing : Nat := 0
  payload : Nat := 0
  uncompressed : Nat := 0
  cost : Nat := 0
  claim : Nat := 0
  shard : Nat := 0
  /-- The devices of the copies still to be tried, how many have been, and the last content code of one (R88). -/
  copies : List Nat := []
  tried : Nat := 0
  contentCode : Nat := 0
  /-- The record index of the stage it stands at; 255 is a decompression that no stage record asks for (R123). -/
  stage : Nat := 0
  /-- The state of R437. -/
  st : Nat := 0
  /-- The Talon position and attempt of a substitute, and who asked for a sample prepared on request. -/
  talon : Option (Nat × Nat) := none
  asker : Nat := 0
  /-- The input of the present stage, or the prepared sample; and the input of the stage before (R432). -/
  data : Bytes := []
  before : Bytes := []
  chain : Option Chain := none
  /-- The stage whose output the data are, 0 from SOURCE; and the engine a retried attempt keeps away from (R432). -/
  madeAt : Nat := 0
  avoid : Option (Nat × Nat) := none
  /-- The output of a stage that waits for buffers, and since when (R325). -/
  waitOut : Option Bytes := none
  waitSince : Nat := 0
  /-- The engine the attempt runs on, by kind and number, and since when; with none, since when it stands at its stage. -/
  engine : Option (Nat × Nat) := none
  engineSince : Nat := 0
  retries : Nat := 0
  /-- When an internal fault sent it back to wait for an engine (R64, R432). -/
  faultAt : Option Nat := none
  /-- Failed checks of an intermediate (R178). -/
  checks : Nat := 0
  reason : Nat := 0
  failStage : Nat := 255
  failState : Nat := 0
  flags : Nat := 0
  perturb : Nat := 0
  faultSeq : Nat := 0
  faultPc : Nat := 0
  issueTick : Nat := 0
  generation : Nat := 0
  /-- The item is done with every stage before BATCH, or has failed. -/
  prepared : Bool := false
  /-- Assemblers that released it before it was prepared (R149); it has been offered, and to whom it is exported still. -/
  releasedBy : List Nat := []
  offered : Bool := false
  exported : List Export := []
  /-- The results of CURATE stages: stage record index and result record (R264); and one that waits for room in the curation log,
  with the text that replaces the item's (R265). -/
  results : List (Nat × Bytes) := []
  logWait : Option (Bytes × Option Bytes) := none
  /-- It was escalated to, or decodes on, the slow lane (R142, R147). -/
  slow : Bool := false
  /-- A cache entry is being read: 1 of the GDDR7 tier, 2 of the flash tier (R186, R189). -/
  hit : Nat := 0
  /-- A local record read is in course; a peer read is, from a device and since a tick (R88); a place among the open
  shards is waited for (R92). -/
  reading : Bool := false
  peerRead : Option (Nat × Nat) := none
  openWait : Bool := false
  /-- Declared late by its assembler (R149). -/
  late : Bool := false
  /-- The valid frames of a signal tensor (R175), and the Dealer ticks of the decode. -/
  valid : Nat := 0
  measured : Nat := 0
deriving DecidableEq, Repr

/-- A READY of a sample (R105), kept until its batch starts. -/
structure Offer where
  uid : Nat
  ref : Nat
  flags : Nat
  status : Nat
  key : Nat
  addr : Nat
  length : Nat
  crc : Nat
deriving DecidableEq, Repr

/-- How a position that this node assembles is filled (R106 to R109). -/
structure Fill where
  slot : Nat
  epoch : Nat
  position : Nat
  cls : Nat
  /-- 0 waits for its own sample, 1 placed, 2 masked, 3 wants a substitute, 4 withheld under FAIL_STEP. -/
  st : Nat := 0
  /-- The sample delivered, and the Talon position and attempt of a substitute. -/
  sample : Nat := 0
  talon : Option (Nat × Nat) := none
  /-- The reason of the original sample, that of the ending, and FLAGS of R438. -/
  reason : Nat := 0
  endReason : Nat := 0
  flags : Nat := 0
  /-- The search of R108: the next attempt, the tries, the Talon positions found corrupt, and whether a substitute is
  being prepared. -/
  next : Nat := 0
  tries : Nat := 0
  bad : List Nat := []
  asked : Bool := false
  data : Bytes := []
  valid : Nat := 0
  /-- Mismatches of DATA_CRC, and the offer being read (R106). -/
  crcErrors : Nat := 0
  reading : Option Offer := none
  /-- The state of its item before its ending, where that was not placed (R438): PACKING, or the state in which this node's own entry
  for it was given up. -/
  last : Nat := 5
  perturb : Nat := 0
  retries : Nat := 0
  generation : Nat := 0
  lastStage : Nat := 255
  faultSeq : Nat := 0
  since : Nat := 0
deriving DecidableEq, Repr

/-- A slice of a batch (R194, R203): its consumer record, its envelope, and 0 unwritten, 1 written, 2 acknowledged or
released. -/
structure SliceState where
  consumer : Nat
  bytes : Bytes := []
  stage : Nat := 0
  since : Nat := 0
deriving DecidableEq, Repr

/-- A batch of one stream in the Shoe (R194): its positions, the tick at which it became ready, whether its buffers have
been asked for and which they are, its slices, its Shoe slot with its generation, whether its directory entry shows STATE 1
(R205), since when it could be declared late (R149), and whether its step failure has been seen (R444). -/
structure Batch where
  slot : Nat
  stream : Nat
  epoch : Nat
  index : Nat
  positions : List Nat := []
  ready : Option Nat := none
  building : Bool := false
  buffers : List Nat := []
  slices : List SliceState := []
  shoeSlot : Nat := 0
  generation : Nat := 0
  opened : Bool := false
  lateSince : Option Nat := none
  noted : Bool := false
deriving DecidableEq, Repr

/-- The credit account of a (stream, entry, consumer) triple (R204): credits left, slices written, slots credited. -/
structure Credit where
  slot : Nat
  stream : Nat
  entry : Nat
  consumer : Nat
  credits : Nat
  written : Nat := 0
  freed : Nat := 0
  lastReturn : Nat := 0
deriving DecidableEq, Repr

/-- The Shoe of one stream of one slot: the epoch and index from which its next batch is started (R196), the tick of the
last raise event sent (R197), and the uses of each Shoe slot since launch (R205). -/
structure Shoe where
  slot : Nat
  stream : Nat
  epoch : Nat
  next : Nat := 0
  lastRaise : Option Nat := none
  uses : List (Nat × Nat) := []
deriving DecidableEq, Repr

/-- An entry of the Decoded Sample Cache (R183, R188, R190). -/
structure CacheEntry where
  sample : Nat
  digest : Nat
  objectId : Nat
  data : Bytes
  /-- Blocks held in the GDDR7 tier, 0 where the entry is in flash only. -/
  blocks : Nat
  pinnedBy : Option Nat := none
  refBit : Bool := false
  visible : Bool := true
  readers : Nat := 0
  /-- FLASH_TIER of the job that filled it. -/
  flash : Bool := true
deriving DecidableEq, Repr

/-- A fill in course (R187): the slot and requester it is made for, the chain it reads, and the entry it makes. -/
structure CacheFill where
  slot : Nat
  chain : Option Chain
  entry : CacheEntry
deriving DecidableEq, Repr

/-- An entry of a flash-tier segment (R190). -/
structure FlashEntry where
  sample : Nat
  digest : Nat
  objectId : Nat
  compressed : Bool
  stored : Bytes
  crcOk : Bool := true
deriving DecidableEq, Repr

/-- A flash-tier segment (R189): the store object that holds it, its entries and its bytes in use. -/
structure FlashSegment where
  object : Nat
  entries : List FlashEntry
  bytes : Nat := 0
deriving DecidableEq, Repr

/-- The Decoded Sample Cache (R183 to R193). `hand` is the clock hand's place in the GDDR7 entries. -/
structure Cache where
  entries : List CacheEntry := []
  hand : Nat := 0
  segments : List FlashSegment := []
  /-- The number of the next segment object. -/
  nextSegment : Nat := 0
  /-- Fills in course. -/
  fills : List CacheFill := []
  /-- Entries being compressed for the flash tier (R189). -/
  compressing : List CacheEntry := []
deriving DecidableEq, Repr

/-! ## The flash store -/

/-- An object of the store (R340): OPEN, SEALED or DISCARDING (R368), its bytes and its logical units in order. -/
structure StoreObject where
  object : Nat
  st : Nat
  data : Bytes := []
  digest : Nat := 0
  units : List Nat := []
deriving DecidableEq, Repr

/-- A programmed unit, or one in a stripe buffer, named by its WRITE_SEQ (R336): what it holds and where it stands.
`logical` of a map segment is the segment number (R342). -/
structure PhysUnit where
  seq : Nat
  kind : Nat
  logical : Nat
  object : Nat
  band : Nat
  page : Nat
  column : Nat
deriving DecidableEq, Repr

/-- A band (R337, R346): its die index, the block on each channel, its state (0 OPEN, 1 CLOSED, 2 RECLAIMING, 3 ERASING),
its use (0 appends, 1 collected data), the next page, the units of the stripe being filled, the bits set in its object
filter (R355), whether a discard marks it or a read asked for its relocation (R347), the blocks still to be erased and
how often each erase has failed, and the store time and temperature of each group of 256 pages (R344). -/
structure Band where
  num : Nat
  die : Nat
  blocks : List (Nat × Nat)
  st : Nat := 0
  use : Nat := 0
  page : Nat := 0
  fill : List Nat := []
  filter : List Nat := []
  marked : Bool := false
  relocate : Bool := false
  erasing : List (Nat × Nat) := []
  groups : List (Nat × Nat × Int) := []
deriving DecidableEq, Repr

/-- A program or an erase in flight on a die (R349, R353): since when it has run, how often it has been suspended, and
whether it is. -/
structure DieOp where
  channel : Nat
  die : Nat
  band : Nat
  page : Nat
  erase : Bool
  since : Nat
  suspends : Nat := 0
  suspended : Bool := false
deriving DecidableEq, Repr

/-- A read queued at a die (R351): its priority class, the unit it resolved to, and the Item Table entry it serves. -/
structure QueuedRead where
  channel : Nat
  die : Nat
  cls : Nat
  seq : Nat
  logical : Nat
  reader : Option Nat
deriving DecidableEq, Repr

/-- A campaign over one band (R346, R347, R355, R361): the units to copy and the journal record of its last commit.
`purpose`: 0 garbage collection, 1 wear levelling, 2 relocation, 3 discard. -/
structure Campaign where
  band : Nat
  purpose : Nat
  left : List Nat
  lastCommit : Nat := 0
deriving DecidableEq, Repr

/-- An object command that waits for the hold-up gate (R358): its value, object and window bytes at acceptance. A
FORMAT waits with the population found. -/
structure StoreWait where
  command : Nat
  object : Nat := 0
  bytes : Bytes := []
  expected : Nat := 0
  found : Option Population := none
  since : Nat
deriving DecidableEq, Repr

/-- The flash store (R332 to R362). `map` gives the WRITE_SEQ that holds a logical unit, keyed by unit number, or by
2^40 + segment for a map segment; `segments` is the map cache: segment, reference bit, dirty. `erases`, `bad` and `retired`
are keyed by (channel, die, block) and (channel, die). -/
structure Store where
  formatted : Bool := false
  objects : List StoreObject := []
  map : List (Nat × Nat) := []
  units : List PhysUnit := []
  bands : List Band := []
  ops : List DieOp := []
  reads : List QueuedRead := []
  /-- Reads that ended with a code: the entry and the code. -/
  failed : List (Nat × Nat) := []
  erases : List ((Nat × Nat × Nat) × Nat) := []
  bad : List (Nat × Nat × Nat) := []
  retired : List (Nat × Nat) := []
  nextSeq : Nat := 1
  segments : List (Nat × Bool × Bool) := []
  hand : Nat := 0
  /-- Journal records appended, those durable, and those since the last checkpoint; the tick of the oldest unflushed. -/
  journal : Nat := 0
  durable : Nat := 0
  checkpoint : Nat := 0
  journalSince : Nat := 0
  campaign : Option Campaign := none
  patrol : Option Nat := none
  lastPatrol : Nat := 0
  /-- Working copies of the threshold table: die index, bucket, level and the levels of the last four decoded reads. -/
  thresholds : List (Nat × Nat × Nat × List Nat) := []
  retryLevels : Nat := 0
  suspend : Nat := 0
  waiting : List StoreWait := []
  /-- Blocks left as residue of a discard (R356). -/
  residue : Nat := 0
  /-- The mount in course found no flush-complete record. -/
  unclean : Bool := false
  /-- UserBytes as FORMAT fixed it (R339). -/
  userBytes : Nat := 0
  /-- The store time last saved and the tick it stood at. -/
  savedTime : Nat := 0
  savedTick : Nat := 0
  /-- The tick of the last hold-up check (R358). -/
  gateTick : Option Nat := none
deriving DecidableEq, Repr

/-! ## Loaded images and curation -/

/-- A loaded image: kind 0 vocabulary, 1 control set, 2 bundle, 3 kernel package; its entry and bytes; whether it is
still being built, and whether a memory fault damaged it (R308). -/
structure Loaded where
  kind : Nat
  entry : Nat
  bytes : Bytes
  building : Bool := true
  damaged : Bool := false
deriving DecidableEq, Repr

/-- A generation in progress (R268): the positions of the prompt, the steps done, the tokens, the logits of the next
selection, the forced tokens still to come, the pending and the emitted text, and the state tensors by index. -/
structure Generation where
  entry : Nat
  stage : Nat
  prompt : Nat
  steps : Nat := 0
  tokens : List Nat := []
  logits : List Nat := []
  forced : List Nat := []
  held : Bytes := []
  text : Bytes := []
  cut : Bool := false
  abandoned : Bool := false
  cause : Option Nat := none
  tensors : List (Nat × List (List Nat)) := []
deriving DecidableEq, Repr

/-! ## Kernels -/

/-- A handle a kernel holds (R285): what it names is 0 the input, 1 to 8 a result record, or a chain of its own. -/
structure KernelHandle where
  num : Nat
  target : Nat
deriving DecidableEq, Repr

/-- A chain made by CHAIN_ALLOC: its number, its buffers and its bytes. -/
structure KernelChain where
  id : Nat
  chain : Chain
  data : Bytes
deriving DecidableEq, Repr

/-- An outstanding DMA (R288): its tag, direction, what its handle names, the rows it moves, and since when it is submitted. -/
structure KernelDma where
  tag : Nat
  write : Bool
  handle : Nat
  target : Nat
  offset : Nat
  spad : Nat
  length : Nat
  rows : Nat
  stride : Nat
  since : Nat
deriving DecidableEq, Repr

/-- A kernel item on a pool Pier (R277 to R292): the scratchpad by kernel address (a byte not listed being 0), the handle table with the chains allocated,
the outstanding DMAs, the instructions retired, a CHAIN_ALLOC that waits for buffers (its bytes and since when), the tag a DMA_WAIT
waits for (255 all), and an ending call that waits for its DMAs (call and arguments). -/
structure KernelRun where
  entry : Nat
  pier : Nat
  since : Nat
  regs : PierRegs
  /-- The item descriptor (R284). -/
  descriptor : Bytes := []
  spad : List Host.Cell := []
  handles : List KernelHandle := []
  chains : List KernelChain := []
  nextChain : Nat := 9
  dmas : List KernelDma := []
  insns : Nat := 0
  allocating : Option (Nat × Nat) := none
  waiting : Option Nat := none
  ending : Option (Nat × List Nat) := none
deriving DecidableEq, Repr

/-! ## Repair -/

/-- The repairs (R543 to R547): the fuse array, each entry with whether its check holds; the journal of entries not yet fused; and the
bad rows remapped this boot (array, bank, row and spare). Fuses and journal outlive OFF. -/
structure Repair where
  fuses : List (Nat × Bool) := []
  journal : List Nat := []
  rows : List (Nat × Nat × Nat × Nat) := []
deriving DecidableEq, Repr

/-! ## Boot, self-test and power -/

/-- An image transfer in ROM recovery (R467): the server, IMAGE_LENGTH and IMAGE_DIGEST, the DATA bodies by offset, the DATA since the
last ACK, the tick of the last DATA (of the OFFER before the first), and whether the ACK after it has been sent. -/
structure RecoveryTransfer where
  server : Nat
  length : Nat
  digest : Nat
  pieces : List (Nat × Bytes) := []
  unacked : Nat := 0
  last : Nat
  acked : Bool := true
deriving DecidableEq, Repr

/-- The Keystone and the firmware update (R460 to R485). -/
structure Boot where
  /-- What the image slot of the boot flash holds; nothing while it holds the image of manufacture. -/
  slot : Option Bytes := none
  /-- The tick at which the HUB was released, while the boot watchdog runs (R465). -/
  released : Option Nat := none
  /-- The draw of the per-boot key and its next index (R470). -/
  keyDraw : Nat := 0
  nextIndex : Nat := 0
  /-- The image under check and the staged one (R477). -/
  checking : Option Bytes := none
  staged : Option Bytes := none
  /-- The bytes of a quote being signed and the per-boot index it is signed with (R476). -/
  quoting : Option (Bytes × Nat) := none
  /-- Recovery (R466, R467): the tick the present attempt began, the BEACONs it has sent, the PHY type tried on port 0 with the
  tick since which it is, and the transfer. -/
  attemptSince : Option Nat := none
  beacons : Nat := 0
  phy : Nat := 0
  phySince : Nat := 0
  transfer : Option RecoveryTransfer := none
  /-- An INSTALL or a REBOOT that waits for islands under self-test to reopen (R551). -/
  waiting : Option Nat := none
  /-- A device failure at start-up keeps the HUB from reporting itself alive (R542). -/
  dead : Bool := false
deriving DecidableEq, Repr

/-- The self-test in course (R537 to R547). -/
structure Selftest where
  /-- The command in course, 0 for none. -/
  command : Nat := 0
  /-- Islands that wait for logic BIST, and those under it with the tick each began. -/
  queue : List Nat := []
  testing : List (Nat × Nat) := []
  /-- Arrays under march, each with the next word of its banks and the tick of the last word test. -/
  arrays : List (Nat × Nat × Nat) := []
  stopping : Bool := false
  /-- The result so far. -/
  result : Nat := 0
deriving DecidableEq, Repr

/-- What the power controller is in the middle of (R565, R566, R568, R569). -/
inductive Course where
  | none | entering | retained | waking | shutdown | flush
deriving DecidableEq, Repr

/-- A capacitance measurement (R571): its start, and the readings V0 and Va once taken, each as the sum of its 16 samples. -/
structure HoldUpTest where
  t0 : Nat
  v0 : Option Nat := none
  va : Option Nat := none
deriving DecidableEq, Repr

/-- Power, hold-up and temperature (R556 to R582). -/
structure Power where
  /-- The levels of PWRGD and of PWR_FAIL_N. -/
  pwrgd : Bool := true
  failN : Bool := true
  retainReq : Bool := false
  offReqN : Bool := true
  thermTripN : Bool := true
  chargerOn : Bool := true
  loadOn : Bool := false
  /-- The device stays halted until RESET_N is cycled (R566). -/
  halted : Bool := false
  course : Course := .none
  measuring : Option HoldUpTest := none
  /-- The reading that the charger has to restore after a measurement, and until when (R571). -/
  restoring : Option (Nat × Nat) := none
  /-- The voltage written to rails 0 to 7 where it is no longer the start-up value, and the tick of the last step of each (R560). -/
  rails : List (Nat × Nat) := []
  stepTicks : List (Nat × Nat) := []
  /-- The sensors that stand at or above their warning limit: die sensors by 64 · tile + sensor, GDDR7 channels from 1,024 on. -/
  hot : List Nat := []
  /-- The GDDR7 dies refresh themselves (R309, R568). -/
  selfRefresh : Bool := false
  /-- A thermal shutdown waits for the flush in course (R575). -/
  tripAfter : Bool := false
  /-- The tick of the last PMBus poll (R561). -/
  lastPoll : Nat := 0
  /-- The tick of the last margin plan (R550). -/
  lastPlan : Nat := 0
deriving DecidableEq, Repr

/-! ## The whole -/

structure State where
  /-- The commands that wait, first in first out. -/
  pending : List Instr := []
  /-- How many free values have been taken: the model's own counter. -/
  freeCount : Nat := 0
  /-- The dictionary values of fixed size that differ from their defaults, by key, in rising order. -/
  dict : List (Nat × Nat) := []
  /-- The contents of strings and domains, by key, in rising order; an empty one is not listed. -/
  blobs : List (Nat × Bytes) := []
  answer : Answer := {}
  sent : List Sent := []
  /-- The Global Tick Counter (R49). -/
  gtc : Nat := 0
  bus : Bus := {}
  persist : Persist := {}
  faults : List FaultRec := []
  elements : List Element := []
  time : Time := {}
  counters : Counters := {}
  /-- The spare lanes each Viaduct link has used: link and number (R431). -/
  lanesUsed : List (Nat × Nat) := []
  /-- The clock domains whose islands are isolated for self-test (R538). -/
  isolated : List Nat := []
  slots : List Slot := []
  /-- Class switches in course (R39). -/
  switches : List Switch := []
  pool : Pool := {}
  channels : List Channel := List.replicate 96 {}
  /-- The heap's structures (R307): slot (64 for none), kind and bytes. -/
  heap : List (Nat × Nat × Nat) := []
  conns : List Conn := []
  /-- The draw of the ML-KEM key pair behind this boot's credential (R470). -/
  kemKey : Nat := 0
  ports : List Port := List.replicate 16 {}
  /-- Messages delivered by the transport: context, immediate and body (R400). -/
  inbox : List (Nat × Option Nat × Bytes) := []
  objectWindows : List ObjectWindow := []
  regions : List Region := []
  /-- The generation of each region index used so far. -/
  regionGens : List (Nat × Nat) := []
  items : List Item := []
  offers : List Offer := []
  fills : List Fill := []
  batches : List Batch := []
  shoes : List Shoe := []
  credits : List Credit := []
  cache : Cache := {}
  store : Store := {}
  images : List Loaded := []
  /-- The faults of the Trestle in the present pass (R248). -/
  trestleFaults : Nat := 0
  kernels : List KernelRun := []
  repair : Repair := {}
  generations : List Generation := []
  boot : Boot := {}
  selftest : Selftest := {}
  power : Power := {}
  /-- The flash store as its last durable commit left it: what a loss of power without a flush goes back to (R343, R360). -/
  durableStore : Store := {}
deriving DecidableEq, Repr

/-- Why the machine stops for good. No rule of the spec stops the block: every command it gives an effect has that
effect, and a command that meets none of its conditions changes nothing. -/
inductive Fault where
  /-- Raised by no meaning; kept so that the type has a name to show. Safe: nothing rests on it. -/
  | stopped
deriving DecidableEq, Repr

/-- Why a command has no meaning. -/
inductive Refusal where
  /-- The command of this mnemonic is not modelled; raised by its arm of `exec` alone. Safe: the machine stops where the
  hardware goes on. -/
  | notModelled (mnemonic : String)
deriving DecidableEq, Repr

/-- The machine right after reset: every object at its default (R515), every queue empty, the GTC at 0 (R49). -/
def State.reset : State := { slots := List.replicate 64 {} }

end Sys2Proof.Machine
end

