-- ==== Sys2Proof/Machine/Ops.lean ====
section
/-! DEFINITION. The named operations on the state: dictionary values, free values, answers, what is sent, and the
records a slot, an item, a batch and a job are kept in. -/

namespace Sys2Proof.Machine

/-! ## Keys -/

/-- The key of instance `i` of an instance block (R511). -/
def inst (k i : Nat) : Nat := k + 256 * i

/-- The key of an object of stream `j` of slot `i` at 0x2800 + 16s + k (R511). -/
def streamKey (k i j : Nat) : Nat := k + 256 * (16 * i + j)

/-- The key of a Shoe object of stream `j` of slot `i` at sub-index 16k + f (R511). -/
def shoeKey (k i j : Nat) : Nat := k + 256 * i + 16 * j

/-! ## Dictionary values -/

/-- `v` put at `k` into a list in rising order of keys that lists no `k`. -/
def insertKey {α : Type} (k : Nat) (v : α) : List (Nat × α) → List (Nat × α)
  | [] => [(k, v)]
  | (a, w) :: t => if k < a then (k, v) :: (a, w) :: t else (a, w) :: insertKey k v t

/-- The list without `k`. -/
def dropKey {α : Type} (k : Nat) (l : List (Nat × α)) : List (Nat × α) := l.filter fun e => e.1 != k

/-- The list with `v` at `k`. -/
def putKey {α : Type} (k : Nat) (v : α) (l : List (Nat × α)) : List (Nat × α) := insertKey k v (dropKey k l)

/-- The value at `k`, if listed. -/
def findKey {α : Type} (k : Nat) : List (Nat × α) → Option α
  | [] => none
  | (a, w) :: t => if a = k then some w else findKey k t

/-- The value of a dictionary object of fixed size: its default where none is listed (R515). Signed and OCTETS
values are their encodings read as a little-endian number (R512). -/
def State.get (s : State) (k : Nat) : Nat := (findKey k s.dict).getD (defaultOf k)

/-- The object takes a value; a default is not listed, so equal dictionaries are equal lists. -/
def State.set (s : State) (k v : Nat) : State :=
  { s with dict := if v = defaultOf k then dropKey k s.dict else putKey k v s.dict }

/-- Several objects take their values, the first first. -/
def State.setAll (s : State) (l : List (Nat × Nat)) : State := l.foldl (fun t e => t.set e.1 e.2) s

/-- The contents of a string or domain. -/
def State.blob (s : State) (k : Nat) : Bytes := (findKey k s.blobs).getD []

/-- A string or domain takes contents; an empty one is not listed. -/
def State.setBlob (s : State) (k : Nat) (b : Bytes) : State :=
  { s with blobs := if b = [] then dropKey k s.blobs else putKey k b s.blobs }

/-- A signed object of `w` bits. -/
def State.geti (s : State) (w k : Nat) : Int := toSigned w (s.get k)

/-- A signed object of `w` bits takes a value. -/
def State.seti (s : State) (w k : Nat) (v : Int) : State := s.set k (ofSigned w v)

/-- A 64-bit counter counts `n`, staying at its largest value. -/
def State.count (s : State) (k n : Nat) : State := s.set k (satAdd counterMax (s.get k) n)

/-- A 64-bit counter counts one. -/
def State.bump (s : State) (k : Nat) : State := s.count k 1

/-- A counter of `w` bits counts `n`, staying at its largest value. -/
def State.countW (s : State) (w k n : Nat) : State := s.set k (satAdd (2 ^ w - 1) (s.get k) n)

/-- A flag as a BOOL. -/
def ofBool (b : Bool) : Nat := if b then 1 else 0

/-! ## Free values -/

/-- The next free value. -/
def State.free (s : State) : Nat := Config.freeValue s.freeCount

/-- The next free byte sequence. -/
def State.freeBytes (s : State) : Bytes := Config.freeBytes s.freeCount

/-- The free value has been taken. -/
def State.useFree (s : State) : State := { s with freeCount := s.freeCount + 1 }

/-! ## Answers and output -/

/-- The access is answered OK (R495). -/
def State.ok (s : State) : State := { s with answer := {} }

/-- The access is answered with an abort code and a REASON (R500, R503). -/
def State.refuse (s : State) (abort reason : Nat) : State := { s with answer := { abort := abort, reason := reason } }

/-- The owning chapter refuses the write (0x0015) with its reason (R500). -/
def State.refused (s : State) (reason : Nat) : State := s.refuse 0x0015 reason

/-- The device puts something out. -/
def State.send (s : State) (x : Sent) : State := { s with sent := s.sent ++ [x] }

/-- This device's UID. -/
def myUid : Nat := Config.deviceUid

/-- An island of the network is isolated for self-test: every frame that arrives is dropped (R540). -/
def State.netTested (s : State) : Bool := s.isolated.contains 13 || s.isolated.contains 14

/-! ## Slots -/

/-- The machinery of a slot. -/
def State.slot (s : State) (i : Nat) : Slot := s.slots.getD i {}

/-- A slot's machinery changes. -/
def State.setSlot (s : State) (i : Nat) (x : Slot) : State := { s with slots := s.slots.set i x }

/-- A slot's machinery changes by a function. -/
def State.modSlot (s : State) (i : Nat) (f : Slot → Slot) : State := s.setSlot i (f (s.slot i))

/-- The slot numbers. -/
def allSlots : List Nat := List.range 64

/-- The job of a slot, an empty one where none is held. -/
def State.job (s : State) (i : Nat) : Job := (s.slot i).job.getD {}

/-- JobState of a slot (R46). -/
def State.jobState (s : State) (i : Nat) : Nat := s.get (inst Obj.jobState i)

/-- Every slot is EMPTY (R513). -/
def State.allEmpty (s : State) : Bool := allSlots.all fun i => s.jobState i == 0

/-! ## Items -/

/-- The item of an Item Table entry. -/
def State.item (s : State) (e : Nat) : Option Item := s.items.find? (·.entry == e)

/-- An item takes its new standing. -/
def State.putItem (s : State) (it : Item) : State :=
  { s with items := s.items.map fun x => if x.entry = it.entry then it else x }

/-- An item enters the Item Table. -/
def State.addItem (s : State) (it : Item) : State := { s with items := s.items ++ [it] }

/-- An entry is freed. -/
def State.dropItem (s : State) (e : Nat) : State := { s with items := s.items.filter fun x => x.entry != e }

/-- Run an operation on an item, nothing where the entry holds none. -/
def State.onItem (s : State) (e : Nat) (f : Item → State) : State :=
  match s.item e with
  | some it => f it
  | none => s

/-! ## Lists of records -/

/-- The first record that satisfies `p` takes a new value. -/
def replaceFirst {α : Type} (p : α → Bool) (v : α) : List α → List α
  | [] => []
  | a :: t => if p a then v :: t else a :: replaceFirst p v t

/-- Every record that satisfies `p` changes. -/
def modifyWhere {α : Type} (p : α → Bool) (f : α → α) (l : List α) : List α := l.map fun a => if p a then f a else a

/-- The least number from `i` on that is not in the list, after at most `fuel` others. -/
def leastFrom : Nat → Nat → List Nat → Nat
  | 0, i, _ => i
  | fuel + 1, i, l => if l.contains i then leastFrom fuel (i + 1) l else i

/-- The least natural number below `n` that is not in the list, `n` where all are. -/
def leastFree (n : Nat) (l : List Nat) : Nat := min n (leastFrom l.length 0 l)

end Sys2Proof.Machine
end

