-- ==== Sys2Proof/Machine/Memory.lean ====
section
/-! DEFINITION. The addressed windows of the device, which are zero-filled when they are allocated (R26, R341): a byte
not listed is 0. -/

namespace Sys2Proof.Machine

/-- A window's contents: (offset, byte) pairs, offsets strictly rising, no byte 0 listed. -/
abbrev Memory := List Host.Cell

/-- What an unlisted offset reads as. -/
def Memory.blank : Byte := 0

/-- The canonical form. -/
def Memory.wf (m : Memory) : Bool :=
  (m.map Prod.fst).Pairwise (· < ·) && m.all fun c => c.2 != Memory.blank

/-- The byte at an offset. -/
def Memory.read (m : Memory) (a : Nat) : Byte := (findKey a m).getD Memory.blank

/-- The listed cells of bytes laid from an offset. -/
def Memory.cells (a : Nat) : Bytes → Memory
  | [] => []
  | b :: t => if b = Memory.blank then Memory.cells (a + 1) t else (a, b) :: Memory.cells (a + 1) t

/-- Bytes are written from an offset. -/
def Memory.write (m : Memory) (a : Nat) (b : Bytes) : Memory :=
  (m.filter fun c => decide (c.1 < a)) ++ Memory.cells a b ++ m.filter fun c => decide (a + b.length ≤ c.1)

/-- The `n` bytes from an offset, the cells at or after it being given. -/
def Memory.spread : Nat → Nat → Memory → Bytes
  | 0, _, _ => []
  | n + 1, a, [] => Memory.blank :: Memory.spread n (a + 1) []
  | n + 1, a, (k, b) :: t =>
    if k = a then b :: Memory.spread n (a + 1) t else Memory.blank :: Memory.spread n (a + 1) ((k, b) :: t)

/-- The `n` bytes from an offset. -/
def Memory.bytes (m : Memory) (a n : Nat) : Bytes := Memory.spread n a (m.filter fun c => decide (a ≤ c.1))

end Sys2Proof.Machine
end

