-- ==== Sys2Proof/Machine/Events.lean ====
section
/-! DEFINITION. Frames the unit puts on the Bilyen bus and its queue of events (R489, R490, R504 to R506). -/

namespace Sys2Proof.Machine

/-- The payload lengths of CAN FD; a payload is padded with zero bytes to one of them (R495). -/
def fdLength (n : Nat) : Nat :=
  if n ≤ 8 then n else if n ≤ 12 then 12 else if n ≤ 16 then 16 else if n ≤ 20 then 20 else if n ≤ 24 then 24
  else if n ≤ 32 then 32 else if n ≤ 48 then 48 else 64

/-- The 29-bit identifier (R489). -/
def busIdent (function dest src tag : Nat) : Nat := function * 2 ^ 25 + dest * 2 ^ 18 + src * 2 ^ 11 + tag % 2048

/-- Is the unit addressed (R493)? -/
def State.addressed (s : State) : Bool := s.get Obj.busAddressState == 1

/-- May the unit transmit: its controller is on the bus, and no change of the data rate is due (R486, R492)? -/
def State.mayTransmit (s : State) : Bool := !s.bus.busOff && s.bus.rateSwitch.isNone

/-- A frame the unit transmits without error under some address (R490, R509). -/
def State.sendFrame (s : State) (function dest src tag : Nat) (payload : Bytes) : State :=
  if s.mayTransmit then
    (s.send (.bus (busIdent function dest src tag) (padTo (fdLength payload.length) payload))).bump Obj.busFramesSent
  else s

/-- A frame under the unit's own address. -/
def State.sendBus (s : State) (function dest tag : Nat) (payload : Bytes) : State :=
  s.sendFrame function dest (s.get Obj.busAddress) tag payload

/-- Kinds 3 and 4 travel as URGENT_EVENT (R505). -/
def urgentKind (k : Nat) : Bool := k == 3 || k == 4

/-- The payload of an event frame (R504). -/
def BusEvent.payload (e : BusEvent) : Bytes :=
  leBytes 1 e.kind ++ leBytes 1 e.subkind ++ leBytes 2 e.seq ++ zeros 4 ++ leBytes 8 e.tick ++ e.body

/-- Send one event frame (R490, R504). -/
def State.sendEvent (s : State) (e : BusEvent) : State :=
  s.sendBus (if urgentKind e.kind then 1 else 8) 0 e.seq e.payload

/-- May events go out now: the unit is addressed, not in RETAIN, and may transmit (R486, R492, R506)? -/
def State.eventsFlow (s : State) : Bool :=
  s.addressed && s.get Obj.powerState != 2 && s.mayTransmit

/-- Send the events of the list that have never been sent, oldest first. -/
def sendNewEvents : List BusEvent → State → State
  | [], s => s
  | e :: t, s =>
    sendNewEvents t (if e.sentAt.isNone then (s.sendEvent e).bump Obj.eventsSent else s)

/-- Every event not yet sent goes out, when events may (R506). -/
def State.flushEvents (s : State) : State :=
  if s.eventsFlow then
    let t := sendNewEvents s.bus.events s
    { t with bus := { t.bus with
        events := s.bus.events.map fun e => if e.sentAt.isNone then { e with sentAt := some s.gtc } else e } }
  else s

/-- The EVENT_SEQ after another (R504). -/
def nextEventSeq (n : Nat) : Nat := if n ≥ 0xFFFF then 1 else n + 1

/-- Remove the first event that satisfies `p`. -/
def dropFirst (p : BusEvent → Bool) : List BusEvent → List BusEvent
  | [] => []
  | e :: t => if p e then t else e :: dropFirst p t

/-- Room in a full queue of 64 events (R506). -/
def makeRoom (l : List BusEvent) : List BusEvent :=
  if l.length < 64 then l
  else if l.any fun e => !urgentKind e.kind then dropFirst (fun e => !urgentKind e.kind) l
  else l.drop 1

/-- An event occurs: where EventMask enables its kind it is queued, and sent at once where that is possible
(R505, R506). -/
def State.postEvent (s : State) (kind subkind : Nat) (body : Bytes) : State :=
  if bit (s.get Obj.eventMask) (kind - 1) then
    let s := if s.bus.events.length < 64 then s else s.bump Obj.eventsLost
    let seq := nextEventSeq s.bus.eventSeq
    let e : BusEvent := { seq := seq, kind := kind, subkind := subkind, tick := s.gtc, body := body, sentAt := none }
    ({ s with bus := { s.bus with eventSeq := seq, events := makeRoom s.bus.events ++ [e] } }).flushEvents
  else s

/-- JobState changes, with the JOB event (R28, R505). -/
def State.setJobState (s : State) (i new : Nat) : State :=
  let old := s.jobState i
  (s.set (inst Obj.jobState i) new).postEvent 6 new
    (leBytes 1 i ++ leBytes 1 old ++ leBytes 2 (s.get (inst Obj.jobLastReason i)))

/-- The BOOT event (R505). -/
def State.postBoot (s : State) : State :=
  s.postEvent 8 (s.get Obj.bootState) (leBytes 1 (s.get Obj.identityState) ++ leBytes 1 (s.get Obj.fwLastResult))

/-- The BUS event (R505). -/
def State.postBus (s : State) (sub : Nat) : State := s.postEvent 7 sub []

/-- The NETWORK event (R505): port and priority. -/
def State.postNetwork (s : State) (sub port priority : Nat) : State :=
  s.postEvent 5 sub (leBytes 1 port ++ leBytes 1 priority)

/-- The SHOE event (R505); the consumer index is 0xFFFF unless the event is a stall. -/
def State.postShoe (s : State) (sub slot stream ready consumer : Nat) : State :=
  s.postEvent 2 sub (leBytes 1 slot ++ leBytes 1 stream ++ leBytes 2 ready ++ leBytes 2 consumer)

end Sys2Proof.Machine
end

