-- ==== Sys2Proof/Machine/Faults.lean ====
section
/-! DEFINITION. Fault records, their ring and their event (R431, R434 to R436). -/

namespace Sys2Proof.Machine

/-- No SampleRef, no sample, no batch: all ones. -/
def noRef : Nat := 2 ^ 64 - 1

/-- A fault as its raiser describes it; the fields of R434 that the ring adds are left to `raiseFault`. -/
structure Fault64 where
  cls : Nat
  tile : Nat := 0xFF
  reason : Nat
  unit : Nat := 0
  action : Nat := 0
  slot : Nat := 0xFF
  requester : Nat := 0xFF
  operation : Nat := 0
  ref : Nat := noRef
  detail0 : Nat := 0
  detail1 : Nat := 0
deriving DecidableEq, Repr

/-- Bytes 0x00–0x3B of a fault record (R434). -/
def FaultRec.body (r : FaultRec) : Bytes :=
  leBytes 4 r.seq ++ leBytes 1 r.cls ++ leBytes 1 r.tile ++ leBytes 2 r.reason ++ leBytes 8 r.tick ++
  leBytes 2 r.unit ++ leBytes 1 r.action ++ leBytes 1 r.slot ++ leBytes 1 r.requester ++ leBytes 1 r.operation ++
  zeros 2 ++ leBytes 8 r.ref ++ leBytes 8 r.detail0 ++ leBytes 8 r.detail1 ++ leBytes 4 r.repeats ++ zeros 8

/-- The 64 bytes of a fault record (R434). -/
def FaultRec.encode (r : FaultRec) : Bytes := r.body ++ leBytes 4 (crc32c r.body)

/-- Does the fault merge into the newest record (R436)? -/
def merges (s : State) (f : Fault64) (r : FaultRec) : Bool :=
  r.cls == f.cls && r.tile == f.tile && r.unit == f.unit && r.reason == f.reason &&
    decide (s.gtc ≤ r.lastTick + s.get Obj.faultMergeTicks)

/-- The ring holds FaultLogEntries records, oldest first. -/
def faultRingMax : Nat := 4096

/-- A fault of the class is counted, merged into the newest record or written as a new one with its event (R436). -/
def State.raiseFault (s : State) (f : Fault64) : State :=
  let s := s.bump (Obj.faultCount + (f.cls - 1))
  match s.faults.getLast? with
  | some r =>
    if merges s f r then
      { s with faults := s.faults.dropLast ++ [{ r with repeats := satAdd (2 ^ 32 - 1) r.repeats 1, lastTick := s.gtc }] }
    else newRecord s
  | none => newRecord s
where
  /-- The fault takes a record of its own, overwriting the oldest of a full ring. -/
  newRecord (s : State) : State :=
    let seq := s.get Obj.faultLogNext
    let r : FaultRec :=
      { seq := seq, cls := f.cls, tile := f.tile, reason := f.reason, tick := s.gtc, unit := f.unit,
        action := f.action, slot := f.slot, requester := f.requester, operation := f.operation, ref := f.ref,
        detail0 := f.detail0, detail1 := f.detail1, repeats := 1, lastTick := s.gtc }
    let s :=
      if s.faults.length < faultRingMax then s
      else if (s.faults.head?.map FaultRec.read).getD true then s else s.bump Obj.faultRecordsLost
    let s := { s with faults := s.faults.drop (s.faults.length + 1 - faultRingMax) ++ [r] }
    (s.set Obj.faultLogNext ((seq + 1) % 2 ^ 32)).postEvent 3 f.cls (r.body.take 32)

/-- The SEQ of the newest record, 0 where there is none: an item's FAULT_SEQ after a fault on it (R438). -/
def State.lastFaultSeq (s : State) : Nat := (s.faults.getLast?.map FaultRec.seq).getD 0

end Sys2Proof.Machine
end

