-- ==== Sys2Proof/Machine/Dictionary.lean ====
section
/-! DEFINITION. What happens to an access of the object dictionary before its owner sees it: existence, the states
that serve the object, access, length and range, in the order of R514, and the record of an accepted write to a
persistent object (R516 to R519). -/

namespace Sys2Proof.Machine

/-! ## Types -/

/-- The encoded size of a type of fixed size (R512). -/
def ObjType.size : ObjType → Option Nat
  | .bool => some 1
  | .u8 => some 1
  | .u16 => some 2
  | .u32 => some 4
  | .u64 => some 8
  | .i32 => some 4
  | .i64 => some 8
  | .f32 => some 4
  | .octets n => some n
  | .str _ => none
  | .domain _ => none

/-- The encoded size, or the limit of a string or domain: MAX_BYTES of R522. -/
def ObjType.maxBytes : ObjType → Nat
  | .str n => n
  | .domain n => n
  | t => t.size.getD 0

/-- The type code (R512). -/
def ObjType.code : ObjType → Nat
  | .bool => 1
  | .u8 => 2
  | .u16 => 3
  | .u32 => 4
  | .u64 => 5
  | .i32 => 6
  | .i64 => 7
  | .f32 => 8
  | .str _ => 9
  | .octets _ => 10
  | .domain _ => 11

/-- Is the type DOMAIN? -/
def ObjType.isDomain : ObjType → Bool
  | .domain _ => true
  | _ => false

/-- The access code of R522. -/
def Access.code : Access → Nat
  | .ro => 0
  | .rw => 1
  | .wo => 2
  | .rws => 3
  | .const => 4

/-! ## Existence -/

/-- The slot of a per-slot object, with the index of its block's first slot (R511). -/
def slotOf (k : Nat) : Option Nat :=
  let i := keyIndex k
  let bases := [0x2100, 0x2200, 0x3020, 0x3110, 0x3220, 0x3320, 0x3420, 0x3510, 0x3630, 0x3850, 0x3A40, 0x4100,
    0x4900, 0x7100, 0x7140, 0x7180]
  if 0x2800 ≤ i ∧ i < 0x2C00 then some ((i - 0x2800) / 16)
  else (bases.find? fun b => b ≤ i && i < b + 64).map (i - ·)

/-- The number of streams the slot's manifest defines. -/
def State.streamCount (s : State) (i : Nat) : Nat := (s.job i).streams.length

/-- An index of a stream the slot's manifest does not define (R511). -/
def streamIndexUnused (s : State) (i : Nat) : Bool :=
  0x2800 ≤ i && i < 0x2C00 && s.streamCount ((i - 0x2800) / 16) ≤ (i - 0x2800) % 16

/-- A sub-index of a stream the slot's manifest does not define (R511). -/
def streamSubUnused (s : State) (k : Nat) : Bool :=
  let i := keyIndex k
  let u := keySub k
  (0x3510 ≤ i && i < 0x3550 && s.streamCount (i - 0x3510) ≤ u / 16) ||
    (0x7100 ≤ i && i < 0x7140 && 0x21 ≤ u && u < 0x31 && s.streamCount (i - 0x7100) ≤ u - 0x21)

/-- Step 1 of R514: the abort code for an index or sub-index that does not exist. -/
def existence (s : State) (k : Nat) : Option Nat :=
  if streamIndexUnused s (keyIndex k) then some 0x0010
  else if streamSubUnused s k then some 0x0011
  else match findRow k with
    | some _ => none
    | none => if indexUsed (keyIndex k) then some 0x0011 else some 0x0010

/-! ## States that serve -/

/-- The objects served in recovery (R466). -/
def recoveryServes (k : Nat) : Bool :=
  let u := keySub k
  keyIndex k == 0x1000 || (keyIndex k == 0x8000 && 1 ≤ u && u ≤ 0x0F) ||
    (keyIndex k == 0x8001 && (u == 1 || u == 3 || u == 4 || u == 5))

/-- The objects served in RETAIN (R506). -/
def retainServes (k : Nat) : Bool :=
  let i := keyIndex k
  (0x1000 ≤ i && i < 0x1200) || (0x1800 ≤ i && i < 0x1900)

/-- Step 2 of R514. Outside RUNNING the Keystone alone serves, as in recovery; the description objects answer reads
only in RETAIN (R522). -/
def served (s : State) (k : Nat) (write : Bool) : Bool :=
  if s.get Obj.bootState != 3 then recoveryServes k
  else if s.get Obj.powerState == 2 then retainServes k && !(write && keyIndex k == 0x1020)
  else true

/-! ## Range -/

/-- Is an integer within a table's range? -/
def ObjRange.holds : ObjRange → Int → Bool
  | .any, _ => true
  | .span lo hi, v => decide (lo ≤ v ∧ v ≤ hi)
  | .mult lo hi m, v => decide (lo ≤ v ∧ v ≤ hi ∧ v % m = 0)
  | .spans l, v => l.any fun p => decide (p.1 ≤ v ∧ v ≤ p.2)

/-- Is a code within its type, and its value within the table's range (R512)? -/
def ObjRow.inRange (r : ObjRow) (v : Nat) : Bool :=
  match r.ty with
  | .bool => decide (v ≤ 1) && r.range.holds v
  | .i32 => decide (v < 2 ^ 32) && r.range.holds (toSigned 32 v)
  | .i64 => decide (v < 2 ^ 64) && r.range.holds (toSigned 64 v)
  | .f32 => decide (v < 2 ^ 32) && decide (bits v 23 8 < 255)
  | .str _ => true
  | .domain _ => true
  | t => decide (v < 2 ^ (8 * t.maxBytes)) && r.range.holds v

/-- The heap the sizes leave of job memory, which must not fall below HeapMinBytes (R307). -/
def heapLeft (s : State) (pool cache bundles : Nat) : Bool :=
  decide (pool + cache + bundles + s.get Obj.heapMinBytes ≤ s.get Obj.jobMemoryBytes)

/-- The reserves together, with requester `r`'s at `v` (R325). -/
def reserveSum (s : State) (r v : Nat) : Nat :=
  ((List.range 64).map fun q => if q = r then v else s.get (inst Obj.requesterReserve q)).sum

/-- Is an IPv6 address, its first byte in transmission order lowest, a unicast address: neither multicast nor
unspecified (R22)? -/
def unicast6 (v : Nat) : Bool := v != 0 && v % 256 != 0xFF

/-- The ranges that name other objects, or that a rule states outside its table. -/
def relationOk (s : State) (k v : Nat) : Bool :=
  let i := keyIndex k
  if k = Obj.cacheFlashBytes then s.get Obj.cacheSegmentBytes == 0 || v % s.get Obj.cacheSegmentBytes == 0
  else if k = Obj.cachePinMaxBytes then decide (v ≤ s.get Obj.cacheGddrBytes)
  else if k = Obj.cacheGddrBytes then heapLeft s (s.get Obj.bufferPoolBytes) v (s.get Obj.bundleAreaBytes)
  else if k = Obj.bundleAreaBytes then heapLeft s (s.get Obj.bufferPoolBytes) (s.get Obj.cacheGddrBytes) v
  else if k = Obj.bufferPoolBytes then
    heapLeft s v (s.get Obj.cacheGddrBytes) (s.get Obj.bundleAreaBytes) && decide (s.get Obj.shoeSpaceBytes ≤ v)
  else if k = Obj.shoeSpaceBytes then decide (v ≤ s.get Obj.bufferPoolBytes)
  else if 0x3850 ≤ i ∧ i < 0x3890 ∧ keySub k = keySub Obj.curationLogRelease then
    decide (s.get (inst Obj.curationLogRelease (i - 0x3850)) ≤ v ∧ v ≤ s.get (inst Obj.curationLogHead (i - 0x3850)))
  else if 0x3D40 ≤ i ∧ i < 0x3D80 ∧ keySub k = keySub Obj.requesterReserve then
    decide (v ≤ s.get (inst Obj.requesterQuota (i - 0x3D40)) ∧ reserveSum s (i - 0x3D40) v ≤ s.get Obj.poolBuffers)
  else if k = Obj.gcUrgentFreeBands then decide (8 ≤ v ∧ v ≤ s.get Obj.gcStartFreeBands)
  else if k = Obj.deviceAddress then unicast6 v
  else if k = Obj.pfcDataPriority then decide (v ≤ 7) && v != s.get Obj.pfcControlPriority
  else if k = Obj.handshakePort then decide (1024 ≤ v) && v != 4791
  else if k = Obj.pfcXoffBytes then decide (65536 ≤ v ∧ v + 131072 ≤ s.get Obj.rxDataBufferBytes)
  else if k = Obj.pfcXonBytes then decide (v + 32768 ≤ s.get Obj.pfcXoffBytes)
  else if 0x7140 ≤ i ∧ i < 0x7180 ∧ keySub k = keySub Obj.memberNewAddress then v == 0 || unicast6 v
  else if k = Obj.selftestIslandMask then
    (List.range 32).all fun d => !bit v d || islandExists (d + 1)
  else if k = Obj.selftestArrayMask then decide (v < 64)
  else if k = Obj.startupSelftest then decide (v < 4)
  else if k = Obj.floorSlackPs then decide (10 ≤ v ∧ v ≤ s.get Obj.targetSlackPs)
  else if k = Obj.retainSramMv then decide (550 ≤ v ∧ v ≤ Config.railMinMv 7)
  else true

/-! ## The checks -/

/-- Steps 1 to 4 of R514 for a write: the abort code and REASON of the first failure. -/
def accessWrite (s : State) (k : Nat) : Option (Nat × Nat) :=
  match existence s k with
  | some c => some (c, 0)
  | none =>
    if !served s k true then some (0x0017, 0)
    else match (findRow k).map ObjRow.acc with
      | some .rw => none
      | some .wo => none
      | some .rws => if s.allEmpty then none else some (0x0016, 0x801A)
      | _ => some (0x0012, 0)

/-- Steps 1 to 3 for a read (R513). -/
def accessRead (s : State) (k : Nat) : Option (Nat × Nat) :=
  match existence s k with
  | some c => some (c, 0)
  | none =>
    if !served s k false then some (0x0017, 0)
    else match (findRow k).map ObjRow.acc with
      | some .wo => some (0x0012, 0)
      | _ => none

/-- Step 5: the length and OFFSET suit the type (R496, R512). -/
def lengthAbort (ty : ObjType) (offset len : Nat) : Option (Nat × Nat) :=
  match ty with
  | .domain m => if m < offset + len then some (0x0019, 0) else none
  | .str _ => if offset = 0 then none else some (0x0013, 0)
  | t => if offset = 0 ∧ t.size = some len then none else some (0x0013, 0)

/-- The objects whose chapter names a code for a value out of range (R33, R265): JobCommand and CurationLogRelease. -/
def rangeReason (k : Nat) : Nat :=
  let i := keyIndex k
  if (0x2100 ≤ i ∧ i < 0x2140 ∧ keySub k = keySub Obj.jobCommand) ∨
      (0x3850 ≤ i ∧ i < 0x3890 ∧ keySub k = keySub Obj.curationLogRelease) then 0x800A else 0

/-- Step 6 for a value of fixed size. -/
def valueAbort (s : State) (r : ObjRow) (k v : Nat) : Option (Nat × Nat) :=
  if r.inRange v && relationOk s k v then none else some (0x0014, rangeReason k)

/-! ## Persistent writes -/

/-- Does the object persist across OFF (R516)? -/
def persistent (k : Nat) : Bool := ((findRow k).map ObjRow.persist).getD false

/-- The value the persistent area holds for an object: that of its committed record with the highest SEQ (R518). -/
def committedValue (p : Persist) (k : Nat) : Option Bytes :=
  (p.records.foldl (fun best r =>
    if r.key == k && r.committed then
      (match best with
      | some b => if b.seq < r.seq then some r else best
      | none => some r)
    else best) (none : Option PersistRecord)).map PersistRecord.value

/-- Is a write to a persistent object turned away because 256 records wait (R519)? -/
def persistFull (s : State) (k : Nat) : Bool := persistent k && decide (256 ≤ s.persist.pending.length)

/-- An accepted write to a persistent object waits for its record; the value already committed adds none (R518). -/
def State.recordWrite (s : State) (k : Nat) (value : Bytes) : State :=
  if persistent k then
    if committedValue s.persist k = some value ∧ s.persist.pending.all (fun p => p.1 != k) then s
    else { s with persist := { s.persist with pending := s.persist.pending ++ [(k, value, s.gtc)] } }
  else s

/-- The first failure of steps 1 to 6 for a write of a whole value of fixed size, with the queue limit of R519. -/
def writeAbort (s : State) (k v : Nat) : Option (Nat × Nat) :=
  match accessWrite s k with
  | some a => some a
  | none =>
    match findRow k with
    | none => some (0x0010, 0)
    | some r =>
      match valueAbort s r k v with
      | some a => some a
      | none => if persistFull s k then some (0x0018, 0) else none

/-- A write of `v` to the object `k` as a command of its own: the checks of R514 in order, then the owner's effect,
which sets the answer. -/
def writeCommand (k v : Nat) (eff : State → State) (s : State) : State :=
  match writeAbort s k v with
  | some (a, r) => s.refuse a r
  | none => eff s

/-- The owner accepts a value of fixed size: the object holds it and, where it persists, its record waits. -/
def State.accept (s : State) (k v : Nat) : State :=
  ((s.set k v).recordWrite k (leBytes (((findRow k).map fun r => r.ty.maxBytes).getD 0) v)).ok

end Sys2Proof.Machine
end

