-- ==== Sys2Proof/Machine/Counters.lean ====
section
/-! DEFINITION. The performance counters: what they count, their control words, snapshots and port bandwidth (R525 to
R536). -/

namespace Sys2Proof.Machine

/-- The key of an object of counter `n` of bank `b` (R511). -/
def ctrKey (k b n : Nat) : Nat := k + 256 * (32 * b + n)

/-! ## Control words -/

/-- The fields of a control word (R526). -/
def ctrlEnable (w : Nat) : Bool := bit w 31
def ctrlChain (w : Nat) : Bool := bit w 30
def ctrlKind (w : Nat) : Nat := bits w 24 4
def ctrlValue (w : Nat) : Nat := bits w 16 8
def ctrlEvent (w : Nat) : Nat := bits w 0 12

/-- What a bank's event allows (R528): the number of units its filter may name, and whether a slot filter is allowed;
nothing where the bank has no such event. -/
def eventFilter (bank code : Nat) : Option (Option Nat × Bool) :=
  if code = 0x000 ∨ code = 0x001 ∨ code = 0x003 then some (none, false)
  else if code = 0x002 ∨ code = 0x004 ∨ code = 0x005 ∨ code = 0x006 ∨ code = 0x007 then some (some 256, false)
  else if bank = 0 then
    (if code = 0x100 ∨ code = 0x102 then some (none, false)
     else if code = 0x101 then some (none, true)
     else if code = 0x103 ∨ code = 0x104 then some (some 68, false) else none)
  else if bank = 1 ∨ bank = 2 then
    (if code = 0x101 then some (some 38, true)
     else if 0x100 ≤ code ∧ code ≤ 0x106 then some (some 38, false) else none)
  else if bank = 3 ∨ bank = 4 then
    (if 0x100 ≤ code ∧ code ≤ 0x106 then some (some 96, false)
     else if bank = 3 ∧ (code = 0x107 ∨ code = 0x108) then some (some 64, false) else none)
  else if bank = 5 then
    (if 0x100 ≤ code ∧ code ≤ 0x105 then some (some 16, true)
     else if 0x106 ≤ code ∧ code ≤ 0x109 then some (some 16, false) else none)
  else if bank = 6 then
    (if 0x100 ≤ code ∧ code ≤ 0x107 then some (some 32, false) else none)
  else if bank = 7 then
    (if code = 0x100 ∨ code = 0x101 ∨ code = 0x104 ∨ code = 0x105 then some (none, true)
     else if code = 0x102 ∨ code = 0x103 then some (none, false) else none)
  else none

/-- Is a control word one the counter takes (R526)? -/
def controlOk (bank n w : Nat) : Bool :=
  bits w 28 2 == 0 && bits w 12 4 == 0 && !(ctrlChain w && n % 2 == 0) &&
    match eventFilter bank (ctrlEvent w) with
    | none => false
    | some (units, slot) =>
      match ctrlKind w with
      | 0 => true
      | 1 => slot && decide (ctrlValue w < 64)
      | 2 => (match units with
        | some u => decide (ctrlValue w < u)
        | none => false)
      | _ => false

/-! ## Counting -/

/-- A counter overflows without a chained neighbour (R527). -/
def State.ctrOverflow (s : State) (b n : Nat) : State :=
  (s.set (ctrKey Obj.counterOverflowed b n) 1).bump (inst Obj.bankOverflows b)

/-- Is counter `n` enabled as the upper half of a pair? -/
def State.chained (s : State) (b n : Nat) : Bool :=
  let w := s.get (ctrKey Obj.counterControl b n)
  decide (n < bankCounterCount b) && n % 2 == 1 && ctrlEnable w && ctrlChain w

/-- A counter adds a weight, carrying into a chained neighbour (R527). -/
def State.ctrAdd (s : State) (b n w : Nat) : State :=
  let v := s.get (ctrKey Obj.counterValue b n) + w
  let t := s.set (ctrKey Obj.counterValue b n) (v % 2 ^ 32)
  if v < 2 ^ 32 then t
  else if n % 2 = 0 ∧ s.chained b (n + 1) then
    let u := s.get (ctrKey Obj.counterValue b (n + 1)) + 1
    let t := t.set (ctrKey Obj.counterValue b (n + 1)) (u % 2 ^ 32)
    if u < 2 ^ 32 then t else t.ctrOverflow b (n + 1)
  else t.ctrOverflow b n

/-- Does a counter's word select the event, of a unit and of a slot where it has them (R526, R528)? -/
def ctrlMatches (w code : Nat) (unit slot : Option Nat) : Bool :=
  ctrlEnable w && !ctrlChain w && ctrlEvent w == code &&
    (match ctrlKind w with
     | 0 => true
     | 1 => slot == some (ctrlValue w)
     | _ => unit == some (ctrlValue w))

/-- The domain of a bank whose island is isolated for self-test (R532, R540). -/
def State.bankIsolated (s : State) (b : Nat) : Bool := s.isolated.contains (bankDomain b)

/-- An event of a bank occurs with a weight: every counter that selects it counts it (R527), unless the bank's island is isolated
(R540). -/
def State.event (s : State) (bank code weight : Nat) (unit : Option Nat := none) (slot : Option Nat := none) : State :=
  if s.bankIsolated bank then s
  else (List.range (bankCounterCount bank)).foldl (fun t n =>
    if ctrlMatches (t.get (ctrKey Obj.counterControl bank n)) code unit slot then t.ctrAdd bank n weight else t) s

/-- The numerator and denominator of each disciplined domain's cycles per tick (R58). -/
def domainRatio (d : Nat) : Nat × Nat :=
  if d = 1 ∨ d = 4 ∨ d = 6 ∨ d = 13 ∨ d = 14 ∨ d = 17 then (6, 5)
  else if d = 2 then (3, 2)
  else if d = 3 ∨ d = 5 ∨ d = 7 then (8, 5)
  else if d = 8 ∨ d = 10 then (5, 4)
  else if d = 12 then (85, 64)
  else if d = 16 then (9, 5)
  else if d = 18 then (2, 1)
  else if d = 20 then (1, 10)
  else (1, 1)

/-- The edges of a domain from tick `t` up to and not including tick `t + 1`: edge k of a beat falls at tick
(k × q)/p after its start (R58). -/
def cyclesAt (d t : Nat) : Nat :=
  let (p, q) := domainRatio d
  let a := t % q
  ceilDiv ((a + 1) * p) q - ceilDiv (a * p) q

/-- One GTC tick passes in every bank: TICKS and CYCLES count (R528). -/
def State.countTick (s : State) : State :=
  (List.range 8).foldl (fun t b => (t.event b 0x001 1).event b 0x000 (cyclesAt (bankDomain b) s.gtc)) s

/-! ## Commands of the counters -/

/-- Every counter of every bank, as bank and number, in the order of a snapshot (R531). -/
def allCounters : List (Nat × Nat) :=
  (List.range 8).flatMap fun b => (List.range (bankCounterCount b)).map fun n => (b, n)

/-- The effect of a write to CounterControl (R526): its range is the rule's own. -/
def counterControlWrite (b n w : Nat) (s : State) : State :=
  if controlOk b n w then
    let s := { s with counters := { s.counters with reprogrammed := true } }
    (s.set (ctrKey Obj.counterControl b n) w).ok
  else s.refuse 0x0014 0

/-- The effect of a write to CounterValue (R527). -/
def counterValueWrite (b n v : Nat) (s : State) : State :=
  let s := { s with counters := { s.counters with reprogrammed := true } }
  ((s.set (ctrKey Obj.counterValue b n) v).set (ctrKey Obj.counterOverflowed b n) 0).ok

/-- The effect of CounterCommand (R534). -/
def counterCommandWrite (v : Nat) (s : State) : State :=
  let s := { s with counters := { s.counters with reprogrammed := true } }
  if v = 1 then
    (allCounters.foldl (fun t c => ((t.set (ctrKey Obj.counterControl c.1 c.2) 0).set
      (ctrKey Obj.counterValue c.1 c.2) 0).set (ctrKey Obj.counterOverflowed c.1 c.2) 0) s).ok
  else
    (allCounters.foldl (fun t c =>
      t.set (ctrKey Obj.counterControl c.1 c.2) (t.get (ctrKey Obj.counterControl c.1 c.2) % 2 ^ 31)) s).ok

/-! ## Snapshots -/

/-- The value an entry or CounterValue64 shows (R531, R535): the pair's where the neighbour is chained. -/
def State.counterValue64 (s : State) (b n : Nat) : Nat :=
  let v := s.get (ctrKey Obj.counterValue b n)
  if n % 2 = 0 ∧ s.chained b (n + 1) then v + 2 ^ 32 * s.get (ctrKey Obj.counterValue b (n + 1)) else v

/-- The place of a counter's entry in a record (R531). -/
def entryOffset (b n : Nat) : Nat := 64 + 16 * (((List.range b).map bankCounterCount).sum + n)

/-- A counter's entry (R531). A bank whose island is isolated repeats its last entries with FLAGS[3] (R532). -/
def counterEntry (s : State) (b n : Nat) : Bytes :=
  if s.bankIsolated b then
    let last := slice (entryOffset b n) 16 ((s.counters.ring.getLast?.map SnapRec.bytes).getD [])
    let last := padTo 16 last
    leBytes 1 b ++ leBytes 1 n ++ leBytes 1 (byteAt last 2 % 8 + 8) ++ zeros 1 ++ last.drop 4
  else
    let w := s.get (ctrKey Obj.counterControl b n)
    let flags := ofBool (ctrlEnable w) + 2 * ofBool (ctrlChain w) + 4 * s.get (ctrKey Obj.counterOverflowed b n)
    leBytes 1 b ++ leBytes 1 n ++ leBytes 1 flags ++ zeros 1 ++ leBytes 4 w ++ leBytes 8 (s.counterValue64 b n)

/-- The port entries of a record. -/
def portEntries (s : State) : Bytes :=
  (List.range 16).flatMap fun p =>
    if s.get (inst Obj.portState p) = 0 then zeros 32
    else (s.counters.totals.getD p []).flatMap (leBytes 8)

/-- A record of R531 with its number and tick. -/
def snapshotBytes (s : State) (seq previous : Nat) : Bytes :=
  let c := s.counters
  let flags := ofBool (0 < c.missed) + 2 * ofBool c.stepped + 4 * ofBool c.reprogrammed
  let head := bytesOf [0x5A, 0x43, 0x53, 0x31] ++ leBytes 2 1 ++ leBytes 2 160 ++ leBytes 8 seq ++ leBytes 8 s.gtc ++
    leBytes 8 previous ++ leBytes 1 (s.get Obj.syncState) ++ leBytes 1 flags ++ leBytes 2 (min 65535 c.missed) ++
    zeros 24
  let body := allCounters.flatMap (fun e => counterEntry s e.1 e.2) ++ portEntries s ++
    (List.range 12).flatMap fun i => leBytes 8 (s.get (Obj.gddrRefreshCount + i))
  head ++ leBytes 4 (crc32c (head ++ body)) ++ body

/-- A port total of a record: `f` is 0 TX_BYTES, 1 TX_FRAMES, 2 RX_BYTES, 3 RX_FRAMES. -/
def SnapRec.total (r : SnapRec) (p f : Nat) : Nat := field r.bytes (64 + 2560 + 32 * p + 8 * f) 8

/-- The records the bandwidth window may use: those from the last record with FLAGS[0] or FLAGS[1] on (R533),
newest first. -/
def windowRange : List SnapRec → List SnapRec
  | [] => []
  | r :: t => if byteAt r.bytes 0x21 % 4 ≠ 0 then [r] else r :: windowRange t

/-- The derived objects of a port (R533, R536). -/
def portBandwidth (w : Nat) (range : List SnapRec) (s : State) (p : Nat) : State :=
  let clear := s.setAll [(inst Obj.portTxDataMbps p, 0), (inst Obj.portTxWirePermille p, 0),
    (inst Obj.portRxDataMbps p, 0), (inst Obj.portRxWirePermille p, 0), (inst Obj.portWindowTicks p, 0)]
  match range, range.getLast? with
  | new :: _, some oldest =>
    let old := (range[w]?).getD oldest
    let dt := new.tick - old.tick
    let rate := s.get (inst Obj.portRateGbps p)
    if s.get (inst Obj.portState p) < 2 ∨ dt = 0 ∨ rate = 0 then clear
    else
      let data (f : Nat) := (new.total p f - old.total p f) * 8000 / dt
      let wire (f : Nat) := ((new.total p f - old.total p f) + 20 * (new.total p (f + 1) - old.total p (f + 1))) *
        8000000 / (dt * 1000 * rate)
      s.setAll [(inst Obj.portTxDataMbps p, data 0), (inst Obj.portTxWirePermille p, wire 0),
        (inst Obj.portRxDataMbps p, data 2), (inst Obj.portRxWirePermille p, wire 2), (inst Obj.portWindowTicks p, dt)]
  | _, _ => clear

/-- A multiple of SnapshotTicks is reached: a record, or one missed (R530 to R533). -/
def takeSnapshot (s : State) : State :=
  if s.gtc % s.get Obj.snapshotTicks ≠ 0 then s
  else if s.get Obj.snapshotEnable = 0 then
    { s with counters := { s.counters with missed := s.counters.missed + 1 } }.bump Obj.snapshotsMissed
  else
    let seq := s.get Obj.snapshotSeq + 1
    let previous := (s.counters.ring.getLast?.map SnapRec.tick).getD 0
    let r : SnapRec := { seq := seq, tick := s.gtc, bytes := snapshotBytes s seq previous }
    let ring := s.counters.ring.drop (s.counters.ring.length + 1 - s.get Obj.snapshotRingEntries) ++ [r]
    let s := { s with counters :=
      { s.counters with ring := ring, missed := 0, stepped := false, reprogrammed := false } }
    let s := s.set Obj.snapshotSeq seq
    (List.range 16).foldl (portBandwidth (s.get Obj.bandwidthWindowSnapshots) (windowRange ring.reverse)) s

/-! ## Meanings -/

def execCounterControlWrite (bank n value : Nat) (s : State) : Host.Outcome State Fault Refusal :=
  .next (writeCommand (ctrKey Obj.counterControl bank n) value (counterControlWrite bank n value) s)

def execCounterValueWrite (bank n value : Nat) (s : State) : Host.Outcome State Fault Refusal :=
  .next (writeCommand (ctrKey Obj.counterValue bank n) value (counterValueWrite bank n value) s)

def execSnapshot (s : State) : Host.Outcome State Fault Refusal := .next (takeSnapshot s)

def execClearAll (s : State) : Host.Outcome State Fault Refusal :=
  .next (writeCommand Obj.counterCommand 1 (counterCommandWrite 1) s)

def execStopAll (s : State) : Host.Outcome State Fault Refusal :=
  .next (writeCommand Obj.counterCommand 2 (counterCommandWrite 2) s)

end Sys2Proof.Machine
end

