-- ==== Sys2Proof/Machine/Time.lean ====
section
/-! DEFINITION. Global time: offsets, slewing, steps and synchronisation (R49 to R57, R586), and the release of words
at crossings (R59 to R61). -/

namespace Sys2Proof.Machine

/-! ## The counter -/

/-- 10^9. -/
def giga : Nat := 1000000000

/-- Is any slot ARMED, RUNNING or DRAINING (R52)? -/
def State.jobsActive (s : State) : Bool := allSlots.any fun i => 3 ≤ s.jobState i && s.jobState i ≤ 5

/-- Is a SyncState synchronised (R56)? -/
def syncedState (v : Nat) : Bool := v == 2 || v == 3

/-- Is the GTC synchronised (R29, R56)? -/
def State.synced (s : State) : Bool := syncedState (s.get Obj.syncState)

/-- A value that does not fit its signed object of `w` bits is a free value there: the spec states none. -/
def State.setFitting (s : State) (w k : Nat) (v : Int) : State :=
  if -(2 ^ (w - 1) : Int) ≤ v ∧ v < 2 ^ (w - 1) then s.seti w k v
  else (s.set k (s.free % 2 ^ w)).useFree

/-- StepState of a slot: 0 RUN, 1 HALTED, 2 RESUMING (R457). -/
def State.stepState (s : State) (slot : Nat) : Nat := s.get (inst Obj.stepState slot)

/-- StepState changes, with the STEP event (R447, R505). -/
def State.setStepState (s : State) (slot new : Nat) : State :=
  let s := s.set (inst Obj.stepState slot) new
  s.postEvent 4 new (leBytes 1 slot ++ zeros 1 ++ leBytes 2 (s.get (inst Obj.lastAbortCause slot)) ++
    leBytes 8 (s.get (inst Obj.lastAbortTick slot)) ++ leBytes 16 (s.get (inst Obj.lastAbortRaiser slot)))

/-- A spare that waits for its resume is no longer armed for it (R450). -/
def State.unjoin (s : State) (slot : Nat) : State :=
  if (s.slot slot).joined then (s.modSlot slot fun sl => { sl with joined := false }).setStepState slot 0 else s

/-- Every ARMED slot returns to READY with 0x8019, a waiting spare among them (R30, R450). -/
def State.disarmAll (s : State) : State :=
  allSlots.foldl (fun t i =>
    if t.jobState i = 3 then ((t.set (inst Obj.jobLastReason i) 0x8019).setJobState i 2).unjoin i else t) s

/-- SyncState changes: the counts of measurements start afresh, a departure from the synchronised state is counted
and disarms the slots, and the TIME event is sent (R56, R57, R505). -/
def State.setSyncState (s : State) (new : Nat) : State :=
  let old := s.get Obj.syncState
  if new = old then s
  else
    let s := { s with time := { s.time with inside := 0, outside := 0 } }
    let s := s.set Obj.syncState new
    let left := syncedState old && !syncedState new
    let s := if left then s.countW 32 Obj.syncLossCount 1 else s
    let s := s.postEvent 1 new (leBytes 1 old ++ zeros 3 ++ leBytes 4 (s.get Obj.offsetTicks) ++
      leBytes 4 (s.get Obj.syncLossCount))
    if left then s.disarmAll else s

/-! ## Measurements -/

/-- The nominal interval between measurements, in ticks (R586). -/
def State.interval (s : State) : Nat :=
  if s.get Obj.syncSource = 1 then giga / 2 ^ (-(s.geti 32 Obj.ptpSyncIntervalLog)).toNat else giga

/-- A value held between −l and l. -/
def clampTo (l v : Int) : Int := max (-l) (min l v)

/-- One turn of the slewing loop for an offset (R586): the new F and C. -/
def slewLoop (f o : Int) (d : Nat) (l : Int) : Int × Int :=
  let f' := clampTo l (f - Int.tdiv (o * giga) (16 * d))
  (f', clampTo l (f' - Int.tdiv (o * giga) (4 * d)))

/-- The offset is corrected: by a step where no slot is active and it passes StepThresholdTicks (R52), by slewing
otherwise (R586). A step keeps F and sets C to F. -/
def State.correct (s : State) (o : Int) : State :=
  if decide (o.natAbs > s.get Obj.stepThresholdTicks) && !s.jobsActive then
    let s := { s with
      gtc := (((s.gtc : Int) - o) % (2 ^ 64 : Int)).toNat
      time := { s.time with corr := s.time.freq, awaitRealign := true }
      counters := { s.counters with stepped := true } }
    s.countW 32 Obj.gtcStepCount 1
  else
    let (f, c) := slewLoop s.time.freq o s.interval (s.get Obj.slewLimitPpm * 1000)
    { s with time := { s.time with freq := f, corr := c } }

/-- The state changes that a measurement inside or outside the window brings (R56). -/
def State.judge (s : State) (inside : Bool) : State :=
  let s := if s.get Obj.syncState = 0 then s.setSyncState 1 else s
  let s := { s with time := { s.time with
    inside := if inside then s.time.inside + 1 else 0
    outside := if inside then 0 else s.time.outside + 1 } }
  let st := s.get Obj.syncState
  if st = 3 then s.setSyncState (if inside then 2 else 1)
  else if st = 1 ∧ 16 ≤ s.time.inside then s.setSyncState 2
  else if st = 2 ∧ 4 ≤ s.time.outside then s.setSyncState 1
  else s

/-- One measurement of the offset, GTC minus source. -/
def State.measure (s : State) (o : Int) : State :=
  let s := s.setFitting 32 Obj.offsetTicks o
  let s := { s with time := { s.time with lossOffset := o.natAbs } }
  (s.correct o).judge (decide (o.natAbs ≤ s.get Obj.syncWindowTicks))

/-- The source is lost (R56, R586): C becomes the last F; SYNCED falls to HOLDOVER, ACQUIRING to FREE. -/
def State.sourceLost (s : State) : State :=
  let s := { s with time := { s.time with seen := false, corr := s.time.freq, lossTick := s.gtc, twoStep := none } }
  let st := s.get Obj.syncState
  if st = 2 then s.setSyncState 3 else if st = 1 then s.setSyncState 0 else s

/-! ## PTP -/

/-- Does a PTP message reach the device: PTP is the source, the message is on the chosen port, which is up, by the
chosen transport, in the domain (R54)? -/
def State.ptpTakes (s : State) (port transport domain : Nat) : Bool :=
  !s.netTested && s.get Obj.syncSource == 1 && port == s.get Obj.ptpPort && decide (2 ≤ s.get (inst Obj.portState port)) &&
    transport == s.get Obj.ptpTransport && domain == s.get Obj.ptpDomain

/-- Is it from the chosen transmitter? -/
def State.ptpChosen (s : State) (sender : Nat) : Bool :=
  s.time.masters != [] && sender == s.get Obj.ptpParentIdentity

/-- GTC ticks of a time of the source timescale in nanoseconds (R50). -/
def State.sourceTicks (s : State) (ns : Int) : Int := ns - s.get Obj.gtcOriginSeconds * giga

/-- A Sync exchange is complete, with t1 and t2 (R54). -/
def State.syncExchange (s : State) (t1 t2 : Int) : State :=
  let d := t2 - s.sourceTicks t1
  let s := { s with time := { s.time with t2mt1 := d, twoStep := none } }
  s.measure (d - (s.get Obj.ptpMeanPathDelay + s.geti 32 Obj.ptpAsymmetryTicks))

/-- A Sync arrives (R54, R56). -/
def ptpSync (m : PtpMessage) (twoStep : Bool) (s : State) : State :=
  if s.ptpTakes m.port m.transport m.domain && s.ptpChosen m.sender then
    let s := { s with time := { s.time with lastSeen := s.gtc, seen := true } }
    if twoStep then { s with time := { s.time with twoStep := some { m := m, t2 := s.gtc } } }
    else s.syncExchange (m.origin + m.correction) s.gtc
  else s

/-- A Follow_Up arrives (R54): it completes the Sync of its sequence number. -/
def ptpFollowUp (m : PtpMessage) (s : State) : State :=
  match s.time.twoStep with
  | some p =>
    if s.ptpTakes m.port m.transport m.domain && s.ptpChosen m.sender && p.m.sender == m.sender && p.m.seq == m.seq then
      s.syncExchange (m.origin + m.correction + p.m.correction) p.t2
    else s
  | none => s

/-- The device sends a Delay_Req and keeps its departure as t3 (R54). -/
def delayReqSend (s : State) : State :=
  let port := s.get Obj.ptpPort
  if s.get Obj.syncSource = 1 ∧ 2 ≤ s.get (inst Obj.portState port) ∧ s.time.masters ≠ [] then
    let seq := (s.time.delaySeq + 1) % 65536
    { s with time := { s.time with t3 := some s.gtc, delaySeq := seq } }.send (.frame port 5 (leBytes 2 seq))
  else s

/-- A Delay_Resp arrives: PtpMeanPathDelay is ((t2 − t1) + (t4 − t3)) / 2 (R54). -/
def ptpDelayResp (m : PtpDelayResp) (s : State) : State :=
  match s.time.t3 with
  | some t3 =>
    if s.ptpTakes m.port m.transport m.domain && s.ptpChosen m.sender && m.forUs && m.seq == s.time.delaySeq then
      let t4 := s.sourceTicks (m.receipt - m.correction)
      let mean := Int.tdiv (s.time.t2mt1 + (t4 - t3)) 2
      let s := { s with time := { s.time with t3 := none } }
      if 0 ≤ mean ∧ mean < 2 ^ 32 then s.set Obj.ptpMeanPathDelay mean.toNat
      else (s.set Obj.ptpMeanPathDelay (s.free % 2 ^ 32)).useFree
    else s
  | none => s

/-- The order of two port identities, as the octets are transmitted. -/
def identityValue (sender : Nat) : Nat := beNat (leBytes 10 sender)

/-- Does data set `a` win over `b` by the default comparison of IEEE 1588: the grandmasters' priority1, class,
accuracy, variance, priority2 and identity, then the fewer steps removed, then the lower transmitter (R54)? -/
def betterMaster (a b : PtpDataSet) : Bool :=
  let keyOf (d : PtpDataSet) : List Nat :=
    if a.grandmaster = b.grandmaster then [d.stepsRemoved, identityValue d.sender]
    else [d.priority1, d.clockClass, d.accuracy, d.variance, d.priority2, d.grandmaster]
  decide (keyOf a < keyOf b)

/-- The best of the transmitters heard. -/
def bestMaster : List PtpDataSet → Option PtpDataSet
  | [] => none
  | d :: t =>
    match bestMaster t with
    | none => some d
    | some b => if betterMaster b d then some b else some d

/-- The chosen transmitter is the best of those heard. -/
def State.chooseMaster (s : State) : State :=
  match bestMaster s.time.masters with
  | some d => s.set Obj.ptpParentIdentity d.sender
  | none => s

/-- An Announce arrives (R54). -/
def ptpAnnounce (d : PtpDataSet) (s : State) : State :=
  if s.ptpTakes d.port d.transport d.domain then
    ({ s with time := { s.time with
      masters := (s.time.masters.filter fun (x : PtpDataSet) => x.sender != d.sender) ++ [d] } }).chooseMaster
  else s

/-! ## REF_IN and PPS_IN -/

/-- A rising PPS_IN edge (R50, R56): a pending second is loaded; an edge off its window has lost the source before it
is seen again. -/
def ppsInEdge (refLocked : Bool) (s : State) : State :=
  if s.get Obj.syncSource ≠ 2 then s
  else
    let s := { s with time := { s.time with refLocked := refLocked } }
    let gap := s.gtc - s.time.lastSeen
    let s := if s.time.seen && !(decide (giga - 1000 ≤ gap) && decide (gap ≤ giga + 1000)) then s.sourceLost else s
    let second := match s.time.ppsPending with
      | some v => some v
      | none => s.time.ppsSecond.map (· + 1)
    let s := { s with time := { s.time with ppsPending := none, ppsSecond := second } }
    if !refLocked then s
    else match second with
      | none => s
      | some v =>
        let o := (s.gtc : Int) - s.sourceTicks (v * giga)
        let s := s.measure o
        { s with time := { s.time with lastSeen := s.gtc, seen := true } }

/-- REF_IN goes out of lock: a REF_PPS source is lost (R56). -/
def refInLockLoss (s : State) : State :=
  let s := { s with time := { s.time with refLocked := false } }
  if s.get Obj.syncSource = 2 ∧ s.time.seen then s.sourceLost else s

/-- The time for the next Sync, or the next edge, has run out (R56). -/
def sourceTimeout (s : State) : State :=
  let gap := s.gtc - s.time.lastSeen
  if s.time.seen && ((s.get Obj.syncSource == 1 && decide (3 * s.interval < gap)) ||
      (s.get Obj.syncSource == 2 && decide (giga + 1000 < gap))) then
    let s := s.sourceLost
    if s.get Obj.syncSource = 1 then
      ({ s with time := { s.time with
        masters := s.time.masters.filter fun (x : PtpDataSet) => x.sender != s.get Obj.ptpParentIdentity } }).chooseMaster
    else s
  else s

/-- HOLDOVER falls to FREE once |offset at loss| + (ticks since loss) × HoldoverDriftPpb / 10^9 exceeds 20 (R57). -/
def holdoverExpiry (s : State) : State :=
  if s.get Obj.syncState = 3 ∧
      20 * giga < s.time.lossOffset * giga + (s.gtc - s.time.lossTick) * s.get Obj.holdoverDriftPpb then
    s.setSyncState 0
  else s

/-- After a step the islands are realigned to the new count (R52, R58). -/
def islandRealign (s : State) : State := { s with time := { s.time with awaitRealign := false } }

/-- The owner's effect of a write to SyncSource: FREE, F and C 0 (R56, R69, R586). -/
def syncSourceWrite (v : Nat) (s : State) : State :=
  let s := s.accept Obj.syncSource v
  let s := { s with time := { s.time with
    freq := 0, corr := 0, seen := false, inside := 0, outside := 0, twoStep := none, t3 := none, ppsSecond := none } }
  s.setSyncState 0

/-- The owner's effect of a write to PpsSecondsNext (R50). -/
def ppsSecondsWrite (v : Nat) (s : State) : State :=
  { s with time := { s.time with ppsPending := some v } }.ok

/-! ## Crossings -/

/-- The release tick of a word that entered at `t` a crossing of quantum `q` and delay `d` (R59). -/
def releaseTick (q d t : Nat) : Nat := q * ceilDiv (t + d) q

/-- An event of R64 that held operations of these items marks their histories with its bit (R65). -/
def State.markPerturb (s : State) (held : List Nat) (b : Nat) : State :=
  { s with items :=
      modifyWhere (fun it => held.contains it.entry) (fun it => { it with perturb := it.perturb ||| 2 ^ b }) s.items }

/-- A word of an intra-tile crossing arrives (R61): past its release tick it is released at the next multiple of the
quantum, counted, and raises the release fault. -/
def crossingWordLate (tile crossing entered : Nat) (held : List Nat) (s : State) : State :=
  let q := s.get Obj.releaseQuantumTile
  let due := releaseTick q 8 entered
  if s.gtc ≤ due then s
  else
    let late := q * ceilDiv s.gtc q - due
    let s := s.bump Obj.releaseLateCount
    let s := (s.bump Obj.faultRecoveryCount).count Obj.faultRecoveryTicks late
    let s := (s.event tile 0x007 1 (some crossing)).markPerturb held 7
    s.raiseFault { cls := 3, tile := tile, reason := 0x7010, unit := crossing, detail0 := crossing, detail1 := late }

/-- A resent flit arrives (R61, R64): past its release tick the release moves to the first multiple of the quantum at
or after the arrival, and the retry and the added ticks are counted. -/
def viaductRetry (tile link entered : Nat) (held : List Nat) (s : State) : State :=
  let q := s.get Obj.releaseQuantumViaduct
  let due := releaseTick q 32 entered
  let added := if s.gtc ≤ due then 0 else q * ceilDiv s.gtc q - due
  let s := (s.bump Obj.viaductRetryCount).count Obj.viaductRetryTicks added
  let s := (s.event tile 0x004 1 (some link)).event tile 0x005 added (some link)
  if added = 0 then s else s.markPerturb held 4

/-! ## Meanings -/

def execSyncSourceWrite (value : Nat) (s : State) : Host.Outcome State Fault Refusal :=
  .next (writeCommand Obj.syncSource value (syncSourceWrite value) s)

def execPtpSync (m : PtpMessage) (twoStep : Bool) (s : State) : Host.Outcome State Fault Refusal :=
  .next (ptpSync m twoStep s)

def execPtpFollowUp (m : PtpMessage) (s : State) : Host.Outcome State Fault Refusal := .next (ptpFollowUp m s)

def execPtpDelayResp (m : PtpDelayResp) (s : State) : Host.Outcome State Fault Refusal := .next (ptpDelayResp m s)

def execDelayReqSend (s : State) : Host.Outcome State Fault Refusal := .next (delayReqSend s)

def execPtpAnnounce (d : PtpDataSet) (s : State) : Host.Outcome State Fault Refusal := .next (ptpAnnounce d s)

def execPpsInEdge (refLocked : Bool) (s : State) : Host.Outcome State Fault Refusal := .next (ppsInEdge refLocked s)

def execIslandRealign (s : State) : Host.Outcome State Fault Refusal := .next (islandRealign s)

def execSourceLost (s : State) : Host.Outcome State Fault Refusal := .next (sourceTimeout s)

def execRefInLockLoss (s : State) : Host.Outcome State Fault Refusal := .next (refInLockLoss s)

def execHoldoverExpiry (s : State) : Host.Outcome State Fault Refusal := .next (holdoverExpiry s)

def execCrossingWordLate (tile crossing entered : Nat) (held : List Nat) (s : State) :
    Host.Outcome State Fault Refusal := .next (crossingWordLate tile crossing entered held s)

def execViaductFlitCrcError (tile link entered : Nat) (held : List Nat) (s : State) :
    Host.Outcome State Fault Refusal := .next (viaductRetry tile link entered held s)

end Sys2Proof.Machine
end

