-- ==== Sys2Proof/Machine/Pool.lean ====
section
/-! DEFINITION. The Buffer Pool Manager: handles, chains, the free stack with its prefetch cache, reference counts
and requesters (R318 to R326), and the heap (R307). -/

namespace Sys2Proof.Machine

/-- BufferBytes. -/
def bufferBytes : Nat := 32768

/-- Handles an index buffer lists (R319). -/
def indexFan : Nat := 8192

/-- The data buffers of `n` bytes; a chain holds at least one. -/
def dataBuffers (n : Nat) : Nat := max 1 (ceilDiv n bufferBytes)

/-- The second-level index buffers of a chain of `n` data buffers (R319). -/
def secondLevel (n : Nat) : Nat := if n ≤ indexFan then 0 else ceilDiv n indexFan

/-- The index buffers of a chain of `n` data buffers. -/
def indexBuffers (n : Nat) : Nat := if n ≤ 1 then 0 else secondLevel n + 1

/-- The buffers a chain of `n` bytes takes, index buffers included. -/
def chainBuffers (n : Nat) : Nat := dataBuffers n + indexBuffers (dataBuffers n)

/-- A chain made of the handles it was granted: data buffers first, then the second-level index buffers, then the
root. -/
def makeChain (length : Nat) (handles : List Nat) : Chain :=
  { buffers := handles.take (dataBuffers length), index := handles.drop (dataBuffers length), length := length }

/-- The handle that names a chain (R319). -/
def Chain.name (c : Chain) : Nat := (c.index.getLast?).getD ((c.buffers.head?).getD 0xFFFFFFFF)

/-- Every buffer of a chain, in the order of a chain operation (R323). -/
def Chain.all (c : Chain) : List Nat := c.buffers ++ c.index

/-! ## The free stack -/

/-- The first `n` handles of ascending ranges. -/
def takeRanges : Nat → List (Nat × Nat) → List Nat
  | _, [] => []
  | n, (a, l) :: t => if n ≤ l then List.range' a n else List.range' a l ++ takeRanges (n - l) t

/-- The ranges without their first `n` handles. -/
def dropRanges : Nat → List (Nat × Nat) → List (Nat × Nat)
  | _, [] => []
  | n, (a, l) :: t => if n < l then (a + n, l - n) :: t else dropRanges (n - l) t

/-- How many handles the ranges hold. -/
def rangesLength (r : List (Nat × Nat)) : Nat := (r.map (·.2)).sum

/-- A list cut into groups of 256. -/
def cutGroups : Nat → List Nat → List (List Nat)
  | 0, _ => []
  | n + 1, l => l.take 256 :: cutGroups n (l.drop 256)

/-- The head node is brought out of the ranges when the stack above them is empty: a node of up to 31 groups (R320). -/
def Pool.expose (p : Pool) : Pool :=
  match p.nodes, takeRanges 1 p.rest with
  | [], self :: _ =>
    let rest := dropRanges 1 p.rest
    let g := min 31 (rangesLength rest / 256)
    { p with
      nodes := [{ self := self, groups := cutGroups g (takeRanges (256 * g) rest) }], rest := dropRanges (256 * g) rest }
  | _, _ => p

/-- The read of the head node's last group ends, or of the head itself when it holds no group: its handles are pushed
(R321). -/
def Pool.refill (p : Pool) : Pool :=
  let p := p.expose
  match p.nodes with
  | [] => p
  | n :: t =>
    match n.groups.getLast? with
    | some g => { p with nodes := { n with groups := n.groups.dropLast } :: t, cache := g.reverse ++ p.cache }
    | none => { p with nodes := t, cache := n.self :: p.cache }

/-- More than 448 handles spill their earliest 256 to the head node, or 257 to a new head (R321). -/
def Pool.spill (p : Pool) : Pool :=
  if p.cache.length ≤ 448 then p
  else
    let p := p.expose
    match p.nodes with
    | n :: t =>
      if n.groups.length < 31 then
        let keep := p.cache.length - 256
        { p with
          cache := p.cache.take keep
          nodes := { n with groups := n.groups ++ [(p.cache.drop keep).reverse] } :: t }
      else fresh p
    | [] => fresh p
where
  /-- The 257 handles pushed earliest: the first becomes a new head node, the rest its group 0. -/
  fresh (p : Pool) : Pool :=
    let keep := p.cache.length - 257
    match (p.cache.drop keep).reverse with
    | [] => p
    | self :: g => { p with cache := p.cache.take keep, nodes := { self := self, groups := [g] } :: p.nodes }

/-- A freed handle is pushed (R321). -/
def Pool.push (p : Pool) (h : Nat) : Pool := Pool.spill { p with cache := h :: p.cache }

/-- The maximal ranges of the numbers below `n` that do not occur in the ascending list. -/
def gaps (n : Nat) : Nat → List Nat → List (Nat × Nat)
  | a, [] => if a < n then [(a, n - a)] else []
  | a, h :: t => (if a < h then [(a, h - a)] else []) ++ gaps n (h + 1) t

/-- Insertion into an ascending list. -/
def insertUp (a : Nat) : List Nat → List Nat
  | [] => [a]
  | b :: t => if a ≤ b then a :: b :: t else b :: insertUp a t

/-- A list in ascending order. -/
def sortUp (l : List Nat) : List Nat := l.foldr insertUp []

/-- The node stack rebuilt from every buffer that is neither allocated nor in the cache, in ascending order (R322). -/
def Pool.rebuild (p : Pool) (buffers : Nat) : Pool :=
  let handed := p.waiting.flatMap (·.got)
  { p with
    nodes := [], rebuilding := false
    rest := gaps buffers 0 (sortUp (p.cache ++ p.held.map (·.handle) ++ handed)) }

/-- A pool build of `buffers` buffers (R320). -/
def buildPool (buffers : Nat) : Pool := { rest := [(512, buffers - 512)] }

/-! ## Requests -/

/-- The free buffers: those of the pool neither allocated, promised nor withheld. -/
def State.freeBuffers (s : State) : Nat := s.get Obj.freeBuffers

/-- What the other requesters' reserves keep back (R325). -/
def reservedFor (s : State) (r : Nat) : Nat :=
  ((List.range 64).map fun q =>
    if q = r then 0 else s.get (inst Obj.requesterReserve q) - s.get (inst Obj.requesterHeld q)).sum

/-- May requester `r` be granted `n` buffers now (R325)? -/
def mayGrant (s : State) (r n : Nat) : Bool :=
  !s.pool.rebuilding && decide (s.get (inst Obj.requesterHeld r) + n ≤ s.get (inst Obj.requesterQuota r)) &&
    decide (reservedFor s r + n ≤ s.freeBuffers)

/-- Charge `n` buffers to a requester. -/
def State.chargeBuffers (s : State) (r n : Nat) : State :=
  let held := s.get (inst Obj.requesterHeld r) + n
  let s := (s.set (inst Obj.requesterHeld r) held).set Obj.freeBuffers (s.freeBuffers - n)
  let s := s.set (inst Obj.requesterHighWater r) (max held (s.get (inst Obj.requesterHighWater r)))
  (s.count Obj.allocations n).event 3 0x107 n (some r)

/-- The grants due among the waiting requests, oldest first: a request waits behind an ungranted one of its own
requester (R325). `blocked` lists the requesters already held back. -/
def grantWaits : List BufferWait → List Nat → State → List BufferWait × State
  | [], _, s => ([], s)
  | w :: t, blocked, s =>
    if !w.granted && !blocked.contains w.requester && mayGrant s w.requester w.count then
      let waited := s.gtc - w.since
      let s := s.chargeBuffers w.requester w.count
      let s := if w.waited then (s.count (inst Obj.requesterWaitTicks w.requester) waited).event 3 0x108 waited
        (some w.requester) else s
      let (l, s) := grantWaits t blocked s
      ({ w with granted := true } :: l, s)
    else
      let (l, s) := grantWaits t (if w.granted then blocked else w.requester :: blocked) s
      (w :: l, s)

/-- The granted requests take handles from the cache, oldest first (R321). -/
def handOut : List BufferWait → List Nat → List BufferWait × List Nat
  | [], cache => ([], cache)
  | w :: t, cache =>
    if w.granted then
      let need := w.count - w.got.length
      let (l, rest) := handOut t (cache.drop need)
      ({ w with got := w.got ++ cache.take need } :: l, rest)
    else
      let (l, rest) := handOut t cache
      (w :: l, rest)

/-- Has a request all its buffers? -/
def BufferWait.done (w : BufferWait) : Bool := w.granted && decide (w.count ≤ w.got.length)

/-- The waiting requests are examined, oldest first: those that fit are granted and take handles; the requests that
have all their buffers leave the list and are answered. -/
def State.serveBuffers (s : State) : List BufferWait × State :=
  let (l, s) := grantWaits s.pool.waiting [] s
  let (l, cache) := handOut l s.pool.cache
  let done := l.filter BufferWait.done
  let held := done.flatMap fun w => w.got.map fun h => { handle := h, requester := w.requester, count := 1 }
  let s := { s with pool := { s.pool with
    cache := cache, waiting := l.filter fun w => !w.done, held := s.pool.held ++ held } }
  (done, s.set Obj.prefetchCacheFill s.pool.cache.length)

/-- A request joins the waiting list; it counts as waiting when it is not granted at once (R325). -/
def State.requestBuffers (s : State) (r n holder : Nat) : State :=
  let w : BufferWait := { requester := r, count := n, holder := holder, since := s.gtc }
  let behind := s.pool.waiting.any fun x => x.requester == r && !x.granted
  let waits := behind || !mayGrant s r n
  let s := { s with pool := { s.pool with waiting := s.pool.waiting ++ [{ w with waited := waits }] } }
  if waits then s.bump (inst Obj.requesterWaits r) else s

/-- A requester that asks by BUFFER_ALLOCATE itself holds what it is granted; it waits under this number. -/
def commandHolder : Nat := 2 ^ 80

/-! ## Reference counts -/

/-- The standing of an allocated buffer. -/
def Pool.find (p : Pool) (h : Nat) : Option Held := p.held.find? (·.handle == h)

/-- A buffer goes back to the cache, or is withheld for want of a home (R313, R323). -/
def State.freeBuffer (s : State) (x : Held) : State :=
  let s := s.bump Obj.frees
  let s := s.set (inst Obj.requesterHeld x.requester) (s.get (inst Obj.requesterHeld x.requester) - 1)
  let pool := { s.pool with held := s.pool.held.filter fun y => y.handle != x.handle }
  if pool.homeless.contains x.handle then
    { s with pool := { pool with homeless := pool.homeless.filter (· != x.handle) } }.countW 32 Obj.buffersWithheld 1
  else
    let pool := pool.push x.handle
    ({ s with pool := pool }.set Obj.freeBuffers (s.freeBuffers + 1)).set Obj.prefetchCacheFill pool.cache.length

/-- REF_ADD on an allocated buffer: refused at 255 (R323). -/
def State.refAdd (s : State) (h : Nat) : State :=
  match s.pool.find h with
  | none => s
  | some x =>
    let s := s.bump Obj.refOperations
    if x.count = 255 then s.bump Obj.refSaturations
    else
      let held := modifyWhere (fun (y : Held) => y.handle == h) (fun y => { y with count := y.count + 1 }) s.pool.held
      { s with pool := { s.pool with held := held } }

/-- REF_DROP on an allocated buffer: at 0 it is freed (R323). -/
def State.refDrop (s : State) (h : Nat) : State :=
  match s.pool.find h with
  | none => s
  | some x =>
    let s := s.bump Obj.refOperations
    if x.count ≤ 1 then s.freeBuffer x
    else
      let held := modifyWhere (fun (y : Held) => y.handle == h) (fun y => { y with count := y.count - 1 }) s.pool.held
      { s with pool := { s.pool with held := held } }

/-- Every buffer of a chain is dropped (R323). -/
def State.dropChain (s : State) (c : Chain) : State := c.all.foldl State.refDrop s

/-- Every buffer of a chain takes one more reference. -/
def State.addChain (s : State) (c : Chain) : State := c.all.foldl State.refAdd s

/-- A holder's request is withdrawn: what it was promised is given back. -/
def State.cancelWait (s : State) (holder : Nat) : State :=
  let mine := s.pool.waiting.filter (·.holder == holder)
  let s := { s with pool := { s.pool with waiting := s.pool.waiting.filter (·.holder != holder) } }
  mine.foldl (fun s w =>
    if w.granted then
      let s := { s with pool := w.got.foldl Pool.push s.pool }
      let s := s.set (inst Obj.requesterHeld w.requester) (s.get (inst Obj.requesterHeld w.requester) - w.count)
      (s.set Obj.freeBuffers (s.freeBuffers + w.count)).set Obj.prefetchCacheFill s.pool.cache.length
    else s) s

/-! ## The heap -/

/-- An extent of the heap (R307). -/
def heapExtent : Nat := 2097152

/-- Kinds of structure in the heap (R307). -/
inductive HeapKind where
  | staging | shardMap | tarIndices | annotations | census | curationLog | pullDirectory | workingSet | history
  | objectWindow
deriving DecidableEq, Repr

/-- The number a kind is listed under. -/
def HeapKind.num : HeapKind → Nat
  | .staging => 0
  | .shardMap => 1
  | .tarIndices => 2
  | .annotations => 3
  | .census => 4
  | .curationLog => 5
  | .pullDirectory => 6
  | .workingSet => 7
  | .history => 8
  | .objectWindow => 9

/-- The bytes of the extents allocated. -/
def heapUsed (l : List (Nat × Nat × Nat)) : Nat := (l.map fun e => roundUp e.2.2 heapExtent).sum

/-- A structure of a slot is given heap extents, nothing where they do not fit. -/
def State.heapTake (s : State) (slot : Nat) (kind : HeapKind) (bytes : Nat) : Option State :=
  let heap := s.heap ++ [(slot, kind.num, bytes)]
  if heapUsed heap ≤ s.get Obj.heapBytes then some ({ s with heap := heap }.set Obj.heapUsedBytes (heapUsed heap))
  else none

/-- The structures of a slot of one kind are freed. -/
def State.heapFree (s : State) (slot : Nat) (kind : HeapKind) : State :=
  let heap := s.heap.filter fun e => !(e.1 == slot && e.2.1 == kind.num)
  { s with heap := heap }.set Obj.heapUsedBytes (heapUsed heap)

/-- Every structure of a slot is freed. -/
def State.heapFreeSlot (s : State) (slot : Nat) : State :=
  let heap := s.heap.filter fun e => e.1 != slot
  { s with heap := heap }.set Obj.heapUsedBytes (heapUsed heap)

/-- HeapBytes follows the sizes of the other parts of job memory (R307). -/
def State.layHeap (s : State) : State :=
  s.set Obj.heapBytes (s.get Obj.jobMemoryBytes - s.get Obj.bufferPoolBytes - s.get Obj.cacheGddrBytes -
    s.get Obj.bundleAreaBytes)

end Sys2Proof.Machine
end

