-- ==== Sys2Proof/Machine/Regions.lean ====
section
/-! DEFINITION. The region table: keys, registration, the checks of an access and revocation (R390 to R392). -/

namespace Sys2Proof.Machine

/-- The key of a region (R390). -/
def Region.key (r : Region) : Nat := r.generation * 2 ^ 24 + r.index * 2 ^ 8 + r.tag

/-- Regions that exist at once. -/
def regionMax : Nat := 65536

/-- The region of a kind, owner and part. -/
def State.regionOf (s : State) (kind : RegionKind) (owner part : Nat) : Option Region :=
  s.regions.find? fun r => r.kind == kind && r.owner == owner && r.part == part

/-- The access of each kind is writing (R390). -/
def RegionKind.writes : RegionKind → Bool
  | .staging => true
  | .objectWindow => true
  | .shoeExport => false
  | .sampleExport => false
  | .recordExport => false
  | .censusExport => false
  | .curationLog => false

/-- The kind of connection each kind of region admits (R390): 0 consumer, 1 peer, 2 service. -/
def RegionKind.admits : RegionKind → Nat
  | .staging => 2
  | .objectWindow => 2
  | .shoeExport => 0
  | .sampleExport => 1
  | .recordExport => 1
  | .censusExport => 1
  | .curationLog => 2

/-- A region is registered: the lowest unused index, its next generation, a random tag from 1 to 255, and a base
address of the device's own choosing where `base` names none; nothing where the table is full. -/
def State.register (s : State) (kind : RegionKind) (base : Option Nat) (length owner part : Nat) (content : Bytes) :
    Option (Region × State) :=
  if regionMax ≤ s.regions.length then none
  else
    let index := leastFree regionMax (s.regions.map Region.index)
    let generation := ((findKey index s.regionGens).map fun g => (g + 1) % 256).getD 0
    let tag := s.free % 255 + 1
    let s := s.useFree
    let (b, s) := match base with
      | some b => (b, s)
      | none => (s.free % 2 ^ 48, s.useFree)
    let r : Region := { index := index, generation := generation, tag := tag, kind := kind, base := b, length := length,
                        owner := owner, part := part, content := content }
    some (r, ({ s with regions := s.regions ++ [r], regionGens := putKey index generation s.regionGens }).set
      Obj.regionsRegistered (s.regions.length + 1))

/-- A region leaves the table: its key is retired (R392 phase 2). -/
def State.retireRegion (s : State) (index : Nat) : State :=
  let regions := s.regions.filter fun r => r.index != index
  { s with regions := regions }.set Obj.regionsRegistered regions.length

/-- The regions that satisfy `p` become REVOKING (R392 phase 1). -/
def State.revokeWhere (s : State) (p : Region → Bool) : State :=
  let hit (r : Region) : Bool := p r && r.revoking.isNone
  { s with regions := modifyWhere hit (fun r => { r with revoking := some s.gtc }) s.regions }

/-- The region of a kind, owner and part becomes REVOKING. -/
def State.revoke (s : State) (kind : RegionKind) (owner part : Nat) : State :=
  s.revokeWhere fun r => r.kind == kind && r.owner == owner && r.part == part

/-- Every region of a slot of a kind becomes REVOKING. -/
def State.revokeSlot (s : State) (owner : Nat) (kind : RegionKind) : State :=
  s.revokeWhere fun r => r.kind == kind && r.owner == owner

/-- The kinds whose region belongs to a job slot, and so admits only that slot's consumer connections (R391). -/
def RegionKind.ofSlot : RegionKind → Bool
  | .shoeExport => true
  | _ => false

/-- The checks of R391 in order: the region, or the code of the first failure. -/
def State.checkAccess (s : State) (c : Conn) (write : Bool) (key addr length : Nat) : Except Nat Region :=
  match s.regions.find? fun r => r.index == bits key 8 16 && r.generation == bits key 24 8 && r.tag == key % 256 with
  | none => .error 0x6040
  | some r =>
    if r.revoking.isSome then .error 0x6042
    else if r.kind.admits != c.kind || r.kind.writes != write || (r.kind.ofSlot && r.owner != c.slot) then .error 0x6041
    else if addr < r.base ∨ r.base + r.length < addr + length then .error 0x6043
    else .ok r

end Sys2Proof.Machine
end

