-- ==== Sys2Proof/Machine/Store.lean ====
section
/-! DEFINITION. The flash store: the NAND population, units, stripes and bands, objects, the map and its journal,
reads, garbage collection, patrol, secure discard, the hold-up gate, mount and failures (R332 to R362). -/

namespace Sys2Proof.Machine

/-- The store changes by a function. -/
def State.modStore (s : State) (f : Store → Store) : State := { s with store := f s.store }

/-! ## Population and geometry -/

/-- NandProfile as written. -/
def State.nandProfile (s : State) : Bytes := s.blob Obj.nandProfile

/-- Is a media profile well-formed (R335)? -/
def profileOk (b : Bytes) : Bool :=
  b.length == 256 && b.take 4 == ascii ['K', 'N', 'P', '1'] && field b 4 2 == 1 && byteAt b 6 ≤ 1 &&
    decide (1 ≤ byteAt b 7 ∧ byteAt b 7 ≤ 4) &&
    ((field b 0x10 4 == 16384 && byteAt b 0x16 == 4) || (field b 0x10 4 == 32768 && byteAt b 0x16 == 2)) &&
    byteAt b 0x17 ≤ 15 && decide (256 ≤ field b 0x18 2 ∧ field b 0x18 2 ≤ 4096) &&
    decide (256 ≤ field b 0x1A 2 ∧ field b 0x1A 2 ≤ 16384) && decide (1 ≤ field b 0x1C 4 ∧ field b 0x1C 4 ≤ 1000000) &&
    decide (50 ≤ field b 0x20 2 ∧ field b 0x20 2 ≤ 3600) && byteAt b 0x22 ≤ 3 &&
    ((slice 0x64 35 b).all fun v => decide (v.toNat ≤ byteAt b 0x17)) && allZero (slice 0x87 117 b) &&
    field b 0xFC 4 == crc32c (b.take 0xFC)

/-- The population with the profile's values where the profile covers its dies (R335). -/
def profiled (p : Population) (b : Bytes) : Population :=
  if b.isEmpty ∨ field b 8 8 ≠ p.idBytes ∨ (byteAt b 6 == 1) ≠ p.toggle then p
  else
    { p with
      pageBytes := field b 0x10 4, spareBytes := field b 0x14 2, planes := byteAt b 0x16, pagesPerBlock := field b 0x18 2
      blocksPerPlane := field b 0x1A 2, cellBits := byteAt b 7, retryLevels := byteAt b 0x17, rated := field b 0x1C 4
      suspend := byteAt b 0x22, parameterPage := true
      rate := if p.toggle then min p.rate (field b 0x20 2) else p.rate }

/-- Does the profile cover the dies? -/
def profileCovers (p : Population) (b : Bytes) : Bool := !b.isEmpty && field b 8 8 == p.idBytes && (byteAt b 6 == 1) == p.toggle

/-- Does a population meet R332? -/
def populationLegal (p : Population) : Bool :=
  p.uniform && decide (1 ≤ p.diesPerChannel ∧ p.diesPerChannel ≤ 64) &&
    ((p.pageBytes == 16384 && p.planes == 4) || (p.pageBytes == 32768 && p.planes == 2)) &&
    decide (520 * (p.pageBytes / 4096) ≤ p.spareBytes) && decide (256 ≤ p.pagesPerBlock ∧ p.pagesPerBlock ≤ 4096) &&
    decide (256 ≤ p.blocksPerPlane ∧ p.blocksPerPlane ≤ 16384) && decide (1 ≤ p.cellBits ∧ p.cellBits ≤ 4) &&
    decide (p.pageBytes * p.planes * p.pagesPerBlock * p.blocksPerPlane ≤ 2 ^ 38)

/-- The code that stops a FORMAT or a mount over a population, 0 where none does (R332, R335). -/
def State.populationReason (s : State) (p : Population) : Nat :=
  let b := s.nandProfile
  if !b.isEmpty && !profileOk b then 0x5003
  else if !profileCovers p b && (p.toggle || !p.parameterPage) then 0x5003
  else if !(populationLegal (profiled p b)) then 0x5002
  else 0

/-- The geometry objects follow the population (R365). -/
def State.setGeometry (s : State) (p : Population) : State :=
  let q := profiled p s.nandProfile
  let s := s.setAll [(Obj.diesPerChannel, q.diesPerChannel), (Obj.pageBytes, q.pageBytes), (Obj.spareBytes, q.spareBytes),
    (Obj.planesPerDie, q.planes), (Obj.pagesPerBlock, q.pagesPerBlock), (Obj.blocksPerPlane, q.blocksPerPlane),
    (Obj.cellBits, q.cellBits), (Obj.interfaceMode, if q.toggle then 3 else q.interface), (Obj.transferRateMTs, q.rate),
    (Obj.ratedEraseCount, q.rated)]
  s.modStore fun t => { t with retryLevels := q.retryLevels, suspend := q.suspend }

/-- The die indices of a channel. -/
def State.dieIndices (s : State) : List Nat := List.range (s.get Obj.diesPerChannel)

/-- The channels whose die of an index is retired (R337). -/
def Store.retiredAt (t : Store) (die : Nat) : List Nat := (t.retired.filter fun r => r.2 == die).map (·.1)

/-- Does a die index open bands (R337)? -/
def Store.opens (t : Store) (die : Nat) : Bool := decide ((t.retiredAt die).length < 4)

/-- The data units of the open die indices (R337). -/
def State.dataUnits (s : State) : Nat :=
  (s.dieIndices.filter s.store.opens).length * (s.get Obj.blocksPerPlane * s.get Obj.pagesPerBlock * 28)

/-- The logical units of object data (R339). -/
def State.userUnits (s : State) : Nat := s.get Obj.userBytes / 65536

/-- The key base of map segments among the mapped units. -/
def segmentBase : Nat := 2 ^ 40

/-- The logical units mapped. -/
def Store.mappedUnits (t : Store) : Nat := (t.map.filter fun m => decide (m.1 < segmentBase)).length

/-- Blocks of a channel and die index that no band holds and that are good. -/
def State.freeBlocks (s : State) (channel die : Nat) : Nat :=
  let used := (s.store.bands.filter fun b => b.die == die && b.blocks.any fun c => c.1 == channel).length
  let bad := (s.store.bad.filter fun b => b.1 == channel && b.2.1 == die).length
  s.get Obj.blocksPerPlane - used - bad

/-- The columns of a die index that take part in its bands (R337). -/
def Store.columns (t : Store) (die : Nat) : List Nat :=
  (List.range 32).filter fun c => !(t.retiredAt die).contains c

/-- The bands a die index can still open. -/
def State.freeBandsAt (s : State) (die : Nat) : Nat :=
  if s.store.opens die then
    match (s.store.columns die).map fun c => s.freeBlocks c die with
    | [] => 0
    | h :: t => t.foldl min h
  else 0

/-- The status objects follow the store (R364, R368). -/
def State.storeStatus (s : State) : State :=
  let live := s.store.objects.filter fun o => o.object % 256 != 0xFF
  let open_ := (live.filter fun o => o.st == 1).length
  let s := s.setAll [(Obj.dieIndicesOpen, (s.dieIndices.filter s.store.opens).length),
    (Obj.dataBytes, 65536 * s.dataUnits), (Obj.usedBytes, 65536 * s.store.mappedUnits),
    (Obj.freeBands, (s.dieIndices.map s.freeBandsAt).sum), (Obj.objectCount, live.length), (Obj.objectsOpen, open_),
    (Obj.discardBandsLeft, (s.store.bands.filter (·.marked)).length)]
  if s.get Obj.storeState = 2 ∧ s.dataUnits * 1000 < 1020 * (s.userUnits + Config.objectTableUnits) then
    s.set Obj.storeState 3
  else s

/-! ## Bands and stripes -/

/-- The columns of a stripe that hold data, in order (R337): parity takes the first 4 − r. -/
def dataColumns (t : Store) (die page : Nat) : List Nat :=
  let cols := ((List.range 32).map fun k => (4 * page + k) % 32).filter fun c => !(t.retiredAt die).contains c
  cols.drop (4 - (t.retiredAt die).length)

/-- The erase count of a block. -/
def Store.eraseCount (t : Store) (channel die block : Nat) : Nat :=
  ((t.erases.find? fun e => e.1 == (channel, die, block)).map (·.2)).getD 0

/-- The free block of a die with the lowest erase count, the lower number on a tie (R337). -/
def State.pickBlock (s : State) (channel die : Nat) : Option Nat :=
  let used := (s.store.bands.filter fun b => b.die == die).flatMap fun b =>
    (b.blocks.filter fun c => c.1 == channel).map (·.2)
  let free := (List.range (s.get Obj.blocksPerPlane)).filter fun k =>
    !used.contains k && !s.store.bad.contains (channel, die, k)
  match free with
  | [] => none
  | h :: t => some (t.foldl (fun best k =>
      if s.store.eraseCount channel die k < s.store.eraseCount channel die best then k else best) h)

/-- The die index on which the next band opens: one that can open a band, with the fewest bands, the lowest on a tie. -/
def State.pickDie (s : State) : Option Nat :=
  let can := s.dieIndices.filter fun d => decide (0 < s.freeBandsAt d)
  let load (d : Nat) : Nat := (s.store.bands.filter fun b => b.die == d).length
  match can with
  | [] => none
  | h :: t => some (t.foldl (fun best d => if load d < load best then d else best) h)

/-- Store time (R344). -/
def State.storeTime (s : State) : Nat :=
  if s.synced then s.get Obj.gtcOriginSeconds + s.gtc / giga
  else s.store.savedTime + (s.gtc - s.store.savedTick) / giga

/-- A band of a use opens (R337); nothing where no die has room. -/
def State.openBand (s : State) (use : Nat) : Option (Band × State) :=
  match s.pickDie with
  | none => none
  | some die =>
    let blocks := (s.store.columns die).filterMap fun c => (s.pickBlock c die).map fun k => (c, k)
    let num := leastFree (s.store.bands.length + 1) (s.store.bands.map Band.num)
    let b : Band := { num := num, die := die, blocks := blocks, use := use }
    some (b, s.modStore fun t => { t with bands := s.store.bands ++ [b] })

/-- The open band of a use. -/
def Store.openOf (t : Store) (use : Nat) : Option Band := t.bands.find? fun b => b.st == 0 && b.use == use

/-- A band takes its new standing. -/
def State.putBand (s : State) (b : Band) : State :=
  s.modStore fun t => { t with bands := s.store.bands.map fun (x : Band) => if x.num = b.num then b else x }

/-- The open band's stripe goes to the dies: a program on every column in service; the next stripe follows, or the band
closes (R337). -/
def State.programStripe (s : State) (b : Band) : State :=
  let ops : List DieOp := (s.store.columns b.die).map fun c =>
    { channel := c, die := b.die, band := b.num, page := b.page, erase := false, since := s.gtc }
  let last := decide (s.get Obj.pagesPerBlock ≤ b.page + 1)
  let s := s.putBand { b with page := b.page + 1, fill := [], st := if last then 1 else 0 }
  s.modStore fun t => { t with ops := s.store.ops ++ ops }

/-- The bits a unit of an object sets in its band's filter (R355). -/
def filterBits (object : Nat) : List Nat := (List.range 4).map fun k => object / 65536 ^ k % 65536 % 8192

/-- A commit adds a journal record (R343), and its segment is dirty in the map cache. -/
def State.journalAdd (s : State) (logical : Nat) : State :=
  let seg := logical / 8192
  let fresh := s.store.journal == s.store.durable
  let segments := if logical < segmentBase then
      s.store.segments.map fun e => if e.1 = seg then (e.1, e.2.1, true) else e
    else s.store.segments
  s.modStore fun t => { t with
      journal := s.store.journal + 1, checkpoint := s.store.checkpoint + 1, segments := segments
      journalSince := if fresh then s.gtc else s.store.journalSince }

/-- A unit is laid into the open band of a use and the map takes it (R337, R341, R343); nothing where no band can
open. -/
def State.placeUnit (s : State) (use kind logical object : Nat) : Option State :=
  let found := match s.store.openOf use with
    | some b => some (b, s)
    | none => s.openBand use
  found.map fun (b, s) =>
    let column := (dataColumns s.store b.die b.page).getD b.fill.length 0
    let key := if kind = 1 then segmentBase + logical else logical
    let u : PhysUnit :=
      { seq := s.store.nextSeq, kind := kind, logical := logical, object := object, band := b.num, page := b.page
        column := column }
    let b := { b with fill := b.fill ++ [u.seq], filter := (filterBits object ++ b.filter).eraseDups }
    let map := if kind = 4 then s.store.map else putKey key u.seq s.store.map
    let s := s.modStore fun t => { t with units := s.store.units ++ [u], map := map, nextSeq := u.seq + 1 }
    let s := (s.putBand b).journalAdd key
    if 28 ≤ b.fill.length then s.programStripe b else s

/-- Several units are laid, stopping where no band can open. -/
def placeUnits (use kind object : Nat) : List Nat → State → State
  | [], s => s
  | l :: t, s => placeUnits use kind object t ((s.placeUnit use kind l object).getD s)

/-- Pad units complete the stripe being filled (R355, R359). -/
def padStripe (b : Band) (s : State) : State :=
  if b.fill.isEmpty then s
  else placeUnits b.use 4 0 (List.replicate (28 - b.fill.length) 0) s

/-- An open band closes, its stripe completed with pad units. -/
def State.closeBand (s : State) (b : Band) : State :=
  let s := padStripe b s
  s.modStore fun t => { t with bands := s.store.bands.map fun (x : Band) => if x.num = b.num then { x with st := 1 } else x }

/-- The unit that a logical unit or segment is mapped to. -/
def Store.unitAt (t : Store) (key : Nat) : Option PhysUnit :=
  (findKey key t.map).bind fun q => t.units.find? fun u => u.seq == q

/-- Does the map still hold a unit? -/
def Store.valid (t : Store) (u : PhysUnit) : Bool :=
  u.kind != 4 && findKey (if u.kind = 1 then segmentBase + u.logical else u.logical) t.map == some u.seq

/-- The valid units of a band. -/
def Store.validOf (t : Store) (band : Nat) : List PhysUnit := t.units.filter fun u => u.band == band && t.valid u

/-! ## Objects -/

/-- An object by its identifier, its 16 bytes as a little-endian number. -/
def State.object (s : State) (id : Nat) : Option StoreObject := s.store.objects.find? fun o => o.object == id

/-- An object takes its new standing. -/
def State.putObject (s : State) (o : StoreObject) : State :=
  s.modStore fun t => { t with objects := s.store.objects.map fun x => if x.object = o.object then o else x }

/-- Is the store mounted (R360)? -/
def State.storeReady (s : State) : Bool := s.get Obj.storeState == 2 || s.get Obj.storeState == 3

/-- The bytes of a SEALED object, as jobs, loads and peers read it (R340). -/
def State.sealedObject (s : State) (id : Nat) : Option Bytes :=
  if s.storeReady then ((s.object id).bind fun o => if o.st = 2 then some o.data else none) else none

/-- Is an identifier reserved (R340)? -/
def reservedObject (id : Nat) : Bool := id == 0 || id % 256 == 0xFF

/-- ⌈length / 65,536⌉. -/
def unitsFor (n : Nat) : Nat := ceilDiv n 65536

/-- Numbers of `n` logical units that nothing holds, the lowest first. -/
def Store.freshUnits (t : Store) (n : Nat) : List Nat :=
  let used := t.objects.flatMap StoreObject.units
  ((List.range (used.length + n)).filter fun u => !used.contains u).take n

/-- Bytes are added at an object's end: its last unit, where partly filled, and the new ones are written (R340, R341). -/
def State.appendObject (s : State) (o : StoreObject) (b : Bytes) : State :=
  let data := o.data ++ b
  let fresh := s.store.freshUnits (unitsFor data.length - o.units.length)
  let units := o.units ++ fresh
  let s := s.putObject { o with data := data, units := units }
  placeUnits 0 0 o.object (units.drop (o.data.length / 65536)) s

/-- Every unit of an object is unmapped in one commit (R341, R355). -/
def State.unmapObject (s : State) (o : StoreObject) : State :=
  o.units.foldl (fun s u => (s.modStore fun t => { t with map := dropKey u s.store.map } : State).journalAdd u) s

/-- The block of the GDDR7 tier (R188). -/
def cacheBlock : Nat := 32768

/-- The bytes a list of entries holds in the GDDR7 tier. -/
def cacheBytes (l : List CacheEntry) : Nat := cacheBlock * (l.map CacheEntry.blocks).sum

/-- The cache's bytes in use, pinned and in flash as shown (R210). Fills in course hold their blocks. -/
def State.cacheStatus (s : State) : State :=
  s.setAll [
    (Obj.cacheGddrUsedBytes, cacheBytes s.cache.entries + cacheBytes (s.cache.fills.map CacheFill.entry)),
    (Obj.cacheGddrPinnedBytes, cacheBytes (s.cache.entries.filter (·.pinnedBy.isSome))),
    (Obj.cacheFlashUsedBytes, s.cache.segments.length * s.get Obj.cacheSegmentBytes)]

/-- Entries leave the GDDR7 tier's index; one being read keeps its blocks until the read ends (R192). -/
def dropEntries (p : CacheEntry → Bool) (l : List CacheEntry) : List CacheEntry :=
  (l.filter fun e => !(p e && e.readers == 0)).map fun (e : CacheEntry) => if p e then { e with visible := false } else e

/-- Entries leave the flash tier's index. -/
def dropStored (p : FlashEntry → Bool) (l : List FlashSegment) : List FlashSegment :=
  l.map fun (g : FlashSegment) => { g with entries := g.entries.filter fun e => !p e }

/-- Entries are removed from the GDDR7 tier and, with `flash`, from both, and counted as purged (R191). -/
def State.purge (s : State) (p : CacheEntry → Bool) (flash : Option (FlashEntry → Bool)) : State :=
  let n := (s.cache.entries.filter fun e => e.visible && p e).length +
    (match flash with
      | some q => (s.cache.segments.map fun g => (g.entries.filter q).length).sum
      | none => 0)
  let s := { s with cache := { s.cache with
      entries := dropEntries p s.cache.entries
      compressing := match flash with
        | some _ => s.cache.compressing.filter fun e => !p e
        | none => s.cache.compressing
      segments := match flash with
        | some q => dropStored q s.cache.segments
        | none => s.cache.segments } }
  (s.count Obj.cachePurgedEntries n).cacheStatus

/-- The entries of a shard object that is deleted or rewritten go from both tiers, with the fills in course from it
(R191, R192). -/
def State.forgetObject (s : State) (id : Nat) : State :=
  let fills := s.cache.fills.filter fun f => f.entry.objectId == id
  let s := fills.foldl (fun (t : State) f => match f.chain with
    | some c => t.dropChain c
    | none => t) s
  let s := { s with cache := { s.cache with fills := s.cache.fills.filter fun f => f.entry.objectId != id } }
  s.purge (fun e => e.objectId == id) (some fun e => e.objectId == id)

/-- The window of an OPEN object and its region are gone (R341). -/
def State.closeWindow (s : State) (id : Nat) : State :=
  let s := s.revoke .objectWindow id 0
  { s with objectWindows := s.objectWindows.filter fun w => w.object != id }

/-- Remove the first of the heap's structures of a kind outside the slots. -/
def dropHeapOnce (kind : Nat) : List (Nat × Nat × Nat) → List (Nat × Nat × Nat)
  | [] => []
  | e :: t => if e.1 = 64 ∧ e.2.1 = kind then t else e :: dropHeapOnce kind t

/-- The heap memory of one object window is freed. -/
def State.freeWindow (s : State) : State :=
  let heap := dropHeapOnce HeapKind.objectWindow.num s.heap
  { s with heap := heap }.set Obj.heapUsedBytes (heapUsed heap)

/-- The object a command names (R368). -/
def State.selected (s : State) : Nat := s.get Obj.objectSelect

/-- The command ends with a result (R341): shown, and answered as a refused write where it is a code. -/
def State.objectResult (s : State) (code : Nat) : State :=
  let s := s.set Obj.objectLastReason code
  if code = 0 then s.storeStatus.ok else s.refused code

/-- CREATE (R341). -/
def createObject (id : Nat) (s : State) : State :=
  if (s.object id).isSome then s.objectResult 0x5011
  else if 16 ≤ s.get Obj.objectsOpen then s.objectResult 0x5012
  else if s.get Obj.storeState = 3 then s.objectResult 0x5017
  else if 67108864 ≤ s.get Obj.objectCount then s.objectResult 0x5013
  else
    match s.heapTake 64 .objectWindow 67108864 with
    | none => s.objectResult 0x8010
    | some s =>
      match s.register .objectWindow none 67108864 id 0 [] with
      | none => s.freeWindow.objectResult 0x8010
      | some (_, s) =>
        let w : ObjectWindow := { object := id }
        let o : StoreObject := { object := id, st := 1 }
        let s := { s with objectWindows := s.objectWindows ++ [w] }
        (s.modStore fun t => { t with objects := t.objects ++ [o] }).objectResult 0

/-- APPEND of the bytes taken at acceptance (R341). -/
def appendCommand (id : Nat) (b : Bytes) (s : State) : State :=
  match s.object id with
  | some o =>
    if o.st ≠ 1 then s.objectResult 0x5012
    else if s.get Obj.storeState = 3 then s.objectResult 0x5017
    else if 2 ^ 44 < o.data.length + b.length then s.objectResult 0x5013
    else if s.userUnits < s.store.mappedUnits + (unitsFor (o.data.length + b.length) - o.units.length) then
      s.objectResult 0x5014
    else (s.appendObject o b).objectResult 0
  | none => s.objectResult 0x5012

/-- SEAL (R341). -/
def sealCommand (id expected : Nat) (s : State) : State :=
  match s.object id with
  | some o =>
    if o.st ≠ 1 then s.objectResult 0x5012
    else
      let d := digestNat o.data
      if expected ≠ 0 ∧ expected ≠ d then (s.putObject { o with digest := d }).objectResult 0x5016
      else (((s.putObject { o with digest := d, st := 2 }).closeWindow id).freeWindow).objectResult 0
  | none => s.objectResult 0x5012

/-- The window of an OPEN object goes with it. -/
def State.dropWindow (s : State) (o : StoreObject) : State :=
  if o.st = 1 then (s.closeWindow o.object).freeWindow else s

/-- DELETE (R341). -/
def deleteCommand (id : Nat) (s : State) : State :=
  match s.object id with
  | some o =>
    if o.st = 3 then s.objectResult 0x5012
    else
      let s := ((s.unmapObject o).dropWindow o).forgetObject id
      (s.modStore fun t => { t with objects := s.store.objects.filter fun x => x.object != id }).objectResult 0
  | none => s.objectResult 0x5012

/-- Does a band's filter allow that it holds an object (R355)? -/
def Band.mayHold (b : Band) (object : Nat) : Bool := (filterBits object).all b.filter.contains

/-- Flash-tier segments that hold entries of an object are written again without them (R191). -/
def State.rewriteSegments (s : State) (id : Nat) : State :=
  let hit := s.cache.segments.filter fun g => g.entries.any fun e => e.objectId == id
  hit.foldl (fun s g =>
    match s.object g.object with
    | none => s
    | some o =>
      let kept := g.entries.filter fun e => e.objectId != id
      let n := unitsFor ((kept.map fun e => 64 + e.stored.length).sum)
      let s := s.unmapObject o
      let s := s.modStore fun t => { t with bands := s.store.bands.map fun (b : Band) =>
        { b with marked := b.marked || b.mayHold g.object } }
      let units := s.store.freshUnits n
      let s := s.putObject { o with units := units }
      placeUnits 0 0 o.object units s) s

/-- SECURE_DISCARD (R355 steps 1 and 2): marked bands wait for their campaigns; with none, the object is gone at
once. -/
def secureDiscard (id : Nat) (s : State) : State :=
  match s.object id with
  | some o =>
    if o.st = 3 then s.objectResult 0x5012
    else
      let s := ((s.unmapObject o).rewriteSegments id).dropWindow o
      let s := s.forgetObject id
      let opens := s.store.bands.filter fun b => b.st == 0 && b.mayHold id
      let s := opens.foldl (fun s b => s.closeBand b) s
      let s := s.modStore fun t => { t with bands := s.store.bands.map fun (b : Band) =>
        { b with marked := b.marked || b.mayHold id } }
      (s.putObject { o with st := 3, data := [], units := [] }).objectResult 0
  | none => s.objectResult 0x5012

/-- The objects whose discard is over, once no band is marked (R355 step 4, R356). -/
def State.endDiscards (s : State) : State :=
  if s.store.bands.any (·.marked) then s.storeStatus
  else
    let n := (s.store.objects.filter fun o => o.st == 3).length
    if n = 0 then s.storeStatus
    else
      let left := s.store.residue
      let s := s.modStore fun t => { t with
        objects := s.store.objects.filter fun o => o.st != 3, residue := 0 }
      let s := if left = 0 then s else s.set Obj.objectLastReason 0x5030
      (s.count Obj.secureDiscards n).storeStatus

/-! ## The hold-up gate -/

/-- May a store-modifying campaign start (R358)? -/
def State.gateOpen (s : State) : Bool :=
  s.get Obj.holdUpGate == 1 &&
    (s.store.gateTick.any fun t => decide (s.gtc ≤ t + s.get Obj.holdUpCheckMaxAgeTicks))

/-- An accepted object command is carried out (R341). -/
def runObjectCommand (w : StoreWait) (s : State) : State :=
  if w.command = 1 then createObject w.object s
  else if w.command = 2 then appendCommand w.object w.bytes s
  else if w.command = 3 then sealCommand w.object w.expected s
  else if w.command = 4 then deleteCommand w.object s
  else secureDiscard w.object s

/-- ObjectCommand (R341, R358): its checks, then at once or, while the gate is shut, when it opens. -/
def objectCommand (n : Nat) (s : State) : State :=
  let id := s.selected
  let len := s.get Obj.objectAppendLength
  if ¬ s.storeReady then s.objectResult 0x5001
  else if reservedObject id then s.objectResult 0x5010
  else if n = 1 ∧ (s.object id).isSome then s.objectResult 0x5011
  else if n ≠ 1 ∧ ¬ (s.object id).any (fun o => o.st == 1 || (o.st == 2 && decide (4 ≤ n))) then s.objectResult 0x5012
  else if n = 2 ∧ (len = 0 ∨ 67108864 < len) then s.objectResult 0x5015
  else
    let bytes := match s.objectWindows.find? fun w => w.object == id with
      | some w => if n = 2 then Memory.bytes w.cells 0 len else []
      | none => []
    let w : StoreWait :=
      { command := n, object := id, bytes := bytes, expected := s.get Obj.objectExpectedDigest, since := s.gtc }
    if s.gateOpen then runObjectCommand w s
    else (s.modStore fun t => { t with waiting := s.store.waiting ++ [w] }).bump Obj.holdUpWaits

/-! ## Reading -/

/-- A segment is looked up in the map cache, read from flash where it is not there, and a clean one is evicted where the
cache is full (R342). -/
def State.mapLookup (s : State) (logical : Nat) : State :=
  let seg := logical / 8192
  if s.store.segments.any fun e => e.1 == seg then
    let hit (e : Nat × Bool × Bool) : Nat × Bool × Bool := if e.1 = seg then (e.1, true, e.2.2) else e
    (s.modStore fun t => { t with segments := t.segments.map hit }).bump Obj.mapCacheHits
  else
    let room := if s.store.segments.length < 393216 then (s.store.segments, s.store.hand)
      else clockEvict (2 * s.store.segments.length) s.store.hand s.store.segments
    (s.modStore fun t => { t with segments := room.1 ++ [(seg, false, false)], hand := room.2 }).bump
      Obj.mapCacheMisses
where
  /-- The clock hand clears set bits and evicts the first clean segment whose bit is clear. -/
  clockEvict : Nat → Nat → List (Nat × Bool × Bool) → List (Nat × Bool × Bool) × Nat
    | 0, h, l => (l, h)
    | fuel + 1, h, l =>
      let i := if l.length ≤ h then 0 else h
      match l[i]? with
      | none => (l, 0)
      | some (g, ref, dirty) =>
        if ref then clockEvict fuel (i + 1) (l.set i (g, false, dirty))
        else if dirty then clockEvict fuel (i + 1) l
        else (l.eraseIdx i, i)

/-- A foreground read finds its die busy: the operation is suspended where R353 allows it. -/
def State.suspendFor (s : State) (channel die : Nat) : State :=
  let may (o : DieOp) : Bool :=
    o.channel == channel && o.die == die && !o.suspended &&
      bit s.store.suspend (if o.erase then 1 else 0) &&
      decide (o.since + s.get Obj.suspendMinRunTicks ≤ s.gtc) &&
      decide (o.suspends < s.get (if o.erase then Obj.eraseSuspendMax else Obj.programSuspendMax))
  if s.store.ops.any may then
    ((s.modStore fun t => { t with ops := modifyWhere may (fun o =>
        { o with suspended := true, suspends := o.suspends + 1 }) s.store.ops }).bump Obj.suspensions).event 6 0x106 1
      (some channel)
  else s

/-- Is a unit still in its stripe buffer or being programmed (R354)? -/
def Store.inBuffer (t : Store) (u : PhysUnit) : Bool :=
  (t.bands.any fun b => b.num == u.band && b.fill.contains u.seq) ||
    t.ops.any fun o => !o.erase && o.band == u.band && o.page == u.page && o.channel == u.column

/-- The die index of a band. -/
def Store.dieOf (t : Store) (band : Nat) : Nat := ((t.bands.find? fun b => b.num == band).map Band.die).getD 0

/-- A read of a logical unit joins its die's queue (R342, R351), unless the stripe buffer serves it (R354). -/
def unitReadRequest (unit cls : Nat) (reader : Option Nat) (s : State) : State :=
  if ¬ s.storeReady then s
  else
    let s := s.mapLookup unit
    match s.store.unitAt unit with
    | none => s
    | some u =>
      if s.store.inBuffer u then s
      else
        let die := s.store.dieOf u.band
        let q : QueuedRead :=
          { channel := u.column, die := die, cls := cls, seq := u.seq, logical := unit, reader := reader }
        let s := s.modStore fun t => { t with reads := s.store.reads ++ [q] }
        if cls ≤ 2 then s.suspendFor u.column die else s

/-- The bucket of a unit: 5 × age class + temperature class (R344). -/
def bucketOf (age : Nat) (delta : Int) : Nat :=
  let day := 86400
  let a := if age < 3600 then 0 else if age < day then 1 else if age < 7 * day then 2 else if age < 30 * day then 3
    else if age < 90 * day then 4 else if age < 365 * day then 5 else 6
  let t := if delta ≤ -30 then 0 else if delta < -10 then 1 else if delta ≤ 10 then 2 else if delta < 30 then 3 else 4
  5 * a + t

/-- The starting level of a bucket on a die index (R344, R350). -/
def State.startLevel (s : State) (die bucket : Nat) : Nat :=
  match s.store.thresholds.find? fun t => t.1 == die && t.2.1 == bucket with
  | some t => t.2.2.1
  | none => byteAt s.nandProfile (0x64 + bucket)

/-- A patrol read decoded at a level: the table entry moves where three of the last four agree (R344). -/
def State.learnLevel (s : State) (die bucket level : Nat) : State :=
  let old := s.store.thresholds.find? fun t => t.1 == die && t.2.1 == bucket
  let recent := (level :: ((old.map fun t => t.2.2.2).getD [])).take 4
  let cur := s.startLevel die bucket
  let next := if 3 ≤ (recent.filter (· == level)).length then level else cur
  s.modStore fun t => { t with thresholds :=
      (die, bucket, next, recent) :: s.store.thresholds.filter fun t => !(t.1 == die && t.2.1 == bucket) }

/-- The counters and the relocation of a unit read that took some steps (R345, R347, R367); nothing for a read that the
map no longer knows. -/
def State.countRead (s : State) (u : PhysUnit) (r : UnitResult) (patrol : Bool) : State :=
  let extra := r.levels + (if 3 ≤ r.step then 2 else 0) + (if 4 ≤ r.step then r.rebuilt else 0) + min r.mismatches 1
  let c := u.column
  let s := ((s.bump Obj.flashReads).bump (inst Obj.channelReads c)).event 6 0x100 1 (some c)
  let s := if extra = 0 then s else
    let s := (s.count Obj.flashReadRetryCount extra).count (inst Obj.channelReadRetries c) extra
    ((s.count Obj.flashReadRetryTicks r.ticks).event 6 0x103 extra (some c)).event 6 0x104 r.ticks (some c)
  let s := (s.count Obj.ldpcCorrectedBits r.corrected).event 6 0x107 r.corrected (some c)
  let s := if 3 ≤ r.step then s.bump Obj.softDecodes else s
  let s := if 4 ≤ r.step then s.bump Obj.reconstructions else s
  let s := if r.step = 5 then s.bump Obj.uncorrectableUnits else s
  if r.step = 3 ∨ r.step = 4 ∨ (patrol ∧ s.get Obj.relocateBitErrors < r.worst) then
    s.modStore fun t => { t with bands := s.store.bands.map fun (b : Band) =>
        if b.num = u.band then { b with relocate := true } else b }
  else s

/-- The code a unit read ends with, 0 where it succeeds (R345). -/
def State.readCode (s : State) (u : PhysUnit) (r : UnitResult) : Nat :=
  if r.step = 5 then
    if 4 - (s.store.retiredAt (s.store.dieOf u.band)).length < r.absent then 0x5021 else 0x5020
  else if 2 ≤ r.mismatches then 0x5022 else 0

/-- The next read of a die: the lowest class, then the earliest; of the background classes where their share is due
(R351, R352). -/
def Store.nextRead (t : Store) (channel die : Nat) (background : Bool) : Option QueuedRead :=
  let here := t.reads.filter fun q => q.channel == channel && q.die == die
  let cand := if background ∧ here.any (fun q => decide (4 ≤ q.cls)) then here.filter fun q => decide (4 ≤ q.cls) else here
  match cand with
  | [] => none
  | h :: l => some (l.foldl (fun best q => if q.cls < best.cls then q else best) h)

/-- Remove the first queued read equal to one. -/
def dropRead (q : QueuedRead) : List QueuedRead → List QueuedRead
  | [] => []
  | a :: t => if a = q then t else a :: dropRead q t

/-- A unit read completes (R345): counted, relocated, and its code left for the item it serves. -/
def unitReadComplete (channel die : Nat) (background : Bool) (r : UnitResult) (s : State) : State :=
  match s.store.nextRead channel die background with
  | none => s
  | some q =>
    let s := s.modStore fun t => { t with reads := dropRead q s.store.reads }
    let more := s.store.reads.any fun x => x.channel == channel && x.die == die && decide (x.cls ≤ 2)
    let resume (o : DieOp) : Bool := o.channel == channel && o.die == die && o.suspended && !more
    let s := s.modStore fun t => { t with
      ops := modifyWhere resume (fun o => { o with suspended := false, since := s.gtc }) s.store.ops }
    match s.store.units.find? fun u => u.seq == q.seq with
    | none => s
    | some u =>
      let s := s.countRead u r false
      let code := s.readCode u r
      let extra := decide (0 < r.levels ∨ 3 ≤ r.step ∨ 0 < r.mismatches)
      let s := match q.reader with
        | some e => if extra then s.markPerturb [e] 5 else s
        | none => s
      let s := if code = 0x5022 then
          s.raiseFault { cls := 9, tile := 6, reason := 0x5022, unit := channel, slot := 0xFF, detail0 := q.logical
                         detail1 := q.seq }
        else s
      match q.reader with
      | some e =>
        if code = 0 then s else s.modStore fun t => { t with failed := s.store.failed ++ [(e, code)] }
      | none => s

/-! ## Programs, erases and failing parts -/

/-- A block is retired as grown bad (R349). -/
def State.retireBlock (s : State) (channel die block : Nat) : State :=
  if s.store.bad.contains (channel, die, block) then s
  else (s.modStore fun t => { t with bad := s.store.bad ++ [(channel, die, block)] }).bump Obj.grownBadBlocks

/-- A die is retired (R361): its units are absent columns, and its valid units are to be rebuilt. -/
def State.retireDie (s : State) (channel die : Nat) : State :=
  if s.store.retired.contains (channel, die) ∨ s.get Obj.diesPerChannel ≤ die then s
  else
    let lost := (s.store.units.filter fun u => u.column == channel && s.store.dieOf u.band == die && s.store.valid u).length
    let s := s.modStore fun t => { t with
      retired := s.store.retired ++ [(channel, die)]
      ops := s.store.ops.filter fun o => !(o.channel == channel && o.die == die)
      bands := s.store.bands.map fun (b : Band) => if b.die = die then { b with relocate := b.relocate || 0 < lost } else b }
    let s := s.setAll [(Obj.diesInService, s.get Obj.diesInService - 1),
      (inst Obj.channelDiesInService channel, s.get (inst Obj.channelDiesInService channel) - 1),
      (Obj.rebuildUnitsLeft, s.get Obj.rebuildUnitsLeft + lost)]
    s.storeStatus

/-- A die whose bad blocks exceed 2 % of its blocks is retired (R361). -/
def State.judgeDie (s : State) (channel die : Nat) : State :=
  let bad := (s.store.bad.filter fun b => b.1 == channel && b.2.1 == die).length
  if s.get Obj.blocksPerPlane * 2 < bad * 100 then s.retireDie channel die else s

/-- The first operation of a die that runs. -/
def Store.runningOp (t : Store) (channel die : Nat) (erase : Bool) : Option DieOp :=
  t.ops.find? fun o => o.channel == channel && o.die == die && o.erase == erase && !o.suspended

/-- Remove the first operation equal to one. -/
def dropOp (o : DieOp) : List DieOp → List DieOp
  | [] => []
  | a :: t => if a = o then t else a :: dropOp o t

/-- A program completes (R349). Its group's time and temperature are kept at its first (R344). -/
def programComplete (channel die : Nat) (ok : Bool) (temperature : Int) (s : State) : State :=
  match s.store.runningOp channel die false with
  | none => s
  | some o =>
    let s := s.modStore fun t => { t with ops := dropOp o s.store.ops }
    if ok then
      let s := ((s.bump Obj.flashPrograms).bump (inst Obj.channelPrograms channel)).event 6 0x101 1 (some channel)
      match s.store.bands.find? fun b => b.num == o.band with
      | some b =>
        let g := o.page / 256
        if b.groups.any fun x => x.1 == g then s
        else s.putBand { b with groups := b.groups ++ [(g, s.storeTime, temperature)] }
      | none => s
    else
      let s := s.bump Obj.programFailures
      match s.store.bands.find? fun b => b.num == o.band with
      | none => s
      | some b =>
        let block := ((b.blocks.find? fun c => c.1 == channel).map (·.2)).getD 0
        let s := (s.retireBlock channel die block).judgeDie channel die
        let again := (s.store.units.filter fun u => u.band == b.num && u.page == o.page && s.store.valid u)
        if b.use = 1 then
          let s := s.putBand { b with st := 1, relocate := true }
          again.foldl (fun s u => (s.placeUnit 1 u.kind u.logical u.object).getD s) s
        else again.foldl (fun s u => (s.placeUnit 0 u.kind u.logical u.object).getD s) s

/-- The extremes of the erase counts (R367). -/
def State.eraseExtremes (s : State) : State :=
  let counts := s.store.erases.map (·.2)
  let most := counts.foldl max 0
  let all := 32 * s.get Obj.diesPerChannel * s.get Obj.blocksPerPlane
  s.setAll [(Obj.maxEraseCount, most), (Obj.minEraseCount, if counts.length < all then 0 else counts.foldl min most)]

/-- The erase count of a block rises (R367). -/
def State.countErase (s : State) (channel die block : Nat) : State :=
  let n := s.store.eraseCount channel die block + 1
  (s.modStore fun t => { t with
    erases := ((channel, die, block), n) :: s.store.erases.filter fun e => e.1 != (channel, die, block) }).eraseExtremes

/-- A band whose erases are over is FREE: its units and its blocks leave it. -/
def State.freeBand (s : State) (b : Band) : State :=
  s.modStore fun t => { t with
      bands := s.store.bands.filter fun x => x.num != b.num
      units := s.store.units.filter fun u => u.band != b.num
      campaign := if s.store.campaign.any fun c => c.band == b.num then none else s.store.campaign }

/-- An erase completes (R346, R349, R356). -/
def eraseComplete (channel die : Nat) (ok : Bool) (s : State) : State :=
  match s.store.runningOp channel die true with
  | none => s
  | some o =>
    let s := s.modStore fun t => { t with ops := dropOp o s.store.ops }
    match s.store.bands.find? fun b => b.num == o.band with
    | none => s
    | some b =>
      let block := ((b.blocks.find? fun c => c.1 == channel).map (·.2)).getD 0
      let tries : Nat := ((b.erasing.find? fun e => e.1 == channel).map (·.2)).getD 0
      let again := !ok && b.marked && decide (tries < 2)
      let s := if ok then
          ((s.bump Obj.flashErases).bump (inst Obj.channelErases channel)).event 6 0x102 1 (some channel)
        else (s.bump Obj.eraseFailures).retireBlock channel die block
      let s := if ok then s.countErase channel die block else s
      if again then
        let s := s.putBand { b with erasing := b.erasing.map fun e => if e.1 = channel then (e.1, tries + 1) else e }
        s.modStore fun t => { t with ops := s.store.ops ++ [{ o with since := s.gtc, suspends := 0 }] }
      else
        let s := if !ok && b.marked then
            (s.modStore fun t => { t with residue := s.store.residue + 1 }).bump Obj.discardResidueBlocks
          else s
        let b := { b with erasing := b.erasing.filter fun e => e.1 != channel }
        let s := if b.erasing.isEmpty then s.freeBand b else s.putBand b
        (s.judgeDie channel die).endDiscards

/-- A channel controller fails (R361). -/
def channelControllerFailure (channel : Nat) (s : State) : State :=
  if 32 ≤ channel ∨ s.get (inst Obj.channelControllerState channel) = 1 then s
  else s.dieIndices.foldl (fun s d => s.retireDie channel d) (s.set (inst Obj.channelControllerState channel) 1)

/-! ## Campaigns -/

/-- The mean erase count of a band's blocks, as sum and number. -/
def Store.bandErases (t : Store) (b : Band) : Nat × Nat :=
  ((b.blocks.map fun c => t.eraseCount c.1 b.die c.2).sum, b.blocks.length)

/-- Is band `a` a better victim than `b` (R346)? -/
def Store.betterVictim (t : Store) (a b : Band) : Bool :=
  let (va, vb) := ((t.validOf a.num).length, (t.validOf b.num).length)
  let (sa, na) := t.bandErases a
  let (sb, nb) := t.bandErases b
  decide (va < vb) || (va == vb && (decide (sa * nb < sb * na) || (sa * nb == sb * na && decide (a.num < b.num))))

/-- The victim of garbage collection (R346). -/
def Store.victim (t : Store) : Option Band :=
  match t.bands.filter fun b => b.st == 1 with
  | [] => none
  | h :: l => some (l.foldl (fun best b => if t.betterVictim b best then b else best) h)

/-- A campaign starts on a CLOSED band (R346), while the gate allows it (R358). -/
def State.startCampaign (s : State) (b : Band) (purpose : Nat) : State :=
  if s.gateOpen then
    let left := (s.store.validOf b.num).map PhysUnit.seq
    let s := s.putBand { b with st := 2 }
    s.modStore fun t => { t with
        campaign := some { band := b.num, purpose := purpose, left := left, lastCommit := s.store.journal } }
  else s.bump Obj.holdUpWaits

/-- The next campaign (R346, R347, R355), unless the power goes down in order (R565, R568): garbage collection while free bands run short, else the marked bands, else the
ones to be relocated. One runs at a time. -/
def gcStart (s : State) : State :=
  if s.power.course ≠ .none ∨ s.store.campaign.isSome ∨ ¬ s.storeReady then s
  else
    let pick (p : Band → Bool) : Option Band := s.store.bands.find? fun b => b.st == 1 && p b
    if s.get Obj.freeBands < s.get Obj.gcStartFreeBands then
      match s.store.victim with
      | some b => s.startCampaign b (if b.marked then 3 else 0)
      | none => s
    else
      match pick Band.marked with
      | some b => s.startCampaign b 3
      | none =>
        match pick Band.relocate with
        | some b => s.startCampaign b 2
        | none => s

/-- Static wear levelling of a die index (R347). -/
def wearLevelStart (die : Nat) (s : State) : State :=
  let counts := (List.range 32).flatMap fun c =>
    (List.range (s.get Obj.blocksPerPlane)).map fun k => s.store.eraseCount c die k
  let hi := counts.foldl max 0
  let lo := counts.foldl min hi
  if s.power.course ≠ .none ∨ s.store.campaign.isSome ∨ ¬ s.storeReady ∨ hi - lo ≤ s.get Obj.wearSpreadLimit then s
  else
    match s.store.bands.find? fun b => b.st == 1 && b.die == die &&
        b.blocks.any fun c => s.store.eraseCount c.1 die c.2 == lo with
    | some b => s.startCampaign b 1
    | none => s

/-- The copy of the next unit completes: committed where the map still holds its source (R346). -/
def gcCopy (s : State) : State :=
  match s.store.campaign with
  | none => s
  | some c =>
    match c.left with
    | [] => s
    | q :: rest =>
      let go (s : State) : State :=
        s.modStore fun t => { t with campaign := some { c with left := rest, lastCommit := s.store.journal } }
      let s := s.bump Obj.gcUnitsCopied
      match s.store.units.find? fun u => u.seq == q with
      | some u =>
        if s.store.valid u then
          let s := (s.placeUnit 1 u.kind u.logical u.object).getD s
          let lost := (s.store.retiredAt (s.store.dieOf u.band)).contains u.column
          let s := if lost then s.set Obj.rebuildUnitsLeft (s.get Obj.rebuildUnitsLeft - 1) else s
          go s
        else go s
      | none => go s

/-- The reclaimed band is erased once every commit is durable and no read that resolved an address in it is outstanding
(R346). -/
def bandErase (s : State) : State :=
  match s.store.campaign with
  | none => s
  | some c =>
    match s.store.bands.find? fun b => b.num == c.band with
    | none => s
    | some b =>
      let reading := s.store.reads.any fun q => s.store.units.any fun u => u.seq == q.seq && u.band == b.num
      if b.st ≠ 2 ∨ c.left ≠ [] ∨ s.store.durable < c.lastCommit ∨ reading then s
      else
        let blocks := b.blocks.filter fun x => !s.store.retired.contains (x.1, b.die)
        let ops : List DieOp := blocks.map fun x =>
          { channel := x.1, die := b.die, band := b.num, page := 0, erase := true, since := s.gtc }
        let s := s.putBand { b with st := 3, erasing := blocks.map fun x => (x.1, 0) }
        let s := s.modStore fun t => { t with ops := s.store.ops ++ ops, campaign := none }
        s.bump (if c.purpose = 1 then Obj.wearLevelBands else if c.purpose = 0 then Obj.gcBandsReclaimed
          else Obj.relocatedBands)

/-! ## Journal, checkpoint and the flush -/

/-- A journal record as R343 lists its fields: four 64-bit words. -/
def journalRecordBytes : Nat := 32

/-- Everything committed so far is durable (R343). -/
def State.makeDurable (s : State) : State :=
  let t : Store := { s.store with durable := s.store.journal }
  { s with store := t, durableStore := t }

/-- The journal is flushed at 1 MiB or at its age (R343). -/
def journalFlush (s : State) : State :=
  let n := s.store.journal - s.store.durable
  if n = 0 then s
  else if 1048576 ≤ n * journalRecordBytes ∨ s.store.journalSince + s.get Obj.journalFlushTicks ≤ s.gtc then
    s.makeDurable
  else s

/-- Dirty segments and the directory are written and the journal is released (R343). -/
def State.writeCheckpoint (s : State) : State :=
  let dirty := (s.store.segments.filter fun e => e.2.2).map (·.1)
  let s := placeUnits 0 1 0 dirty s
  (s.modStore fun t => { t with
      segments := s.store.segments.map fun e => (e.1, e.2.1, false), checkpoint := 0 }).makeDurable

/-- A checkpoint is due every 4 GiB of journal records (R343); it waits for the gate (R358). -/
def checkpointCommand (s : State) : State :=
  if s.store.checkpoint * journalRecordBytes < 4294967296 ∨ ¬ s.storeReady then s
  else if s.gateOpen then s.writeCheckpoint
  else s.bump Obj.holdUpWaits

/-- Every open stripe is completed with pad units, and the journal tail is written (R359, R565). -/
def State.finishStripes (s : State) : State :=
  let opens := s.store.bands.filter fun b => b.st == 0
  opens.foldl (fun s b => padStripe b s) s

/-- The power-fail flush completes (R359): erases stopped are to be done again, programs are complete, the tail is
durable. -/
def State.powerFailFlush (s : State) : State :=
  let s := s.finishStripes
  (s.modStore fun t => { t with
      reads := [], ops := s.store.ops.filter (·.erase), waiting := []
      savedTime := s.storeTime, savedTick := s.gtc }).makeDurable

/-- FlushEnergyMicroJoules is computed anew (R358): the value is the media controller's own. -/
def flushEnergyUpdate (s : State) : State :=
  if s.storeReady ∧ s.gtc % 100000 = 0 then (s.set Obj.flushEnergyMicroJoules (s.free % 2 ^ 32)).useFree else s

/-! ## FORMAT, patrol and mount -/

/-- A FlashCommand or a mount ends with a result (R364). -/
def State.flashResult (s : State) (code : Nat) : State :=
  let s := s.set Obj.flashLastReason code
  if code = 0 then s.ok else s.refused code

/-- FORMAT over the population found (R332, R335, R339, R363). -/
def formatStore (found : Population) (s : State) : State :=
  let wait : StoreWait := { command := 6, found := some found, since := s.gtc }
  let busy := !s.allEmpty || s.store.objects.any fun o => o.st != 2
  if busy then s.flashResult 0x5004
  else if s.populationReason found ≠ 0 then s.flashResult (s.populationReason found)
  else if ¬ s.gateOpen then
    (s.modStore fun t => { t with waiting := t.waiting ++ [wait] }).bump Obj.holdUpWaits
  else
    let s := s.setGeometry found
    let dies := s.get Obj.diesPerChannel
    let s := { s with
      store := { formatted := true, erases := s.store.erases, bad := s.store.bad, retryLevels := s.store.retryLevels
                 suspend := s.store.suspend, gateTick := s.store.gateTick, savedTime := s.storeTime, savedTick := s.gtc }
      cache := { s.cache with segments := [] } }
    let s := (List.range 32).foldl (fun s c => s.set (inst Obj.channelDiesInService c) dies) s
    let s := s.setAll [(Obj.diesInService, 32 * dies), (Obj.rebuildUnitsLeft, 0), (Obj.storeState, 2)]
    let user := 65536 * (s.dataUnits * (1000 - s.get Obj.overProvisionPermille) / 1000)
    let s := (s.set Obj.userBytes user).modStore fun t => { t with userBytes := user }
    s.storeStatus.makeDurable.flashResult 0

/-- The commands that waited are carried out once the gate is open, in order (R358). -/
def State.resumeStore (s : State) : State :=
  if s.gateOpen then
    let l := s.store.waiting
    l.foldl (fun s w => match w.found with
      | some p => formatStore p s
      | none => runObjectCommand w s) (s.modStore fun t => { t with waiting := [] })
  else s

/-- Commands that waited too long are refused (R358). -/
def holdupTimeout (s : State) : State :=
  let late (w : StoreWait) : Bool := decide (w.since + s.get Obj.holdUpWaitLimitTicks ≤ s.gtc)
  let out := s.store.waiting.filter late
  let s := s.modStore fun t => { t with waiting := t.waiting.filter fun w => !late w }
  out.foldl (fun s w => if w.found.isSome then s.flashResult 0x5018 else s.objectResult 0x5018) s

/-- PATROL_FULL starts a TEST patrol, or starts it again from band 0 (R350). -/
def patrolFull (s : State) : State :=
  if s.storeReady then
    (s.modStore fun t => { t with patrol := some 0, lastPatrol := s.gtc }).flashResult 0
  else s.flashResult 0x5001

/-- PATROL_STOP (R350). -/
def patrolStop (s : State) : State := (s.modStore fun t => { t with patrol := none }).flashResult 0

/-- The stripes with valid units, band by band: band and page. -/
def Store.stripes (t : Store) : List (Nat × Nat) :=
  (sortUp (t.bands.map Band.num)).flatMap fun b =>
    (sortUp ((t.validOf b).map PhysUnit.page)).eraseDups.map fun p => (b, p)

/-- The results of a patrolled stripe reach its units in order. -/
def patrolUnits : List PhysUnit → List UnitResult → State → State
  | u :: us, r :: rs, s =>
    let s := s.countRead u r true
    let band := s.store.bands.find? fun b => b.num == u.band
    let group := band.bind fun b => b.groups.find? fun g => g.1 == u.page / 256
    let s := match group with
      | some (_, at_, temp) =>
        let die := s.store.dieOf u.band
        let bucket := bucketOf (s.storeTime - at_) (r.temperature - temp)
        if r.step ≤ 2 then s.learnLevel die bucket ((s.startLevel die bucket + r.levels) % (s.store.retryLevels + 1)) else s
      | none => s
    patrolUnits us rs s
  | _, _, s => s

/-- The next stripe of a TEST patrol (R350), at its pace; after the last the patrol ends. -/
def patrolRead (results : List UnitResult) (s : State) : State :=
  match s.store.patrol with
  | none => s
  | some n =>
    if s.gtc < s.store.lastPatrol + giga / s.get Obj.patrolPagesPerSecond then s
    else
      match s.store.stripes[n]? with
      | none => s.modStore fun t => { t with patrol := none }
      | some (b, p) =>
        let s := s.modStore fun t => { t with patrol := some (n + 1), lastPatrol := s.gtc }
        patrolUnits ((s.store.validOf b).filter fun u => u.page == p) results (s.bump Obj.patrolStripes)

/-- A mount begins with the power-up of a formatted store (R360). -/
def State.beginMount (s : State) : State := if s.store.formatted then s.set Obj.storeState 1 else s

/-- The mount's steps end (R350, R360): recorded blocks are erased again, and StoreState is READY, or FAULT where neither
copy of the checkpoint or journal could be read. -/
def mountComplete (found : Population) (readable : Bool) (s : State) : State :=
  if s.get Obj.storeState ≠ 1 then s
  else if s.populationReason found ≠ 0 then
    (s.set Obj.storeState 4).set Obj.flashLastReason (s.populationReason found)
  else if ¬ readable then s.set Obj.storeState 4
  else
    let s := s.setGeometry found
    let again := s.store.bands.filter fun b => b.st == 3
    let s := again.foldl (fun s b => s.freeBand b) s
    let s := s.modStore fun t => { t with ops := [], reads := [], failed := [], campaign := none, patrol := none }
    let s := if s.store.unclean then s.bump Obj.uncleanMounts else s
    let s := s.modStore fun t => { t with unclean := false, bands := s.store.bands.map fun b =>
      if b.st = 2 then { b with st := 1 } else b }
    let dies (c : Nat) : Nat := (s.dieIndices.filter fun d => !s.store.retired.contains (c, d)).length
    let s := (List.range 32).foldl (fun s c => s.set (inst Obj.channelDiesInService c) (dies c)) s
    let total := ((List.range 32).map dies).sum
    let s := s.setAll [(Obj.diesInService, total), (Obj.storeState, 2), (Obj.flashLastReason, 0),
      (Obj.userBytes, s.store.userBytes)]
    s.eraseExtremes.storeStatus.endDiscards.cacheStatus

/-! ## Meanings -/

/-- FORMAT (R339). -/
def execFormat (found : Population) (s : State) : Host.Outcome State Fault Refusal :=
  .next (writeCommand Obj.flashCommand 1 (formatStore found) s)

/-- PATROL_FULL (R350). -/
def execPatrolFull (s : State) : Host.Outcome State Fault Refusal := .next (writeCommand Obj.flashCommand 2 patrolFull s)

/-- PATROL_STOP (R350). -/
def execPatrolStop (s : State) : Host.Outcome State Fault Refusal := .next (writeCommand Obj.flashCommand 3 patrolStop s)

/-- PATROL_READ (R350). -/
def execPatrolRead (results : List UnitResult) (s : State) : Host.Outcome State Fault Refusal := .next (patrolRead results s)

/-- CREATE (R341). -/
def execCreate (s : State) : Host.Outcome State Fault Refusal := .next (writeCommand Obj.objectCommand 1 (objectCommand 1) s)

/-- APPEND (R341). -/
def execAppend (s : State) : Host.Outcome State Fault Refusal := .next (writeCommand Obj.objectCommand 2 (objectCommand 2) s)

/-- SEAL (R341). -/
def execSealObject (s : State) : Host.Outcome State Fault Refusal :=
  .next (writeCommand Obj.objectCommand 3 (objectCommand 3) s)

/-- DELETE (R341). -/
def execDelete (s : State) : Host.Outcome State Fault Refusal := .next (writeCommand Obj.objectCommand 4 (objectCommand 4) s)

/-- SECURE_DISCARD (R355). -/
def execSecureDiscard (s : State) : Host.Outcome State Fault Refusal :=
  .next (writeCommand Obj.objectCommand 5 (objectCommand 5) s)

/-- UNIT_READ_REQUEST (R351). -/
def execUnitReadRequest (unit cls : Nat) (reader : Option Nat) (s : State) : Host.Outcome State Fault Refusal :=
  .next (unitReadRequest unit cls reader s)

/-- UNIT_READ_COMPLETE (R345). -/
def execUnitReadComplete (channel die : Nat) (background : Bool) (result : UnitResult) (s : State) :
    Host.Outcome State Fault Refusal :=
  .next (unitReadComplete channel die background result s)

/-- PROGRAM_COMPLETE (R349). -/
def execProgramComplete (channel die : Nat) (ok : Bool) (temperature : Int) (s : State) :
    Host.Outcome State Fault Refusal :=
  .next (programComplete channel die ok temperature s).storeStatus

/-- ERASE_COMPLETE (R349). -/
def execEraseComplete (channel die : Nat) (ok : Bool) (s : State) : Host.Outcome State Fault Refusal :=
  .next (eraseComplete channel die ok s)

/-- GC_CAMPAIGN_START (R346). -/
def execGcCampaignStart (s : State) : Host.Outcome State Fault Refusal := .next (gcStart s)

/-- GC_COPY_COMPLETE (R346). -/
def execGcCopyComplete (s : State) : Host.Outcome State Fault Refusal := .next (gcCopy s).storeStatus

/-- BAND_ERASE (R346). -/
def execBandErase (s : State) : Host.Outcome State Fault Refusal := .next (bandErase s)

/-- WEAR_LEVEL_START (R347). -/
def execWearLevelStart (die : Nat) (s : State) : Host.Outcome State Fault Refusal := .next (wearLevelStart die s)

/-- JOURNAL_FLUSH (R343). -/
def execJournalFlush (s : State) : Host.Outcome State Fault Refusal := .next (journalFlush s)

/-- CHECKPOINT (R343). -/
def execCheckpoint (s : State) : Host.Outcome State Fault Refusal := .next (checkpointCommand s)

/-- FLUSH_ENERGY_UPDATE (R358). -/
def execFlushEnergyUpdate (s : State) : Host.Outcome State Fault Refusal := .next (flushEnergyUpdate s)

/-- HOLDUP_WAIT_TIMEOUT (R358). -/
def execHoldupWaitTimeout (s : State) : Host.Outcome State Fault Refusal := .next (holdupTimeout s)

/-- MOUNT_COMPLETE (R360). -/
def execMountComplete (found : Population) (readable : Bool) (s : State) : Host.Outcome State Fault Refusal :=
  .next (mountComplete found readable s)

/-- CHANNEL_CONTROLLER_FAILURE (R361). -/
def execChannelControllerFailure (channel : Nat) (s : State) : Host.Outcome State Fault Refusal :=
  .next (channelControllerFailure channel s)

end Sys2Proof.Machine
end

