-- ==== Sys2Proof/Machine/HoldUp.lean ====
section
/-! DEFINITION. The hold-up bank: readings, the capacitance measurement and the energy check (R570 to R573). -/

namespace Sys2Proof.Machine

/-! ## Measurements -/

/-- An unsigned object of 32 bits takes the integer part of an FP64 value; where it has none that fits, the spec states no value. -/
def State.setFloor (s : State) (k a : Nat) : State :=
  match dfloor a with
  | some v => if v < 2 ^ 32 then s.set k v else (s.set k (s.free % 2 ^ 32)).useFree
  | none => (s.set k (s.free % 2 ^ 32)).useFree

/-! ## Readings -/

/-- The 16 codes of a reading, added; a code has 12 bits (R570). -/
def sampleSum (samples : List Nat) : Nat := ((samples.take 16).map (min 4095)).sum

/-- The node voltage of a reading, in volts: the mean of 16 samples of 0 to 1.2 V, scaled by HoldUpDividerRatio (R570). -/
def State.nodeVolts (s : State) (sum : Nat) : Nat := d64 (12 * s.get Obj.holdUpDividerRatio * sum) 655360

/-- The same in millivolts, to the one below. -/
def State.nodeMillivolts (s : State) (sum : Nat) : Nat := 1200 * s.get Obj.holdUpDividerRatio * sum / 65536

/-- A level of an output. -/
def State.drive (s : State) (p : Pin) (level : Bool) : State := s.send (.pin p level)

/-- The charger and the test load are switched (R570). -/
def State.switchBank (s : State) (charger load : Bool) : State :=
  let t : State := { s with power := { s.power with chargerOn := charger, loadOn := load } }
  (t.drive .chargerEnable charger).drive .loadEnable load

/-- Does the HUB firmware run? -/
def State.hubRuns (s : State) : Bool := (s.get Obj.bootState == 3 || s.boot.released.isSome) && s.get Obj.powerState != 2 && !s.power.halted

/-- A new reading of the node voltage (R570), which can end the wait for the charger (R571). -/
def holdUpSample (samples : List Nat) (s : State) : State :=
  if s.get Obj.bootState = 3 ∨ s.boot.released.isSome then
    let sum := sampleSum samples
    let restoring := s.power.restoring.filter fun r => sum < r.1
    let t : State := { s with power := { s.power with restoring := restoring } }
    t.set Obj.holdUpVolts (s.nodeMillivolts sum)
  else s

/-! ## The measurement -/

/-- A capacitance measurement starts (R571). -/
def State.startMeasurement (s : State) : State :=
  let t : State := { s with power := { s.power with measuring := some { t0 := s.gtc }, restoring := none } }
  (t.switchBank false s.power.loadOn).set Obj.holdUpLastTestTick s.gtc

/-- A measurement is due HoldUpCapTicks after the last (R571). -/
def holdUpDue (s : State) : State :=
  if s.hubRuns ∧ s.power.measuring.isNone ∧ s.power.failN ∧ s.get Obj.holdUpLastTestTick + s.get Obj.holdUpCapTicks ≤ s.gtc then
    s.startMeasurement
  else s

/-- HoldUpCommand 1 (R573). -/
def holdUpCommand (s : State) : State :=
  if s.power.measuring.isSome ∨ s.get Obj.powerState = 2 then s.refused 0 else s.startMeasurement.ok

/-- The bank is at fault, and the gate closes (R571, R572). -/
def State.bankFault (s : State) : State := s.setAll [(Obj.holdUpState, 3), (Obj.holdUpGate, 0)]

/-- HoldUpState follows the gate (R572). -/
def State.showGate (s : State) : State := s.set Obj.holdUpState (if s.get Obj.holdUpGate = 1 then 1 else 2)

/-- The results of a measurement from its three readings (R571). -/
def State.measured (s : State) (v0 va vb : Nat) : State :=
  let s := s.countW 32 Obj.holdUpTests 1
  if va ≤ vb + 64 then s.bankFault
  else
    let load := d64 (s.get Obj.holdUpLoadOhms) 1
    let (a0, aa, ab) := (s.nodeVolts v0, s.nodeVolts va, s.nodeVolts vb)
    let t := dmul (d64 (s.get Obj.holdUpTestTicks - 20000) 1) (d64 1 giga)
    let i := ddiv (ddiv (dadd aa ab) (d64 2 1)) load
    let c := ddiv (dmul (dmul (d64 1000000 1) i) t) (dsub aa ab)
    let esr := ddiv (dmul (dmul (d64 1000 1) (dsub a0 aa)) load) aa
    ((s.setFloor Obj.holdUpCapacitanceUf c).setFloor Obj.holdUpEsrMilliohms esr).showGate

/-- The next timed point of a measurement, with the reading taken there (R571). -/
def holdUpPhase (samples : List Nat) (s : State) : State :=
  match s.power.measuring with
  | none => s
  | some m =>
    let sum := sampleSum samples
    let step (m : HoldUpTest) : State := { s with power := { s.power with measuring := some m } }
    match m.v0, m.va with
    | none, _ => if m.t0 + 100000 ≤ s.gtc then (step { m with v0 := some sum }).switchBank false true else s
    | some _, none => if m.t0 + 120000 ≤ s.gtc then step { m with va := some sum } else s
    | some v0, some va =>
      if m.t0 + 100000 + s.get Obj.holdUpTestTicks ≤ s.gtc then
        let t : State := { s with power := { s.power with measuring := none, restoring := some (v0, s.gtc + giga) } }
        (t.switchBank true false).measured v0 va sum
      else s

/-- A measurement is cut short: the load goes off (R573). -/
def State.stopMeasurement (s : State) (charger : Bool) : State :=
  if s.power.measuring.isSome then
    State.switchBank { s with power := { s.power with measuring := none } } charger false
  else s

/-- The charger has not restored the voltage in time (R571). -/
def holdUpChargeTimeout (s : State) : State :=
  match s.power.restoring with
  | some (_, limit) =>
    if limit ≤ s.gtc then State.bankFault { s with power := { s.power with restoring := none } } else s
  | none => s

/-! ## The energy check -/

/-- E of R572, in joules. -/
def State.bankEnergy (s : State) : Nat :=
  let v := d64 (s.get Obj.holdUpVolts) 1000
  let vmin := d64 (s.get Obj.holdUpMinMv) 1000
  let c := d64 (s.get Obj.holdUpCapacitanceUf) 1000000
  let eta := d64 (s.get Obj.holdUpEfficiencyPermille) 1000
  let t := d64 (s.get Obj.holdUpTestTicks) giga
  let v2 := dmul v v
  let stored := dmul (dmul (dmul (d64 1 2) c) (dsub v2 (dmul vmin vmin))) eta
  dsub stored (ddiv (dmul v2 t) (d64 (s.get Obj.holdUpLoadOhms) 1))

/-- The conditions of the gate (R572), for an energy in microjoules. -/
def State.gateHolds (s : State) (energy : Nat) : Bool :=
  dle (ddiv (dmul (d64 (s.get Obj.flushEnergyMicroJoules) 1) (d64 (s.get Obj.holdUpMarginPermille) 1)) (d64 1000 1)) energy &&
    decide (s.get Obj.holdUpEsrMilliohms ≤ s.get Obj.holdUpEsrMaxMilliohms) &&
    decide (0 < s.get Obj.holdUpTests) && decide (s.gtc < s.get Obj.holdUpLastTestTick + 2 * s.get Obj.holdUpCapTicks) &&
    s.power.failN && s.get Obj.holdUpState != 3

/-- The energy check (R572): due every 10,000,000 ticks, except during a measurement. An open gate lets the waiting commands go on (R358). -/
def energyCheck (s : State) : State :=
  if s.hubRuns ∧ s.power.measuring.isNone ∧ s.store.gateTick.all (fun t => t + 10000000 ≤ s.gtc) then
    let e := dmul s.bankEnergy (d64 1000000 1)
    let s := s.setFloor Obj.holdUpEnergyMicroJoules e
    let s := s.set Obj.holdUpGate (ofBool (s.gateHolds e))
    let s := s.modStore fun t => { t with gateTick := some s.gtc }
    let s := if s.get Obj.holdUpState = 0 ∨ s.get Obj.holdUpState = 3 then s else s.showGate
    s.resumeStore
  else s

end Sys2Proof.Machine
end

