-- ==== Sys2Proof/Machine/Measure.lean ====
section
/-! DEFINITION. The measurement registers M0 to M7 and their extension (R475). -/

namespace Sys2Proof.Machine

/-- Mi becomes SHAKE256(Mi ‖ tag ‖ v) (R475). -/
def State.extend (s : State) (i tag : Nat) (v : Bytes) : State :=
  s.set (Obj.measurement + i) (digestNat (leBytes 32 (s.get (Obj.measurement + i)) ++ leBytes 1 tag ++ v))

end Sys2Proof.Machine
end

