-- ==== Sys2Proof/Machine/Conns.lean ====
section
/-! DEFINITION. Connection contexts: who is connected to whom, port choice, the buckets a connection carries, and the
messages put on it (R373, R379, R386, R389, R410 to R421, R442). -/

namespace Sys2Proof.Machine

/-! ## Members -/

/-- The node that stands for a UID under a replacement list; 0 where it is removed (R442). -/
def standIn (l : List Replacement) (uid : Nat) : Nat :=
  match l.find? (·.old == uid) with
  | some r => r.new
  | none => uid

/-- The UIDs the node table and the assembler list name, each once. -/
def Job.uids (j : Job) : List Nat := ((j.nodes ++ j.assemblers).map NodeRec.uid).eraseDups

/-- The members under a replacement list (R442). -/
def Job.membersUnder (j : Job) (l : List Replacement) : List Nat :=
  ((j.uids.map (standIn l)).filter (· != 0)).eraseDups

/-- The members of a slot's step, under the list in force. -/
def State.members (s : State) (i : Nat) : List Nat := (s.job i).membersUnder (s.slot i).inForce

/-- The address of a node of a slot: its entry's, or its replacement's (R22, R442). -/
def State.nodeAddress (s : State) (i uid : Nat) : Nat :=
  let sl := s.slot i
  match (sl.pendingList ++ sl.inForce).find? fun r => r.new == uid with
  | some r => r.address
  | none => (((s.job i).nodes ++ (s.job i).assemblers).find? fun n => n.uid == uid).elim 0 NodeRec.address

/-- Is a slot in a state that has connections (R379)? -/
def State.connecting (s : State) (i : Nat) : Bool := 2 ≤ s.jobState i && s.jobState i ≤ 5

/-- The other devices a slot names, under the list in force and under the pending list (R379). -/
def State.peersOf (s : State) (i : Nat) : List Nat :=
  let j := s.job i
  let sl := s.slot i
  ((j.membersUnder sl.inForce ++ j.membersUnder sl.pendingList).filter (· != myUid)).eraseDups

/-- The devices this one needs a peer connection to, each with a slot that names it. -/
def State.neededPeers (s : State) : List (Nat × Nat) :=
  (allSlots.filter s.connecting).foldl (fun l i =>
    l ++ ((s.peersOf i).filter fun u => l.all fun e => e.1 != u).map fun u => (u, i)) []

/-! ## Contexts -/

/-- The connection of a context. -/
def State.conn (s : State) (ctx : Nat) : Option Conn := s.conns.find? (·.ctx == ctx)

/-- A connection takes its new standing. -/
def State.putConn (s : State) (c : Conn) : State :=
  { s with conns := s.conns.map fun x => if x.ctx = c.ctx then c else x }

/-- Run an operation on a connection, nothing where the context is unused. -/
def State.onConn (s : State) (ctx : Nat) (f : Conn → State) : State :=
  match s.conn ctx with
  | some c => f c
  | none => s

/-- The peer connection to a device. -/
def State.peerConn (s : State) (uid : Nat) : Option Conn := s.conns.find? fun c => c.kind == 1 && c.uid == uid

/-- The connection of a consumer record. -/
def State.consumerConn (s : State) (slot consumer : Nat) : Option Conn :=
  s.conns.find? fun c => c.kind == 0 && c.slot == slot && c.consumer == consumer

/-- The first context number of peer and service connections, and the number of all contexts (R409). -/
def peerContexts : Nat := 16384
def allContexts : Nat := 17472

/-- Does a slot use a connection: a consumer connection of its own, or a peer it names? -/
def State.usesConn (s : State) (i : Nat) (c : Conn) : Bool :=
  (c.kind == 0 && c.slot == i) || (c.kind == 1 && s.connecting i && (s.peersOf i).contains c.uid)

/-- The counts of established connections (R406, R408). -/
def State.countConns (s : State) : State :=
  let up := s.conns.filter (·.st == 2)
  let s := s.set Obj.connectionsEstablished up.length
  allSlots.foldl (fun t i =>
    (t.set (inst Obj.slotConsumerConnections i) (up.filter fun c => c.kind == 0 && c.slot == i).length).set
      (inst Obj.slotPeerConnections i) (up.filter fun c => c.kind == 1 && t.usesConn i c).length) s

/-! ## Ports -/

/-- The machinery of a port. -/
def State.portAt (s : State) (p : Nat) : Port := s.ports.getD p {}

/-- A port's machinery changes. -/
def State.setPort (s : State) (p : Nat) (x : Port) : State := { s with ports := s.ports.set p x }

/-- Is a port up and not STORMED (R373, R376)? -/
def State.portFit (s : State) (p : Nat) : Bool := s.get (inst Obj.portState p) == 2

/-- The ports up and not STORMED, in ascending order: the set of R398. -/
def State.portSet (s : State) : List Nat := (List.range 16).filter s.portFit

/-- The number of connections placed on a port (R373). -/
def State.connsOn (s : State) (p : Nat) : Nat := (s.conns.filter fun c => c.port == p).length

/-- The port of a connection that is not sprayed: up, not STORMED, carrying the fewest connections, the lower on a tie
(R373). -/
def State.choosePort (s : State) : Nat :=
  s.portSet.foldl (fun best p => if best = 0xFF ∨ s.connsOn p < s.connsOn best then p else best) 0xFF

/-- PortConnections shows the connections placed on each port. -/
def State.countPorts (s : State) : State :=
  (List.range 16).foldl (fun t p => t.set (inst Obj.portConnections p) (t.connsOn p)) s

/-- A queue leaves the active list it stands on. -/
def State.leaveList (s : State) (ctx : Nat) : State :=
  let ports := s.ports.map fun p => { p with active := p.active.filter (· != ctx) }
  let conns := modifyWhere (fun (c : Conn) => c.ctx == ctx) (fun c => { c with onList := none }) s.conns
  { s with ports := ports, conns := conns }

/-! ## Buckets -/

/-- The shaper profile of a connection, 0xFF for none (R416). -/
def State.shaperOf (s : State) (c : Conn) : Nat :=
  if c.kind = 0 then s.get (inst Obj.slotShaperProfile c.slot)
  else if c.kind = 1 then s.get Obj.peerShaperProfile else s.get Obj.serviceShaperProfile

/-- The policer profile of a connection, 0xFF for none (R420). -/
def State.policerOf (s : State) (c : Conn) : Nat :=
  if c.kind = 0 then s.get (inst Obj.slotPolicerProfile c.slot)
  else if c.kind = 1 then s.get Obj.peerPolicerProfile else s.get Obj.servicePolicerProfile

/-- Its ShaperReset: 0 FULL, 1 ZERO (R417). -/
def State.shaperResetOf (s : State) (c : Conn) : Nat :=
  if c.kind = 0 then (s.job c.slot).shaperReset else s.get Obj.shaperResetDefault

/-- The tokens a bucket holds now (R416). -/
def State.tokens (s : State) (c : Conn) : Nat :=
  let n := s.shaperOf c
  min (c.tok + s.get (inst Obj.shapeRateMbps n) * (s.gtc - c.tokTick)) (s.get (inst Obj.shapeBurstBytes n) * 8000)

/-- The bucket of a connection is created or reset (R417). -/
def State.fillShaper (s : State) (c : Conn) : Conn :=
  let n := s.shaperOf c
  { c with
    tok := if n < 32 ∧ s.shaperResetOf c = 0 then s.get (inst Obj.shapeBurstBytes n) * 8000 else 0
    tokTick := s.gtc }

/-- The meter's buckets start full (R421). -/
def State.fillMeter (s : State) (c : Conn) : Conn :=
  let n := s.policerOf c
  if n < 32 then
    { c with
      cTok := s.get (inst Obj.policerCbsBytes n) * 8000
      eTok := s.get (inst Obj.policerEbsBytes n) * 8000
      pTok := s.get (inst Obj.policerPbsBytes n) * 8000
      meterTick := s.gtc }
  else { c with meterTick := s.gtc }

/-- ShapeUsers and PolicerUsers count the connections that use each profile (R429). -/
def State.countUsers (s : State) : State :=
  (List.range 32).foldl (fun t n =>
    (t.set (inst Obj.shapeUsers n) (t.conns.filter fun c => t.shaperOf c == n).length).set (inst Obj.policerUsers n)
      (t.conns.filter fun c => t.policerOf c == n).length) s

/-! ## Messages and packets -/

/-- PSNs are 24 bits wide. -/
def psnMod : Nat := 2 ^ 24

/-- A PSN some way after another. -/
def psnAdd (a n : Nat) : Nat := (a + n) % psnMod

/-- How far a PSN lies after another, around the cycle. -/
def psnDist (a b : Nat) : Nat := (a + psnMod - b % psnMod) % psnMod

/-- Is a PSN ahead of another (R387): within 2^23 − 1 above it? -/
def psnAhead (a x : Nat) : Bool := decide (0 < psnDist a x ∧ psnDist a x < 2 ^ 23)

/-- MTU. -/
def mtu : Nat := 4096

/-- The packets, or the PSNs of a READ, that `n` bytes take. -/
def packetCount (n : Nat) : Nat := max 1 (ceilDiv n mtu)

/-- The opcode of packet `i` of `n` of a message (R377). -/
def opcodeOf (kind : MessageKind) (imm : Bool) (i n : Nat) : Nat :=
  match kind with
  | .send => if imm then 0x05 else 0x04
  | .write =>
    if n = 1 then (if imm then 0x0B else 0x0A)
    else if i = 0 then 0x06 else if i + 1 < n then 0x07 else if imm then 0x09 else 0x08
  | .read => 0x0C

/-- The packets of a message from its first PSN on; AckReq stands on the last and on every 64th (R387). -/
def OutMessage.packets (m : OutMessage) (psn now : Nat) : List OutPacket :=
  let bytes := match m.kind with
    | .read => m.length
    | _ => m.body.length
  let n := match m.kind with
    | .read => 1
    | _ => packetCount m.body.length
  (List.range n).map fun i =>
    { opcode := opcodeOf m.kind m.imm.isSome i n
      psn := psnAdd psn i
      ackReq := decide (i + 1 = n) || psnAdd psn i % 64 == 63
      key := m.key, addr := m.addr, length := bytes, msgOffset := mtu * i, firstPsn := psn
      imm := if i + 1 = n then m.imm else none
      payload := slice (mtu * i) mtu m.body
      queued := now }

/-- Does a packet travel in the CONTROL class: READ requests, zero-length SENDs, ACKs and NAKs (R374, R410)? -/
def OutPacket.control (p : OutPacket) : Bool :=
  p.opcode == 0x0C || p.opcode == 0x11 || ((p.opcode == 0x04 || p.opcode == 0x05) && p.payload.isEmpty)

/-- Packets join the egress queues of their classes (R410), at the tail, or at the head where `first` says so. -/
def Conn.queue (c : Conn) (ps : List OutPacket) (first : Bool) : Conn :=
  let ctl := ps.filter OutPacket.control
  let data := ps.filter fun p => !p.control
  if first then { c with ctlQ := ctl ++ c.ctlQ, dataQ := data ++ c.dataQ }
  else { c with ctlQ := c.ctlQ ++ ctl, dataQ := c.dataQ ++ data }

/-- A message is put on a connection: its packets take the next PSNs. -/
def Conn.post (c : Conn) (m : OutMessage) (now : Nat) (first : Bool := false) : Conn :=
  let n := match m.kind with
    | .read => packetCount m.length
    | _ => packetCount m.body.length
  let m := { m with firstPsn := c.nextPsn, lastPsn := psnAdd c.nextPsn (n - 1) }
  let reads := match m.kind with
    | .read => [{ firstPsn := c.nextPsn, length := m.length }]
    | _ => []
  { (c.queue (m.packets c.nextPsn now) first) with
    nextPsn := psnAdd c.nextPsn n, messages := c.messages ++ [m], readsOut := c.readsOut ++ reads }

/-! ## Losing and regaining a connection -/

/-- Everything of the old connection goes; the messages not acknowledged stay to be sent again, but for READs, which
move to the next copy (R386). -/
def Conn.strip (c : Conn) : Conn :=
  { c with
    dataQ := [], ctlQ := [], unacked := [], readsOut := [], marked := [], gapSince := none, nakSent := false
    messages := c.messages.filter fun m => m.kind != .read
    arrivals := 0, oldest := none, inbound := [], readsIn := 0, red := none, rnrUntil := none, retries := 0
    rnrRetries := 0, deficit := 0, heldSince := none, rxHigh := none, rxSeen := [], authFails := [], txCounter := 0
    credits := 0, sendsSince := 0, m0 := [], m := [] }

/-- The messages kept are sent again in full from the connection's first PSN (R386). -/
def Conn.resendAll (c : Conn) (now : Nat) : Conn :=
  c.messages.foldl (fun d m => d.post m now) { c with messages := [] }

/-- The code of a connection is noted on it and on every slot that uses it (R408, R409). -/
def State.noteReason (s : State) (c : Conn) (reason : Nat) : State :=
  let s := s.onConn c.ctx fun d => s.putConn { d with lastReason := reason }
  allSlots.foldl (fun t i => if t.usesConn i c then t.set (inst Obj.lastNetReason i) reason else t) s

end Sys2Proof.Machine
end

