-- ==== Sys2Proof/Machine/Egress.lean ====
section
/-! DEFINITION. Egress: what a frame costs, when a queue's head is eligible, the active lists, and the messages put on
connections (R374, R389, R398, R410 to R418). -/

namespace Sys2Proof.Machine

/-! ## Frames -/

/-- Is an address IPv4-mapped, its first byte in transmission order lowest (R22)? -/
def ipv4Mapped (a : Nat) : Bool := a % 2 ^ 96 == 0xFFFF * 2 ^ 80

/-- The bytes of the extension headers an opcode carries: RETH, AETH and ImmDt (R377). -/
def extBytes (opcode : Nat) : Nat :=
  (if [0x06, 0x0A, 0x0B, 0x0C].contains opcode then 16 else 0) +
    (if [0x0D, 0x0F, 0x10, 0x11].contains opcode then 4 else 0) +
    (if [0x05, 0x09, 0x0B].contains opcode then 4 else 0)

/-- The frame of a packet from destination address to FCS (R393, R411): Ethernet, VLAN tag, IP, UDP and BTH headers,
the seal, the extension headers, the payload, ICRC and FCS. -/
def State.frameBytes (s : State) (c : Conn) (p : OutPacket) : Nat :=
  14 + (if s.get Obj.portVlan = 0 then 0 else 4) + (if ipv4Mapped c.address then 20 else 40) + 8 + 12 +
    (if c.sealMode then 16 + 24 + 16 else 0) + extBytes p.opcode + roundUp p.payload.length 4 + 4 + 4

/-- The wire bytes: the frame, preamble and inter-frame gap (R411). -/
def State.wireBytes (s : State) (c : Conn) (p : OutPacket) : Nat := s.frameBytes c p + 20

/-- The DSCP of a connection's DATA frames (R374). -/
def State.dscpOf (s : State) (c : Conn) : Nat :=
  if c.kind = 0 then ((s.job c.slot).consumers[c.consumer]?).elim 0 ConsumerRec.dscp else s.get Obj.peerDscp

/-- The AFx1 codepoint that a retransmission carries in place of AFx2 or AFx3, if it does (R418). -/
def State.promoted (s : State) (dscp : Nat) : Option Nat :=
  if s.get Obj.retransmitPromote = 1 ∧ [12, 14, 20, 22, 28, 30, 36, 38].contains dscp then
    let low := dscp / 8 * 8 + 2
    if low = s.get Obj.controlDscp then none else some low
  else none

/-! ## Eligibility -/

/-- The class of a port. -/
def Port.cls (p : Port) (control : Bool) : PortClass := if control then p.control else p.data

/-- May a class of a port send: the port is up, the class neither paused nor STORMED (R412)? -/
def State.classOpen (s : State) (p : Nat) (control : Bool) : Bool :=
  decide (2 ≤ s.get (inst Obj.portState p)) && ((s.portAt p).cls control).pausedUntil.isNone &&
    ((s.portAt p).cls control).stormedUntil.isNone

/-- The port of a connection's next packet (R373, R398). -/
def State.nextPort (s : State) (c : Conn) : Option Nat :=
  if c.sprayMode then (if s.portSet = [] then none else (s.portSet)[c.txCounter % s.portSet.length]?)
  else if c.port < 16 then some c.port else none

/-- Does a packet take a PSN of its own, so that the window counts it: a request or a READ response? ACKs and NAKs do
not. -/
def OutPacket.counted (p : OutPacket) : Bool := p.opcode != 0x11 && !(0x0D ≤ p.opcode && p.opcode ≤ 0x10)

/-- May the transport release a packet now: the window of ConnWindowPackets, the peer's READ_DEPTH, its SEND credits,
and no RNR wait (R388, R389)? -/
def State.released (s : State) (c : Conn) (p : OutPacket) : Bool :=
  c.st == 2 &&
    (!p.counted || (decide (c.unacked.length < s.get Obj.connWindowPackets) && c.rnrUntil.isNone &&
      (p.opcode != 0x0C || decide ((c.unacked.filter fun q => q.opcode == 0x0C).length < c.readDepth)) &&
      ((p.opcode != 0x04 && p.opcode != 0x05) || decide (c.sendsSince < c.credits) ||
        (c.credits == 0 && !(c.unacked.any fun q => q.opcode == 0x04 || q.opcode == 0x05)))))

/-- Is a packet of a connection eligible on a port (R412)? -/
def State.eligible (s : State) (c : Conn) (p : OutPacket) (port : Nat) : Bool :=
  s.released c p && s.classOpen port p.control && s.nextPort c == some port &&
    (p.control || !decide (s.shaperOf c < 32) || decide (s.wireBytes c p * 8000 ≤ s.tokens c))

/-- The quantum of a connection's DATA queue (R414). -/
def State.quantum (s : State) (c : Conn) : Nat :=
  if c.kind = 0 then s.get (inst Obj.slotQuantumBytes c.slot)
  else if c.kind = 1 then s.get Obj.peerQuantumBytes else s.get Obj.serviceQuantumBytes

/-! ## Active lists -/

/-- PortActiveQueues shows the length of a port's list. -/
def State.showList (s : State) (p : Nat) : State := s.set (inst Obj.portActiveQueues p) (s.portAt p).active.length

/-- A queue joins the tail of a port's active list. -/
def State.joinList (s : State) (c : Conn) (p : Nat) : State :=
  let x := s.portAt p
  ((s.putConn { c with onList := some p, heldSince := none }).setPort p { x with active := x.active ++ [c.ctx] }).showList p

/-- A DATA queue on no list joins the list of the port where its head is eligible; one held for tokens counts the ticks
it was held (R414, R415). -/
def State.joinQueue (s : State) (ctx : Nat) : State :=
  s.onConn ctx fun c =>
    match c.onList, c.dataQ, s.nextPort c with
    | none, p :: _, some port =>
      if s.eligible c p port then
        let s := match c.heldSince with
          | some t => s.count Obj.shaperHoldTicks (s.gtc - t)
          | none => s
        s.joinList c port
      else if s.released c p ∧ s.classOpen port false ∧ c.heldSince.isNone then
        s.putConn { c with heldSince := some s.gtc }
      else s
    | _, _, _ => s

/-! ## Messages -/

/-- A message waits on a connection that is not yet ESTABLISHED, and takes its PSNs when it is (R386). -/
def Conn.hold (c : Conn) (m : OutMessage) : Conn := { c with messages := c.messages ++ [m] }

/-- A message is sent on a context (R385: data flow only after ESTABLISHED). -/
def State.postOn (s : State) (ctx : Nat) (m : OutMessage) (first : Bool := false) : State :=
  (s.onConn ctx fun c => s.putConn (if c.st = 2 then c.post m s.gtc first else c.hold m)).joinQueue ctx

/-- A SEND on the peer connection to a device (R105, R113). -/
def State.peerSend (s : State) (uid : Nat) (imm : Option Nat) (body : Bytes) : State :=
  match s.peerConn uid with
  | some c => s.postOn c.ctx { kind := .send, body := body, imm := imm }
  | none => s

/-- A SEND at the head of the peer connection's DATA queue, where a retransmission would stand (R445). -/
def State.peerSendFirst (s : State) (uid : Nat) (imm : Option Nat) (body : Bytes) : State :=
  match s.peerConn uid with
  | some c => s.postOn c.ctx { kind := .send, body := body, imm := imm } true
  | none => s

/-- An RDMA READ on the peer connection to a device. -/
def State.peerRead (s : State) (uid key addr length : Nat) : State :=
  match s.peerConn uid with
  | some c => s.postOn c.ctx { kind := .read, key := key, addr := addr, length := length }
  | none => s

/-- A zero-length RDMA WRITE with AckReq on the peer connection (R443, R446). -/
def State.peerProbe (s : State) (uid : Nat) : State :=
  match s.peerConn uid with
  | some c => s.postOn c.ctx { kind := .write }
  | none => s

end Sys2Proof.Machine
end

