-- ==== Sys2Proof/Machine/Handshake.lean ====
section
/-! DEFINITION. The connection handshake: datagrams, parameter blocks, keys and MACs, attempts and their ends (R380 to
R386). -/

namespace Sys2Proof.Machine

/-! ## Datagrams -/

/-- The body bytes a datagram carries at most. -/
def fragMax : Nat := 4080

/-- The header of a handshake datagram (R381). -/
def fragHeader (type index count attempt bytes : Nat) : Bytes :=
  bytesOf [0x5A, 0x48, 0x53, 0x31] ++ leBytes 1 type ++ leBytes 1 index ++ leBytes 1 count ++ zeros 1 ++
    leBytes 4 attempt ++ leBytes 2 bytes ++ zeros 2

/-- The datagrams of a message. -/
def fragments (type attempt : Nat) (body : Bytes) : List Bytes :=
  let n := max 1 (ceilDiv body.length fragMax)
  (List.range n).map fun i =>
    let part := slice (fragMax * i) fragMax body
    fragHeader type i n attempt part.length ++ part

/-- Is a datagram well formed (R381)? -/
def fragOk (b : Bytes) : Bool :=
  let n := byteAt b 6
  let len := field b 12 2
  slice 0 4 b == bytesOf [0x5A, 0x48, 0x53, 0x31] && decide (1 ≤ byteAt b 4 ∧ byteAt b 4 ≤ 6) &&
    decide (1 ≤ n ∧ n ≤ 16 ∧ byteAt b 5 < n) && byteAt b 7 == 0 && field b 8 4 != 0 &&
    decide (1 ≤ len ∧ len ≤ fragMax) && field b 14 2 == 0 && b.length == 16 + len

/-- The message of a set of datagrams: type, attempt and body, in FRAG_INDEX order; nothing where a header is
malformed or the fragments disagree (R381). -/
def reassemble (l : List Bytes) : Option (Nat × Nat × Bytes) :=
  match l with
  | [] => none
  | b :: _ =>
    let n := byteAt b 6
    let agree := l.all fun f =>
      fragOk f && byteAt f 4 == byteAt b 4 && byteAt f 6 == n && field f 8 4 == field b 8 4
    let part (i : Nat) := l.find? fun f => byteAt f 5 == i
    if agree && l.length == n && (List.range n).all fun i => (part i).isSome then
      some (byteAt b 4, field b 8 4, (List.range n).flatMap fun i => ((part i).getD []).drop 16)
    else none

/-- A handshake message goes to the FIFO of the connection's port, one datagram after another (R410). -/
def State.sendHandshake (s : State) (address port type attempt : Nat) (body : Bytes) : State :=
  let p := if port < 16 then port else s.choosePort
  if p < 16 then
    let x := s.portAt p
    s.setPort p { x with fifo := x.fifo ++ (fragments type attempt body).map fun d => (address, d, s.gtc) }
  else s

/-! ## Parameters, keys and MACs -/

/-- The 88-byte parameter block of a connection (R382). -/
def paramBlock (s : State) (c : Conn) (psn : Nat) (nonce : Bytes) : Bytes :=
  let consumer := c.kind == 0
  let expected := if consumer then ((s.job c.slot).consumers[c.consumer]?).elim 0 ConsumerRec.qpn else c.remoteQpn
  leBytes 1 1 ++ leBytes 1 c.kind ++ leBytes 1 (ofBool c.sealMode) ++ leBytes 1 (ofBool c.sprayMode) ++
    leBytes 1 (if consumer then c.slot else 0xFF) ++ leBytes 1 (s.get Obj.readDepth) ++
    leBytes 2 (if consumer then c.consumer else 0xFFFF) ++ leBytes 4 c.localQpn ++ leBytes 4 expected ++
    leBytes 4 psn ++ zeros 4 ++
    (if consumer then leBytes 32 (s.get (inst Obj.manifestDigest c.slot)) else zeros 32) ++ padTo 32 nonce

/-- The fields of a parameter block. -/
def pKind (b : Bytes) : Nat := byteAt b 1
def pSeal (b : Bytes) : Nat := byteAt b 2
def pSpray (b : Bytes) : Nat := byteAt b 3
def pSlot (b : Bytes) : Nat := byteAt b 4
def pDepth (b : Bytes) : Nat := byteAt b 5
def pConsumer (b : Bytes) : Nat := field b 6 2
def pQpn (b : Bytes) : Nat := field b 8 4
def pPeerQpn (b : Bytes) : Nat := field b 12 4
def pPsn (b : Bytes) : Nat := field b 16 4
def pDigest (b : Bytes) : Nat := field b 24 32

/-- Is a parameter block legal by itself (R382)? -/
def paramsLegal (b : Bytes) : Bool :=
  decide (88 ≤ b.length) && byteAt b 0 == 1 && decide (pKind b ≤ 2) && decide (pSeal b ≤ 1) && decide (pSpray b ≤ pSeal b) &&
    (if pKind b = 0 then decide (pSlot b < 64) else pSlot b == 0xFF && pConsumer b == 0xFFFF && pDigest b == 0) &&
    decide (1 ≤ pDepth b ∧ pDepth b ≤ 16) && byteAt b 11 == 0 && byteAt b 15 == 0 && byteAt b 19 == 0 && field b 20 4 == 0

/-- The admission key of a connection (R384); absent for a peer and for a JobAdmissionKey of all zeros. -/
def State.admissionKey (s : State) (c : Conn) : Bytes :=
  if c.kind = 1 then []
  else
    let k := if c.kind = 0 then s.get (inst Obj.jobAdmissionKey c.slot) else s.get Obj.serviceAdmissionKey
    if c.kind = 0 ∧ k = 0 then [] else leBytes 32 k

/-- M0 (R384). -/
def sealM0 (ke ks ak connect accept : Bytes) : Bytes :=
  digest (ascii ['Z', 'S', 'E', 'A', 'L', '1'] ++ ke ++ ks ++ ak ++ digest (connect ++ accept))

/-- M (R384). -/
def sealM (m0 kt ct : Bytes) : Bytes := digest (m0 ++ kt ++ ct)

/-- MAC_R, MAC_I, MAC_F and MAC_C (R384). -/
def macR (m0 : Bytes) : Bytes := digest (m0 ++ ascii ['R'])
def macI (m : Bytes) : Bytes := digest (m ++ ascii ['I'])
def macF (m : Bytes) : Bytes := digest (m ++ ascii ['F'])
def macC (m reason : Bytes) : Bytes := digest (m ++ ascii ['C'] ++ reason)

/-- SALT of a direction, and KEY of a direction and key index (R384, R396). -/
def sealSalt (m : Bytes) (d : Nat) : Bytes := (shake256 4 (m ++ ascii ['S', 'A', 'L', 'T'] ++ leBytes 1 d))
def sealKey (m : Bytes) (d j : Nat) : Bytes := digest (m ++ ascii ['K', 'E', 'Y'] ++ leBytes 1 d ++ leBytes 4 j)

/-- The nonce and key of the sealed packet with a TX_COUNTER (R396). -/
def sealNonce (m : Bytes) (d counter : Nat) : Bytes := sealSalt m d ++ leBytes 8 counter
def packetKey (m : Bytes) (d counter : Nat) : Bytes := sealKey m d (counter / 2 ^ 32)

/-- The bytes of an ML-KEM-1024 key or ciphertext. -/
def kemBytes : Nat := 1568

/-! ## Attempts -/

/-- A message of an attempt is sent and kept to be sent again (R380). -/
def State.sendAttempt (s : State) (c : Conn) (type : Nat) (body : Bytes) : State :=
  (s.putConn { c with lastMessage := some (type, body), sends := 1, lastSend := s.gtc }).sendHandshake c.address c.port
    type c.attempt body

/-- Does the identity allow a handshake that needs the credential (R469)? -/
def State.credentialReady (s : State) : Bool := s.get Obj.identityState == 1

/-- A new attempt starts: an attempt number, queue pair, PSN, nonce and ephemeral key are drawn and CONNECT is sent
(R380, R382, R383). Without an identity a sealed attempt is put off (R469). -/
def State.startAttempt (s : State) (ctx : Nat) : State :=
  s.onConn ctx fun c =>
    if c.sealMode ∧ ¬ s.credentialReady then s.putConn { c with retryAt := some s.gtc } else
    let attempt := s.free % (2 ^ 32 - 1) + 1
    let s := s.useFree
    let qpn := s.free % 2 ^ 24
    let s := s.useFree
    let psn := s.free % 2 ^ 24
    let s := s.useFree
    let nonce := s.freeBytes
    let s := s.useFree
    let draw := s.free
    let s := s.useFree
    let c := { c with
      st := 1, initiator := true, attempt := attempt, localQpn := qpn, nextPsn := psn, kemDraw := draw, started := s.gtc
      retryAt := none, remoteQpn := 0 }
    let block := paramBlock s c psn nonce
    let cred := if c.sealMode then s.blob Obj.kemCredential else []
    let body := block ++ (if c.sealMode then Config.kemPublic draw else []) ++ leBytes 4 cred.length ++ cred
    s.sendAttempt { c with connectBody := body } 1 body

/-- Is a connection still needed (R379)? A service connection is its tool's. -/
def State.connNeeded (s : State) (c : Conn) : Bool :=
  if c.kind = 0 then s.connecting c.slot && decide (c.consumer < (s.job c.slot).consumers.length)
  else if c.kind = 1 then s.neededPeers.any fun e => e.1 == c.uid
  else false

/-- Does this device initiate the connection (R380)? -/
def Conn.initiates (c : Conn) : Bool := c.kind == 0 || (c.kind == 1 && decide (myUid < c.uid))

/-- An unused context: consumer contexts below 16,384, peer and service contexts above, services at most
ServiceConnectionsMax and peers at most 1,024 (R379). -/
def State.freeContext (s : State) (kind : Nat) : Option Nat :=
  let used := s.conns.map Conn.ctx
  let count := (s.conns.filter fun c => c.kind == kind).length
  let full := if kind = 0 then decide (peerContexts ≤ count) else if kind = 1 then decide (1024 ≤ count)
    else decide (s.get Obj.serviceConnectionsMax ≤ count)
  let lo := if kind = 0 then 0 else peerContexts
  let hi := if kind = 0 then peerContexts else allContexts
  if full then none else (List.range' lo (hi - lo)).find? fun c => !used.contains c

/-- A context is taken. -/
def State.addConn (s : State) (c : Conn) : State := { s with conns := s.conns ++ [c] }

/-- A context is given up: a CLOSE goes out where the connection stood (R383). -/
def State.dropConn (s : State) (ctx : Nat) : State :=
  let s := s.onConn ctx fun c =>
    if c.st = 2 then s.sendHandshake c.address c.port 6 c.attempt (zeros 4 ++ macC c.m (zeros 2)) else s
  let s := (s.leaveList ctx)
  { s with conns := s.conns.filter fun c => c.ctx != ctx }

/-- An established connection ends with a code, or an attempt fails with one; a connection still needed starts a new
handshake, at once after it stood (R386), after the doubling delay when an attempt failed (R380). -/
def State.loseConn (s : State) (ctx reason st : Nat) (failed : Bool) : State :=
  s.onConn ctx fun c =>
    let s := s.noteReason c reason
    let s := s.leaveList ctx
    let c := (s.conn ctx).getD c
    let delay := if c.delay = 0 then s.get Obj.handshakeRetryTicks else min giga (2 * c.delay)
    let d := { c.strip with st := st, lastMessage := none, sends := 0, attempt := 0, delay := if failed then delay else 0 }
    if s.connNeeded c then
      let s := if failed then s
        else allSlots.foldl (fun t i => if t.usesConn i c then t.bump (inst Obj.slotReconnections i) else t) s
      if d.initiates then
        if failed then (s.putConn { d with retryAt := some (s.gtc + delay) }).countConns
        else ((s.putConn d).startAttempt ctx).countConns
      else (s.putConn d).countConns
    else ({ s with conns := s.conns.filter fun x => x.ctx != ctx }).countConns.countPorts

/-- A connection is ESTABLISHED (R385): its port, its buckets, and what was kept to be sent (R373, R386, R417, R421). -/
def State.establish (s : State) (ctx : Nat) : State :=
  s.onConn ctx fun c =>
    let c := { c with
      st := 2, lastMessage := none, sends := 0, delay := 0, retryAt := none, progress := s.gtc
      port := if c.sprayMode then 0xFF else s.choosePort }
    let c := (s.fillMeter (s.fillShaper c)).resendAll s.gtc
    ((s.putConn c).joinQueue ctx).countConns.countPorts.countUsers

/-! ## Messages received -/

/-- A REJECT with a code answers a fault, and is counted (R385, R480). -/
def State.reject (s : State) (address attempt reason : Nat) : State :=
  (s.bump Obj.handshakeFailures).sendHandshake address 0xFF 5 attempt (leBytes 2 reason ++ zeros 2)

/-- The UIDs of revoked identities (R485). -/
def State.revokedList (s : State) : List Nat :=
  let b := s.blob Obj.revokedUids
  (List.range (b.length / 16)).map fun i => field b (16 * i) 16

/-- The credential of a handshake body at an offset: CRED_LENGTH and CRED. -/
def credAt (b : Bytes) (off : Nat) : Bytes := slice (off + 4) (field b off 4) b

/-- What a credential proves, unless its identity is revoked (R385). -/
def State.checkCredential (s : State) (cred : Bytes) : Option (Nat × Bytes) :=
  match Config.credential cred with
  | some (uid, ek) => if s.revokedList.contains uid then none else some (uid, ek)
  | none => none

/-- A CONNECT arrives (R383, R385): it is refused with a code, answered again where its attempt is known, or answered
with ACCEPT. Without an identity a sealed one gets no answer (R469). -/
def recvConnect (address attempt : Nat) (b : Bytes) (s : State) : State :=
  match s.conns.find? fun c => !c.initiator && c.attempt == attempt && c.address == address && c.st == 1 with
  | some c =>
    match c.lastMessage with
    | some (t, body) => s.sendHandshake c.address c.port t c.attempt body
    | none => s
  | none =>
    let sealing := pSeal b = 1
    let credOff := 88 + (if sealing then kemBytes else 0)
    let cred := credAt b credOff
    if sealing ∧ ¬ s.credentialReady then s
    else if !paramsLegal b || pKind b = 0 || (pKind b = 1 && !(pSeal b = 1 && pSpray b = 1)) then s.reject address attempt 0x6034
    else
      let proof := if pKind b = 1 then s.checkCredential cred else none
      let uid := (proof.map Prod.fst).getD 0
      if pKind b = 1 && proof.isNone then s.reject address attempt 0x6032
      else if pKind b = 1 && !(s.neededPeers.any fun e => e.1 == uid) then s.reject address attempt 0x6033
      else if pKind b = 2 && s.get Obj.serviceAdmissionKey = 0 then s.reject address attempt 0x6031
      else
        let standing := if pKind b = 1 then s.peerConn uid else none
        match (match standing with
          | some c => some (c.ctx, s)
          | none => (s.freeContext (pKind b)).map fun x => (x, s.addConn { ctx := x, kind := pKind b })) with
        | none => s.reject address attempt 0x6035
        | some (ctx, s) =>
          let old := (s.conn ctx).getD { ctx := ctx, kind := pKind b }
          let qpn := s.free % 2 ^ 24
          let s := s.useFree
          let psn := s.free % 2 ^ 24
          let s := s.useFree
          let nonce := s.freeBytes
          let s := s.useFree
          let draw := s.free
          let s := s.useFree
          let c := { old.strip with
            st := 1, initiator := false, attempt := attempt, address := address, uid := uid, sealMode := sealing
            sprayMode := pSpray b = 1, localQpn := qpn, remoteQpn := pQpn b, ePsn := pPsn b, nextPsn := psn
            readDepth := pDepth b, started := s.gtc, connectBody := b }
          let (ctE, ke) := if sealing then Config.kemEncaps (slice 88 kemBytes b) draw else ([], [])
          let (ctS, ks) := match proof with
            | some (_, ek) => Config.kemEncaps ek (draw + 1)
            | none => ([], [])
          let mine := if sealing then s.blob Obj.kemCredential else []
          let body := paramBlock s c psn nonce ++ ctE ++ ctS ++ leBytes 4 mine.length ++ mine
          let m0 := sealM0 ke ks (s.admissionKey c) b body
          let full := body ++ macR m0
          s.sendAttempt { c with m0 := m0, acceptBody := full } 2 full

/-- An ACCEPT arrives at the initiator (R383, R385): it is answered with CONFIRM or REJECT. -/
def recvAccept (address attempt : Nat) (b : Bytes) (s : State) : State :=
  match s.conns.find? fun c => c.initiator && c.attempt == attempt && c.address == address && c.st == 1 with
  | none => s
  | some c =>
    let mine := c.connectBody
    let credI := c.sealMode && decide (0 < field mine (88 + kemBytes) 4)
    let ctSOff := 88 + (if c.sealMode then kemBytes else 0)
    let credOff := ctSOff + (if credI then kemBytes else 0)
    let cred := credAt b credOff
    let signed := b.take (credOff + 4 + cred.length)
    let expected := if c.kind = 0 then ((s.job c.slot).consumers[c.consumer]?).elim 0 ConsumerRec.qpn else 0
    let fail (code : Nat) : State := (s.reject address attempt code).loseConn c.ctx code 3 true
    if !paramsLegal b || pKind b != c.kind || pSeal b != pSeal mine || pSpray b != pSpray mine || pSlot b != pSlot mine ||
        pConsumer b != pConsumer mine || (c.kind == 0 && pQpn b != expected) ||
        !(pPeerQpn b == 0 || pPeerQpn b == c.localQpn) then fail 0x6034
    else if c.kind = 0 ∧ pDigest b ≠ s.get (inst Obj.manifestDigest c.slot) then fail 0x6033
    else
      let ke := if c.sealMode then Config.kemDecaps c.kemDraw (slice 88 kemBytes b) else []
      let ks := if credI then Config.kemDecaps s.kemKey (slice ctSOff kemBytes b) else []
      let m0 := sealM0 ke ks (s.admissionKey c) mine signed
      if slice signed.length 32 b ≠ macR m0 then fail 0x6031
      else
        let proof := if cred = [] then none else s.checkCredential cred
        if (c.kind == 1 || cred != []) && proof.isNone then fail 0x6032
        else if c.kind == 1 && (proof.map Prod.fst) != some c.uid then fail 0x6033
        else
          let (ct, kt) := match proof with
            | some (_, ek) => Config.kemEncaps ek s.free
            | none => ([], [])
          let s := s.useFree
          let m := sealM m0 kt ct
          s.sendAttempt { c with
            m0 := m0, m := m, acceptBody := b, remoteQpn := pQpn b, ePsn := pPsn b, readDepth := pDepth b } 3
            (ct ++ macI m)

/-- A CONFIRM arrives at the responder (R385): a valid one is answered with READY and the connection stands. -/
def recvConfirm (address attempt : Nat) (b : Bytes) (s : State) : State :=
  match s.conns.find? fun c => !c.initiator && c.attempt == attempt && c.address == address && c.st == 1 with
  | none => s
  | some c =>
    let ct := if c.sealMode then b.take kemBytes else []
    let kt := if c.sealMode then Config.kemDecaps s.kemKey ct else []
    let m := sealM c.m0 kt ct
    if slice ct.length 32 b ≠ macI m then (s.reject address attempt 0x6031).loseConn c.ctx 0x6031 3 true
    else
      let s := s.putConn { c with m := m }
      (s.sendHandshake c.address c.port 4 c.attempt (macF m)).establish c.ctx

/-- A READY arrives at the initiator (R385). -/
def recvReady (address attempt : Nat) (b : Bytes) (s : State) : State :=
  match s.conns.find? fun c => c.initiator && c.attempt == attempt && c.address == address && c.st == 1 with
  | none => s
  | some c =>
    if b.take 32 = macF c.m then s.establish c.ctx
    else (s.reject address attempt 0x6031).loseConn c.ctx 0x6031 3 true

/-- A REJECT arrives (R385): it ends the attempt it names. -/
def recvReject (address attempt : Nat) (b : Bytes) (s : State) : State :=
  let s := s.bump Obj.handshakeFailures
  match s.conns.find? fun c => c.attempt == attempt && c.address == address && c.st == 1 with
  | none => s
  | some c => s.loseConn c.ctx (field b 0 2) 3 true

/-- A CLOSE arrives (R385): a valid one ends the connection with 0x6060. -/
def recvClose (address attempt : Nat) (b : Bytes) (s : State) : State :=
  match s.conns.find? fun c => c.attempt == attempt && c.address == address && c.st == 2 with
  | none => s.bump Obj.handshakeFailures
  | some c =>
    if slice 4 32 b = macC c.m (b.take 2) then s.loseConn c.ctx 0x6060 4 false
    else s.bump Obj.handshakeFailures

/-- Does the network run: the firmware is up, and the power neither failed nor in RETAIN (R463, R566, R568)? -/
def State.netRuns (s : State) : Bool :=
  s.get Obj.bootState == 3 && s.get Obj.powerState != 2 && s.power.failN && !s.power.halted && !s.netTested

/-- A message of one type arrives in its datagrams (R381). -/
def handshakeMessage (type : Nat) (address : Nat) (datagrams : List Bytes) (f : Nat → Nat → Bytes → State → State)
    (s : State) : State :=
  match reassemble datagrams with
  | some (t, attempt, body) => if t = type ∧ s.netRuns then f address attempt body s else s
  | none => s

/-- An attempt sends its last message again, and fails with 0x6030 after 8 sends (R380). -/
def handshakeResend (ctx : Nat) (s : State) : State :=
  s.onConn ctx fun c =>
    match c.lastMessage with
    | none => s
    | some (t, body) =>
      if s.gtc < c.lastSend + s.get Obj.handshakeRetryTicks then s
      else if 8 ≤ c.sends then s.loseConn ctx 0x6030 3 true
      else (s.putConn { c with sends := c.sends + 1, lastSend := s.gtc }).sendHandshake c.address c.port t c.attempt body

/-- The delay after a failed attempt runs out and a new attempt starts (R380). -/
def handshakeBackoff (ctx : Nat) (s : State) : State :=
  s.onConn ctx fun c =>
    match c.retryAt with
    | some t => if t ≤ s.gtc ∧ s.connNeeded c then s.startAttempt ctx else s
    | none => s

/-- A responder drops an attempt not completed in time (R380). -/
def handshakeTimeout (ctx : Nat) (s : State) : State :=
  s.onConn ctx fun c =>
    if c.st = 1 ∧ ¬ c.initiator ∧ c.started + s.get Obj.handshakeTimeoutTicks ≤ s.gtc then
      if s.connNeeded c then s.putConn { c.strip with st := 0, attempt := 0, lastMessage := none }
      else { s with conns := s.conns.filter fun x => x.ctx != ctx }
    else s

/-! ## Connections follow the slots -/

/-- The consumer connections of a slot that are missing are made and attempted (R379, R380). Seal and Spray are those of
the streams the consumer belongs to (R42). -/
def State.openConsumers (s : State) (i : Nat) : State :=
  let j := s.job i
  (List.range j.consumers.length).foldl (fun s k =>
    if (s.consumerConn i k).isSome then s
    else match s.freeContext 0 with
      | none => s
      | some ctx =>
        let st := j.streams.find? fun x => decide (x.firstConsumer ≤ k ∧ k < x.firstConsumer + x.count)
        let sealing := (st.elim 0 StreamRec.sealMode) == 1
        let spraying := (st.elim 0 StreamRec.sprayMode) == 1
        let c : Conn := { ctx := ctx, kind := 0, slot := i, consumer := k, sealMode := sealing, sprayMode := spraying,
                          address := (j.consumers[k]?).elim 0 ConsumerRec.address }
        (s.addConn c).startAttempt ctx) s

/-- Has an established peer connection messages that the peer has yet to acknowledge? It is closed only after them, so that the ABORT of
a node fault and the last RELEASEs of a slot arrive (R104, R431, R446). -/
def Conn.owesMessages (c : Conn) : Bool := c.kind == 1 && c.st == 2 && c.messages.any fun m => m.kind == .send

/-- Connections follow what the slots need: missing ones are made, unneeded ones closed (R379, R380). -/
def State.syncConns (s : State) : State :=
  let gone := s.conns.filter fun c => c.kind != 2 && !s.connNeeded c && !c.owesMessages
  let s := gone.foldl (fun s c => s.dropConn c.ctx) s
  let s := (allSlots.filter s.connecting).foldl State.openConsumers s
  let s := s.neededPeers.foldl (fun s e =>
    if (s.peerConn e.1).isSome then s
    else match s.freeContext 1 with
      | none => s
      | some ctx =>
        let c : Conn := { ctx := ctx, kind := 1, uid := e.1, address := s.nodeAddress e.2 e.1, sealMode := true,
                          sprayMode := true }
        let s := s.addConn c
        if c.initiates then s.startAttempt ctx else s) s
  s.countConns.countPorts.countUsers

/-- A connection that no slot needs any more is closed once its messages are acknowledged. -/
def State.closeIdle (s : State) (ctx : Nat) : State :=
  s.onConn ctx fun c =>
    if c.kind = 1 ∧ ¬ s.connNeeded c ∧ ¬ c.owesMessages then (s.dropConn ctx).countConns else s

/-- A slot takes a new JobState, and the connections follow. -/
def State.enterState (s : State) (i new : Nat) : State := (s.setJobState i new).syncConns

end Sys2Proof.Machine
end

