-- ==== Sys2Proof/Machine/Traffic.lean ====
section
/-! DEFINITION. The traffic manager: the choice of the next frame of a port, shaping, metering, and writes to profiles
(R410 to R425). -/

namespace Sys2Proof.Machine

/-! ## Putting a frame on a port -/

/-- The port totals of a snapshot count (R531). -/
def State.addTotals (s : State) (p f bytes : Nat) : State :=
  let row := s.counters.totals.getD p [0, 0, 0, 0]
  let row := (row.set f (row.getD f 0 + bytes)).set (f + 1) (row.getD (f + 1) 0 + 1)
  { s with counters := { s.counters with totals := s.counters.totals.set p row } }

/-- The slot a connection's events belong to (R528). -/
def Conn.eventSlot (c : Conn) : Option Nat := if c.kind = 0 then some c.slot else none

/-- A frame of a connection leaves on a port: it takes the next TX_COUNTER when sealed, and is counted (R396, R398,
R418). -/
def State.transmit (s : State) (c : Conn) (p : OutPacket) (port : Nat) : State :=
  let dscp := if p.control then s.get Obj.controlDscp else s.dscpOf c
  let mark := if p.resent && !p.control then s.promoted dscp else none
  let s := if mark.isSome then s.bump Obj.dscpRemarked else s
  let bytes := s.frameBytes c p
  let counter := if c.sealMode then some c.txCounter else none
  let ext := (if extBytes p.opcode ≥ 16 then [p.addr, p.key, p.length] else []) ++ p.aeth.toList ++ p.imm.toList ++
    (if c.sealMode then [p.msgOffset, p.firstPsn, p.length] else [])
  let s := s.putConn { c with txCounter := c.txCounter + 1, carried := s.gtc }
  let s := s.send (.packet c.ctx port (mark.getD dscp) p.opcode p.psn counter ext p.payload)
  let s := (s.count (inst Obj.portTxBytes port) bytes).addTotals port 0 bytes
  let s := (s.event 5 0x100 bytes (some port) c.eventSlot).event 5 0x101 1 (some port) c.eventSlot
  let s := if c.sealMode then s.event 5 0x108 1 (some port) else s
  s.bump (inst (if p.control then Obj.portControlFramesSent else Obj.portDataFramesSent) port)

/-- A counted packet stands as sent and unacknowledged. -/
def Conn.launch (c : Conn) (p : OutPacket) (now : Nat) : Conn :=
  if p.counted then
    { c with
      unacked := c.unacked ++ [p]
      progress := if c.unacked = [] then now else c.progress
      sendsSince := if p.opcode = 0x04 ∨ p.opcode = 0x05 then c.sendsSince + 1 else c.sendsSince }
  else c

/-! ## CONTROL -/

/-- The connections whose CONTROL head is eligible on a port, with the tick it was queued. -/
def State.controlHeads (s : State) (port : Nat) : List (Nat × Conn) :=
  s.conns.filterMap fun c =>
    match c.ctlQ with
    | p :: _ => if s.eligible c p port then some (p.queued, c) else none
    | [] => none

/-- The earliest, a tie going to the lower context (R413). -/
def earliest : List (Nat × Conn) → Option (Nat × Conn)
  | [] => none
  | e :: t =>
    match earliest t with
    | none => some e
    | some f => if e.1 < f.1 ∨ (e.1 = f.1 ∧ e.2.ctx ≤ f.2.ctx) then some e else some f

/-- Send the next CONTROL frame of a port, if there is one: the handshake FIFO goes last on a tie (R413). -/
def State.sendControl (s : State) (port : Nat) : Option State :=
  let x := s.portAt port
  let fifo : Option State :=
    match x.fifo with
    | (address, d, _) :: t =>
      if s.classOpen port true then
        some ((s.setPort port { x with fifo := t }).send (.udp address (s.get Obj.handshakePort) d) |>.bump
          (inst Obj.portControlFramesSent port))
      else none
    | [] => none
  match earliest (s.controlHeads port) with
  | some (t, c) =>
    match x.fifo with
    | (_, _, t') :: _ => if t' < t then fifo else sendHead c
    | [] => sendHead c
  | none => fifo
where
  /-- The head of a CONTROL queue leaves. -/
  sendHead (c : Conn) : Option State :=
    match c.ctlQ with
    | p :: t => some (s.transmit (({ c with ctlQ := t }).launch p s.gtc) p port)
    | [] => none

/-! ## DATA: deficit round robin -/

/-- Does an eligible DATA packet wait on a port? -/
def State.dataWaits (s : State) (port : Nat) : Bool :=
  (s.portAt port).active.any fun ctx =>
    match (s.conn ctx).bind fun c => c.dataQ.head?.map fun p => (c, p) with
    | some (c, p) => s.eligible c p port
    | none => false

/-- Where a queue goes after its visit (R414): off when empty, to another port's tail, held, or to this tail. -/
def State.endVisit (s : State) (ctx port : Nat) : State :=
  let s := s.setPort port { s.portAt port with visiting := false }
  let s := (s.leaveList ctx).showList port
  s.onConn ctx fun c =>
    match c.dataQ with
    | [] => s.putConn { c with deficit := 0 }
    | p :: _ =>
      if !s.released c p then s.putConn { c with deficit := 0 }
      else match s.nextPort c with
        | some q => if s.eligible c p q then s.joinList c q else s.putConn { c with heldSince := some s.gtc }
        | none => s.putConn { c with heldSince := some s.gtc }

/-- The visits of a port's list until a frame is sent (R414); `n` bounds them by the list's length. -/
def State.visit (port : Nat) : Nat → State → Option State
  | 0, _ => none
  | n + 1, s =>
    match (s.portAt port).active with
    | [] => none
    | ctx :: _ =>
      match (s.conn ctx).bind fun c => c.dataQ.head?.map fun p => (c, p) with
      | none => State.visit port n (s.endVisit ctx port)
      | some (c, p) =>
        let wire := s.wireBytes c p
        let begun := (s.portAt port).visiting
        let c := if !begun && decide (c.deficit < wire) then { c with deficit := c.deficit + s.quantum c } else c
        if s.eligible c p port && decide (wire ≤ c.deficit) then
          let c := { c with
            deficit := c.deficit - wire, dataQ := c.dataQ.drop 1
            tok := if s.shaperOf c < 32 then s.tokens c - wire * 8000 else c.tok
            tokTick := s.gtc }
          let s := s.setPort port { s.portAt port with visiting := true }
          let s := s.transmit (c.launch p s.gtc) p port
          let more := match (s.conn ctx).bind fun c => c.dataQ.head?.map fun p => (c, p) with
            | some (c, p) => !c.sprayMode && s.eligible c p port && decide (s.wireBytes c p ≤ c.deficit)
            | none => false
          some (if more then s else s.endVisit ctx port)
        else State.visit port n ((s.putConn c).endVisit ctx port)

/-- The port can begin a frame: it chooses by the CONTROL guard, CONTROL, then DATA (R413). -/
def portFrameSelect (port : Nat) (s : State) : State :=
  let x := s.portAt port
  let waits := s.dataWaits port
  let run (s : State) (n : Nat) : State := s.setPort port { s.portAt port with controlRun := n }
  let data (s : State) : Option State := (State.visit port (x.active.length + 1) s).map fun t => run t 0
  if waits && decide (s.get Obj.controlGuardFrames ≤ x.controlRun) then
    (data (s.bump (inst Obj.portGuardGrants port))).getD s
  else
    match s.sendControl port with
    | some t => run t (if waits then x.controlRun + 1 else 0)
    | none => (data s).getD s

/-! ## Metering -/

/-- The colours of a frame. -/
inductive Colour where
  | green | yellow | red
deriving DecidableEq, Repr

/-- The pre-colour of a DSCP (R422). -/
def preColour (dscp : Nat) : Colour :=
  if [12, 20, 28, 36].contains dscp then .yellow else if [14, 22, 30, 38].contains dscp then .red else .green

/-- The meter's buckets at the present tick (R421). -/
def State.meterNow (s : State) (c : Conn) : Conn :=
  let n := s.policerOf c
  let dt := s.gtc - c.meterTick
  let cbs := s.get (inst Obj.policerCbsBytes n) * 8000
  let fill := c.cTok + s.get (inst Obj.policerCirMbps n) * dt
  if s.get (inst Obj.policerKind n) = 0 then
    { c with
      cTok := min cbs fill
      eTok := min (s.get (inst Obj.policerEbsBytes n) * 8000) (c.eTok + (fill - cbs))
      meterTick := s.gtc }
  else
    { c with
      cTok := min cbs fill
      pTok := min (s.get (inst Obj.policerPbsBytes n) * 8000) (c.pTok + s.get (inst Obj.policerPirMbps n) * dt)
      meterTick := s.gtc }

/-- The colour of a frame of `b` bytes, and the buckets after it (R421, R422, RFC 2697, RFC 2698). -/
def State.colour (s : State) (c : Conn) (b dscp : Nat) : Colour × Conn :=
  let n := s.policerOf c
  let aware := (if c.kind = 0 then (s.job c.slot).policerColour else s.get Obj.policerColourDefault) == 1
  let pre := if aware then preColour dscp else .green
  let c := s.meterNow c
  let need := b * 8000
  if s.get (inst Obj.policerKind n) = 0 then
    if pre = .green ∧ need ≤ c.cTok then (.green, { c with cTok := c.cTok - need })
    else if pre ≠ .red ∧ need ≤ c.eTok then (.yellow, { c with eTok := c.eTok - need })
    else (.red, c)
  else
    if pre = .red ∨ c.pTok < need then (.red, c)
    else if pre = .yellow ∨ c.cTok < need then (.yellow, { c with pTok := c.pTok - need })
    else (.green, { c with pTok := c.pTok - need, cTok := c.cTok - need })

/-! ## Writes to profiles and selectors -/

/-- The index of a shaper and of a policer profile. -/
def shaperKey (sub n : Nat) : Nat := inst (0x482000 + sub) n
def policerKey (sub n : Nat) : Nat := inst (0x484000 + sub) n

/-- The owner's effect of a write to a shaper profile (R417, R424). -/
def shaperProfileWrite (n sub v : Nat) (s : State) : State :=
  let used := s.conns.filter fun c => s.shaperOf c == n
  let bad := (sub == 1 && v == 0 && used != []) || (sub == 2 && decide (v < 4278))
  if bad then s.refused 0x6C02
  else
    let s := s.accept (shaperKey sub n) v
    let s := used.foldl (fun s c => s.putConn (s.fillShaper c)) s
    s.count Obj.shaperResets used.length

/-- The owner's effect of a write to a policer profile (R421, R424). -/
def policerProfileWrite (n sub v : Nat) (s : State) : State :=
  let used := s.conns.filter fun c => s.policerOf c == n
  let bad := (sub == 2 && v == 0 && used != []) || ((sub == 3 || sub == 6) && decide (v < 4258)) ||
    (sub == 4 && decide (0 < v ∧ v < 4258)) ||
    (sub == 5 && s.get (policerKey 1 n) == 1 && decide (v < s.get (policerKey 2 n)))
  if bad then s.refused 0x6C02
  else
    let s := s.accept (policerKey sub n) v
    used.foldl (fun s c => s.putConn (s.fillMeter c)) s

/-- The owner's effect of a write to a profile selector of the device (R424): an unconfigured profile is refused. -/
def profileSelectorWrite (k v : Nat) (policer : Bool) (s : State) : State :=
  let rate := if policer then s.get (inst Obj.policerCirMbps v) else s.get (inst Obj.shapeRateMbps v)
  if v < 32 ∧ rate = 0 then s.refused 0x6C01 else (s.accept k v).countUsers

/-- The owner's effect of a write to ControlDscp or PeerDscp (R419). -/
def dscpWrite (k v : Nat) (s : State) : State :=
  let other := if k = Obj.controlDscp then Obj.peerDscp else Obj.controlDscp
  if v = s.get other then s.refused 0x6C03 else s.accept k v

/-- The owner's effect of a write to a slot's selectors, writable in STAGED and READY only (R425, R430). -/
def slotSelectorWrite (slot k v : Nat) (s : State) : State :=
  if s.jobState slot = 1 ∨ s.jobState slot = 2 then (s.accept k v).countUsers else s.refused 0x801A

/-! ## Meanings -/

def execPortFrameSelect (port : Nat) (s : State) : Host.Outcome State Fault Refusal := .next (portFrameSelect port s)

def execQueueRejoin (ctx : Nat) (s : State) : Host.Outcome State Fault Refusal := .next (s.joinQueue ctx)

def execShaperProfileWrite (profile sub value : Nat) (s : State) : Host.Outcome State Fault Refusal :=
  .next (writeCommand (shaperKey sub profile) value (shaperProfileWrite profile sub value) s)

def execPolicerProfileWrite (profile sub value : Nat) (s : State) : Host.Outcome State Fault Refusal :=
  .next (writeCommand (policerKey sub profile) value (policerProfileWrite profile sub value) s)

end Sys2Proof.Machine
end

