-- ==== Sys2Proof/Machine/Transport.lean ====
section
/-! DEFINITION. The RC transport: what happens to an arriving packet, acknowledgement and retransmission, and READ
responses (R377, R378, R387 to R391, R397 to R401, R420 to R423). -/

namespace Sys2Proof.Machine

/-! ## Encodings of the InfiniBand Architecture -/

/-- The credit counts of the AETH credit codes 0 to 30 (R389). -/
def creditCounts : List Nat :=
  [0, 1, 2, 3, 4, 6, 8, 12, 16, 24, 32, 48, 64, 96, 128, 192, 256, 384, 512, 768, 1024, 1536, 2048, 3072, 4096, 6144,
   8192, 12288, 16384, 24576, 32768]

/-- The code of the largest encodable count that does not exceed `n`. -/
def creditCode (n : Nat) : Nat := (creditCounts.filter fun c => decide (c ≤ n)).length - 1

/-- The RNR timers in ticks of codes 0 to 31 (R388). -/
def rnrTicks (code : Nat) : Nat :=
  ([65536, 1, 2, 3, 4, 6, 8, 12, 16, 24, 32, 48, 64, 96, 128, 192, 256, 384, 512, 768, 1024, 1536, 2048, 3072, 4096, 6144,
    8192, 12288, 16384, 24576, 32768, 49152].getD code 65536) * 10000

/-- AETH syndromes: an ACK with a credit code, an RNR NAK with a timer, and the NAK codes. -/
def synAck (credit : Nat) : Nat := credit % 32
def synRnr (timer : Nat) : Nat := 32 + timer % 32
def synSequence : Nat := 96
def synInvalid : Nat := 97
def synAccess : Nat := 98

/-! ## Answers -/

/-- An Acknowledge packet with a syndrome (R377). -/
def Conn.ackPacket (c : Conn) (syndrome psn now : Nat) : OutPacket :=
  { opcode := 0x11, psn := psn, aeth := some (syndrome * 2 ^ 24 + c.msn % 2 ^ 24), queued := now }

/-- An acknowledgement joins the CONTROL queue (R410). -/
def State.pushAck (s : State) (ctx syndrome psn : Nat) : State :=
  s.onConn ctx fun c => s.putConn { c with ctlQ := c.ctlQ ++ [c.ackPacket syndrome psn s.gtc] }

/-- The free receive entries of a connection (R389). -/
def State.freeEntries (s : State) (c : Conn) : Nat :=
  s.get Obj.connReceiveSlots - (c.inbound.filter InMessage.isSend).length

/-- A cumulative ACK up to one below ePSN (R387). -/
def State.acknowledge (s : State) (ctx : Nat) : State :=
  s.onConn ctx fun c =>
    (s.putConn { c with arrivals := 0, oldest := none }).pushAck ctx (synAck (creditCode (s.freeEntries c)))
      (psnAdd c.ePsn (psnMod - 1))

/-- A sequence-error NAK for ePSN (R388, R399). -/
def State.sequenceNak (s : State) (ctx : Nat) : State :=
  s.onConn ctx fun c =>
    ((s.putConn { c with nakSent := true }).bump Obj.sequenceNaksSent).pushAck ctx synSequence c.ePsn

/-- The port a packet of a connection would take, 0 where none is up. -/
def State.anyPort (s : State) (c : Conn) : Nat := (s.nextPort c).getD 0

/-- A fatal NAK goes out and the connection enters ERROR with a code (R378, R391). -/
def State.fatalNak (s : State) (ctx syndrome psn reason : Nat) : State :=
  s.onConn ctx fun c => (s.transmit c (c.ackPacket syndrome psn s.gtc) (s.anyPort c)).loseConn ctx reason 3 false

/-! ## Placement -/

/-- Bytes are placed into the memory a region maps (R390). -/
def State.regionWrite (s : State) (r : Region) (off : Nat) (b : Bytes) : State :=
  match r.kind with
  | .staging =>
    s.modSlot r.owner fun sl =>
      { sl with window := Memory.write sl.window off b, windowTop := if b = [] then sl.windowTop else max sl.windowTop (off + b.length) }
  | .objectWindow =>
    { s with objectWindows := s.objectWindows.map fun w =>
        if w.object = r.owner then
          { w with cells := Memory.write w.cells off b, top := if b = [] then w.top else max w.top (off + b.length) }
        else w }
  | _ => s

/-! ## Sequence -/

/-- ePSN advances over the marked PSNs contiguous with it (R399). -/
def advance : Nat → Nat → List Nat → Nat × List Nat
  | 0, e, m => (e, m)
  | n + 1, e, m => if m.contains e then advance n (psnAdd e 1) (m.filter (· != e)) else (e, m)

/-- A PSN is marked, or a READ request's `n` PSNs from it. -/
def Conn.mark (c : Conn) (psn n now : Nat) : Conn :=
  let m := c.marked ++ (List.range n).map fun i => psnAdd psn i
  let (e, m) := advance (m.length + 1) c.ePsn m
  { c with
    ePsn := e, marked := m, nakSent := if e = c.ePsn then c.nakSent else false
    gapSince := if m = [] then none else if e = c.ePsn then some (c.gapSince.getD now) else some now
    arrivals := c.arrivals + 1, oldest := some (c.oldest.getD now) }

/-- The messages every packet of which lies behind ePSN are complete: SENDs and immediates are delivered in PSN order
(R400). -/
def State.deliver (s : State) (ctx : Nat) : State :=
  s.onConn ctx fun c =>
    let done := c.inbound.filter fun m => psnAhead c.ePsn m.lastPsn
    let out := (done.filter fun m => m.isSend || m.imm.isSome).map fun m => (ctx, m.imm, m.body)
    { s.putConn { c with
        inbound := c.inbound.filter fun m => !psnAhead c.ePsn m.lastPsn, msn := c.msn + done.length } with
      inbox := s.inbox ++ out }

/-- An acknowledgement falls due when enough packets have arrived or one asks for it (R387). -/
def State.ackIfDue (s : State) (ctx : Nat) (asked : Bool) : State :=
  s.onConn ctx fun c =>
    if asked || decide (s.get Obj.ackCoalescePackets ≤ c.arrivals) then s.acknowledge ctx else s

/-! ## Admission of a packet -/

/-- What the checks before placement come to: the packet's work is done, or it goes on. -/
inductive Admit where
  | done (s : State)
  | go (c : Conn) (s : State)

/-- The frame is counted at its port. -/
def countFrame (p : Packet) (c : Conn) (s : State) : State :=
  let s := (s.count (inst Obj.portRxBytes p.port) p.frameBytes).addTotals p.port 2 p.frameBytes
  let s := (s.event 5 0x102 p.frameBytes (some p.port) c.eventSlot).event 5 0x103 1 (some p.port) c.eventSlot
  if p.sealed.isSome then s.event 5 0x108 1 (some p.port) else s

/-- A failed authentication is counted, and the limit within 10^9 ticks ends the connection (R397). -/
def State.authFailed (s : State) (c : Conn) : State :=
  let s := s.bump Obj.sealAuthFailures
  let fails := (c.authFails.filter fun t => decide (s.gtc < t + giga)) ++ [s.gtc]
  let s := s.putConn { c with authFails := fails }
  if s.get Obj.sealAuthLimit ≤ fails.length then s.loseConn c.ctx 0x6050 3 false else s

/-- The replay window of 4,096 counters below the highest accepted (R397). -/
def Conn.replayed (c : Conn) (counter : Nat) : Bool :=
  match c.rxHigh with
  | none => false
  | some h => c.rxSeen.contains counter || decide (counter + 4096 ≤ h)

/-- A counter is noted as seen. -/
def Conn.noteCounter (c : Conn) (counter : Nat) : Conn :=
  let h := max counter (c.rxHigh.getD 0)
  { c with rxHigh := some h, rxSeen := (c.rxSeen ++ [counter]).filter fun x => decide (h < x + 4096) }

/-- Does a packet's opcode carry a RETH (R377)? -/
def hasReth (opcode : Nat) : Bool := [0x06, 0x0A, 0x0B, 0x0C].contains opcode

/-- The inner header agrees with the RETH, and with the PSN (R397 step 3). A READ response's FIRST_PSN is its
request's. -/
def sealConsistent (p : Packet) (h : SealHeader) : Bool :=
  (!hasReth p.opcode || p.opcode == 0x0C || (h.key == p.key && h.addr == p.addr && h.msgLength == p.length)) &&
    (p.opcode == 0x11 || psnAdd h.firstPsn (h.msgOffset / mtu) == p.psn % psnMod)

/-- The opcodes a command's packet may have. -/
def isWriteOpcode (o : Nat) : Bool := 0x06 ≤ o && o ≤ 0x0B

/-- The lengths R378 allows. -/
def lengthsOk (p : Packet) : Bool :=
  decide (p.payload.length ≤ mtu) && (!hasReth p.opcode || decide (p.length ≤ 2 ^ 30)) &&
    (!(p.opcode == 0x06 || p.opcode == 0x07 || p.opcode == 0x0E) || decide (p.payload.length = mtu))

/-- The checks of a packet before sequencing (R378, R397 steps 1 to 3); a network under self-test drops it (R540). -/
def admitPacket (ctx : Nat) (p : Packet) (s : State) : Admit :=
  if s.netTested then .done s
  else match s.conn ctx with
  | none => .done (s.bump Obj.framesDiscarded)
  | some c =>
    let s := countFrame p c s
    if c.st ≠ 2 then .done (s.bump Obj.framesDiscarded)
    else if !p.icrcOk then .done (s.bump Obj.icrcErrors)
    else if !p.rc || !(p.pkey == 0xFFFF || p.pkey == 0x7FFF) then .done (s.bump Obj.framesDiscarded)
    else if c.sealMode then
      match p.sealed with
      | none => .done (s.bump Obj.sealAuthFailures)
      | some h =>
        if !h.tagOk then .done (s.authFailed c)
        else if c.replayed h.counter then .done (s.bump Obj.sealReplays)
        else
          let c := { c.noteCounter h.counter with carried := s.gtc }
          let s := s.putConn c
          if !sealConsistent p h then .done (s.loseConn ctx 0x6051 3 false) else .go c s
    else if p.sealed.isSome then .done (s.bump Obj.framesDiscarded)
    else .go { c with carried := s.gtc } (s.putConn { c with carried := s.gtc })

/-- A packet is metered when its connection names a policer profile (R420, R423): a red one is answered with an RNR NAK
and not placed. -/
def State.meter (s : State) (c : Conn) (p : Packet) : Option State :=
  let n := s.policerOf c
  if 32 ≤ n then some s
  else
    let (colour, c) := s.colour c p.frameBytes p.dscp
    let s := s.putConn c
    match colour with
    | .green => some (s.bump Obj.meteredGreen)
    | .yellow => some (s.bump Obj.meteredYellow)
    | .red => none

/-- A red frame (R423). -/
def State.redFrame (s : State) (ctx psn : Nat) : State :=
  let s := (s.bump Obj.meteredRed).bump Obj.policerRnrSent
  s.onConn ctx fun c =>
    let s := allSlots.foldl (fun t i =>
      if t.usesConn i c then (t.bump (inst Obj.slotMeteredRed i)).bump (inst Obj.slotRnrSent i) else t) s
    (s.putConn { c with red := some psn }).pushAck ctx (synRnr (s.get Obj.policerRnrTimer)) psn

/-! ## Requests -/

/-- Where the packet of a request goes: PSN sequencing of a connection that is not sprayed and of one that is, and the
meter (R388, R399, R420, R423). `dup` says what a duplicate does, `accept` what an accepted packet does. -/
def sequenced (ctx : Nat) (p : Packet) (c : Conn) (meterIt : Bool) (dup : State → State) (accept : State → State)
    (s : State) : State :=
  let ahead := psnDist p.psn c.ePsn
  let behind := !(decide (ahead = 0) || psnAhead p.psn c.ePsn)
  let blocked := match c.red with
    | some r => p.psn != r && (psnAhead p.psn r)
    | none => false
  if behind then dup s
  else if blocked then s.bump Obj.framesDiscarded
  else
    let s := if c.red = some p.psn then s.onConn ctx fun d => s.putConn { d with red := none } else s
    let metered (s : State) : State :=
      if meterIt then
        match s.meter c p with
        | some t => accept t
        | none => s.redFrame ctx p.psn
      else accept s
    if c.sprayMode then
      if 256 ≤ ahead then (s.bump Obj.reorderOverflows).sequenceNak ctx
      else metered s
    else if ahead = 0 then metered s
    else if c.nakSent then s else s.sequenceNak ctx

/-- A duplicate is answered with an ACK (R387). -/
def State.duplicate (s : State) (ctx : Nat) : State := s.acknowledge ctx

/-- The message offset, first PSN and length a packet's place in its message is known by: the inner header's, or those
of the message that has begun. -/
def placeOf (p : Packet) (begun : Option InMessage) : Nat × Nat × Nat × Nat × Nat :=
  match p.sealed with
  | some h => (h.msgOffset, h.firstPsn, h.key, h.addr, h.msgLength)
  | none =>
    match begun with
    | some m => (mtu * psnDist p.psn m.firstPsn, m.firstPsn, m.key, m.addr, m.length)
    | none => (0, p.psn, p.key, p.addr, p.length)

/-- A SEND packet arrives (R377, R378, R399). -/
def receiveSend (ctx : Nat) (p : Packet) (s : State) : State :=
  match admitPacket ctx p s with
  | .done s => s
  | .go c s =>
    if p.opcode ≠ 0x04 ∧ p.opcode ≠ 0x05 then
      s.fatalNak ctx synInvalid p.psn 0x6010
    else if !lengthsOk p then s.fatalNak ctx synInvalid p.psn 0x6011
    else
      sequenced ctx p c (p.payload != []) (fun s => s.duplicate ctx) (fun s =>
        s.onConn ctx fun c =>
          let m : InMessage := { firstPsn := p.psn, lastPsn := p.psn, isSend := true, imm := p.imm, body := p.payload }
          let known := c.inbound.any fun x => x.firstPsn == p.psn
          let c := if known then c else { c with inbound := c.inbound ++ [m] }
          ((s.putConn (c.mark p.psn 1 s.gtc)).deliver ctx).ackIfDue ctx p.ackReq) s

/-- A WRITE packet arrives (R377, R391, R399). -/
def receiveWrite (ctx : Nat) (p : Packet) (s : State) : State :=
  match admitPacket ctx p s with
  | .done s => s
  | .go c s =>
    if !isWriteOpcode p.opcode then s.fatalNak ctx synInvalid p.psn 0x6010
    else if !lengthsOk p then s.fatalNak ctx synInvalid p.psn 0x6011
    else
      let begun := c.inbound.find? fun m => !m.isSend && m.lastPsn != psnAdd m.firstPsn (psnMod - 1) &&
        decide (psnDist p.psn m.firstPsn ≤ psnDist m.lastPsn m.firstPsn)
      let (off, first, key, addr, length) := placeOf p (if hasReth p.opcode then none else begun)
      let place (s : State) : Option State :=
        if length = 0 then some s
        else match s.checkAccess c true key addr length with
          | .ok r => some (s.regionWrite r (addr - r.base + off) p.payload)
          | .error _ => none
      let refused (s : State) : State :=
        match s.checkAccess c true key addr length with
        | .ok _ => (s.bump Obj.remoteAccessErrors).fatalNak ctx synAccess p.psn 0x6043
        | .error code => (s.bump Obj.remoteAccessErrors).fatalNak ctx synAccess p.psn code
      let again (s : State) : State := if c.sprayMode then (place s).getD s else s
      sequenced ctx p c true (fun s => (again s).duplicate ctx) (fun s =>
        match place s with
        | none => refused s
        | some s =>
          s.onConn ctx fun c =>
            let last := psnAdd first (packetCount length - 1)
            let known := c.inbound.any fun m => m.firstPsn == first && !m.isSend
            let m : InMessage := { firstPsn := first, lastPsn := last, isSend := false, key := key, addr := addr, length := length }
            let inbound := if known then c.inbound else c.inbound ++ [m]
            let inbound := inbound.map fun m =>
              if m.firstPsn = first ∧ ¬ m.isSend ∧ p.imm.isSome then { m with imm := p.imm } else m
            ((s.putConn ({ c with inbound := inbound }.mark p.psn 1 s.gtc)).deliver ctx).ackIfDue ctx p.ackReq) s

/-- The READ response packets of a request (R377): `data` from the region, PSNs from the request's. -/
def readResponses (psn : Nat) (data : Bytes) (now : Nat) (msn credit : Nat) : List OutPacket :=
  let n := packetCount data.length
  (List.range n).map fun i =>
    let opcode := if n = 1 then 0x10 else if i = 0 then 0x0D else if i + 1 < n then 0x0E else 0x0F
    { opcode := opcode, psn := psnAdd psn i, payload := slice (mtu * i) mtu data, firstPsn := psn, msgOffset := mtu * i,
      length := data.length, queued := now
      aeth := if opcode = 0x0E then none else some (synAck credit * 2 ^ 24 + msn % 2 ^ 24) }

/-- The READs a connection is answering. -/
def Conn.readsAnswering (c : Conn) : Nat := (c.dataQ.filter fun p => p.opcode == 0x0F || p.opcode == 0x10).length

/-- A READ request arrives (R378, R391): `content` gives the bytes a region maps at an offset, nothing where it maps none there. -/
def receiveReadRequest (content : State → Region → Nat → Nat → Option Bytes) (ctx : Nat) (p : Packet) (s : State) : State :=
  match admitPacket ctx p s with
  | .done s => s
  | .go c s =>
    if p.opcode ≠ 0x0C then s.fatalNak ctx synInvalid p.psn 0x6010
    else if !lengthsOk p then s.fatalNak ctx synInvalid p.psn 0x6011
    else
      let answer (s : State) : Option State :=
        match s.checkAccess c false p.key p.addr p.length with
        | .error _ => none
        | .ok r =>
          (content s r (p.addr - r.base) p.length).map fun data =>
            (s.onConn ctx fun c =>
              s.putConn { c with
                dataQ := c.dataQ ++ readResponses p.psn data s.gtc c.msn (creditCode (s.freeEntries c)) }).joinQueue ctx
      let refused (s : State) : State :=
        match s.checkAccess c false p.key p.addr p.length with
        | .ok _ => s
        | .error code => (s.bump Obj.remoteAccessErrors).fatalNak ctx synAccess p.psn code
      sequenced ctx p c false (fun s => (answer s).getD (refused s)) (fun s =>
        if s.get Obj.readDepth ≤ c.readsAnswering then s.fatalNak ctx synInvalid p.psn 0x6012
        else match answer s with
          | none => refused s
          | some s =>
            (s.onConn ctx fun c => s.putConn ({ c with msn := c.msn + 1 }.mark p.psn (packetCount p.length) s.gtc)).deliver
              ctx) s

/-! ## Acknowledgement -/

/-- Everything up to a PSN is acknowledged (R387, R388): packets, whole messages, credits and progress. -/
def Conn.acked (c : Conn) (psn credit now : Nat) : Conn :=
  let left := c.unacked.filter fun p => psnAhead p.psn psn
  { c with
    unacked := left
    messages := c.messages.filter fun m => m.kind == .read || psnAhead m.lastPsn psn
    credits := if credit = 31 then 65535 else creditCounts.getD credit 0
    sendsSince := (left.filter fun (p : OutPacket) => p.opcode == 0x04 || p.opcode == 0x05).length
    progress := now, retries := 0, rnrRetries := 0 }

/-- Go-back-N: every unacknowledged packet from a PSN on stands again at the head of its queue (R388, R410); their
number, and the ticks since the first of them was queued. -/
def Conn.goBack (c : Conn) (psn now : Nat) : Conn × Nat × Nat :=
  let redo := c.unacked.filter fun p => p.psn == psn || psnAhead p.psn psn
  let keep := c.unacked.filter fun p => !(p.psn == psn || psnAhead p.psn psn)
  let again := redo.map fun p => { p with resent := true, queued := now }
  let c := { c with
    unacked := keep, retransmits := c.retransmits + redo.length, progress := now
    sendsSince := (keep.filter fun (p : OutPacket) => p.opcode == 0x04 || p.opcode == 0x05).length }
  (c.queue again true, redo.length, (redo.head?.map fun p => now - p.queued).getD 0)

/-- A retransmission is counted under R64 and marks the items whose peer reads it delays (R65). -/
def State.resendFrom (s : State) (ctx psn : Nat) : State :=
  (s.onConn ctx fun c =>
    let (d, n, ticks) := c.goBack psn s.gtc
    let s := s.putConn d
    if n = 0 then s
    else
      let s := (s.count Obj.netRetransmitCount n).count Obj.netRetransmitTicks ticks
      let s := (s.event 5 0x104 n (some (s.anyPort c)) c.eventSlot).event 5 0x105 ticks (some (s.anyPort c)) c.eventSlot
      s.markPerturb ((s.items.filter fun it => c.kind == 1 && (it.peerRead.map Prod.fst) == some c.uid).map (·.entry)) 2
    ).joinQueue ctx

/-- An Acknowledge packet arrives (R388). -/
def receiveAcknowledge (ctx : Nat) (p : Packet) (s : State) : State :=
  match admitPacket ctx p s with
  | .done s => s
  | .go _ s =>
    if p.opcode ≠ 0x11 then s.fatalNak ctx synInvalid p.psn 0x6010
    else
      let syn := p.syndrome
      let before := psnAdd p.psn (psnMod - 1)
      s.onConn ctx fun c =>
        if syn < 32 then ((s.putConn (c.acked p.psn syn s.gtc)).joinQueue ctx).closeIdle ctx
        else if syn < 64 then
          let s := s.bump Obj.rnrNaksReceived
          let limit := s.get Obj.rnrRetryLimit
          let n := c.rnrRetries + 1
          if limit < 7 ∧ limit < n then s.loseConn ctx 0x6021 3 false
          else
            let d := c.acked before (creditCode c.credits) s.gtc
            s.putConn { d with rnrRetries := n, rnrUntil := some (p.psn, s.gtc + rnrTicks (syn % 32)) }
        else if syn = synSequence then
          if s.get Obj.retryLimit ≤ c.retries then s.loseConn ctx 0x6020 3 false
          else
            let moved := c.unacked.any fun q => !(q.psn == p.psn || psnAhead q.psn p.psn)
            let d := c.acked before (creditCode c.credits) s.gtc
            (s.putConn { d with retries := if moved then 1 else c.retries + 1 }).resendFrom ctx p.psn
        else s.loseConn ctx 0x6022 3 false

/-- A READ response packet arrives (R377, R399): it is placed at the destination of its request. -/
def receiveReadResponse (ctx : Nat) (p : Packet) (s : State) : State :=
  match admitPacket ctx p s with
  | .done s => s
  | .go c s =>
    if p.opcode < 0x0D ∨ 0x10 < p.opcode then s.fatalNak ctx synInvalid p.psn 0x6010
    else if !lengthsOk p then s.fatalNak ctx synInvalid p.psn 0x6011
    else
      let first := match p.sealed with
        | some h => some h.firstPsn
        | none => (c.readsOut.find? fun (r : ReadOut) => decide (psnDist p.psn r.firstPsn < packetCount r.length)).map ReadOut.firstPsn
      match first.bind fun f => c.readsOut.find? fun (r : ReadOut) => r.firstPsn == f with
      | none => s.bump Obj.framesDiscarded
      | some r =>
        match s.meter c p with
        | none => s.redFrame ctx p.psn
        | some s =>
          let data := overwrite r.data (mtu * psnDist p.psn r.firstPsn) p.payload
          s.onConn ctx fun c =>
            let c := { c with readsOut := replaceFirst (fun x => x.firstPsn == r.firstPsn) { r with data := data } c.readsOut }
            let last := psnAdd r.firstPsn (packetCount r.length - 1)
            if p.psn = last then
              let c := (c.acked last (creditCode c.credits) s.gtc)
              s.putConn { c with messages := c.messages.filter fun m => m.firstPsn != r.firstPsn }
            else s.putConn { c with progress := s.gtc }

/-! ## Timers -/

/-- AckDelayTicks have passed since the oldest unacknowledged arrival (R387). -/
def ackDelay (ctx : Nat) (s : State) : State :=
  s.onConn ctx fun c =>
    match c.oldest with
    | some t => if t + s.get Obj.ackDelayTicks ≤ s.gtc then s.acknowledge ctx else s
    | none => s

/-- RetransmitTimeoutTicks have passed without progress (R388). -/
def retransmitTimeout (ctx : Nat) (s : State) : State :=
  s.onConn ctx fun c =>
    match c.unacked with
    | [] => s
    | p :: _ =>
      if c.st ≠ 2 ∨ s.gtc < c.progress + s.get Obj.retransmitTimeoutTicks then s
      else if s.get Obj.retryLimit ≤ c.retries then s.loseConn ctx 0x6020 3 false
      else (s.putConn { c with retries := c.retries + 1 }).resendFrom ctx p.psn

/-- The timer of an RNR NAK runs out: sending resumes from its PSN (R388). -/
def rnrExpiry (ctx : Nat) (s : State) : State :=
  s.onConn ctx fun c =>
    match c.rnrUntil with
    | some (psn, t) => if t ≤ s.gtc then (s.putConn { c with rnrUntil := none }).resendFrom ctx psn else s
    | none => s

/-- A gap has stood for ReorderTimeoutTicks (R399). -/
def reorderTimeout (ctx : Nat) (s : State) : State :=
  s.onConn ctx fun c =>
    match c.gapSince with
    | some t =>
      if c.sprayMode ∧ t + s.get Obj.reorderTimeoutTicks ≤ s.gtc then
        (s.putConn { c with gapSince := some s.gtc }).sequenceNak ctx
      else s
    | none => s

/-! ## Meanings -/

def execReceiveSend (ctx : Nat) (p : Packet) (s : State) : Host.Outcome State Fault Refusal := .next (receiveSend ctx p s)

def execReceiveWrite (ctx : Nat) (p : Packet) (s : State) : Host.Outcome State Fault Refusal :=
  .next (receiveWrite ctx p s)

def execReceiveReadResponse (ctx : Nat) (p : Packet) (s : State) : Host.Outcome State Fault Refusal :=
  .next (receiveReadResponse ctx p s)

def execReceiveAcknowledge (ctx : Nat) (p : Packet) (s : State) : Host.Outcome State Fault Refusal :=
  .next (receiveAcknowledge ctx p s)

def execAckDelayExpiry (ctx : Nat) (s : State) : Host.Outcome State Fault Refusal := .next (ackDelay ctx s)

def execRetransmitTimeout (ctx : Nat) (s : State) : Host.Outcome State Fault Refusal := .next (retransmitTimeout ctx s)

def execRnrTimerExpiry (ctx : Nat) (s : State) : Host.Outcome State Fault Refusal := .next (rnrExpiry ctx s)

def execReorderTimeout (ctx : Nat) (s : State) : Host.Outcome State Fault Refusal := .next (reorderTimeout ctx s)

end Sys2Proof.Machine
end

