-- ==== Sys2Proof/Machine/Ports.lean ====
section
/-! DEFINITION. The Ethernet ports: links, the frames the device answers itself, PFC and its watchdog (R370 to R376). -/

namespace Sys2Proof.Machine

/-- Does a port exist under the breakout of its pair (R370)? -/
def State.portExists (s : State) (p : Nat) : Bool := p < 8 || (p < 16 && s.get (inst Obj.portBreakout (p - 8)) == 1)

/-- The rate of a port in Gb/s (R370). -/
def State.portRate (s : State) (p : Nat) : Nat := if s.get (inst Obj.portBreakout (p % 8)) = 0 then 400 else 200

/-- Ports take ABSENT or DOWN by the breakout, as at power-up (R370). -/
def State.layPorts (s : State) : State :=
  (List.range 16).foldl (fun s p =>
    (s.set (inst Obj.portState p) (if s.portExists p then 1 else 0)).set (inst Obj.portRateGbps p)
      (if s.portExists p then s.portRate p else 0)) s

/-- Every connection and queue bound to a port that no longer fits moves on (R373, R425). -/
def State.rehome (s : State) : State :=
  let s := s.conns.foldl (fun s c =>
    if c.st = 2 ∧ ¬ c.sprayMode ∧ ¬ (c.port < 16 ∧ s.portFit c.port) then
      let s := s.leaveList c.ctx
      s.onConn c.ctx fun d => (s.putConn { d with port := s.choosePort }).joinQueue c.ctx
    else
      match c.onList with
      | some p => if s.portFit p then s else (s.leaveList c.ctx).joinQueue c.ctx
      | none => s) s
  ((List.range 16).foldl State.showList s).countPorts

/-- Do the islands that serve a port run: the firmware's, or in recovery the Keystone's on port 0 (R466, R568)? -/
def State.portRuns (s : State) (p : Nat) : Bool :=
  (s.get Obj.bootState == 3 && s.get Obj.powerState != 2 && s.power.failN && !s.power.halted &&
    s.power.course == .none) || (s.get Obj.bootState == 1 && p == 0)

/-- A link comes up: the port joins the choices (R371). -/
def portLinkUp (p : Nat) (s : State) : State :=
  if s.portRuns p && s.portExists p && s.get (inst Obj.portState p) < 2 then
    let s := (s.set (inst Obj.portState p) 2).set (inst Obj.portRateGbps p) (s.portRate p)
    (s.setPort p {}).rehome.postNetwork 4 p 0
  else s

/-- A link drops: the port enters DOWN and leaves every choice (R371). -/
def portLinkDown (p : Nat) (s : State) : State :=
  if 2 ≤ s.get (inst Obj.portState p) then ((s.set (inst Obj.portState p) 1).setPort p {}).rehome.postNetwork 3 p 0
  else s

/-- A frame of no accepted kind is discarded and counted (R372); a CNP is counted by itself (R374). -/
def frameDiscard (cnp : Bool) (s : State) : State := s.bump (if cnp then Obj.cnpDiscarded else Obj.framesDiscarded)

/-- A request to one of the device's own addresses is answered on its port; another is discarded (R372). -/
def answerFrame (p what : Nat) (mine : Bool) (body : Bytes) (s : State) : State :=
  if mine && decide (2 ≤ s.get (inst Obj.portState p)) then s.send (.frame p what body) else s.bump Obj.framesDiscarded

/-- The IPv6 link-local address of port 0 by modified EUI-64 (R466), first byte in transmission order lowest. -/
def linkLocal : Nat :=
  let mac := leBytes 6 Config.macAddressBase
  let head := match mac with
    | b :: t => (b ^^^ 2#8) :: t
    | [] => []
  leNat (bytesOf [0xFE, 0x80] ++ zeros 6 ++ head.take 3 ++ bytesOf [0xFF, 0xFE] ++ head.drop 3)

/-- The device's IPv6 address: in recovery the link-local one (R372, R466). -/
def State.ownAddress (s : State) : Nat := if s.get Obj.bootState = 1 then linkLocal else s.get Obj.deviceAddress

/-- Is an address the device's own IPv6 or, mapped, its IPv4 address? -/
def State.isOwn (s : State) (a : Nat) : Bool :=
  (a == s.ownAddress && a != 0) || (s.get Obj.deviceAddressV4 != 0 && a == s.get Obj.deviceAddressV4)

/-! ## PFC -/

/-- The class of a priority, if it is one of the two (R375). -/
def State.classOf (s : State) (priority : Nat) : Option Bool :=
  if priority = s.get Obj.pfcDataPriority then some false
  else if priority = s.get Obj.pfcControlPriority then some true else none

/-- The priority of a class. -/
def State.priorityOf (s : State) (control : Bool) : Nat :=
  if control then s.get Obj.pfcControlPriority else s.get Obj.pfcDataPriority

/-- A class of a port changes. -/
def State.modClass (s : State) (p : Nat) (control : Bool) (f : PortClass → PortClass) : State :=
  let x := s.portAt p
  s.setPort p (if control then { x with control := f x.control } else { x with data := f x.data })

/-- The ticks of a pause of some quanta, each of 512 bit times (R375). -/
def State.pauseTicks (s : State) (p quanta : Nat) : Nat := ceilDiv (quanta * 512) (s.portRate p)

/-- Pause on a class ends: the ticks it held count under R64. -/
def State.resume (s : State) (p : Nat) (control : Bool) : State :=
  let c := (s.portAt p).cls control
  match c.pausedUntil with
  | none => s
  | some _ =>
    let ticks := s.gtc - c.pausedSince
    let s := (s.count Obj.netPauseTicks ticks).event 5 0x107 ticks (some p)
    (s.modClass p control fun c => { c with pausedUntil := none }).rehome

/-- A PFC frame arrives (R375, R376). -/
def pfcReceived (p priority quanta : Nat) (held : List Nat) (s : State) : State :=
  match s.classOf priority with
  | none => s.bump Obj.framesDiscarded
  | some control =>
    let c := (s.portAt p).cls control
    if c.stormedUntil.isSome then
      if quanta = 0 then s
      else s.modClass p control fun c => { c with stormedUntil := some (s.gtc + s.get Obj.pfcRecoveryTicks) }
    else
      let s := s.bump (inst Obj.portPauseReceived p)
      if quanta = 0 then s.resume p control
      else
        let fresh := c.pausedUntil.isNone
        let s := if fresh then ((s.bump Obj.netPauseCount).event 5 0x106 1 (some p)).markPerturb held 3 else s
        s.modClass p control fun c => { c with
          pausedUntil := some (s.gtc + s.pauseTicks p quanta), pausedSince := if fresh then s.gtc else c.pausedSince }

/-- The pause time runs out without a new frame (R375). -/
def pfcPauseExpiry (p : Nat) (control : Bool) (s : State) : State :=
  match ((s.portAt p).cls control).pausedUntil with
  | some t => if t ≤ s.gtc then s.resume p control else s
  | none => s

/-- The levels of a class of a port above which PFC is sent and below which it is lifted (R375, R405). -/
def State.pfcLevels (s : State) (p : Nat) (control : Bool) : Nat × Nat :=
  if control then (65536, 32768)
  else
    let d := if s.portRate p = 200 then 2 else 1
    (s.get Obj.pfcXoffBytes / d, s.get Obj.pfcXonBytes / d)

/-- A PFC frame is sent. -/
def State.sendPfc (s : State) (p : Nat) (control : Bool) (quanta : Nat) : State :=
  (s.send (.frame p 4 (leBytes 1 (s.priorityOf control) ++ leBytes 2 quanta))).bump (inst Obj.portPauseSent p)

/-- The fill of a class's receive buffer is looked at (R375, R376). -/
def pfcRepeat (p : Nat) (control : Bool) (fill : Nat) (s : State) : State :=
  let c := (s.portAt p).cls control
  let (xoff, xon) := s.pfcLevels p control
  if xoff < fill then
    let due := c.xoffSince.isNone || decide (c.pfcSent + 20000 ≤ s.gtc)
    let s := s.modClass p control fun c => { c with
      xoffSince := some (c.xoffSince.getD s.gtc), pfcSent := if due && !c.silenced then s.gtc else c.pfcSent }
    if due && !c.silenced then s.sendPfc p control 0xFFFF else s
  else if fill < xon ∧ c.xoffSince.isSome then
    let s := s.modClass p control fun c => { c with xoffSince := none, silenced := false }
    if c.silenced then s else s.sendPfc p control 0
  else s

/-- What is queued on a class of a port is lost, as packets sent and not acknowledged (R376). -/
def State.loseQueued (s : State) (p : Nat) (control : Bool) : State :=
  let s := if control then s.setPort p { s.portAt p with fifo := [] } else s
  s.conns.foldl (fun s c =>
    if c.st = 2 ∧ s.nextPort c = some p then
      let lost := (if control then c.ctlQ else c.dataQ).filter OutPacket.counted
      s.putConn (if control then { c with ctlQ := [], unacked := c.unacked ++ lost }
        else { c with dataQ := [], unacked := c.unacked ++ lost })
    else s) s

/-- Received pause has held a class for PfcWatchdogTicks: it becomes STORMED (R376). -/
def stormReceived (p : Nat) (control : Bool) (s : State) : State :=
  let c := (s.portAt p).cls control
  if c.pausedUntil.isSome ∧ c.pausedSince + s.get Obj.pfcWatchdogTicks ≤ s.gtc then
    let s := s.loseQueued p control
    let s := s.modClass p control fun c => { c with
      pausedUntil := none, stormedUntil := some (s.gtc + s.get Obj.pfcRecoveryTicks) }
    ((s.set (inst Obj.portState p) 3).bump Obj.pfcStorms).rehome.postNetwork 1 p (s.priorityOf control)
  else s

/-- XOFF has been held for PfcWatchdogTicks: pause on the priority stops (R376). -/
def stormSent (p : Nat) (control : Bool) (s : State) : State :=
  match ((s.portAt p).cls control).xoffSince with
  | some t =>
    if t + s.get Obj.pfcWatchdogTicks ≤ s.gtc ∧ ¬ ((s.portAt p).cls control).silenced then
      ((s.modClass p control fun c => { c with silenced := true }).bump Obj.pfcStorms).postNetwork 2 p
        (s.priorityOf control)
    else s
  | none => s

/-- The recovery time of a STORMED class runs out (R376). -/
def stormRecovery (p : Nat) (control : Bool) (s : State) : State :=
  match ((s.portAt p).cls control).stormedUntil with
  | some t =>
    if t ≤ s.gtc then
      let s := s.modClass p control fun c => { c with stormedUntil := none }
      let still := (s.portAt p).data.stormedUntil.isSome || (s.portAt p).control.stormedUntil.isSome
      if still then s else (s.set (inst Obj.portState p) 2).rehome
    else s
  | none => s

/-! ## Meanings -/

def execPortLinkUp (port : Nat) (s : State) : Host.Outcome State Fault Refusal := .next (portLinkUp port s)

def execPortLinkDown (port : Nat) (s : State) : Host.Outcome State Fault Refusal := .next (portLinkDown port s)

def execArpRequest (port target : Nat) (reply : Bytes) (s : State) : Host.Outcome State Fault Refusal :=
  .next (answerFrame port 1 (s.get Obj.deviceAddressV4 != 0 && target == s.get Obj.deviceAddressV4) reply s)

def execNeighborSolicitation (port target : Nat) (reply : Bytes) (s : State) : Host.Outcome State Fault Refusal :=
  .next (answerFrame port 2 (target == s.ownAddress && target != 0) reply s)

def execEchoRequest (port target : Nat) (body : Bytes) (s : State) : Host.Outcome State Fault Refusal :=
  .next (answerFrame port 3 (s.isOwn target) body s)

def execFrameDiscard (port : Nat) (cnp : Bool) (s : State) : Host.Outcome State Fault Refusal :=
  .next (frameDiscard cnp (s.addTotals port 2 0))

def execPfcFrameReceived (port priority quanta : Nat) (held : List Nat) (s : State) :
    Host.Outcome State Fault Refusal := .next (pfcReceived port priority quanta held s)

def execPfcPauseExpiry (port : Nat) (data : Bool) (s : State) : Host.Outcome State Fault Refusal :=
  .next (pfcPauseExpiry port (!data) s)

def execPfcRepeat (port : Nat) (data : Bool) (fill : Nat) (s : State) : Host.Outcome State Fault Refusal :=
  .next (pfcRepeat port (!data) fill s)

def execPauseStormReceived (port : Nat) (data : Bool) (s : State) : Host.Outcome State Fault Refusal :=
  .next (stormReceived port (!data) s)

def execPauseStormSent (port : Nat) (data : Bool) (s : State) : Host.Outcome State Fault Refusal :=
  .next (stormSent port (!data) s)

def execStormRecoveryExpiry (port : Nat) (data : Bool) (s : State) : Host.Outcome State Fault Refusal :=
  .next (stormRecovery port (!data) s)

end Sys2Proof.Machine
end

