-- ==== Sys2Proof/Machine/Elementary.lean ====
section
/-! DEFINITION. Functions of real numbers rounded from their exact values: exp, tanh, cos, sin, ln, powers, the resample table, the
Hann window and the twiddles (R174, R176, R259, R260). A value is enclosed between two numbers of growing precision until both round
to one code. -/

namespace Sys2Proof.Machine

/-! ## Enclosures -/

/-- A real number lies from `lo` to `hi`, in units of 2^−p for a precision p. -/
structure Bounds where
  lo : Int
  hi : Int
deriving DecidableEq, Repr

/-- A quotient by a positive number, rounded up. -/
def ceilInt (a : Int) (n : Nat) : Int := -((-a) / (n : Int))

/-- An integer, a fraction, and the sum, difference and negation of enclosures. -/
def Bounds.ofInt (p : Nat) (a : Int) : Bounds := ⟨a * 2 ^ p, a * 2 ^ p⟩
def Bounds.ofRat (p : Nat) (a : Int) (n : Nat) : Bounds := ⟨a * 2 ^ p / (n : Int), ceilInt (a * 2 ^ p) n⟩
def Bounds.add (x y : Bounds) : Bounds := ⟨x.lo + y.lo, x.hi + y.hi⟩
def Bounds.neg (x : Bounds) : Bounds := ⟨-x.hi, -x.lo⟩
def Bounds.sub (x y : Bounds) : Bounds := x.add y.neg

/-- The product. -/
def Bounds.mul (p : Nat) (x y : Bounds) : Bounds :=
  let a := x.lo * y.lo
  let b := x.lo * y.hi
  let c := x.hi * y.lo
  let d := x.hi * y.hi
  ⟨min (min a b) (min c d) / 2 ^ p, ceilInt (max (max a b) (max c d)) (2 ^ p)⟩

/-- The product with an integer, and the quotient by a positive integer. -/
def Bounds.times (x : Bounds) (k : Int) : Bounds := ⟨min (x.lo * k) (x.hi * k), max (x.lo * k) (x.hi * k)⟩
def Bounds.over (x : Bounds) (n : Nat) : Bounds := ⟨x.lo / (n : Int), ceilInt x.hi n⟩

/-- The reciprocal of a positive number. -/
def Bounds.inv (p : Nat) (x : Bounds) : Bounds := ⟨2 ^ (2 * p) / x.hi, ceilInt (2 ^ (2 * p)) x.lo.toNat⟩

/-- An enclosure widened by one unit each way, for the terms of a series that are left out. -/
def Bounds.loose (x : Bounds) : Bounds := ⟨x.lo - 1, x.hi + 1⟩

/-- ± m × 2^e. -/
def Bounds.ofDyadic (p : Nat) (neg : Bool) (m : Nat) (e : Int) : Bounds :=
  let v : Int := if neg then -(m : Int) else m
  if 0 ≤ e then .ofInt p (v * 2 ^ e.toNat) else .ofRat p v (2 ^ (-e).toNat)

/-- The sum c₀ + x (c₁ + x (c₂ + …)) of `n + 1` terms, from the term `k` on. -/
def horner (p : Nat) (x : Bounds) (c : Nat → Bounds) : Nat → Nat → Bounds
  | k, 0 => c k
  | k, n + 1 => (c k).add (x.mul p (horner p x c (k + 1) n))

/-- The sum 1 + (x / c₁)(1 + (x / c₂)(1 + …)) of `n + 1` terms, from the term `k` on. -/
def ratioSeries (p : Nat) (x : Bounds) (c : Nat → Nat) : Nat → Nat → Bounds
  | _, 0 => .ofInt p 1
  | k, n + 1 => (Bounds.ofInt p 1).add ((x.mul p (ratioSeries p x c (k + 1) n)).over (c k))

/-! ## The functions -/

/-- A number squared `n` times. -/
def squared (p : Nat) (x : Bounds) : Nat → Bounds
  | 0 => x
  | n + 1 => squared p (x.mul p x) n

/-- e^x for |x| < 2^8. -/
def expBounds (p : Nat) (x : Bounds) : Bounds := squared p (ratioSeries p (x.over 256) id 1 (p / 4 + 30)).loose 8

/-- The inverse hyperbolic tangent of z, |z| ≤ 1/3, and the inverse tangent of 1/n for n ≥ 5. -/
def atanhBounds (p : Nat) (z : Bounds) : Bounds :=
  (z.mul p (horner p (z.mul p z) (fun k => .ofRat p 1 (2 * k + 1)) 0 (p / 3 + 4))).loose
def atanInverse (p n : Nat) : Bounds :=
  ((horner p (.ofRat p (-1) (n * n)) (fun k => .ofRat p 1 (2 * k + 1)) 0 (p / 4 + 4)).over n).loose

/-- ln 2, and π. -/
def ln2Bounds (p : Nat) : Bounds := (atanhBounds p (.ofRat p 1 3)).times 2
def piBounds (p : Nat) : Bounds := ((atanInverse p 5).times 16).sub ((atanInverse p 239).times 4)

/-- ln (m × 2^e) of a positive m: the number is y × 2^k with y from 3/4 to 3/2, and ln y = 2 artanh ((y − 1) / (y + 1)). -/
def lnBounds (p m : Nat) (e : Int) : Bounds :=
  let b := Nat.log2 m
  let b := if 3 * 2 ^ b ≤ 2 * m then b + 1 else b
  ((atanhBounds p (.ofRat p ((m : Int) - 2 ^ b) (m + 2 ^ b))).times 2).add ((ln2Bounds p).times (e + b))

/-- The cosine and sine of x, |x| ≤ 1. -/
def cosSin (p : Nat) (x : Bounds) : Bounds × Bounds :=
  let y := (x.mul p x).neg
  let n := p / 8 + 16
  ((ratioSeries p y (fun k => (2 * k - 1) * (2 * k)) 1 n).loose, (x.mul p (ratioSeries p y (fun k => 2 * k * (2 * k + 1)) 1 n)).loose)

/-- A cosine and sine turned by `q` quarters. -/
def quarters (q : Nat) (c s : Bounds) : Bounds × Bounds :=
  if q % 4 = 0 then (c, s) else if q % 4 = 1 then (s.neg, c) else if q % 4 = 2 then (c.neg, s.neg) else (s, c.neg)

/-- The cosine and sine of 2π a / b. -/
def turnBounds (p a b : Nat) : Bounds × Bounds :=
  let q := (8 * a + b) / (2 * b)
  let x := (((piBounds p).times ((4 * a : Nat) - (q * b : Nat) : Int)).over (2 * b))
  let (c, s) := cosSin p x
  quarters q c s

/-- The cosine and sine of ± m × 2^e. -/
def angleBounds (p : Nat) (neg : Bool) (m : Nat) (e : Int) : Bounds × Bounds :=
  let pi := piBounds p
  let x := Bounds.ofDyadic p neg m e
  let k := (4 * x.lo + pi.lo) / (2 * pi.lo)
  let (c, s) := cosSin p (x.sub ((pi.times k).over 2))
  quarters (k % 4).toNat c s

/-- I0(2√(a / 2^28)), the modified Bessel function. -/
def besselBounds (p a : Nat) : Bounds := (ratioSeries p (.ofRat p a (2 ^ 28)) (fun k => k * k) 1 (p / 8 + 24)).loose

/-! ## Rounding -/

/-- A multiple of 2^−p in a format. -/
def Fmt.ofUnits (f : Fmt) (p : Nat) (v : Int) : Nat := f.round false (decide (v < 0)) v.natAbs (-(p : Int))

/-- The code nearest to the number that `g` encloses at every precision, found at the first at which both ends give it. -/
def settled (f : Fmt) (g : Nat → Bounds) : List Nat → Nat
  | [] => f.ofUnits 4096 (g 4096).lo
  | p :: l =>
    let x := g p
    if f.ofUnits p x.lo = f.ofUnits p x.hi then f.ofUnits p x.lo else settled f g l

/-- The precisions tried. -/
def precisions : List Nat := [128, 320, 1088]

/-- A number of FP32, by its enclosures. -/
def toF32Of (g : Nat → Bounds) : F32 := settled fp32 g precisions

/-- exp of an FP32 value (R259). Far outside the range of FP32 the power is 0 or an infinity. -/
def exp32 (a : F32) : F32 :=
  match f32 a with
  | .nan => fp32.nanCode
  | .inf neg => if neg then f0 else a
  | .fin neg m e =>
    if m ≠ 0 ∧ 7 ≤ (Nat.log2 m : Int) + e then (if neg then f0 else fp32.encode false (.inf false))
    else toF32Of fun p => expBounds p (.ofDyadic p neg m e)

/-- tanh of an FP32 value (R259), 1 − 2 / (e^2x + 1). From 16 on it rounds to 1. -/
def tanh32 (a : F32) : F32 :=
  match f32 a with
  | .nan => fp32.nanCode
  | .inf neg => if neg then fneg f1 else f1
  | .fin neg m e =>
    if m = 0 then a
    else
      let y :=
        if 4 ≤ (Nat.log2 m : Int) + e then f1
        else toF32Of fun p =>
          (Bounds.ofInt p 1).sub ((((expBounds p (.ofDyadic p false m (e + 1))).add (.ofInt p 1)).inv p).times 2)
      if neg then fneg y else y

/-- cos and sin of an FP32 value (R259). -/
def cos32 (a : F32) : F32 :=
  match f32 a with
  | .fin neg m e => toF32Of fun p => (angleBounds p neg m e).1
  | _ => fp32.nanCode
def sin32 (a : F32) : F32 :=
  match f32 a with
  | .fin neg m e => if m = 0 then a else toF32Of fun p => (angleBounds p neg m e).2
  | _ => fp32.nanCode

/-- ln of an FP32 value (R176). -/
def ln32 (a : F32) : F32 :=
  match f32 a with
  | .nan => fp32.nanCode
  | .inf neg => if neg then fp32.nanCode else a
  | .fin neg m e =>
    if m = 0 then fp32.encode false (.inf true)
    else if neg then fp32.nanCode
    else if a = f1 then f0
    else toF32Of fun p => lnBounds p m e

/-- FP32 of BASE^(−2i/d) (R260). Of a BASE that is not a positive number the value is open. -/
def ropeFrequency (base i d : Nat) : F32 :=
  match f32 base with
  | .fin false m e =>
    if m = 0 then Config.ropeBeyond base i d
    else if i = 0 then f1
    else toF32Of fun p => expBounds p (((lnBounds p m e).times (-(2 * i : Nat))).over d)
  | _ => Config.ropeBeyond base i d

/-! ## Tables -/

/-- T[i] of R174: K(i / 4,096), K(x) = sinc(x) × I0(8√(1 − (x / 16)²)) / I0(8). -/
def resampleTable (i : Nat) : F32 :=
  if i = 0 then f1
  else if i % 4096 = 0 then f0
  else toF32Of fun p =>
    let sinc := ((turnBounds p i 8192).2.mul p ((piBounds p).inv p)).times 4096 |>.over i
    (sinc.mul p (besselBounds p (2 ^ 32 - i * i))).mul p ((besselBounds p (2 ^ 32)).inv p)

/-- The bytes of the table. -/
def resampleBytes (n : Nat) : Bytes := (List.range n).flatMap fun i => leBytes 4 (resampleTable i)

/-- The Hann window value w[m] for N (R176). -/
def hann (n m : Nat) : F32 :=
  if m % n = 0 then f0 else toF32Of fun p => ((Bounds.ofInt p 1).sub (turnBounds p m n).1).over 2

/-- The real and imaginary part of the twiddle W_N^k, the cosine and the negated sine of 2πk/N (R176). -/
def twiddle (n k : Nat) : F32 × F32 :=
  (if (4 * k) % (2 * n) = n then f0 else toF32Of fun p => (turnBounds p k n).1,
   if (2 * k) % n = 0 then f0 else toF32Of fun p => (turnBounds p k n).2.neg)

/-! ## FP64, for the weights of R176 -/

/-- log10 of a number of at least 1, and 10^x of a number from 0 to 16, correctly rounded. -/
def log10d (a : Nat) : Nat :=
  match fp64.decode a with
  | .fin _ m e =>
    if a = d64 1 1 then 0
    else settled fp64 (fun p => (lnBounds p m e).mul p ((lnBounds p 10 0).inv p)) precisions
  | _ => a
def pow10d (a : Nat) : Nat :=
  match fp64.decode a with
  | .fin neg m e => settled fp64 (fun p => expBounds p ((Bounds.ofDyadic p neg m e).mul p (lnBounds p 10 0))) precisions
  | _ => a

/-- The HTK scale, and a frequency back from it (R176). -/
def melOf (f : Nat) : Nat := dmul (d64 2595 1) (log10d (dadd (d64 1 1) (ddiv f (d64 700 1))))
def hertzOf (m : Nat) : Nat := dmul (d64 700 1) (dsub (pow10d (ddiv m (d64 2595 1))) (d64 1 1))

/-- An FP32 value in FP64. -/
def widen64 (a : F32) : Nat := fp64.encode false (f32 a)

/-- The points of the triangles: MEL_BANDS + 2, equally spaced in mel from FMIN to FMAX (R176). -/
def melPoints (rate bands fmin fmax : Nat) : List Nat :=
  let half := ddiv (d64 rate 1) (d64 2 1)
  let top := if f32 fmax = f32 f0 ∨ dlt half (widen64 fmax) = true then half else widen64 fmax
  let lo := melOf (widen64 fmin)
  let step := ddiv (dsub (melOf top) lo) (d64 (bands + 1) 1)
  (List.range (bands + 2)).map fun (i : Nat) => hertzOf (dadd lo (dmul (d64 i 1) step))

/-- A triangle's weight at a frequency. -/
def triangle (l c r f : Nat) : F32 :=
  if dlt l f && dlt f r then
    fp32.encode false (fp64.decode (if dlt c f then ddiv (dsub r f) (dsub r c) else ddiv (dsub f l) (dsub c l)))
  else f0

/-- The weights Wm[b][k], one list of N/2 + 1 for each band (R176). -/
def melWeights (rate n bands fmin fmax : Nat) : List (List F32) :=
  let pts := melPoints rate bands fmin fmax
  let bins := (List.range (n / 2 + 1)).map fun k => ddiv (d64 (k * rate) 1) (d64 n 1)
  (List.zip pts (List.zip (pts.drop 1) (pts.drop 2))).map fun (l, c, r) => bins.map (triangle l c r)

end Sys2Proof.Machine
end

