-- ==== Sys2Proof/Machine/Riffle.lean ====
section
/-! DEFINITION. The Riffle: sample references, epoch keys, the permutation and its inverse, draws, Talon picks, the
geometry of batches, and windowed packing (R10, R66 to R68, R97 to R102, R108, R114 to R116). -/

namespace Sys2Proof.Machine

/-! ## Names of samples -/

/-- A SampleRef (R10). -/
def sampleRef (slot epoch position : Nat) : Nat := slot * 2 ^ 56 + epoch * 2 ^ 40 + position

/-- The fields of a SampleRef (R10). -/
def refSlot (r : Nat) : Nat := bits r 56 8
def refEpoch (r : Nat) : Nat := bits r 40 16
def refPosition (r : Nat) : Nat := bits r 0 40

/-- All ones of 64 bits. -/
def allOnes64 : Nat := 2 ^ 64 - 1

/-! ## The permutation -/

/-- The epoch key K_e (R97). -/
def epochKey (seed e : Nat) : Bytes := digest (leBytes 8 seed ++ leBytes 2 e)

/-- The half-width h of a job of `n` samples: half the smallest even k, at least 2, with 2^k at least n (R98). -/
def halfWidth (n : Nat) : Nat :=
  (((List.range 21).drop 1).find? fun h => decide (n ≤ 2 ^ (2 * h))).getD 20

/-- The output f of round `r` for a half `x` (R98). -/
def riffleRound (key : Bytes) (h r x : Nat) : Nat :=
  ((chachaBlock key x (leBytes 4 r ++ zeros 8)).headD 0).toNat % 2 ^ h

/-- Rounds `r` and on of a pass over the halves (L, R). -/
def feistelRounds (key : Bytes) (h : Nat) : List Nat → Nat × Nat → Nat × Nat
  | [], x => x
  | r :: t, (l, x) => feistelRounds key h t (x, l ^^^ riffleRound key h r x)

/-- Inverse rounds (R99). -/
def feistelBack (key : Bytes) (h : Nat) : List Nat → Nat × Nat → Nat × Nat
  | [], x => x
  | r :: t, (l, x) => feistelBack key h t (x ^^^ riffleRound key h r l, l)

/-- One pass of eight rounds (R98). -/
def feistel (key : Bytes) (h v : Nat) : Nat :=
  let (l, r) := feistelRounds key h (List.range 8) (v / 2 ^ h, v % 2 ^ h)
  l * 2 ^ h + r

/-- One inverse pass (R99). -/
def feistelInverse (key : Bytes) (h v : Nat) : Nat :=
  let (l, r) := feistelBack key h (List.range 8).reverse (v / 2 ^ h, v % 2 ^ h)
  l * 2 ^ h + r

/-- A walk of at most `fuel` passes until the value lies below `n` (R98, R100); the passes made come with it. -/
def cycleWalk (pass : Nat → Nat) (n : Nat) : Nat → Nat → Nat × Nat
  | 0, v => (v, 0)
  | fuel + 1, v =>
    let w := pass v
    if w < n then (w, 1) else
      let (x, c) := cycleWalk pass n fuel w
      (x, c + 1)

/-- The sample index at a position of an epoch, and the passes taken (R98). The longest walk is 2^k − N + 1. -/
def rifflePasses (seed n p e : Nat) : Nat × Nat :=
  let h := halfWidth n
  cycleWalk (feistel (epochKey seed e) h) n (2 ^ (2 * h) - n + 1) p

/-- riffle(p, e) (R98). -/
def riffle (seed n p e : Nat) : Nat := (rifflePasses seed n p e).1

/-- The position of a sample index in an epoch, and the passes taken (R99). -/
def riffleInverse (seed n x e : Nat) : Nat × Nat :=
  let h := halfWidth n
  cycleWalk (feistelInverse (epochKey seed e) h) n (2 ^ (2 * h) - n + 1) x

/-! ## Draws -/

/-- The draw key of a job (R66). -/
def drawKey (seed : Nat) : Bytes := digest (leBytes 8 seed ++ ascii ['D', 'R', 'A', 'W'])

/-- Draw `d` of a stage for the item at a position of an epoch (R66). -/
def draw (seed epoch position stage d : Nat) : Nat :=
  let block := chachaBlock (drawKey seed) (d / 16) (leBytes 2 epoch ++ leBytes 5 position ++ leBytes 1 stage ++ zeros 4)
  (block.getD (d % 16) 0).toNat

/-- The uniform integer in [0, n) of a draw (R67). -/
def uniformInt (w n : Nat) : Nat := w * n / 2 ^ 32

/-- The event of a draw with a threshold (R67). -/
def drawEvent (w p : Nat) : Bool := decide (w < p)

/-! ## Geometry -/

/-- M, the positions before the Talon (R101). -/
def Job.m (j : Job) : Nat := j.n - j.t

/-- F, the full batches (R101). -/
def Job.fullBatches (j : Job) : Nat := j.m / j.batchSize

/-- The positions of the short batch F under PARTIAL (R101). -/
def Job.shortPositions (j : Job) : Nat := if j.lastBatch = 1 then j.m % j.batchSize else 0

/-- The positions issued in an epoch (R101). -/
def Job.issued (j : Job) : Nat := j.fullBatches * j.batchSize + j.shortPositions

/-- The global batches of an epoch (R101). -/
def Job.batchCount (j : Job) : Nat := j.fullBatches + (if j.shortPositions = 0 then 0 else 1)

/-- The positions of batch `b` (R101). -/
def Job.batchPositions (j : Job) (b : Nat) : List Nat :=
  List.range' (b * j.batchSize) (min j.issued ((b + 1) * j.batchSize) - b * j.batchSize)

/-- The positions of slice `s` of batch `b` (R24). -/
def Job.slicePositions (j : Job) (b s : Nat) : List Nat :=
  let per := j.batchSize / j.sliceCount
  List.range' (b * j.batchSize + s * per) (min j.issued (b * j.batchSize + (s + 1) * per) - (b * j.batchSize + s * per))

/-- The stage record of a kind, with its index. -/
def Job.stageOf (j : Job) (kind : Nat) : Option (Nat × StageRec) :=
  (j.stages.zipIdx.find? fun e => e.1.kind == kind).map fun e => (e.2, e.1)

/-- Has the job a PACK stage (R19)? -/
def Job.packs (j : Job) : Bool := (j.stageOf 0x0B).isSome

/-- Is a stream packed (R21)? -/
def Job.packedStream (j : Job) (st : StreamRec) : Bool := j.packs && bit st.classMask 2

/-- The stream that carries a class (R21). -/
def Job.streamOf (j : Job) (cls : Nat) : Option Nat := j.streams.findIdx? fun st => bit st.classMask cls

/-- The shard entry of a sample index, with its number: the largest FIRST_SAMPLE not above it (R87). -/
def Job.shardOf (j : Job) (x : Nat) : Option (Nat × ShardRec) :=
  (j.shards.zipIdx.find? fun e => decide (e.1.first ≤ x ∧ x < e.1.first + e.1.count)).map fun e => (e.2, e.1)

/-! ## The Talon -/

/-- The Talon position that attempt `a` picks for position `p` (R108). -/
def talonPick (j : Job) (e p a : Nat) : Nat :=
  let input := leBytes 8 j.seed ++ leBytes 2 e ++ leBytes 5 p ++ leBytes 2 a ++ ascii ['T', 'A', 'L', 'N']
  j.m + field (digest input) 0 4 * j.t / 2 ^ 32

/-! ## Windowed packing -/

/-- A segment of a document in a sequence (R115): text rank, token offset in the document, length. -/
structure Segment where
  rank : Nat
  offset : Nat
  length : Nat
deriving DecidableEq, Repr

/-- A sequence being packed: its room and its segments, last first. -/
structure PackSeq where
  room : Nat
  segs : List Segment
deriving DecidableEq, Repr

/-- The whole sequences of a document (R115). -/
def wholeSeqs (l rank count : Nat) : List PackSeq :=
  (List.range (count / l)).map fun i => { room := 0, segs := [{ rank := rank, offset := i * l, length := l }] }

/-- A remainder goes before another: the longer first, then the lower rank (R115). -/
def remBefore (a b : Segment) : Bool := decide (b.length < a.length) || (a.length == b.length && decide (a.rank ≤ b.rank))

/-- Insertion in the order of remainders. -/
def insertRem (a : Segment) : List Segment → List Segment
  | [] => [a]
  | b :: t => if remBefore a b then a :: b :: t else b :: insertRem a t

/-- A segment is appended to the first sequence with room, or to a new one (R115). -/
def placeSeg (l : Nat) (g : Segment) : List PackSeq → List PackSeq
  | [] => [{ room := l - g.length, segs := [g] }]
  | q :: t => if g.length ≤ q.room then { room := q.room - g.length, segs := g :: q.segs } :: t else q :: placeSeg l g t

/-- pack_window (R115): the sequences of a window of (rank, count) documents. -/
def packWindow (l : Nat) (docs : List (Nat × Nat)) : List (List Segment) :=
  let whole := docs.flatMap fun d => wholeSeqs l d.1 d.2
  let rems := (docs.filter fun d => decide (0 < d.2 % l)).map fun d =>
    ({ rank := d.1, offset := d.2 - d.2 % l, length := d.2 % l } : Segment)
  let sorted := rems.foldr insertRem []
  let seqs := sorted.foldl (fun q g => placeSeg l g q) whole
  seqs.map fun q => q.segs.reverse

/-- The windows of `w` documents (R114). -/
def windows {α : Type} : Nat → Nat → List α → List (List α)
  | 0, _, _ => []
  | fuel + 1, w, l => if l.isEmpty then [] else l.take w :: windows fuel w (l.drop w)

/-- The sequences of an epoch from its text census (R114 to R116). -/
def packPlan (seqLen window : Nat) (text : List CensusRec) : List (List Segment) :=
  let docs := text.zipIdx.map fun e => (e.2, e.1.count)
  (windows docs.length window docs).flatMap (packWindow seqLen)

end Sys2Proof.Machine
end

