-- ==== Sys2Proof/Machine/Warp.lean ====
section
/-! DEFINITION. TRANSFORM of images: the parameter block, the mesh, crop, perspective and lens, pre-reduction and
sampling, colour, binarisation and the tensor (R157 to R172, R177). -/

namespace Sys2Proof.Machine

/-! ## The parameter block -/

/-- The TRANSFORM parameter block an empty one stands for (R177). -/
def defaultTransform : Bytes :=
  bytesOf [1, 0, 1, 5, 0, 0, 0, 0, 0, 0xFF, 0, 15, 0, 0, 0, 0] ++ zeros 4 ++
    [flit 8 2, f1, flit 75 2, flit 1333333 6].flatMap (leBytes 4) ++ zeros 0x2C ++
    [f1, f0, f0, f0, f0, f1, f0, f0, f0, f0, f1, f0].flatMap (leBytes 4) ++ zeros 0x20 ++
    [f1, f1, f1].flatMap (leBytes 4) ++ zeros 20 ++
    bytesOf [1, 0, 0, 0] ++ leBytes 4 0 ++ bytesOf [9, 0] ++ leBytes 2 160 ++ leBytes 2 80 ++ zeros 10 ++
    leBytes 4 (flit 1 10) ++ leBytes 4 f0 ++ leBytes 4 f1 ++ zeros 28

/-- The parameters of a TRANSFORM stage, the block taken as written or the defaults where it is empty. -/
def transformBlock (param : Bytes) : Bytes := if param.isEmpty then defaultTransform else param

/-- An FP32 field of a block, and the n-th of an array of them. -/
def pf (b : Bytes) (off : Nat) : F32 := field b off 4
def pfAt (b : Bytes) (off n : Nat) : F32 := field b (off + 4 * n) 4

/-- Is an FP32 code within a closed interval? -/
def inRange (lo hi v : F32) : Bool := fle lo v && fle v hi

/-- The fields of a full TRANSFORM block in offset order, each with whether its value is in range (R177, 0x800A). -/
def transformFields (b : Bytes) : List (Nat × Bool) :=
  let at_ (o : Nat) : Nat := byteAt b o
  let upTo (o hi : Nat) : Nat × Bool := (o, decide (at_ o ≤ hi))
  let within (o lo hi : Nat) : Nat × Bool := (o, decide (lo ≤ at_ o ∧ at_ o ≤ hi))
  let finite (o n : Nat) : List (Nat × Bool) := (List.range n).map fun i => (o + 4 * i, ffinite (pfAt b o i))
  let zero (o n : Nat) : Nat × Bool := (o, allZero (slice o n b))
  let below (hi : F32) (o : Nat) : Nat × Bool := (o, fle f0 (pf b o) && flt (pf b o) hi)
  let above (hi : F32) (o : Nat) : Nat × Bool := (o, flt f0 (pf b o) && fle (pf b o) hi)
  let ratio (o : Nat) : Nat × Bool := (o, inRange (flit 1 1) (fint 10) (pf b o))
  [upTo 0 1, upTo 1 1, upTo 2 2, within 3 2 8, (4, decide (field b 4 2 ≤ 16384)), (6, decide (field b 6 2 ≤ 16384)),
    upTo 8 2, (9, decide (at_ 9 ≤ 4 ∨ at_ 9 = 0xFF)), upTo 0x0A 2, within 0x0B 1 127, upTo 0x0D 1, upTo 0x0E 3, zero 0x0F 1,
    above f1 0x14, above f1 0x18, ratio 0x1C, ratio 0x20, (0x24, inRange f0 (flit 25 2) (pf b 0x24)), upTo 0x28 1,
    zero 0x29 3] ++ finite 0x2C 9 ++ finite 0x50 12 ++ finite 0x80 3 ++ [below f1 0x8C, below f1 0x90] ++ finite 0x94 6 ++
  [zero 0xAC 20, upTo 0xC0 1, upTo 0xC1 1, upTo 0xC2 2, zero 0xC3 1,
    (0xC4, decide (field b 0xC4 4 = 0 ∨ (8000 ≤ field b 0xC4 4 ∧ field b 0xC4 4 ≤ 192000))), within 0xC8 8 12, zero 0xC9 1,
    (0xCA, decide (1 ≤ field b 0xCA 2 ∧ field b 0xCA 2 ≤ 2 ^ at_ 0xC8)),
    (0xCC, decide (1 ≤ field b 0xCC 2 ∧ field b 0xCC 2 ≤ 256)), zero 0xCE 2, below (fint 96000) 0xD0,
    (0xD4, inRange f0 (fint 96000) (pf b 0xD4)), above f1 0xD8] ++ finite 0xDC 2 ++ [zero 0xE4 28]

/-- The output extents of a TRANSFORM stage (R177): 0 takes the job's. -/
def outExtent (own job : Nat) : Nat := if own = 0 then job else own

/-- The combinations of parameters that must be legal (R159, R163, R177, 0x3003), each with the field concerned. -/
def transformCombos (j : Job) (images : Bool) (b : Bytes) : List (Nat × Bool) :=
  let cell := 2 ^ byteAt b 3
  let mesh (n : Nat) : Bool := decide (2 ≤ ceilDiv n cell + 1 ∧ ceilDiv n cell + 1 ≤ 1025)
  let zero (o : Nat) : Bool := pf b o % 2 ^ 31 == 0
  let lens := byteAt b 0x28 == 1
  [(3, !images || (mesh (outExtent (field b 4 2) j.imageWidth) && mesh (outExtent (field b 6 2) j.imageHeight))),
    (0x40, !(lens && zero 0x40)), (0x44, !(lens && zero 0x44)), (0x14, fle (pf b 0x14) (pf b 0x18)),
    (0x1C, fle (pf b 0x1C) (pf b 0x20)), (0xD0, zero 0xD4 || flt (pf b 0xD0) (pf b 0xD4)),
    (0xC1, byteAt b 0xC1 == 0 || byteAt b 0xC0 == 1)]

/-! ## The source -/

/-- An image source: extents, channels, whether its elements are integers, its depth, and the code of a channel at a
column and row. -/
structure Source where
  width : Nat
  height : Nat
  channels : Nat
  integer : Bool
  depth : Nat
  code : Nat → Nat → Nat → Nat

/-- The source that a decoded sample holds (R129, R130). -/
def sourceOf (d : Descriptor) (data : Bytes) : Source :=
  let w := decodedElementBytes d.element
  { width := d.width, height := d.height, channels := d.channels, integer := decide (d.element ≤ 1), depth := d.depth
    code := fun c x y => field data (c * d.planeStride + y * d.rowStride + x * w) w }

/-- C0 and MAXV of a source (R166, R168). -/
def Source.c0 (s : Source) : F32 := fint (2 ^ (s.depth - 1) : Nat)
def Source.maxv (s : Source) : F32 := fint (2 ^ s.depth - 1 : Nat)

/-- Hold a value within [0, MAXV]; an F32 source has no MAXV to hold it to. -/
def Source.clamp (s : Source) (v : F32) : F32 := if s.integer then fmin (fmax v f0) s.maxv else v

/-- The code of a pixel reduced by 2^r with a box filter (R164). -/
def reducedCode (s : Source) (r c x y : Nat) : Nat :=
  let k := 2 ^ r
  let xs := List.range' (x * k) (min s.width ((x + 1) * k) - x * k)
  let ys := List.range' (y * k) (min s.height ((y + 1) * k) - y * k)
  let codes := ys.flatMap fun b => xs.map fun a => s.code c a b
  let n := codes.length
  if s.integer then (codes.sum + n / 2) / n else fdiv (fsum codes) (fint n)

/-- The source reduced by 2^r (R164). -/
def Source.reduced (s : Source) (r : Nat) : Source :=
  if r = 0 then s
  else { s with width := ceilDiv s.width (2 ^ r), height := ceilDiv s.height (2 ^ r), code := reducedCode s r }

/-! ## The crop box and its quad -/

/-- A crop box in pixels: ox, oy, cw, ch. -/
structure CropBox where
  ox : Int
  oy : Int
  cw : Nat
  ch : Nat
deriving DecidableEq, Repr

/-- The centre box of the output's aspect ratio (R161). -/
def centreBox (w h ow oh : Nat) : CropBox :=
  if h * ow ≤ w * oh then
    let cw := h * ow / oh
    { ox := ((w - cw) / 2 : Nat), oy := 0, cw := cw, ch := h }
  else
    let ch := w * oh / ow
    { ox := 0, oy := ((h - ch) / 2 : Nat), cw := w, ch := ch }

/-- One attempt at a random crop (R161). -/
def cropAttempt (b : Bytes) (w h : Nat) (dr : Nat → Nat) (a : Nat) : Option CropBox :=
  let area := fint (w * h : Nat)
  let sc := uniformRange (dr (4 * a)) (pf b 0x14) (pf b 0x18)
  let ar := uniformRange (dr (4 * a + 1)) (pf b 0x1C) (pf b 0x20)
  let cw := ftoInt (fsqrt (fmul (fmul sc area) ar))
  let ch := ftoInt (fsqrt (fdiv (fmul sc area) ar))
  if 1 ≤ cw ∧ cw ≤ w ∧ 1 ≤ ch ∧ ch ≤ h then
    some { ox := (uniformInt (dr (4 * a + 2)) (w - cw.toNat + 1) : Nat)
           oy := (uniformInt (dr (4 * a + 3)) (h - ch.toNat + 1) : Nat), cw := cw.toNat, ch := ch.toNat }
  else none

/-- The crop box, and whether a random crop fell back to the centre (R161). -/
def cropBox (b : Bytes) (w h ow oh : Nat) (dr : Nat → Nat) : CropBox × Bool :=
  if byteAt b 8 = 0 then ({ ox := 0, oy := 0, cw := w, ch := h }, false)
  else if byteAt b 8 = 1 then (centreBox w h ow oh, false)
  else
    match (List.range 10).findSome? (cropAttempt b w h dr) with
    | some c => (c, false)
    | none => (centreBox w h ow oh, true)

/-- The pre-reduction in effect (R164). -/
def preReduce (b : Bytes) (c : CropBox) (ow oh : Nat) : Nat :=
  if byteAt b 9 ≠ 0xFF then byteAt b 9
  else ((List.range 5).filter fun r => decide (2 ^ r * ow ≤ c.cw ∧ 2 ^ r * oh ≤ c.ch)).foldl max 0

/-- The corners x0, y0 to x3, y3 of the quad (R162). -/
def quadOf (b : Bytes) (c : CropBox) (dr : Nat → Nat) : List F32 :=
  let x0 := fint c.ox
  let y0 := fint c.oy
  let x1 := fint (c.ox + c.cw)
  let y1 := fint (c.oy + c.ch)
  let j := pf b 0x24
  let corners := [x0, y0, x1, y0, x1, y1, x0, y1]
  if j % 2 ^ 31 = 0 then corners
  else
    (corners.zipIdx).map fun (v, i) =>
      let e := fmul j (fint (if i % 2 = 0 then c.cw else c.ch : Nat))
      fadd v (fadd (fneg e) (fmul (fmul f2 e) (uniformReal (dr (41 + i)))))

/-- square_to_quad (R162). -/
def squareToQuad (q : List F32) (s t : F32) : F32 × F32 :=
  let at_ (i : Nat) : F32 := q.getD i 0
  let (x0, y0, x1, y1) := (at_ 0, at_ 1, at_ 2, at_ 3)
  let (x2, y2, x3, y3) := (at_ 4, at_ 5, at_ 6, at_ 7)
  let sx := fsub (fadd (fsub x0 x1) x2) x3
  let sy := fsub (fadd (fsub y0 y1) y2) y3
  let dx1 := fsub x1 x2
  let dx2 := fsub x3 x2
  let dy1 := fsub y1 y2
  let dy2 := fsub y3 y2
  let den := fsub (fmul dx1 dy2) (fmul dx2 dy1)
  let g := fdiv (fsub (fmul sx dy2) (fmul dx2 sy)) den
  let h := fdiv (fsub (fmul dx1 sy) (fmul sx dy1)) den
  let a := fadd (fsub x1 x0) (fmul g x1)
  let b := fadd (fsub x3 x0) (fmul h x3)
  let d := fadd (fsub y1 y0) (fmul g y1)
  let e := fadd (fsub y3 y0) (fmul h y3)
  let w := fadd (fadd (fmul g s) (fmul h t)) f1
  (fdiv (fadd (fadd (fmul a s) (fmul b t)) x0) w, fdiv (fadd (fadd (fmul d s) (fmul e t)) y0) w)

/-- The Brown–Conrady lens model (R163). -/
def lens (b : Bytes) (u v : F32) : F32 × F32 :=
  let k (i : Nat) : F32 := pfAt b 0x2C i
  let (fx, fy, cx, cy) := (pf b 0x40, pf b 0x44, pf b 0x48, pf b 0x4C)
  let x := fdiv (fsub u cx) fx
  let y := fdiv (fsub v cy) fy
  let xx := fmul x x
  let yy := fmul y y
  let xy := fmul x y
  let r2 := fadd xx yy
  let rad := fadd f1 (fmul r2 (fadd (k 0) (fmul r2 (fadd (k 1) (fmul r2 (k 2))))))
  let xd := fadd (fadd (fmul x rad) (fmul (fmul f2 (k 3)) xy)) (fmul (k 4) (fadd r2 (fmul f2 xx)))
  let yd := fadd (fadd (fmul y rad) (fmul (k 3) (fadd r2 (fmul f2 yy)))) (fmul (fmul f2 (k 4)) xy)
  (fadd (fmul fx xd) cx, fadd (fmul fy yd) cy)

/-- A coordinate in Q18.14; nothing where it is not finite (R158). -/
def quantise (c : F32) : Option Int :=
  match f32 c with
  | .fin neg m e => some (clampInt (-(2 ^ 31)) (2 ^ 31 - 1) (roundHalfEven neg m (e + 14)))
  | _ => none

/-- The source coordinate of mesh vertex (i, j) (R160). -/
def vertex (b : Bytes) (q : List F32) (flipped : Bool) (r ow oh cell i j : Nat) : Option (Int × Int) := do
  let s0 := fdiv (fadd (fint (i * cell : Nat)) fHalf) (fint ow)
  let t := fdiv (fadd (fint (j * cell : Nat)) fHalf) (fint oh)
  let s := if flipped then fsub f1 s0 else s0
  let (u0, v0) := squareToQuad q s t
  let (u1, v1) := (fsub u0 fHalf, fsub v0 fHalf)
  let (u2, v2) := if byteAt b 0x28 = 1 then lens b u1 v1 else (u1, v1)
  let scale (c : F32) : F32 := if r = 0 then c else fsub (fmul (fadd c fHalf) (fpow2 (-(r : Int)))) fHalf
  let u ← quantise (scale u2)
  let v ← quantise (scale v2)
  return (u, v)

/-- The rows of the mesh (R159); nothing where a vertex is not finite. -/
def meshOf (b : Bytes) (q : List F32) (flipped : Bool) (r ow oh : Nat) : Option (List (List (Int × Int))) :=
  let cell := 2 ^ byteAt b 3
  (List.range (ceilDiv oh cell + 1)).mapM fun j =>
    (List.range (ceilDiv ow cell + 1)).mapM fun i => vertex b q flipped r ow oh cell i j

/-- The source coordinate of output pixel (x, y) (R159). -/
def interpolate (mesh : List (List (Int × Int))) (s x y : Nat) : Int × Int :=
  let cell := 2 ^ s
  let (i, j) := (x / cell, y / cell)
  let (fx, fy) := (x % cell, y % cell)
  let at_ (a b : Nat) : Int × Int := (mesh.getD b []).getD a (0, 0)
  let mix (g : Int × Int → Int) : Int :=
    let sum : Int := ((cell - fx) * (cell - fy) : Nat) * g (at_ i j) + (fx * (cell - fy) : Nat) * g (at_ (i + 1) j) +
      ((cell - fx) * fy : Nat) * g (at_ i (j + 1)) + (fx * fy : Nat) * g (at_ (i + 1) (j + 1))
    (sum + (2 ^ (2 * s) / 2 : Nat)) / (2 ^ (2 * s) : Nat)
  (mix Prod.fst, mix Prod.snd)

/-! ## Sampling -/

/-- The index a tap takes along one axis of `n` (R167); nothing where it takes the fill. -/
def tapIndex (mode n : Nat) (i : Int) : Option Nat :=
  if 0 ≤ i ∧ i < n then some i.toNat
  else if mode = 0 then none
  else if mode = 1 then some (min (n - 1) i.toNat)
  else if n ≤ 1 then some 0
  else
    let m := (i % (2 * n - 2 : Nat)).toNat
    some (if m < n then m else 2 * n - 2 - m)

/-- Does a tap lie outside the source (R167)? -/
def tapOutside (s : Source) (i j : Int) : Bool := !(decide (0 ≤ i ∧ i < s.width ∧ 0 ≤ j ∧ j < s.height))

/-- The value of FILL for a channel: of a channel past the third it is not given. -/
def fillOf (b : Bytes) (c : Nat) : F32 := if c < 3 then pfAt b 0x80 c else Config.fillBeyond c

/-- A fill value in an integer source: itself where it is an integer. -/
def fillCode (v : F32) : Int := if fint (ftoInt v) = v then ftoInt v else Config.fillInteger v

/-- The integer that a tap takes. -/
def tapInt (b : Bytes) (s : Source) (c : Nat) (i j : Int) : Int :=
  match tapIndex (byteAt b 2) s.width i, tapIndex (byteAt b 2) s.height j with
  | some x, some y => (s.code c x y : Nat)
  | _, _ => fillCode (fillOf b c)

/-- The FP32 code that a tap takes of an F32 source. -/
def tapF32 (b : Bytes) (s : Source) (c : Nat) (i j : Int) : F32 :=
  match tapIndex (byteAt b 2) s.width i, tapIndex (byteAt b 2) s.height j with
  | some x, some y => s.code c x y
  | _, _ => fillOf b c

/-- The fraction of a coordinate, cut to eight bits (R165). -/
def tapFraction (u : Int) : Nat := (u % 16384).toNat / 64

/-- The taps of one axis: four from i − 1 for bicubic, two from i for bilinear. -/
def axisTaps (bicubic : Bool) (u : Int) : List Int :=
  let i := u / 16384
  if bicubic then [i - 1, i, i + 1, i + 2] else [i, i + 1]

/-- The weights of the bicubic taps for a fraction in 1/256 (R166). -/
def cubicWeights (a : Nat) : List Int :=
  let t : Int := a
  let w (n : Int) : Int := roundHalfEven (decide (n < 0)) n.natAbs (-11)
  let w0 := w (-(t ^ 3) + 512 * t ^ 2 - 65536 * t)
  let w2 := w (-(3 * t ^ 3) + 1024 * t ^ 2 + 65536 * t)
  let w3 := w (t ^ 3 - 256 * t ^ 2)
  [w0, 16384 - w0 - w2 - w3, w2, w3]

/-- Bilinear sampling of a channel (R165). -/
def bilinear (b : Bytes) (s : Source) (c : Nat) (u v : Int) : F32 :=
  let (i, j) := (u / 16384, v / 16384)
  let (ax, ay) := (tapFraction u, tapFraction v)
  let ws := [((256 - ax) * (256 - ay), i, j), (ax * (256 - ay), i + 1, j), ((256 - ax) * ay, i, j + 1),
    (ax * ay, i + 1, j + 1)]
  if s.integer then
    fscaled ((ws.map fun (w, x, y) => (w : Int) * tapInt b s c x y).sum) (-16)
  else
    match ws.map fun (w, x, y) => fmul (fscaled (w : Nat) (-16)) (tapF32 b s c x y) with
    | t :: r => r.foldl fadd t
    | [] => f0

/-- Bicubic sampling of a channel (R166). -/
def bicubic (b : Bytes) (s : Source) (c : Nat) (u v : Int) : F32 :=
  let wx := cubicWeights (tapFraction u)
  let wy := cubicWeights (tapFraction v)
  let xs := axisTaps true u
  let ys := axisTaps true v
  if s.integer then
    let sum : Int := (List.zipWith (fun (w : Int) y =>
      w * (List.zipWith (fun (k : Int) x => k * tapInt b s c x y) wx xs).sum) wy ys).sum
    s.clamp (fscaled sum (-28))
  else
    fsum (List.zipWith (fun (w : Int) y =>
      fmul (fscaled w (-14)) (fsum (List.zipWith (fun (k : Int) x => fmul (fscaled k (-14)) (tapF32 b s c x y)) wx xs)))
      wy ys)

/-- The taps of an output pixel that lie outside the source (R167). -/
def edgeTaps (b : Bytes) (s : Source) (u v : Int) : Nat :=
  let cubic := byteAt b 1 == 1
  (((axisTaps cubic v).flatMap fun y => (axisTaps cubic u).filter fun x => tapOutside s x y)).length

/-! ## Colour -/

/-- YCbCr to RGB, before the clamp (R168). -/
def ycc (c0 y cb cr : F32) : List F32 :=
  let k (n : Int) : F32 := flit n 6
  [fadd y (fmul (k 1402000) (fsub cr c0)),
    fsub (fsub y (fmul (k 344136) (fsub cb c0))) (fmul (k 714136) (fsub cr c0)),
    fadd y (fmul (k 1772000) (fsub cb c0))]

/-- A sampled pixel as grey (one value) or RGB (three), clamped (R168); nothing where its model is not supported. -/
def toColour (s : Source) (model : Nat) (p : List F32) : Option (List F32) :=
  let at_ (i : Nat) : F32 := p.getD i 0
  let cmyk (l : List F32) (k : F32) : List F32 := l.map fun v => fdiv (fmul v k) s.maxv
  let out :=
    if model = 1 then some (p.take 1)
    else if model = 2 ∨ model = 4 then some (ycc s.c0 (at_ 0) (at_ 1) (at_ 2))
    else if model = 3 then some (p.take 3)
    else if model = 5 then some (cmyk (p.take 3) (at_ 3))
    else if model = 6 then some (cmyk (ycc s.c0 (at_ 0) (at_ 1) (at_ 2)) (at_ 3))
    else if p.length = 1 ∨ p.length = 3 then some p
    else none
  out.map fun l => l.map s.clamp

/-- The matrix and the jitter on an RGB pixel (R169). -/
def adjust (b : Bytes) (s : Source) (dr : Nat → Nat) (p : List F32) : List F32 :=
  let at_ (i : Nat) : F32 := p.getD i 0
  let m (c k : Nat) : F32 := pfAt b 0x50 (4 * c + k)
  let p1 :=
    if byteAt b 13 = 1 then (List.range 3).map fun c =>
      fadd (fadd (fadd (fmul (m c 0) (at_ 0)) (fmul (m c 1) (at_ 1))) (fmul (m c 2) (at_ 2))) (m c 3)
    else p
  let within (off d : Nat) : F32 := uniformRange (dr d) (fsub f1 (pf b off)) (fadd f1 (pf b off))
  let p2 := if bit (byteAt b 14) 0 then p1.map fun v => fmul v (within 0x8C 49) else p1
  let p3 := if bit (byteAt b 14) 1 then p2.map fun v => fadd (fmul (fsub v s.c0) (within 0x90 50)) s.c0 else p2
  p3.map s.clamp

/-- The grey value of a pixel (R170). -/
def greyOf (p : List F32) : F32 :=
  match p with
  | [r, g, b] => fadd (fadd (fmul (flit 299 3) r) (fmul (flit 587 3) g)) (fmul (flit 114 3) b)
  | _ => p.headD 0

/-- The pixel of the output before binarisation: `one` says that the output has one channel (R169, R170). -/
def outPixel (b : Bytes) (s : Source) (dr : Nat → Nat) (one : Bool) (p : List F32) : List F32 :=
  if p.length = 1 then
    if one then p else adjust b s dr (List.replicate 3 (p.headD 0))
  else
    let q := adjust b s dr p
    if one then [greyOf q] else q

/-- g8 of a pixel (R170). -/
def g8 (s : Source) (p : List F32) : Nat :=
  (clampInt 0 255 (ftoInt (fmul (greyOf p) (fdiv (fint 255) s.maxv)))).toNat

/-- Is an output pixel white after binarisation (R170)? -/
def isWhite (b : Bytes) (ow oh : Nat) (g : Nat → Nat → Nat) (x y : Nat) : Bool :=
  let level := byteAt b 12
  if byteAt b 10 = 1 then decide ((if level = 0 then 128 else level) ≤ g x y)
  else
    let r := byteAt b 11
    let k8 := if level = 0 then 38 else level
    let xs := List.range' (x - r) (min ow (x + r + 1) - (x - r))
    let ys := List.range' (y - r) (min oh (y + r + 1) - (y - r))
    let vals := ys.flatMap fun v => xs.map fun u => g u v
    decide (vals.sum * (256 - k8) < g x y * vals.length * 256)

/-- The rows of output pixels after binarisation (R170). -/
def binarised (b : Bytes) (s : Source) (rows : List (List (List F32))) : List (List (List F32)) :=
  if byteAt b 10 = 0 then rows
  else
    let gs := rows.map fun r => r.map (g8 s)
    let at_ (x y : Nat) : Nat := (gs.getD y []).getD x 0
    let (oh, ow) := (rows.length, (rows.headD []).length)
    rows.zipIdx.map fun (r, y) => r.zipIdx.map fun (p, x) =>
      p.map fun _ => if isWhite b ow oh at_ x y then s.maxv else f0

/-! ## The stage -/

/-- What a TRANSFORM of an image makes, beside what its counters count (R156, R161, R164, R167, R181). -/
structure Warped where
  bytes : Bytes
  pixels : Nat
  vertices : Nat
  edge : Nat
  fallback : Bool
  auto : Nat
deriving DecidableEq, Repr

/-- The elements of an image tensor in the order of its layout, 0 NHWC or 1 NCHW (R172). -/
def layOut (layout : Nat) (rows : List (List (List F32))) : List F32 :=
  if layout = 0 then rows.flatten.flatten
  else (List.range ((rows.headD []).headD []).length).flatMap fun c => rows.flatMap fun r => r.map fun p => p.getD c 0

/-- Normalisation of a pixel (R171). -/
def normalise (b : Bytes) (p : List F32) : List F32 :=
  p.zipIdx.map fun (v, c) => fmul (fsub v (pfAt b 0x94 c)) (pfAt b 0xA0 c)

/-- TRANSFORM of an image (R157 to R172): the output, or the code with which the item ends. `stage` is the stage's
record index, `layout` the stream's. -/
def warp (j : Job) (maxBytes stage epoch position layout : Nat) (param input : Bytes) : Except Nat Warped :=
  let b := transformBlock param
  let d := descriptorOf input
  let full := sourceOf d (sampleData input)
  let ow := outExtent (field b 4 2) j.imageWidth
  let oh := outExtent (field b 6 2) j.imageHeight
  let tensor := byteAt b 0 == 1
  let dr := draw j.seed epoch position stage
  let colours := full.channels - (if d.alpha = 0 then 0 else 1)
  let grey := d.colour == 1 || (d.colour == 0 && colours == 1)
  let one := if tensor then j.imageChannels == 1 else grey || byteAt b 10 != 0
  let channels := if one then 1 else 3
  let (box, fallback) := cropBox b full.width full.height ow oh dr
  let r := preReduce b box ow oh
  let src := full.reduced r
  if ¬ tensor ∧ maxBytes < channels * oh * rowStrideOf ow 3 + 64 then .error 0x3021
  else
    match meshOf b (quadOf b box dr) (drawEvent (dr 40) (field b 0x10 4)) r ow oh with
    | none => .error 0x3010
    | some mesh =>
      let at_ (x y : Nat) : Int × Int := interpolate mesh (byteAt b 3) x y
      let sampled (x y : Nat) : List F32 :=
        let (u, v) := at_ x y
        (List.range colours).map fun c => if byteAt b 1 = 1 then bicubic b src c u v else bilinear b src c u v
      let rows := (List.range oh).mapM fun y =>
        (List.range ow).mapM fun x => (toColour src d.colour (sampled x y)).map (outPixel b src dr one)
      match rows with
      | none => .error 0x3011
      | some rows =>
        let rows := binarised b src rows
        let edge := ((List.range oh).map fun y => ((List.range ow).map fun x =>
          edgeTaps b src (at_ x y).1 (at_ x y).2).sum).sum
        let done (bytes : Bytes) : Warped :=
          { bytes := bytes, pixels := ow * oh, vertices := (mesh.map List.length).sum, edge := edge
            fallback := fallback, auto := if byteAt b 9 = 0xFF then r else 0 }
        if tensor then
          match toElements j.elementType (layOut layout (rows.map fun l => l.map (normalise b))) with
          | none => .error 0x3020
          | some bytes => .ok (done bytes)
        else
          .ok (done (encodeImage d.kind 3 (if one then 1 else 3) 0 d.depth d.reduce d.sample ow oh
            ((List.range channels).map fun c => rows.map fun l => l.map fun p => p.getD c 0)))

end Sys2Proof.Machine
end

