-- ==== Sys2Proof/Machine/Signal.lean ====
section
/-! DEFINITION. TRANSFORM of signals: mixing, resampling, cutting and log-mel analysis (R173 to R176). -/

namespace Sys2Proof.Machine

/-- The mono mix of a decoded signal (R173). -/
def monoMix (d : Descriptor) (data : Bytes) : List F32 :=
  let value (c f : Nat) : F32 :=
    let v := field data (c * d.planeStride + 4 * f) 4
    if d.element = 3 then v else fscaled (toSigned 32 v) (-31)
  let share := fdiv f1 (fint d.channels)
  (List.range d.width).map fun f => fmul (fsum ((List.range d.channels).map fun c => value c f)) share

/-- One output frame of the resampler (R174). -/
def resampleFrame (x : List F32) (l m n : Nat) : F32 :=
  let d := max l m
  let q := n * m / l
  let r := n * m - q * l
  let z0 := ceilDiv (16 * d) l
  let taps := (List.range (2 * z0)).map fun (t : Nat) =>
    let k : Int := (q : Int) - (z0 : Int) + 1 + (t : Int)
    let z := ((k - q) * l - r).natAbs * 4096
    let idx := z / d
    let frac := fdiv (fint (z % d : Nat)) (fint d)
    let w :=
      if 65536 ≤ idx then f0
      else
        let t0 := resampleTable idx
        fadd t0 (fmul frac (fsub (resampleTable (idx + 1)) t0))
    (w, x.getD (min k.toNat (x.length - 1)) 0)
  fdiv (fsum (taps.map fun (w, s) => fmul w s)) (fsum (taps.map Prod.fst))

/-- The signal at the target rate (R174), its rate, and the frames resampled. -/
def resample (target rate : Nat) (x : List F32) : List F32 × Nat × Nat :=
  if target = 0 ∨ target = rate then (x, rate, 0)
  else
    let g := Nat.gcd rate target
    let l := target / g
    let m := rate / g
    let n := ceilDiv (x.length * l) m
    ((List.range n).map (resampleFrame x l m), target, n)

/-- The waveform cut or padded to the frames needed (R175). -/
def cutSignal (b : Bytes) (need : Nat) (dr : Nat → Nat) (x : List F32) : List F32 :=
  let spare := x.length - need
  let start :=
    if byteAt b 0xC2 = 1 then uniformInt (dr 51) (spare + 1) else if byteAt b 0xC2 = 2 then spare / 2 else 0
  (x.drop start).take need ++ List.replicate (need - x.length) f0

/-- The even and the odd elements of a list. -/
def split2 {α : Type} : List α → List α × List α
  | a :: b :: t => let (e, o) := split2 t; (a :: e, b :: o)
  | l => (l, [])

/-- The FFT of R176: the transform of 2^n values from those of its even and its odd halves, which is what the stages
from span 2 to span N do to an input in bit-reversed order. The twiddles come as a list for each span, the longest first. -/
def fft : List (List (F32 × F32)) → List (F32 × F32) → List (F32 × F32)
  | [], x => x
  | w :: tw, x =>
    let (ev, od) := split2 x
    let pairs := (List.zip (List.zip (fft tw ev) (fft tw od)) w).map fun (((ar, ai), (br, bi)), (wr, wi)) =>
      let tr := fsub (fmul wr br) (fmul wi bi)
      let ti := fadd (fmul wr bi) (fmul wi br)
      ((fadd ar tr, fadd ai ti), (fsub ar tr, fsub ai ti))
    pairs.map Prod.fst ++ pairs.map Prod.snd

/-- The fixed tables of an analysis of 2^n frames: the window, the twiddles of each span and the mel weights (R176). -/
structure MelTables where
  window : List F32
  twiddles : List (List (F32 × F32))
  weights : List (List F32)
deriving DecidableEq, Repr

/-- The tables of a parameter block at a rate. -/
def melTables (b : Bytes) (rate : Nat) : MelTables :=
  let l := byteAt b 0xC8
  { window := (List.range (2 ^ l)).map (hann (2 ^ l))
    twiddles := (List.range l).map fun i => (List.range (2 ^ (l - i - 1))).map (twiddle (2 ^ (l - i)))
    weights := melWeights rate (2 ^ l) (field b 0xCC 2) (pf b 0xD0) (pf b 0xD4) }

/-- The mel bands of one analysis frame (R176), before normalisation. -/
def melFrame (b : Bytes) (t : MelTables) (x : List F32) : List F32 :=
  let windowed := (List.zipWith fmul x t.window).map fun v => (v, f0)
  let power := ((fft t.twiddles windowed).take (t.window.length / 2 + 1)).map fun (re, im) => fadd (fmul re re) (fmul im im)
  t.weights.map fun w => ln32 (fmax (fsum (List.zipWith fmul w power)) (pf b 0xD8))

/-- What a TRANSFORM of a signal makes: its output, the valid frames of a tensor, and what is counted. -/
structure SignalOut where
  bytes : Bytes
  valid : Nat
  frames : Nat
  mel : Nat
deriving DecidableEq, Repr

/-- The waveform frames a tensor needs (R175). -/
def signalNeed (j : Job) (b : Bytes) : Nat :=
  if byteAt b 0xC1 = 0 then j.audioFrames else 2 ^ byteAt b 0xC8 + (j.audioFrames - 1) * field b 0xCA 2

/-- TRANSFORM of a signal (R173 to R176): the output, or the code with which the item ends. -/
def transformSignal (j : Job) (maxBytes stage epoch position : Nat) (param input : Bytes) : Except Nat SignalOut :=
  let b := transformBlock param
  let d := descriptorOf input
  if d.width = 0 then .error 0x3018
  else if d.height = 0 ∨ 768000 < d.height then .error 0x3019
  else
    let (x, rate, made) := resample (field b 0xC4 4) d.height (monoMix d (sampleData input))
    if byteAt b 0xC0 = 0 then
      if maxBytes < signalStride x.length + 64 then .error 0x3021
      else .ok { bytes := encodeSignal d.kind 3 d.depth rate d.sample d.gain x.length [x], valid := 0, frames := made
                 mel := 0 }
    else
      let need := signalNeed j b
      let wave := cutSignal b need (draw j.seed epoch position stage) x
      let norm (l : List F32) : List F32 := l.map fun v => fmul (fsub v (pf b 0xDC)) (pf b 0xE0)
      let mel := byteAt b 0xC1 == 1
      let values :=
        if mel then
          let tables := melTables b rate
          (List.range j.audioFrames).flatMap fun f => norm (melFrame b tables (wave.drop (f * field b 0xCA 2)))
        else norm wave
      match toElements j.elementType values with
      | none => .error 0x3020
      | some bytes =>
        .ok { bytes := bytes, valid := min x.length need, frames := made, mel := if mel then j.audioFrames else 0 }

end Sys2Proof.Machine
end

