-- ==== Sys2Proof/Machine/Infer.lean ====
section
/-! DEFINITION. Model bundles: the file and its checks, the operators, a pass, the token selection, result records
and FILTER conditions (R249 to R269). -/

namespace Sys2Proof.Machine

/-! ## The file -/

/-- The header fields of a bundle (R254). -/
def bundleRole (img : Bytes) : Nat := byteAt img 0x10
def bundleClass (img : Bytes) : Nat := byteAt img 0x11
def bundleTensors (img : Bytes) : Nat := field img 0x12 2
def bundleOps (img : Bytes) : Nat := field img 0x14 4
def bundleWeights (img : Bytes) : Nat := field img 0x28 8
def bundleWorkset (img : Bytes) : Nat := field img 0x38 4
def bundleMicroRows (img : Bytes) : Nat := field img 0x3C 2
def bundleMaxRows (img : Bytes) : Nat := field img 0x3E 2
def bundleInput (img : Bytes) : Nat := field img 0x40 2
def bundleOutput (img : Bytes) : Nat := field img 0x42 2
def bundlePrompt (img : Bytes) : Nat := field img 0x44 2
def bundleContext (img : Bytes) : Nat := field img 0x48 4

/-- A tensor table entry (R255). -/
structure Tensor where
  kind : Nat
  dtype : Nat
  rows : Nat
  cols : Nat
  offset : Nat
  bytes : Nat
deriving DecidableEq, Repr

/-- The i-th tensor of a bundle. -/
def tensorAt (img : Bytes) (i : Nat) : Tensor :=
  let o := field img 0x18 8 + 32 * i
  { kind := byteAt img o, dtype := byteAt img (o + 1), rows := field img (o + 4) 4, cols := field img (o + 8) 4
    offset := field img (o + 0x10) 8, bytes := field img (o + 0x18) 8 }

/-- An operator record (R256). -/
structure OpRec where
  opcode : Nat
  phase : Nat
  in0 : Nat
  in1 : Nat
  in2 : Nat
  out : Nat
  attrs : List Nat
deriving DecidableEq, Repr

/-- The i-th operator record of a bundle. -/
def opAt (img : Bytes) (i : Nat) : OpRec :=
  let o := field img 0x20 8 + 64 * i
  { opcode := field img o 2, phase := byteAt img (o + 2), in0 := field img (o + 4) 2, in1 := field img (o + 6) 2
    in2 := field img (o + 8) 2, out := field img (o + 10) 2
    attrs := (List.range 12).map fun k => field img (o + 16 + 4 * k) 4 }

/-- An attribute word. -/
def OpRec.a (o : OpRec) (k : Nat) : Nat := o.attrs.getD k 0

/-- The bytes of an element (R249). -/
def dtypeBytes (t : Nat) : Nat := if t ≤ 2 then 1 else if t = 3 then 2 else 4

/-- The bytes of a row: in the working set each row starts on a 64-byte boundary (R253). -/
def Tensor.rowBytes (t : Tensor) : Nat :=
  let n := t.cols * dtypeBytes t.dtype
  if t.kind = 3 then roundUp n 64 else n

/-! ## The checks of a load (R257) -/

/-- Do two byte ranges (offset, length) share no byte? -/
def disjointRanges (a b : Nat × Nat) : Bool := decide (a.1 + a.2 ≤ b.1 ∨ b.1 + b.2 ≤ a.1 ∨ a.2 = 0 ∨ b.2 = 0)

/-- Step 2: header ranges, bounds, alignment and overlap. -/
def bundleBoundsOk (img : Bytes) : Bool :=
  let total := field img 8 8
  let n := bundleTensors img
  let ten := (field img 0x18 8, 32 * n)
  let ops := (field img 0x20 8, 64 * bundleOps img)
  let wts := (bundleWeights img, field img 0x30 8)
  let sections := [(0, 128), ten, ops, wts]
  total == img.length && decide (4096 ≤ total ∧ total ≤ 17179869184) &&
    decide (1 ≤ bundleRole img ∧ bundleRole img ≤ 3) && decide (bundleClass img ≤ 2) &&
    decide (2 ≤ n ∧ n ≤ 16384 ∧ 1 ≤ bundleOps img ∧ bundleOps img ≤ 65536) &&
    (ten.1 % 8 == 0 && ops.1 % 8 == 0 && wts.1 % 4096 == 0) && decide (wts.2 ≤ total) &&
    decide (2048 ≤ bundleWorkset img ∧ bundleWorkset img ≤ 98304) &&
    decide (1 ≤ bundleMicroRows img ∧ bundleMicroRows img ≤ 4096) &&
    decide (1 ≤ bundleMaxRows img ∧ bundleMaxRows img ≤ bundleMicroRows img) &&
    decide (bundleInput img < n ∧ bundleOutput img < n ∧ (bundlePrompt img < n ∨ bundlePrompt img = 0xFFFF)) &&
    field img 0x46 2 == 0 && allZero (slice 0x54 40 img) &&
    (if bundleRole img = 3 then decide (2 ≤ bundleContext img ∧ bundleContext img ≤ 131072) else bundleContext img == 0) &&
    (sections.all fun s => decide (s.1 + s.2 ≤ total)) &&
    (sections.zipIdx.all fun (s, i) => sections.zipIdx.all fun (r, k) => i == k || disjointRanges s r)

/-- Step 4 for one tensor. -/
def tensorOk (img : Bytes) (i : Nat) : Bool :=
  let t := tensorAt img i
  let o := field img 0x18 8 + 32 * i
  let rows := if t.kind = 3 ∧ t.rows = 0 then bundleMicroRows img else t.rows
  decide (t.kind ≤ 5 ∧ t.dtype ≤ 6 ∧ t.rows ≤ 16777216 ∧ 1 ≤ t.cols ∧ t.cols ≤ 262144) &&
    field img (o + 2) 2 == 0 && field img (o + 12) 4 == 0 && t.bytes == rows * t.rowBytes &&
    (if t.kind = 0 ∨ t.kind = 5 then decide (t.offset + t.bytes ≤ field img 0x30 8)
     else if t.kind = 3 then decide (t.offset + t.bytes ≤ bundleWorkset img * 1024 - 2097152)
     else if t.kind = 4 then t.rows == bundleContext img
     else t.offset == 0)

/-- A floating type. -/
def floatType (t : Nat) : Bool := 1 ≤ t && t ≤ 4

/-- A type that non-matrix operators read and write: it widens to FP32 exactly (R259). -/
def pierType (t : Nat) : Bool := t ≤ 4

/-- Step 5 for one record (R260). -/
def opOk (img : Bytes) (i : Nat) : Bool :=
  let o := opAt img i
  let n := bundleTensors img
  let valid (k : Nat) : Bool := decide (k < n)
  let base := field img 0x20 8 + 64 * i
  let a := tensorAt img o.in0
  let b := tensorAt img o.in1
  let c := tensorAt img o.in2
  let y := tensorAt img o.out
  let same := y.rows == a.rows && y.cols == a.cols
  let types := pierType a.dtype && pierType y.dtype
  let one (t : Tensor) : Bool := t.rows == 1 && t.cols == a.cols && pierType t.dtype
  let attrs (k : Nat) : Bool := (o.attrs.drop k).all (· == 0)
  let form :=
    match o.opcode with
    | 1 =>
      let float := floatType a.dtype && a.dtype != 4 && floatType b.dtype && b.dtype != 4
      let int := a.dtype == 0 && b.dtype == 0
      valid o.in1 && b.kind == 0 && a.cols == b.rows && decide (a.cols ≤ 65536) && y.rows == a.rows && y.cols == b.cols &&
        ((float && pierType y.dtype) || (int && decide (y.dtype ≤ 5) &&
          (y.dtype != 0 || decide (1 ≤ o.a 1 ∧ o.a 1 ≤ 62)))) &&
        (o.in2 == 0xFFFF || (c.rows == 1 && c.cols == b.cols && c.dtype == (if int then 5 else 4))) && attrs 4
    | 2 =>
      a.dtype == 6 && a.cols == 1 && valid o.in1 && b.kind == 0 && pierType b.dtype && pierType y.dtype &&
        y.rows == a.rows && y.cols == b.cols && attrs 0
    | 3 | 4 =>
      valid o.in1 && pierType b.dtype && b.cols == a.cols && (b.rows == a.rows || b.rows == 1) && same && types && attrs 0
    | 5 => valid o.in1 && one b && same && types && attrs 1
    | 6 => valid o.in1 && valid o.in2 && one b && one c && same && types && attrs 1
    | 7 => same && types && decide (o.a 0 ≤ 2) && attrs 1
    | 8 => same && types && decide (o.a 1 % 2 = 0 ∧ 2 ≤ o.a 1 ∧ o.a 1 ≤ a.cols) && attrs 2
    | 9 =>
      let kv := o.a 1 * o.a 2
      let st (k : Nat) : Bool := valid k && (tensorAt img k).kind == 4 && (tensorAt img k).cols == kv
      valid o.in1 && valid o.in2 && decide (1 ≤ o.a 0 ∧ 1 ≤ o.a 1 ∧ 1 ≤ o.a 2) && a.cols == o.a 0 * o.a 2 &&
        b.cols == kv && c.cols == kv && b.rows == a.rows && c.rows == a.rows && pierType b.dtype && pierType c.dtype &&
        st (o.a 4) && st (o.a 5) && same && types && attrs 6
    | 0xA | 0xD => same && types && attrs 0
    | 0xB | 0xC => y.rows == 1 && y.cols == a.cols && types && attrs 0
    | 0xE =>
      let p := o.a 0
      let ch := o.a 1
      decide (1 ≤ p ∧ 1 ≤ ch) && a.cols % ch == 0 && a.cols / ch % p == 0 && a.rows % p == 0 && types &&
        y.rows == a.rows / p * (a.cols / ch / p) && y.cols == p * p * ch && attrs 2
    | 0xF => same && types && (a.dtype != 0 || y.dtype != 0) && attrs 2
    | _ => false
  valid o.in0 && valid o.out && decide (1 ≤ o.phase ∧ o.phase ≤ 3) && byteAt img (base + 3) == 0 &&
    field img (base + 12) 4 == 0 && form

/-- The tensors a record reads. -/
def OpRec.reads (o : OpRec) : List Nat :=
  [o.in0] ++ (if [1, 2, 3, 4, 5, 6, 9].contains o.opcode then [o.in1] else []) ++
    (if (o.opcode = 1 ∧ o.in2 ≠ 0xFFFF) ∨ o.opcode = 6 ∨ o.opcode = 9 then [o.in2] else [])

/-- The records of a phase, in record order: bit 0 prefill, bit 1 step (R256). -/
def phaseOps (img : Bytes) (phase : Nat) : List OpRec :=
  ((List.range (bundleOps img)).map (opAt img)).filter fun o => bit o.phase phase

/-- Is every ACTIVATION written before it is read, within a phase? -/
def writtenFirst (img : Bytes) : List Nat → List OpRec → Bool
  | _, [] => true
  | done, o :: t =>
    (o.reads.all fun k => (tensorAt img k).kind != 3 || done.contains k) && writtenFirst img (o.out :: done) t

/-- Step 6. -/
def scheduleOk (img : Bytes) : Bool :=
  writtenFirst img [] (phaseOps img 0) && writtenFirst img [] (phaseOps img 1) &&
    ((List.range (bundleOps img)).all fun i =>
      let k := (tensorAt img (opAt img i).out).kind
      k != 0 && k != 5 && k != 1) &&
    ((List.range (bundleTensors img)).filter fun i => (tensorAt img i).kind == 2) == [bundleOutput img]

/-- Steps 1 to 6 of R257: the code of the first fault, 0 where there is none. -/
def bundleReason (img : Bytes) : Nat :=
  let tables := slice (field img 0x18 8) (32 * bundleTensors img) img ++ slice (field img 0x20 8) (64 * bundleOps img) img
  if img.take 4 ≠ bytesOf [0x4B, 0x42, 0x4E, 0x31] ∨ field img 4 2 ≠ 1 ∨ field img 0x7C 4 ≠ crc32c (img.take 0x7C) then
    0x4001
  else if ¬ bundleBoundsOk img then 0x4002
  else if field img 0x4C 4 ≠ crc32c tables ∨
      field img 0x50 4 ≠ crc32c (slice (bundleWeights img) (field img 0x30 8) img) then 0x4003
  else if ¬ (List.range (bundleTensors img)).all (tensorOk img) then 0x4004
  else if ¬ (List.range (bundleOps img)).all (opOk img) then 0x4005
  else if ¬ scheduleOk img then 0x4006
  else 0

/-! ## Operators -/

/-- The rows of a tensor, each the codes of its elements. -/
abbrev Rows := List (List Nat)

/-- An element widened to FP32 (R249, R259). -/
def widen (t code : Nat) : F32 :=
  if t = 0 then fint (toSigned 8 code)
  else if t = 1 then toF32 (e4m3.decode code)
  else if t = 2 then toF32 (e5m2.decode code)
  else if t = 3 then toF32 (bf16.decode code)
  else if t = 5 then fint (toSigned 32 code)
  else code

/-- An integer as an INT8 element. -/
def int8Of (v : Int) : Nat := ofSigned 8 (clampInt (-128) 127 v)

/-- An FP32 value and an offset as an INT8 element; a NaN ends the item (R250). -/
def narrowInt8 (v : F32) (zero : Int) : Except Nat Nat :=
  match f32 v with
  | .nan => .error 0x4031
  | .inf neg => .ok (int8Of (if neg then -128 else 127))
  | .fin neg m e => .ok (int8Of (roundHalfEven neg m e + zero))

/-- An FP32 value as an element of a type (R250). -/
def narrow (t : Nat) (v : F32) : Except Nat Nat :=
  if t = 0 then narrowInt8 v 0
  else if t = 1 then .ok (e4m3.encode true (f32 v))
  else if t = 2 then .ok (e5m2.encode false (f32 v))
  else if t = 3 then .ok (bf16.encode false (f32 v))
  else .ok (toF32 (f32 v))

/-- Rows of FP32 values as a tensor of a type. -/
def narrowRows (t : Nat) (l : Rows) : Except Nat Rows := l.mapM fun r => r.mapM (narrow t)

/-- The sum of products in ascending order, with one rounding a term (R251). -/
def dotFloat (a b : List F32) : F32 :=
  (List.zip a b).foldl (fun acc p => toF32 ((f32 acc).add ((f32 p.1).mul (f32 p.2)))) f0

/-- A MATMUL element on INT8 inputs (R252). -/
def intResult (o : OpRec) (outType : Nat) (acc : Int) : Except Nat Nat :=
  if outType = 5 then .ok (ofSigned 32 acc)
  else if outType = 0 then
    let sh := o.a 1
    let v := toSigned 64 (ofSigned 64 (acc * toSigned 32 (o.a 0) + (2 ^ (sh - 1) : Nat)))
    .ok (int8Of (v / (2 ^ sh : Nat) + toSigned 32 (o.a 2)))
  else narrow outType (fmul (fint acc) (o.a 3))

/-- MATMUL of one row with the columns of a weight tensor (R251, R252). -/
def matmulRow (o : OpRec) (a b y : Tensor) (cols : Rows) (bias : Option (List Nat)) (x : List Nat) :
    Except Nat (List Nat) :=
  if a.dtype = 0 then
    cols.zipIdx.mapM fun (w, n) =>
      let acc : Int := ((List.zip x w).map fun p => toSigned 8 p.1 * toSigned 8 p.2).sum
      let acc := match bias with
        | some l => clampInt (-(2 ^ 31)) (2 ^ 31 - 1) (acc + toSigned 32 (l.getD n 0))
        | none => acc
      intResult o y.dtype acc
  else
    let xs := x.map (widen a.dtype)
    cols.zipIdx.mapM fun (w, n) =>
      let acc := dotFloat xs (w.map (widen b.dtype))
      narrow y.dtype (match bias with
        | some l => fadd acc (l.getD n 0)
        | none => acc)

/-- The largest value of a row. -/
def rowMax (l : List F32) : F32 := l.tail.foldl fmax (l.headD f0)

/-- SOFTMAX of a row. -/
def softmaxRow (x : List F32) : List F32 :=
  let m := rowMax x
  let e := x.map fun v => exp32 (fsub v m)
  let total := fsum e
  e.map fun v => fdiv v total

/-- FP32(1/n). -/
def finv (n : Nat) : F32 := fdiv f1 (fint n)

/-- RMSNORM, LAYERNORM and L2NORM of a row. -/
def rmsRow (gain : List F32) (eps : F32) (x : List F32) : List F32 :=
  let m := fmul (fsum (x.map fun v => fmul v v)) (finv x.length)
  let q := fdiv f1 (fsqrt (fadd m eps))
  List.zipWith (fun v g => fmul (fmul v q) g) x gain

def layerRow (gain bias : List F32) (eps : F32) (x : List F32) : List F32 :=
  let mu := fmul (fsum x) (finv x.length)
  let d := x.map fun v => fsub v mu
  let var := fmul (fsum (d.map fun v => fmul v v)) (finv x.length)
  let q := fdiv f1 (fsqrt (fadd var eps))
  (List.zip d (List.zip gain bias)).map fun (v, g, b) => fadd (fmul (fmul v q) g) b

def l2Row (x : List F32) : List F32 :=
  if x.all fun v => v % 2 ^ 31 == 0 then x
  else
    let q := fdiv f1 (fsqrt (fsum (x.map fun v => fmul v v)))
    x.map fun v => fmul v q

/-- ACTIVATE of a value. -/
def activate (kind : Nat) (x : F32) : F32 :=
  if kind = 0 then fmax x f0
  else if kind = 1 then fdiv x (fadd f1 (exp32 (fneg x)))
  else
    let inner := fmul (flit 7978846 7) (fadd x (fmul (fmul (flit 44715 6) x) (fmul x x)))
    fmul (fmul fHalf x) (fadd f1 (tanh32 inner))

/-- ROPE of a row at a position. -/
def ropeRow (base d p : Nat) (x : List F32) : List F32 :=
  x.zipIdx.map fun (v, k) =>
    if d ≤ k then v
    else
      let a := fmul (fint p) (ropeFrequency base (k / 2) d)
      let c := cos32 a
      let s := sin32 a
      if k % 2 = 0 then fsub (fmul v c) (fmul (x.getD (k + 1) 0) s)
      else fadd (fmul (x.getD (k - 1) 0) s) (fmul v c)

/-- ATTENTION of a query row, given the keys and values of positions 0 to p in FP32. -/
def attentionRow (heads groups width : Nat) (scale : F32) (keys values : Rows) (q : List F32) : List F32 :=
  (List.range heads).flatMap fun h =>
    let g := h * groups / heads
    let part (l : List F32) : List F32 := (l.drop (g * width)).take width
    let qh := (q.drop (h * width)).take width
    let s := keys.map fun k => fmul (fsum (List.zipWith fmul qh (part k))) scale
    let m := rowMax s
    let e := s.map fun v => exp32 (fsub v m)
    let total := fsum e
    (List.range width).map fun d =>
      fdiv (fsum (List.zipWith (fun w v => fmul w ((part v).getD d 0)) e values)) total

/-- PATCHIFY. -/
def patchify (p ch : Nat) (x : Rows) : Rows :=
  let w := (x.headD []).length / ch
  (List.range (x.length / p)).flatMap fun py => (List.range (w / p)).map fun px =>
    (List.range (p * p * ch)).map fun k =>
      let (y, xx, c) := (k / (p * ch), k / ch % p, k % ch)
      (x.getD (py * p + y) []).getD ((px * p + xx) * ch + c) 0

/-- The tensors of a pass that hold values: tensor index and rows. -/
abbrev Env := List (Nat × Rows)

/-- The rows of a tensor: of a WEIGHT or REFERENCE those of the file. -/
def rowsOfTensor (img : Bytes) (env : Env) (i : Nat) : Rows :=
  match findRows env i with
  | some r => r
  | none =>
    let t := tensorAt img i
    if t.kind = 0 ∨ t.kind = 5 then
      let w := dtypeBytes t.dtype
      (List.range t.rows).map fun r => (List.range t.cols).map fun c =>
        field img (bundleWeights img + t.offset + r * t.rowBytes + c * w) w
    else []
where
  /-- The rows written in this pass. -/
  findRows : Env → Nat → Option Rows
    | [], _ => none
    | (k, r) :: t, i => if k = i then some r else findRows t i

/-- One operator record for an item whose first row of the pass stands at a position (R260): the tensors after it. -/
def runOp (img : Bytes) (p0 : Nat) (env : Env) (o : OpRec) : Except Nat Env := do
  let a := tensorAt img o.in0
  let b := tensorAt img o.in1
  let y := tensorAt img o.out
  let x := rowsOfTensor img env o.in0
  let xs := x.map fun r => r.map (widen a.dtype)
  let wide (i : Nat) : Rows := (rowsOfTensor img env i).map fun r => r.map (widen (tensorAt img i).dtype)
  let put (r : Rows) : Env := (o.out, r) :: env
  let finish (r : Rows) : Except Nat Env := (narrowRows y.dtype r).map put
  let other (i : Nat) : List F32 := let l := wide o.in1; if b.rows = 1 then l.headD [] else l.getD i []
  match o.opcode with
  | 1 =>
    let w := rowsOfTensor img env o.in1
    let cols := (List.range b.cols).map fun n => w.map fun r => r.getD n 0
    let bias := if o.in2 = 0xFFFF then none else some ((rowsOfTensor img env o.in2).headD [])
    (x.mapM (matmulRow o a b y cols bias)).map put
  | 2 =>
    let table := wide o.in1
    let rows ← x.mapM fun r => if r.headD 0 < b.rows then Except.ok (table.getD (r.headD 0) []) else .error 0x4033
    finish rows
  | 3 => finish (xs.zipIdx.map fun (r, i) => List.zipWith fadd r (other i))
  | 4 => finish (xs.zipIdx.map fun (r, i) => List.zipWith fmul r (other i))
  | 5 => finish (xs.map (rmsRow ((wide o.in1).headD []) (o.a 0)))
  | 6 => finish (xs.map (layerRow ((wide o.in1).headD []) ((wide o.in2).headD []) (o.a 0)))
  | 7 => finish (xs.map fun r => r.map (activate (o.a 0)))
  | 8 => finish (xs.zipIdx.map fun (r, i) => ropeRow (o.a 0) (o.a 1) (p0 + i) r)
  | 9 =>
    let (kt, vt) := (tensorAt img (o.a 4), tensorAt img (o.a 5))
    let knew ← narrowRows kt.dtype (wide o.in1)
    let vnew ← narrowRows vt.dtype (wide o.in2)
    let keys := (rowsOfTensor img env (o.a 4)).take p0 ++ knew
    let vals := (rowsOfTensor img env (o.a 5)).take p0 ++ vnew
    let kw := keys.map fun r => r.map (widen kt.dtype)
    let vw := vals.map fun r => r.map (widen vt.dtype)
    let rows := xs.zipIdx.map fun (r, i) =>
      attentionRow (o.a 0) (o.a 1) (o.a 2) (o.a 3) (kw.take (p0 + i + 1)) (vw.take (p0 + i + 1)) r
    let out ← narrowRows y.dtype rows
    return (o.out, out) :: (o.a 4, keys) :: (o.a 5, vals) :: env
  | 0xA => finish (xs.map softmaxRow)
  | 0xB =>
    finish [(List.range a.cols).map fun c => fmul (fsum (xs.map fun r => r.getD c 0)) (finv xs.length)]
  | 0xC => finish [xs.getLastD []]
  | 0xD => finish (xs.map l2Row)
  | 0xE => finish (patchify (o.a 0) (o.a 1) xs)
  | _ =>
    if a.dtype = 0 then
      finish (x.map fun r => r.map fun q => fmul (fint (toSigned 8 q - toSigned 32 (o.a 1))) (o.a 0))
    else if y.dtype = 0 then
      (xs.mapM fun (r : List F32) => r.mapM fun v => narrowInt8 (fmul v (o.a 0)) (toSigned 32 (o.a 1))).map put
    else finish xs

/-- A pass of one item: the records of a phase in record order (R256). -/
def runPass (img : Bytes) (phase p0 : Nat) (env : Env) : Except Nat Env :=
  (phaseOps img phase).foldlM (runOp img p0) env

/-- The multiply-accumulates of a pass of `rows` rows (R275). -/
def passMacs (img : Bytes) (phase rows : Nat) : Nat :=
  ((phaseOps img phase).map fun o =>
    if o.opcode = 1 then
      let a := tensorAt img o.in0
      (if a.rows = 0 then rows else a.rows) * a.cols * (tensorAt img o.in1).cols
    else 0).sum

/-- The matrix operators of a phase. -/
def passMatmuls (img : Bytes) (phase : Nat) : Nat := ((phaseOps img phase).filter fun o => o.opcode == 1).length

/-- The item's state tensors after a pass. -/
def stateTensors (img : Bytes) (env : Env) : Env :=
  ((List.range (bundleTensors img)).filter fun i => (tensorAt img i).kind == 4).map fun i => (i, rowsOfTensor img env i)

/-- The last OUTPUT row of a pass in FP32. -/
def outputRow (img : Bytes) (env : Env) : List F32 :=
  ((rowsOfTensor img env (bundleOutput img)).getLastD []).map (widen (tensorAt img (bundleOutput img)).dtype)

/-! ## CURATE and FILTER blocks -/

/-- The TRANSFORM block of the view (R263). -/
def viewBlock (p : Bytes) : Bytes := slice 0x180 256 p

/-- The prefix tokens of a CURATE block. -/
def curatePrefix (p : Bytes) : List Nat := (List.range (field p 0x24 2)).map fun i => field p (0x80 + 4 * i) 4

/-- The end-of-sequence tokens of a CURATE block. -/
def curateEos (p : Bytes) : List Nat :=
  [field p 0x1C 4, field p 0x20 4].filter fun t => t != 0xFFFFFFFF

/-- The job as a view sees it (R262): VIEW_ELEMENT, VIEW_CHANNELS and VIEW_FRAMES in place of the geometry's. -/
def viewJob (j : Job) (p : Bytes) : Job :=
  { j with elementType := byteAt p 0x0A, imageChannels := byteAt p 0x0B, audioFrames := field p 0x18 4 }

/-- The DTYPE of a view's element type. -/
def viewDtype (e : Nat) : Nat :=
  if e = 1 then 0 else if e = 2 then 3 else if e = 4 then 4 else if e = 5 then 1 else 2

/-- The extents of a view: rows and columns (R172, R176, R262). -/
def viewExtents (j : Job) (cls : Nat) (p : Bytes) : Nat × Nat :=
  let b := viewBlock p
  if cls = 0 then (outExtent (field b 6 2) j.imageHeight, outExtent (field b 4 2) j.imageWidth * byteAt p 0x0B)
  else (field p 0x18 4, if byteAt b 0xC1 = 1 then field b 0xCC 2 else 1)

/-- The bytes of a tensor as rows of element codes. -/
def rowsFromBytes (cols width : Nat) (b : Bytes) : Rows :=
  (List.range (b.length / (cols * width))).map fun r => (List.range cols).map fun c => field b ((r * cols + c) * width) width

/-- The input tensors of an item's prefill, its prompt length, and whether the prompt was cut; or the code with which
the item ends (R262). `vocab` is the image of VOCAB_DIGEST. -/
def curateInput (j : Job) (img vocab param input : Bytes) (stage epoch position maxBytes : Nat) :
    Except Nat (Env × Nat × Bool) :=
  let cls := bundleClass img
  let ids (l : List Nat) : Rows := l.map fun t => [t]
  if cls = 2 then
    let text := cleanText false (sampleData input)
    let all := curatePrefix param ++ matchTokens vocab text.length text
    let most := field param 0x14 4
    let toks := all.take most
    if toks.isEmpty then .error 0x4030
    else .ok ([(bundleInput img, ids toks)], toks.length, decide (most < all.length))
  else
    let view := if cls = 0 then
        (warp (viewJob j param) maxBytes stage epoch position 0 (viewBlock param) input).map Warped.bytes
      else (transformSignal (viewJob j param) maxBytes stage epoch position (viewBlock param) input).map SignalOut.bytes
    view.map fun bytes =>
      let t := tensorAt img (bundleInput img)
      let rows := rowsFromBytes t.cols (elementBytes (byteAt param 0x0A)) bytes
      if bundlePrompt img = 0xFFFF then ([(bundleInput img, rows)], rows.length, false)
      else ([(bundleInput img, rows), (bundlePrompt img, ids (curatePrefix param))], field param 0x24 2, false)

/-! ## The token loop -/

/-- Order of candidates: z descending, the lower identifier first on a tie (R269). -/
def candidateBefore (a b : F32 × Nat) : Bool :=
  flt b.1 a.1 || (!flt a.1 b.1 && decide (a.2 ≤ b.2))

/-- A candidate put at its place. -/
def insertCandidate (c : F32 × Nat) : List (F32 × Nat) → List (F32 × Nat)
  | [] => [c]
  | d :: t => if candidateBefore d c then d :: insertCandidate c t else c :: d :: t

/-- select of R269: the token, or the code with which the item ends. `method` is 0 GREEDY, 1 TOPK, 2 TOPP. -/
def selectToken (method topK : Nat) (topP temperature : F32) (u : F32) (banned : Nat → Bool) (logits : List F32) :
    Except Nat Nat :=
  let open_ := logits.zipIdx.filter fun l => !banned l.2
  if open_.any fun l => (match f32 l.1 with | .nan => true | .inf neg => !neg | _ => false) then .error 0x4031
  else if method = 0 then
    .ok (match open_ with
      | [] => 0
      | h :: t => (t.foldl (fun best l => if flt best.1 l.1 then l else best) h).2)
  else
    let invT := fdiv f1 temperature
    let ordered := (open_.map fun l => (fmul l.1 invT, l.2)).foldl (fun acc c => insertCandidate c acc) []
    let kept := ordered.take (if method = 1 then topK else 1024)
    let m := (kept.headD (f0, 0)).1
    let sums := kept.foldl (fun (acc : List (F32 × Nat) × F32) c =>
      let s := fadd acc.2 (exp32 (fsub c.1 m))
      (acc.1 ++ [(s, c.2)], s)) ([], f0)
    let all := sums.1
    let bound := fmul topP sums.2
    let cut := if method = 2 then
        match all.findIdx? fun c => fle bound c.1 with
        | some i => all.take (i + 1)
        | none => all
      else all
    let last := cut.getLastD (f0, 0)
    let target := fmul u last.1
    .ok (((cut.find? fun c => flt target c.1).getD last).2)

/-! ## Results -/

/-- A result record of R264. -/
def resultRecord (ref sample stage role cause flags reason : Nat) (payload : Bytes) : Bytes :=
  let body := padTo (roundUp payload.length 8) payload
  let head := leBytes 8 ref ++ leBytes 8 sample ++ leBytes 1 stage ++ leBytes 1 role ++ leBytes 1 cause ++
    leBytes 1 flags ++ leBytes 2 reason ++ zeros 2 ++ leBytes 4 body.length
  head ++ leBytes 4 (crc32c (head ++ body)) ++ body

/-- The payload of scores or an embedding. -/
def scoresPayload (l : List F32) : Bytes := l.flatMap (leBytes 4)

/-- The payload of a generation. -/
def generationPayload (tokens : List Nat) (text : Bytes) : Bytes :=
  leBytes 4 tokens.length ++ leBytes 4 text.length ++ tokenBytes tokens ++ text

/-- The n-th score of a result record. -/
def scoreOf (rec_ : Bytes) (n : Nat) : F32 := field rec_ (0x20 + 4 * n) 4

/-- Does a condition hold on the results of an item (R267)? `bundleOf` gives the bundle of a stage. -/
def conditionHolds (results : List (Nat × Bytes)) (bundleOf : Nat → Bytes) (c : Bytes) : Bool :=
  let stage := byteAt c 1
  match results.find? fun r => r.1 == stage with
  | none => false
  | some (_, r) =>
    let element := field c 2 2
    let th := field c 4 4
    match byteAt c 0 with
    | 1 => flt (scoreOf r element) th
    | 2 => fle th (scoreOf r element)
    | 3 => byteAt r 0x12 == element
    | 4 =>
      let img := bundleOf stage
      let t := tensorAt img element
      let dots := (rowsOfTensor img [] element).map fun row =>
        fsum (row.zipIdx.map fun (v, k) => fmul (scoreOf r k) (widen t.dtype v))
      match dots with
      | [] => false
      | h :: l => fle th (l.foldl fmax h)
    | _ => field r 0x24 4 == 0

/-- FILTER on the results of an item: the number of the first condition that holds (R267). -/
def filterHit (param : Bytes) (results : List (Nat × Bytes)) (bundleOf : Nat → Bytes) : Option Nat :=
  (List.range (byteAt param 0)).find? fun k => conditionHolds results bundleOf (slice (8 + 16 * k) 16 param)

end Sys2Proof.Machine
end

