-- ==== Sys2Proof/Machine/Params.lean ====
section
/-! DEFINITION. The parameter blocks of the stages: the lengths each kind allows, the ranges of their fields, and what a
stage takes from its block (R89, R118, R151, R177, R193, R208, R237, R263, R266, R298). -/

namespace Sys2Proof.Machine

/-- The offset of the first field of a list that is not in its range. -/
def firstBad (l : List (Nat × Bool)) : Option Nat := (l.find? fun f => !f.2).map Prod.fst

/-- A one-byte field of at most `hi`. -/
def byteUpTo (b : Bytes) (o hi : Nat) : Nat × Bool := (o, decide (byteAt b o ≤ hi))

/-- A field of `n` bytes from `lo` to `hi`. -/
def fieldWithin (b : Bytes) (o n lo hi : Nat) : Nat × Bool := (o, decide (lo ≤ field b o n ∧ field b o n ≤ hi))

/-- A reserved field of `n` bytes. -/
def reserved (b : Bytes) (o n : Nat) : Nat × Bool := (o, allZero (slice o n b))

/-- The payload kinds of R77. -/
def payloadKinds : List Nat := [0x01, 0x02, 0x03, 0x04, 0x10, 0x11, 0x12, 0x20, 0x21, 0x22, 0x23]

/-- The media class of a payload kind (R77). -/
def kindClass (k : Nat) : Nat := k / 16

/-- The code with which a PARAM_LENGTH that a stage kind does not allow is refused, 0 for one it allows (R584). -/
def lengthCode (kind n : Nat) : Nat :=
  let need (ok : Bool) (code : Nat) : Nat := if ok then 0 else code
  match kind with
  | 0x04 => need (n == 0 || n == 16) 0x800A
  | 0x06 => need (n == 640) 0x4020
  | 0x07 => need (decide (24 ≤ n ∧ n ≤ 264 ∧ n % 16 = 8)) 0x4022
  | 0x08 => need (n == 0 || n == 256) 0x800A
  | 0x09 => need (decide (16 ≤ n ∧ n % 8 = 0)) 0x4808
  | 0x0A => need (n == 48) 0x3828
  | 0x0B => need (n == 0 || n == 16) 0x800A
  | _ => need (n == 0 || n == 8) 0x800A

/-- The CURATE fields whose ranges do not depend on the bundle, in offset order (R263, 0x4020). -/
def curateFields (b : Bytes) : List (Nat × Bool) :=
  [byteUpTo b 0 1, byteUpTo b 1 1, (2, decide (byteAt b 2 ≤ 2 ∨ byteAt b 2 = 0xFF)), byteUpTo b 3 1,
    fieldWithin b 4 4 0 65536, fieldWithin b 8 2 1 1024, (0x0A, [0, 1, 2, 4, 5, 6].contains (byteAt b 0x0A)),
    (0x0B, [0, 1, 3].contains (byteAt b 0x0B)), (0x0C, flt f0 (pf b 0x0C) && fle (pf b 0x0C) f1),
    (0x10, inRange (flit 1 2) (fint 100) (pf b 0x10)), fieldWithin b 0x18 4 0 1048576, fieldWithin b 0x24 2 0 64,
    reserved b 0x26 10, reserved b 0x70 16]

/-- The conditions of a FILTER block, each with its offset (R266). -/
def filterConditions (b : Bytes) : List (Nat × Bytes) :=
  (List.range (byteAt b 0)).map fun k => (8 + 16 * k, slice (8 + 16 * k) 16 b)

/-- The FILTER fields in offset order (R266). -/
def filterFields (b : Bytes) : List (Nat × Bool) :=
  [(0, decide (1 ≤ byteAt b 0 ∧ byteAt b 0 ≤ 16)), reserved b 1 7] ++
    (filterConditions b).flatMap fun (o, c) =>
      [(o, decide (1 ≤ byteAt c 0 ∧ byteAt c 0 ≤ 5)), (o + 4, ffinite (pf c 4)), (o + 8, allZero (slice 8 8 c))]

/-- What is wrong with a parameter block of a legal length taken by itself: the code, and the offset within the block, or
nothing where PARAM_LENGTH is what disagrees (R16). An empty block stands for the defaults and is right. -/
def blockFault (kind : Nat) (b : Bytes) : Option (Nat × Option Nat) :=
  let at_ (code : Nat) (l : List (Nat × Bool)) : Option (Nat × Option Nat) := (firstBad l).map fun o => (code, some o)
  let plain (l : List (Nat × Bool)) : Option (Nat × Option Nat) := if b.isEmpty then none else at_ 0x800A l
  match kind with
  | 0x01 => plain [byteUpTo b 0 4, reserved b 1 7]
  | 0x02 => plain [(0, (List.range 64).all fun k => !bit (field b 0 8) k || payloadKinds.contains k)]
  | 0x03 =>
    plain [reserved b 2 2, (4, decide (field b 4 4 = 0 ∨ (4096 ≤ field b 4 4 ∧ field b 4 4 ≤ 1073741824)))]
  | 0x04 =>
    plain [fieldWithin b 0 2 1 1000, byteUpTo b 2 5, byteUpTo b 3 1, byteUpTo b 4 1, byteUpTo b 5 1, reserved b 6 2,
      (8, decide (field b 8 4 = 0 ∨ 16 ≤ field b 8 4)), reserved b 12 4]
  | 0x05 => plain [byteUpTo b 0 1, byteUpTo b 1 1, reserved b 2 6]
  | 0x06 => at_ 0x4020 (curateFields b)
  | 0x07 =>
    if 1 ≤ byteAt b 0 ∧ byteAt b 0 ≤ 16 ∧ b.length ≠ 8 + 16 * byteAt b 0 then some (0x4022, none)
    else at_ 0x4022 (filterFields b)
  | 0x08 => plain (transformFields b)
  | 0x09 =>
    if b.length ≠ roundUp (16 + field b 4 2) 8 then some (0x4808, none)
    else at_ 0x4808 [fieldWithin b 4 2 0 512, reserved b 6 10]
  | 0x0A =>
    match firstBad [byteUpTo b 0x20 2, byteUpTo b 0x21 1, byteUpTo b 0x22 1, reserved b 0x23 1, (0x2C, field b 0x2C 4 != 1)]
    with
    | some o => some (0x800A, some o)
    | none =>
      let m := field b 0x2C 4
      if m ≠ 0 ∧ m < 1 + byteAt b 0x21 + byteAt b 0x22 then some (0x3828, some 0x2C) else none
  | 0x0B => plain [fieldWithin b 4 2 1 256, reserved b 6 10]
  | 0x0C => plain [fieldWithin b 0 1 1 16, reserved b 1 7]
  | 0x0D => plain [byteUpTo b 0 1, reserved b 1 7]
  | _ => none

/-! ## What the stages take -/

/-- The parameter block of a job's stage of a kind that appears at most once; empty where the stage is absent. -/
def Job.param (j : Job) (kind : Nat) : Bytes := ((j.stageOf kind).map fun e => e.2.param).getD []

/-- COPY_LIMIT of SOURCE; 0 is all (R89). -/
def Job.copyLimit (j : Job) : Nat := byteAt (j.param 0x01) 0

/-- ACCEPT_KINDS of PARSE, 0 accepting every kind (R89). -/
def Job.acceptKinds (j : Job) : Nat := field (j.param 0x02) 0 8

/-- MAX_RATIO and OUTPUT_LIMIT of DECOMPRESS; 0 takes the device's (R151). -/
def Job.maxRatio (j : Job) : Nat := field (j.param 0x03) 0 2
def Job.outputLimit (j : Job) : Nat := field (j.param 0x03) 4 4

/-- The settings DECODE works under (R151, R153). -/
def State.decodeSettings (s : State) (j : Job) : DecodeSettings :=
  let b := j.param 0x04
  let own : DecodeSettings :=
    if b.isEmpty then {}
    else { budgetFactor := field b 0 2, reduce := byteAt b 2, upsample := byteAt b 3, alphaMode := byteAt b 4
           flacMd5 := byteAt b 5 == 1, workLimit := field b 8 4 * 65536 }
  { own with
    workLimit := if own.workLimit = 0 then s.get Obj.defaultWorkLimit else own.workLimit
    maxBytes := s.get Obj.maxDecodedBytes
    slowLane := decide (0 < s.get Obj.slowLanePiers) }

/-- PIN and FLASH_TIER of CACHE (R193). -/
def Job.cachePin (j : Job) : Bool := byteAt (j.param 0x05) 0 == 1
def Job.flashTier (j : Job) : Bool := (j.param 0x05).isEmpty || byteAt (j.param 0x05) 1 == 1

/-- PAD_TOKEN and SEQS_PER_SLICE of PACK (R118). -/
def Job.padToken (j : Job) : Nat := field (j.param 0x0B) 0 4
def Job.seqsPerSlice (j : Job) : Nat := if (j.param 0x0B).isEmpty then 1 else field (j.param 0x0B) 4 2

/-- MAX_SUBSTITUTE_TRIES of BATCH (R118). -/
def Job.substituteTries (j : Job) : Nat := if (j.param 0x0C).isEmpty then 4 else byteAt (j.param 0x0C) 0

/-- LOW_WATER_EVENT of DELIVER (R208). -/
def Job.lowWaterEvent (j : Job) : Bool := (j.param 0x0D).isEmpty || byteAt (j.param 0x0D) 0 == 1

/-- Does some stream carry a class? -/
def Job.carries (j : Job) (cls : Nat) : Bool := (j.streamOf cls).isSome

/-- The loaded image of a kind with a digest (R224, R257, R296): kind 0 vocabulary, 1 control set, 2 bundle, 3 kernel. -/
def State.loadedImage (s : State) (kind dig : Nat) : Option Loaded :=
  s.images.find? fun l => l.kind == kind && !l.building && digestNat l.bytes == dig

/-- The bytes of a loaded image, none where it is not loaded. -/
def State.imageBytes (s : State) (kind dig : Nat) : Bytes := ((s.loadedImage kind dig).map Loaded.bytes).getD []

/-- V of the vocabulary a control set was made for: the loaded vocabulary whose tag it carries (R230). -/
def State.controlVocab (s : State) (img : Bytes) : Nat :=
  match s.images.find? fun l => l.kind == 0 && !l.building && digestNat l.bytes % 2 ^ 64 == controlTag img with
  | some l => vocabSize l.bytes
  | none => 0

/-- The image that a CURATE or KERNEL stage references through BUNDLES (R20). -/
def State.stageImage (s : State) (j : Job) (st : StageRec) : Bytes :=
  match j.bundles[st.refIndex]? with
  | some r => s.imageBytes (if r.refKind = 1 then 2 else 3) r.digest
  | none => []

/-- Does a kernel package emit a class as a tensor (R295)? -/
def kernelEmits (img : Bytes) (cls : Nat) : Bool := cls < 2 && bit (byteAt img 0x0F) cls

/-- Does a stage make the tensor of a class (R157): a TRANSFORM in tensor form, or a KERNEL that declares one? -/
def State.makesTensor (s : State) (j : Job) (st : StageRec) (cls : Nat) : Bool :=
  bit st.classMask cls &&
    (if st.kind = 0x08 then byteAt (transformBlock st.param) (if cls = 0 then 0 else 0xC0) == 1
     else st.kind == 0x09 && kernelEmits (s.stageImage j st) cls)

end Sys2Proof.Machine
end

