-- ==== Sys2Proof/Machine/Geometry.lean ====
section
/-! DEFINITION. The sizes of tensors, slices and Shoes that a manifest fixes, and the landing ring of a consumer (R195,
R201, R202, R205). -/

namespace Sys2Proof.Machine

/-- The last TRANSFORM block that acts on signals, if any: it decides waveform or log-mel (R176). -/
def Job.signalBlock (j : Job) : Option Bytes :=
  ((j.stages.filter fun st => st.kind == 0x08 && bit st.classMask 1).getLast?).map fun st => transformBlock st.param

/-- MEL_BANDS where the job's signals are log-mel, 0 for a waveform. -/
def Job.melBands (j : Job) : Nat :=
  match j.signalBlock with
  | some b => if byteAt b 0xC1 = 1 then field b 0xCC 2 else 0
  | none => 0

/-- HOP of the job's log-mel frames. -/
def Job.hop (j : Job) : Nat := (j.signalBlock.map fun b => field b 0xCA 2).getD 1

/-- The elements of the full tensor of an image or a signal (R199). -/
def Job.tensorElements (j : Job) (cls : Nat) : Nat :=
  if cls = 0 then j.imageHeight * j.imageWidth * j.imageChannels else j.audioFrames * max 1 j.melBands

/-- Its bytes. -/
def Job.tensorBytes (j : Job) (cls : Nat) : Nat := j.tensorElements cls * elementBytes j.elementType

/-- The TOKENIZE stage that acts on text, if any. -/
def Job.tokenizeStage (j : Job) : Option StageRec :=
  j.stages.find? fun st => st.kind == 0x0A && bit st.classMask 2

/-- The largest tensor of a class (R201). -/
def largestTensor (maxDecoded : Nat) (j : Job) (cls : Nat) : Nat :=
  if cls < 2 then j.tensorBytes cls
  else match j.tokenizeStage with
    | none => maxDecoded - 64
    | some st =>
      let m := (tokenizeParams st.param).maxTokens
      4 * (if m = 0 then (maxDecoded - 64) / 4 else m)

/-- SliceBytesMax of a stream (R201). -/
def sliceBytesMax (maxDecoded : Nat) (j : Job) (st : StreamRec) : Nat :=
  if j.packedStream st then
    let n := j.seqsPerSlice * j.seqLen
    roundUp (64 + 32 * n) 64 + roundUp (4 * n) 64
  else
    let n := j.batchSize / j.sliceCount
    let most := (((List.range 3).filter fun c => bit st.classMask c).map fun c => roundUp (largestTensor maxDecoded j c) 64).foldl
      max 0
    64 + 64 * n + most * n

/-- PullSliceStride and the directory of the export region (R205). -/
def pullSliceStride (maxDecoded : Nat) (j : Job) (st : StreamRec) : Nat := roundUp (sliceBytesMax maxDecoded j st) 4096
def pullDirectoryBytes (st : StreamRec) : Nat := roundUp (32 * st.depth) 4096

/-- The space of `n` batches of a stream in its Shoe, the whole directory under PULL included (R195). -/
def shoeSpace (maxDecoded : Nat) (j : Job) (st : StreamRec) (n : Nat) : Nat :=
  if st.delivery = 0 then n * j.sliceCount * sliceBytesMax maxDecoded j st
  else pullDirectoryBytes st + n * j.sliceCount * pullSliceStride maxDecoded j st

/-- ShoeNeedBytes of a stream and its reservation (R195). -/
def shoeNeed (maxDecoded : Nat) (j : Job) (st : StreamRec) : Nat := shoeSpace maxDecoded j st st.depth
def shoeReserve (maxDecoded : Nat) (j : Job) (st : StreamRec) : Nat := shoeSpace maxDecoded j st st.lowWater

/-- The bytes of the export region of a stream (R205). -/
def exportBytes (maxDecoded : Nat) (j : Job) (st : StreamRec) : Nat := shoeNeed maxDecoded j st

/-- The streams whose consumer ranges include a consumer, with their numbers. -/
def Job.streamsOfConsumer (j : Job) (c : Nat) : List (Nat × StreamRec) :=
  (j.streams.zipIdx.filter fun e => decide (e.1.firstConsumer ≤ c ∧ c < e.1.firstConsumer + e.1.count)).map fun e =>
    (e.2, e.1)

/-- A × G of a consumer: the ring is divided among so many (stream, entry) pairs (R202). -/
def Job.ringShares (j : Job) (c : Nat) : Nat :=
  j.assemblers.length * ((j.streamsOfConsumer c).filter fun e => e.2.delivery == 0).length

/-- The rank of a stream among the PUSH streams of a consumer (R202). -/
def Job.ringRank (j : Job) (c k : Nat) : Nat :=
  ((j.streamsOfConsumer c).filter fun e => e.2.delivery == 0 && decide (e.1 < k)).length

/-- The ring slots that an entry owns in a consumer's ring, for one stream. -/
def Job.ringOwned (j : Job) (c : Nat) : Nat :=
  ((j.consumers[c]?).map ConsumerRec.ringSlots).getD 0 / j.ringShares c

/-- The ring slot of the k-th slice that entry `a` delivers to a consumer on a stream (R202). -/
def Job.ringSlot (j : Job) (c stream a k : Nat) : Nat :=
  j.ringRank c stream * j.assemblers.length + a + j.ringShares c * (k % j.ringOwned c)

end Sys2Proof.Machine
end

