-- ==== Sys2Proof/Machine/Items.lean ====
section
/-! DEFINITION. What every item shares: its owner and assembler, its history, the engines it runs on and their dispatch,
its way from stage to stage, its failure and its outputs (R87, R103, R123, R146, R432, R437 to R439). -/

namespace Sys2Proof.Machine

/-- The entries of the Item Table (R36); samples prepared on request stand at entries from here on. -/
def itemTable : Nat := 4096

/-- The SampleRef of an item (R10). -/
def Item.ref (it : Item) : Nat := sampleRef it.slot it.epoch it.position

/-- Is it an item of the Item Table? A substitute is not a separate item (R107). -/
def Item.own (it : Item) : Bool := decide (it.entry < itemTable)

/-- The items of a slot in the Item Table. -/
def State.itemsOf (s : State) (slot : Nat) : List Item := s.items.filter fun it => it.own && it.slot == slot

/-! ## Owners and assemblers -/

/-- The devices that hold a shard, in the order in which its copies are tried, members only (R87, R88). -/
def State.copyNodes (s : State) (slot : Nat) (sh : ShardRec) : List Nat :=
  let j := s.job slot
  (((sh.primary :: sh.alternates).map fun n => ((j.nodes[n]?).map fun x => standIn (s.slot slot).inForce x.uid).getD 0).filter
    (· != 0)).eraseDups

/-- The owner of a sample (R87). -/
def State.ownerOf (s : State) (slot x : Nat) : Nat :=
  match (s.job slot).shardOf x with
  | some (_, sh) => (s.copyNodes slot sh).headD 0
  | none => 0

/-- The device of an assembler entry under a replacement list: a removed node's entries go to the first later entry that
has a member (R442). -/
def Job.assemblerAt (j : Job) (l : List Replacement) (a : Nat) : Nat :=
  let n := j.assemblers.length
  (((List.range n).map fun i => standIn l (((j.assemblers[(a + i) % n]?).map NodeRec.uid).getD 0)).find? (· != 0)).getD 0

/-- The assembler of batch `b` (R23, R116). -/
def State.assemblerOf (s : State) (slot b : Nat) : Nat := (s.job slot).assemblerAt (s.slot slot).inForce b

/-! ## Censuses and packing plans -/

/-- The census of an epoch of a slot. -/
def State.census (s : State) (slot epoch : Nat) : Option Census := (s.slot slot).censuses.find? (·.epoch == epoch)

/-- The census of an epoch, once READY. -/
def State.censusReady (s : State) (slot epoch : Nat) : Option Census :=
  (s.census slot epoch).filter fun c => c.state == 2

/-- A slot's census takes its new standing. -/
def State.putCensus (s : State) (slot : Nat) (c : Census) : State :=
  s.modSlot slot fun sl => { sl with censuses := (sl.censuses.filter fun x => x.epoch != c.epoch) ++ [c] }

/-- P, the sequences of a packed batch (R116). -/
def Job.packSize (j : Job) : Nat := j.sliceCount * j.seqsPerSlice

/-- The sequences of an epoch (R114, R115). -/
def Job.plan (j : Job) (c : Census) : List (List Segment) := packPlan j.seqLen j.packWindow c.text

/-- The packed batches of an epoch with so many sequences (R116). -/
def Job.packedCount (j : Job) (sequences : Nat) : Nat :=
  if j.lastBatch = 1 then ceilDiv sequences j.packSize else sequences / j.packSize

/-- The packed batches that hold segments of the document at a position, from a census (R116). -/
def Job.batchesOfDocument (j : Job) (c : Census) (position : Nat) : List Nat :=
  match c.text.findIdx? (·.position == position) with
  | none => []
  | some rank =>
    let seqs := ((j.plan c).zipIdx.filter fun e => e.1.any fun g => g.rank == rank).map Prod.snd
    ((seqs.map fun q => q / j.packSize).filter fun b => decide (b < j.packedCount (j.plan c).length)).eraseDups

/-- The batches that deliver a position, with their streams: nothing known yet where the plan is not ready; the list is
empty where no batch does (R102, R116, R589). A class not known is taken to travel unpacked. -/
def State.batchesOf (s : State) (slot epoch position cls : Nat) : Option (List (Nat × Nat)) :=
  let j := s.job slot
  match j.streamOf cls with
  | none => if cls < 3 then some [] else some [(0, position / j.batchSize)]
  | some k =>
    if cls = 2 ∧ j.packs then (s.censusReady slot epoch).map fun c => (j.batchesOfDocument c position).map fun b => (k, b)
    else some [(k, position / j.batchSize)]

/-! ## History -/

/-- The 64 bytes of a history record (R438). -/
def HistoryRec.encode (r : HistoryRec) : Bytes :=
  let b := leBytes 8 r.ref ++ leBytes 8 r.sample ++ leBytes 8 r.talon ++ leBytes 1 r.kind ++ leBytes 1 r.ending ++
    leBytes 2 r.reason ++ leBytes 2 r.attempt ++ leBytes 1 r.lastState ++ leBytes 1 r.lastStage ++ leBytes 2 r.flags ++
    leBytes 1 r.perturb ++ leBytes 1 r.retries ++ leBytes 2 r.generation ++ zeros 2 ++ leBytes 4 r.faultSeq ++
    leBytes 4 r.faultPc ++ leBytes 8 r.issueTick ++ leBytes 4 r.endTicks
  b ++ leBytes 4 (crc32c b)

/-- The records a store of some bytes holds (R439). -/
def recordsIn (bytes : Nat) : Nat := bytes / 64

/-- Is the replacement log of a slot full (R439)? -/
def State.logFull (s : State) (slot : Nat) : Bool :=
  decide (recordsIn (s.get Obj.replacementLogBytes) ≤ (s.slot slot).replacementLog.length)

/-- A history record is written; a timing replacement that was not itself recorded is copied to the log (R439). -/
def State.writeHistory (s : State) (slot : Nat) (r : HistoryRec) : State :=
  let most := recordsIn (s.get Obj.itemHistoryBytes)
  let s := (s.modSlot slot fun sl =>
    { sl with history := sl.history.drop (sl.history.length + 1 - most) ++ [r] }).bump (inst Obj.historyRecords slot)
  if r.kind = 2 ∧ bit r.flags 2 ∧ ¬ bit r.flags 7 ∧ ¬ s.logFull slot then
    (s.modSlot slot fun sl => { sl with replacementLog := sl.replacementLog ++ [r] }).bump
      (inst Obj.replacementsLogged slot)
  else s

/-- The object that shows the last code of its group with which an item of a slot ended. -/
def lastReasonObject (code : Nat) : Option Nat :=
  if code / 0x1000 = 1 then some Obj.lastSourceReason
  else if code / 0x1000 = 2 then some Obj.lastDecodeReason
  else if 0x3000 ≤ code ∧ code < 0x3800 then some Obj.lastTransformReason
  else if 0x3800 ≤ code ∧ code < 0x4000 then some Obj.lastTextReason
  else if 0x4000 ≤ code ∧ code < 0x4800 then some Obj.lastCurateReason
  else if 0x4800 ≤ code ∧ code < 0x5000 then some Obj.lastKernelReason
  else none

/-- An item of a slot ends with a reason. -/
def State.noteEnd (s : State) (slot code : Nat) : State :=
  match lastReasonObject code with
  | some k => s.set (inst k slot) code
  | none => s

/-- A reason that says hardware filled the position (R433). -/
def hardwareReason (code : Nat) : Bool := code == 0x7002 || code == 0x7021 || code == 0x7050

/-- A filter decision (R107, R267, R290). -/
def filterReason (code : Nat) : Bool := code / 16 == 0x407 || code / 16 == 0x488

/-- The owner's record of an item (R438). -/
def Item.ownerRecord (it : Item) (now : Nat) : HistoryRec :=
  { ref := it.ref, sample := it.sample, talon := noRef, kind := 1, ending := 0, reason := it.reason, attempt := 0
    lastState := if it.reason = 0 then it.st else it.failState, lastStage := it.failStage, flags := it.flags
    perturb := it.perturb, retries := min 255 it.retries, generation := it.generation, faultSeq := it.faultSeq
    faultPc := it.faultPc, issueTick := it.issueTick, endTicks := min (2 ^ 32 - 1) (now - it.issueTick) }

/-! ## Engines -/

/-- The kind of engine a stage wants of an item (R123, R156), coded as in R435; nothing where it wants none. -/
def Item.engineKind (it : Item) (j : Job) : Option Nat :=
  if it.stage = 255 then some 4
  else match (j.stages[it.stage]?).map StageRec.kind with
    | some 0x03 => some 4
    | some 0x04 => some (if it.slow then 8 else if it.kind < 0x10 then 1 else 2)
    | some 0x08 => some (if it.cls = 0 then 3 else 2)
    | some 0x0A => some 5
    | _ => none

/-- The physical Piers that serve as the slow lane, those of the kernel pool, and those that can take the place of a retired one: the
four spares, then the curation Piers from the highest down (R142, R277, R278). Retired Piers are replaced in the order in
which they were retired. -/
def State.pierRoles (s : State) : List Nat × List Nat × List Nat :=
  let slow := s.get Obj.slowLanePiers
  let pool := s.get Obj.kernelPiers
  let retired := (s.elements.filter fun e => e.kind == 8 && !e.inService).map (·.num)
  retired.foldl
    (fun (r : List Nat × List Nat × List Nat) n =>
      let spare := r.2.2.take 1
      let swap (l : List Nat) : List Nat := l.flatMap fun m => if m = n then spare else [m]
      if r.1.contains n then (swap r.1, r.2.1, r.2.2.drop 1)
      else if r.2.1.contains n then (r.1, swap r.2.1, r.2.2.drop 1)
      else
        let left := r.2.2.filter (· != n)
        match left with
        | m :: t => if 64 ≤ m ∧ n < 64 then (r.1, r.2.1, t ++ [m]) else (r.1, r.2.1, left)
        | [] => (r.1, r.2.1, left))
    (List.range slow, List.range' slow pool,
      [64, 65, 66, 67] ++ (List.range' (slow + pool) (64 - slow - pool)).reverse)

/-- The numbers of the engines of a kind as built, spares apart: those of the second pipeline tile follow from 64 on; of the
Piers, those of the slow lane (R124, R142, R156, R221). -/
def engineBase (s : State) (kind : Nat) : List Nat :=
  let both (n : Nat) : List Nat := List.range n ++ List.range' 64 n
  match kind with
  | 1 => both 16
  | 2 => both 8
  | 3 => both 4
  | 4 => both 4
  | 5 => both (s.get Obj.tokenizerEnginesPerTile)
  | 8 => s.pierRoles.1
  | _ => []

/-- The engines of a kind in service. -/
def State.enginesOf (s : State) (kind : Nat) : List Nat :=
  let listed := s.elements.filter (·.kind == kind)
  let base := engineBase s kind
  (base.filter fun n => (listed.find? (·.num == n)).all (·.inService)) ++
    ((listed.filter fun e => e.inService && e.spare && !base.contains e.num).map (·.num))

/-- The engines of a kind in service that hold no item; while compression is waiting, some Zstandard engines of each tile are
kept for it (R128). -/
def State.freeEngines (s : State) (kind : Nat) : List Nat :=
  let free := (s.enginesOf kind).filter fun n => s.items.all fun it => it.engine != some (kind, n)
  if kind = 4 ∧ s.cache.compressing ≠ [] then
    let keep := s.get Obj.cacheCompressEnginesMin
    (free.filter (· < 64)).drop keep ++ (free.filter (64 ≤ ·)).drop keep
  else free

/-- The unit number of an engine in its tile's counter bank (R528). -/
def engineUnit (kind num : Nat) : Nat :=
  let n := num % 64
  match kind with
  | 1 => n
  | 2 => 18 + n
  | 3 => 28 + n
  | 5 => 32 + n
  | _ => 34 + n

/-- An event of the engine an item runs on, in its tile's bank. -/
def State.engineEvent (s : State) (it : Item) (code weight : Nat) : State :=
  match it.engine with
  | some (k, n) => if k = 8 then s else s.event (1 + n / 64) code weight (some (engineUnit k n)) (some it.slot)
  | none => s

/-- The cost of an item in units of 64 ticks (R78, R79, R146). -/
def State.costOf (s : State) (it : Item) : Nat :=
  match (s.slot it.slot).annotations.find? fun a => a.sample == it.sample && a.cost != 0 with
  | some a => a.cost
  | none =>
    if it.cost ≠ 0 then it.cost
    else s.get (if it.cls = 0 then Obj.defaultCostImage else if it.cls = 1 then Obj.defaultCostSignal else
      Obj.defaultCostText)

/-- BatchPeriodTicks (R146). -/
def State.batchPeriod (s : State) (slot : Nat) : Nat :=
  let l := (s.slot slot).batchTicks
  if l.length < 17 then s.get Obj.sliceTicks else (l.getLastD 0 - l.headD 0) / 16

/-- The due value of an item (R146); an item of a later epoch stands after the batches of the epochs between. -/
def State.dueOf (s : State) (it : Item) : Int :=
  let j := s.job it.slot
  let batch : Int := (it.position / j.batchSize : Nat) +
    ((it.epoch : Int) - s.get (inst Obj.currentEpoch it.slot)) * j.batchCount
  (batch - s.get (inst Obj.nextBatch it.slot)) * s.batchPeriod it.slot - 64 * s.costOf it

/-- Does an item wait for an engine of a kind? -/
def State.queuedFor (s : State) (kind : Nat) (it : Item) : Bool :=
  !it.prepared && it.engine.isNone && it.waitOut.isNone && it.engineKind (s.job it.slot) == some kind

/-- Does its slot hold the class the engine belongs to (R37)? -/
def State.holdsFor (s : State) (kind slot : Nat) : Bool :=
  let h := (s.slot slot).holds
  if kind = 4 then true else if kind = 5 then h.getD 3 true else h.getD 1 true

/-- The candidates for an engine of a kind: for Dealers and the slow lane, those in the slot's window (R146). -/
def State.candidates (s : State) (kind : Nat) : List Item :=
  let queued := s.items.filter fun it => s.queuedFor kind it && s.holdsFor kind it.slot
  if kind = 1 ∨ kind = 2 ∨ kind = 8 then
    queued.filter fun it =>
      let p0 := ((s.items.filter fun x => s.queuedFor kind x && x.slot == it.slot).map Item.position).foldl min it.position
      decide (it.position < p0 + s.get Obj.dispatchLookahead)
  else queued

/-- Does one candidate go before another (R146)? Engines of other kinds take items in the order they stand in. -/
def State.before (s : State) (kind : Nat) (a b : Item) : Bool :=
  if kind = 1 ∨ kind = 2 ∨ kind = 8 then
    decide (s.dueOf a < s.dueOf b ∨
      (s.dueOf a = s.dueOf b ∧ (a.slot < b.slot ∨ (a.slot = b.slot ∧ a.position ≤ b.position))))
  else true

/-- The item that engine `n` of a kind takes next: a retried attempt runs on another engine whenever one is in service
(R432). -/
def State.pick (s : State) (kind n : Nat) : Option Item :=
  match (s.candidates kind).filter fun it => it.avoid != some (kind, n) || decide ((s.enginesOf kind).length ≤ 1) with
  | [] => none
  | a :: t => some (t.foldl (fun best x => if s.before kind best x then best else x) a)

/-- The free engines of a kind take items. -/
def State.dispatchKind (s : State) (kind : Nat) : State :=
  (s.freeEngines kind).foldl (fun (t : State) n =>
    match t.pick kind n with
    | some it =>
      let t := match it.faultAt with
        | some f => t.count Obj.faultRecoveryTicks (t.gtc - f)
        | none => t
      t.putItem { it with engine := some (kind, n), engineSince := t.gtc, faultAt := none }
    | none => t) s

/-- Every free engine takes what waits for it. -/
def State.dispatch (s : State) : State := [1, 2, 3, 4, 5, 8].foldl State.dispatchKind s

/-! ## Failure -/

/-- Does a job fill the cache from items of a class (R185)? -/
def Job.fillsCache (j : Job) (cls : Nat) : Bool :=
  (j.cacheMode == 1 || j.cacheMode == 3) && ((j.stageOf 0x05).map fun e => bit e.2.classMask cls).getD false

/-- Does a job look items of a class up in the cache (R185)? -/
def Job.looksUp (j : Job) (cls : Nat) : Bool :=
  (j.cacheMode == 2 || j.cacheMode == 3) && ((j.stageOf 0x05).map fun e => bit e.2.classMask cls).getD false

/-- Did the item get past DECODE? -/
def Item.decoded (it : Item) (j : Job) : Bool :=
  it.stage != 255 && (match (j.stages[it.stage]?).map StageRec.kind with
    | some k => decide (4 < k)
    | none => false)

/-- A kernel's reference on the chain a handle's target names: the input, or a chain of its own. -/
def State.dropTarget (s : State) (it : Item) (k : KernelRun) (target : Nat) : State :=
  match if target = 0 then it.chain else (k.chains.find? fun c => c.id == target).map KernelChain.chain with
  | some c => s.dropChain c
  | none => s

/-- A kernel item's Pier stops: its DMAs are cancelled, its request for buffers is withdrawn and every handle it was given is dropped
(R278, R285, R293). -/
def State.stopKernel (s : State) (it : Item) : State :=
  match s.kernels.find? fun k => k.entry == it.entry with
  | some k =>
    let s := k.handles.foldl (fun (t : State) h => t.dropTarget it k h.target) (s.cancelWait it.entry)
    { s with kernels := s.kernels.filter fun x => x.entry != it.entry }
  | none => s

/-- What an item holds of buffers, reads and waits is given up. -/
def State.releaseItem (s : State) (it : Item) : State :=
  let s := (s.stopKernel it).cancelWait it.entry
  let s := match it.chain with
    | some c => s.dropChain c
    | none => s
  { s with
    generations := s.generations.filter fun g => g.entry != it.entry
    slots := s.slots.map fun (sl : Slot) =>
      { sl with shards := sl.shards.map fun (o : ShardOpen) => { o with waiters := o.waiters.filter (· != it.entry) } } }

/-- The item with nothing in course, failed with a code at a stage. -/
def Item.failed (it : Item) (code stage : Nat) : Item :=
  { it with
    reason := code, failStage := stage, failState := it.st, prepared := true, st := 5, engine := none, waitOut := none
    chain := none, data := [], before := [], logWait := none, hit := 0, reading := false, peerRead := none, openWait := false
    flags := it.flags ||| (if filterReason code then 16 else 0) ||| (if hardwareReason code then 64 else 0) }

/-- An item fails with a code at the stage it stands at: it is prepared no further, and its failure is what is offered
(R437). One that ends at or before DECODE is no fill (R187). -/
def State.failItem (s : State) (it : Item) (code : Nat) : State :=
  let j := s.job it.slot
  let stage := if it.stage = 255 then 255 else it.stage
  let s := if j.fillsCache it.cls && !it.decoded j then s.bump Obj.cacheFillsSkipped else s
  (s.releaseItem it).putItem (it.failed code stage)

/-! ## From stage to stage -/

/-- The stages after a record index that act on an item before BATCH, with their indices (R18, R19). -/
def Job.stagesAfter (j : Job) (i cls : Nat) : List (Nat × StageRec) :=
  (j.stages.zipIdx.map fun e => (e.2, e.1)).filter fun e =>
    decide (i < e.1) && decide (3 ≤ e.2.kind ∧ e.2.kind ≤ 0x0A) && bit e.2.classMask cls

/-- The state of R437 that a stage kind holds an item in. -/
def stageState (kind : Nat) : Nat := if kind ≤ 5 then 2 else if kind ≤ 7 then 3 else 4

/-- Is the image a CURATE or KERNEL stage names there and whole (R308)? -/
def State.imageWhole (s : State) (j : Job) (st : StageRec) : Bool :=
  match j.bundles[st.refIndex]? with
  | some r => ((s.loadedImage (if r.refKind = 1 then 2 else 3) r.digest).map fun l => !l.damaged).getD false
  | none => false

/-- Is every image a CURATE, KERNEL or TOKENIZE stage needs whole (R308)? -/
def State.stageWhole (s : State) (j : Job) (st : StageRec) : Bool :=
  let sound (kind dig : Nat) : Bool := dig == 0 || ((s.loadedImage kind dig).map fun l => !l.damaged).getD true
  match st.kind with
  | 0x06 => s.imageWhole j st && sound 0 (field st.param 0x50 32) && sound 1 (field st.param 0x30 32)
  | 0x09 => s.imageWhole j st
  | 0x0A => sound 0 (field st.param 0 32)
  | _ => true

/-- An item comes to a stage and waits there for its engine or pass; with none of the kind left it ends (R431, class
TILE). -/
def State.arrive (s : State) (it : Item) (i kind : Nat) (st : StageRec) : State :=
  let j := s.job it.slot
  let it := { it with stage := i, st := stageState kind, engineSince := s.gtc }
  let it := if kind = 4 then
      let d := s.decodeSettings j
      { it with slow := d.slowLane && outOfProfile d it.kind it.data }
    else it
  let s := s.putItem it
  if ¬ s.stageWhole j st then s.failItem it 0x7021
  else match it.engineKind j with
    | some k => if s.enginesOf k = [] then s.failItem it 0x7050 else s
    | none => s

/-- FILTER examines an item (R267): the code of a rejection. -/
def State.filterItem (s : State) (j : Job) (it : Item) (st : StageRec) : Option Nat :=
  (filterHit st.param it.results fun k =>
    match j.stages[k]? with
    | some x => s.stageImage j x
    | none => []).map fun n => 0x4070 + n

/-- An item goes on through the stages that act on it: CACHE and stages that leave its class unchanged are passed, FILTER
decides at once, and the others hold it. After the last it is prepared. -/
def walk : List (Nat × StageRec) → Item → State → State
  | [], it, s => s.putItem { it with prepared := true, st := 5 }
  | (i, st) :: t, it, s =>
    let text := it.cls == 2
    if st.kind = 5 ∨ (st.kind = 3 ∧ it.framing = 0) ∨ (st.kind = 8 ∧ text) ∨ (st.kind = 0x0A ∧ ¬ text) then walk t it s
    else if st.kind = 7 then
      match s.filterItem (s.job it.slot) it st with
      | some code =>
        ((s.bump Obj.filterRejections).bump (inst Obj.slotFiltered it.slot)).failItem { it with stage := i, st := 3 } code
      | none => walk t { it with stage := i, st := 3 } s
    else s.arrive it i st.kind st

/-- An item leaves the stage of a record index. -/
def State.goOn (s : State) (it : Item) (i : Nat) : State := walk ((s.job it.slot).stagesAfter i it.cls) it s

/-- An item leaves SOURCE and PARSE: a framed record is decompressed even where no stage asks for it (R123). -/
def State.leaveSource (s : State) (it : Item) : State :=
  if it.framing ≠ 0 ∧ ((s.job it.slot).stageOf 0x03).isNone then
    let it := { it with stage := 255, st := 2 }
    let s := s.putItem it
    if s.enginesOf 4 = [] then s.failItem it 0x7050 else s
  else s.goOn it 0

/-! ## Outputs -/

/-- The requester charged for a stage's buffers (R18); a decompression no stage asks for is charged to SOURCE's. -/
def Job.requesterOf (j : Job) (stage : Nat) : Nat :=
  ((j.stages[if stage = 255 then 0 else stage]?).map StageRec.requester).getD 0

/-- An attempt has made its output, which waits for its chain of buffers (R129, R325). -/
def State.output (s : State) (it : Item) (out : Bytes) (requester : Nat) : State :=
  (s.putItem { it with waitOut := some out, waitSince := s.gtc }).requestBuffers requester (chainBuffers out.length) it.entry

/-- The ticks an output waited for buffers are counted where the stage's chapter says (R150, R178). -/
def State.countWait (s : State) (it : Item) : State :=
  let n := s.gtc - it.waitSince
  match (((s.job it.slot).stages[it.stage]?).map StageRec.kind).getD 0 with
  | 0x03 | 0x04 => s.count Obj.bufferWaitTicks n
  | 0x08 => s.count Obj.transformBufferWaitTicks n
  | 0x09 => s.count Obj.kernelBufferWaitTicks n
  | _ => s

/-- The output stands in its own chain and the input is freed; the engine is free. -/
def Item.landed (it : Item) (out : Bytes) (handles : List Nat) : Item :=
  { it with
    chain := some (makeChain out.length handles), data := out, before := it.data, madeAt := it.stage, waitOut := none
    engine := none, avoid := none }

end Sys2Proof.Machine
end

