-- ==== Sys2Proof/Machine/Ending.lean ====
section
/-! DEFINITION. How items end: the owner's record, the assembler's ending, and what ABORT ends with a slot (R35, R437, R438,
R589). -/

namespace Sys2Proof.Machine

/-- The region of an export becomes REVOKING. -/
def State.revokeKey (s : State) (key : Nat) : State := s.revokeWhere fun r => r.kind == .sampleExport && r.key == key

/-- An item leaves its owner: its exports are revoked and its buffers freed, and an item of the Item Table has its KIND 1
record (R438). -/
def State.endOwner (s : State) (it : Item) : State :=
  let s := it.exported.foldl (fun (t : State) e => if e.key = 0 then t else t.revokeKey e.key) s
  let s := s.releaseItem it
  let s := if it.own then
      ((s.writeHistory it.slot (it.ownerRecord s.gtc)).noteEnd it.slot it.reason).event 7 0x101 1 none (some it.slot)
    else s
  s.dropItem it.entry

/-- The counter of an ending of R437. -/
def endingCounter (ending : Nat) : Nat :=
  if ending = 8 then Obj.itemsCompleted else if ending = 9 then Obj.itemsSubstituted else Obj.itemsFailed

/-- An ending is recorded and counted (R438). -/
def State.recordEnding (s : State) (slot : Nat) (r : HistoryRec) : State :=
  (s.writeHistory slot r).bump (inst (endingCounter r.ending) slot)

/-- Both records of an item that ends at its owner (R589), or is ended there by an abort or a resume. -/
def State.endHere (s : State) (it : Item) (ending reason : Nat) : State :=
  let it := { it with reason := reason }
  let last := it.st
  let s := s.endOwner it
  if it.own then
    s.recordEnding it.slot { it.ownerRecord s.gtc with
      kind := 2, ending := ending, lastState := last }
  else s

/-- The state a position holds at its assembler before its ending, while its batch is in the Shoe (R437): ASSEMBLED once it is placed
or masked; before that its item's, where this node owned it, else PACKING. -/
def Fill.lastState (f : Fill) : Nat := if f.st = 1 ∨ f.st = 2 then 6 else f.last

/-- The assembler's record of a position that ends (R438); `original` is the position's own sample, shown where none was delivered
and the position is not masked. -/
def Fill.record (f : Fill) (original ending reason lastState now : Nat) : HistoryRec :=
  { ref := sampleRef f.slot f.epoch f.position
    sample := if bit f.flags 3 then noRef else if ending = 10 then original else f.sample
    talon := if f.st = 1 then (f.talon.map Prod.fst).getD noRef else noRef
    kind := 2, ending := ending, reason := reason
    attempt := if f.st = 1 then (f.talon.map Prod.snd).getD 0 else 0
    lastState := lastState, lastStage := f.lastStage, flags := f.flags, perturb := f.perturb, retries := f.retries
    generation := f.generation, faultSeq := f.faultSeq, faultPc := 0, issueTick := f.since
    endTicks := min (2 ^ 32 - 1) (now - f.since) }

/-- Is a fill that of a position? -/
def Fill.isAt (f : Fill) (slot epoch position : Nat) : Bool :=
  f.slot == slot && f.epoch == epoch && f.position == position

/-- The fill of a position at this assembler. -/
def State.fill (s : State) (slot epoch position : Nat) : Option Fill := s.fills.find? fun f => f.isAt slot epoch position

/-- A fill takes its new standing. -/
def State.putFill (s : State) (f : Fill) : State :=
  { s with fills := modifyWhere (fun x => x.isAt f.slot f.epoch f.position) (fun _ => f) s.fills }

/-- The owner's entry of a position that this node assembles is given up: the state it held is kept for the position's record. -/
def State.noteLast (s : State) (it : Item) : State :=
  match s.fill it.slot it.epoch it.position with
  | some f => if it.own then s.putFill { f with last := it.st } else s
  | none => s

/-- A fill is gone. -/
def State.dropFill (s : State) (f : Fill) : State :=
  { s with fills := s.fills.filter fun x => !x.isAt f.slot f.epoch f.position }

/-- A position ends at its assembler. -/
def State.endFill (s : State) (f : Fill) (ending reason lastState : Nat) : State :=
  let j := s.job f.slot
  (s.recordEnding f.slot (f.record (riffle j.seed j.n f.position f.epoch) ending reason lastState s.gtc)).dropFill f

/-- The buffers of a batch are freed and it leaves the Shoe. -/
def State.dropBatch (s : State) (b : Batch) : State :=
  let s := b.buffers.foldl State.refDrop s
  { s with
    batches := s.batches.filter fun x =>
      !(x.slot == b.slot && x.stream == b.stream && x.epoch == b.epoch && x.index == b.index) }

/-- The number under which a batch waits for its buffers. -/
def Batch.holder (b : Batch) : Nat := 65536 + (((b.slot * 16 + b.stream) * 65536 + b.epoch) * 2 ^ 41 + b.index)

/-- Every item in flight of a slot ends FAILED with a code, wherever on this node it stands (R35). -/
def State.endItems (s : State) (slot code : Nat) : State :=
  let s := (s.items.filter fun it => it.slot == slot).foldl (fun (t : State) it =>
    if (t.fill it.slot it.epoch it.position).isSome then
      (t.noteLast it).endOwner { it with reason := code, failState := it.st }
    else t.endHere { it with failState := it.st } 10 code) s
  (s.fills.filter fun f => f.slot == slot).foldl (fun (t : State) f => t.endFill f 10 code f.lastState) s

/-- The Shoes of a slot are discarded with their batches (R35). -/
def State.discardShoes (s : State) (slot : Nat) : State :=
  let s := (s.batches.filter fun b => b.slot == slot).foldl (fun (t : State) b => (t.cancelWait b.holder).dropBatch b) s
  { s with
    shoes := s.shoes.filter fun x => x.slot != slot
    credits := s.credits.filter fun x => x.slot != slot
    offers := s.offers.filter fun o => refSlot o.ref != slot }

/-- A slot ends by ABORT or a node fault: items, Shoes and exports go, and it is FAILED with a
reason (R35, R205, R307, R431); its items end with a code. -/
def State.abortSlot (s : State) (slot code reason : Nat) : State :=
  let s := (s.endItems slot code).discardShoes slot
  let s := [RegionKind.shoeExport, .sampleExport, .recordExport, .censusExport].foldl (fun (t : State) k => t.revokeSlot slot k) s
  (s.set (inst Obj.jobLastReason slot) reason).enterState slot 7

/-- A slot's structure is given heap extents; where they do not fit, the slot ends as ABORT ends it (R307). -/
def State.heapOrAbort (s : State) (slot : Nat) (kind : HeapKind) (bytes : Nat) : State :=
  match s.heapTake slot kind bytes with
  | some t => t
  | none => (s.bump Obj.heapExhaustions).abortSlot slot 0x8014 0x8010

end Sys2Proof.Machine
end

