-- ==== Sys2Proof/Machine/Abort.lean ====
section
/-! DEFINITION. Collective abort: raising one, its messages and probes, halting, and the reachability of members (R443 to
R447). -/

namespace Sys2Proof.Machine

/-- Is a slot RUNNING or DRAINING? -/
def State.running (s : State) (slot : Nat) : Bool := s.jobState slot == 4 || s.jobState slot == 5

/-- May a slot deliver: it is RUNNING or DRAINING and its step is not halted (R447)? -/
def State.delivers (s : State) (slot : Nat) : Bool := s.running slot && s.stepState slot == 0

/-- The immediate of abort messages (R445). -/
def abortImmediate : Nat := 0x5A414231

/-- An abort message (R445): `ack` gives the halt tick of an ACK. -/
def AbortMsg.encode (m : AbortMsg) (slot : Nat) (ack : Option Nat) : Bytes :=
  bytesOf [0x5A, 0x41, 0x42, 0x31] ++ leBytes 1 (if ack.isSome then 2 else 1) ++ leBytes 1 slot ++ leBytes 2 m.cause ++
    leBytes 8 m.raiseTick ++ leBytes 16 m.raiser ++ leBytes 4 m.raiseSeq ++ leBytes 2 m.epoch ++ leBytes 1 m.stream ++ zeros 1 ++
    leBytes 8 m.batch ++ leBytes 2 m.reason ++ zeros 6 ++ leBytes 8 (ack.getD 0) ++ leBytes 16 m.subject

/-- The fields of an abort message. -/
def abortOf (b : Bytes) : AbortMsg :=
  { cause := field b 6 2, raiseTick := field b 8 8, raiser := field b 0x10 16, raiseSeq := field b 0x20 4, epoch := field b 0x24 2
    stream := byteAt b 0x26, batch := field b 0x28 8, reason := field b 0x30 2, subject := field b 0x40 16 }

/-- Are the fields of an abort message legal (R445)? -/
def abortLegal (b : Bytes) : Bool :=
  b.length == 80 && b.take 4 == bytesOf [0x5A, 0x41, 0x42, 0x31] && (byteAt b 4 == 1 || byteAt b 4 == 2) &&
    decide (byteAt b 5 < 64) && decide (0x7820 ≤ field b 6 2 ∧ field b 6 2 ≤ 0x7824) && decide (1 ≤ field b 0x20 4) &&
    (decide (byteAt b 0x26 < 16) || byteAt b 0x26 == 0xFF) && byteAt b 0x27 == 0 && allZero (slice 0x32 6 b) &&
    (byteAt b 4 == 2 || field b 0x38 8 == 0)

/-- An abort is shown where it is the first of this halt or has the smallest (RAISE_TICK, RAISER_UID) (R446). -/
def State.showAbort (s : State) (slot : Nat) (m : AbortMsg) (first : Bool) : State :=
  let at_ (k : Nat) : Nat := inst k slot
  let tick := s.get (at_ Obj.lastAbortTick)
  let uid := s.get (at_ Obj.lastAbortRaiser)
  if first ∨ m.raiseTick < tick ∨ (m.raiseTick = tick ∧ m.raiser < uid) then
    s.setAll [(at_ Obj.lastAbortCause, m.cause), (at_ Obj.lastAbortRaiser, m.raiser), (at_ Obj.lastAbortTick, m.raiseTick),
      (at_ Obj.lastAbortBatch, m.batch), (at_ Obj.lastAbortStream, m.stream)]
  else s

/-- A member halts for an abort (R447): nothing more is delivered, every PULL entry shows STATE 0, and the step event is sent. A
resume in course is cancelled (R449). -/
def State.halt (s : State) (slot : Nat) (m : AbortMsg) : State :=
  let st := s.stepState slot
  let s := s.showAbort slot m (st != 1)
  if st = 1 then s
  else
    let s := if st = 2 then s.set (inst Obj.stepLastReason slot) 0x7813 else s
    let s := s.modSlot slot fun sl => { sl with haltTick := s.gtc }
    let s := { s with batches := s.batches.map fun (b : Batch) => if b.slot = slot then { b with opened := false } else b }
    s.setStepState slot 1

/-- The other members of a slot's step. -/
def State.others (s : State) (slot : Nat) : List Nat := (s.members slot).filter (· != myUid)

/-- A member raises a collective abort while its slot is RUNNING or DRAINING and not HALTED (R444 to R446). -/
def State.raiseAbort (s : State) (slot cause epoch stream batch reason subject : Nat) : State :=
  if ¬ s.running slot ∨ s.stepState slot = 1 then s
  else
    let seq := (s.slot slot).raiseSeq + 1
    let m : AbortMsg :=
      { cause := cause, raiseTick := s.gtc, raiser := myUid, raiseSeq := seq, epoch := epoch, stream := stream, batch := batch
        reason := reason, subject := subject }
    let s := (s.bump Obj.abortsRaised).halt slot m
    let to_ := s.others slot
    let s := s.modSlot slot fun sl => { sl with raiseSeq := seq, raised := some m, unacked := to_, lastProbe := s.gtc }
    to_.foldl (fun (t : State) uid => t.peerSendFirst uid (some abortImmediate) (m.encode slot none)) s

/-- An ABORT arrives from a member (R446): it is acknowledged, and the member halts. -/
def abortMessage (uid : Nat) (b : Bytes) (s : State) : State :=
  let slot := byteAt b 5
  let m := abortOf b
  if ¬ abortLegal b ∨ byteAt b 4 ≠ 1 ∨ ¬ s.running slot then s.bump Obj.abortsIgnored
  else
    let s := s.bump Obj.abortsReceived
    let s := if m.raiseTick + 1000000 < s.gtc then s.bump Obj.abortsLate else s
    let s := s.halt slot m
    s.peerSend uid (some abortImmediate) (m.encode slot (some (s.slot slot).haltTick))

/-- An ACK arrives: the raiser probes that member no more (R446). -/
def abortAck (uid : Nat) (b : Bytes) (s : State) : State :=
  let slot := byteAt b 5
  let m := abortOf b
  if ¬ abortLegal b ∨ byteAt b 4 ≠ 2 ∨ ¬ s.running slot then s.bump Obj.abortsIgnored
  else if ((s.slot slot).raised.map fun r => r.raiseSeq == m.raiseSeq && m.raiser == myUid).getD false then
    s.modSlot slot fun sl => { sl with unacked := sl.unacked.filter (· != uid) }
  else s

/-- Every AbortRepeatTicks the raiser probes each member that has not acknowledged (R446). -/
def abortProbe (slot : Nat) (s : State) : State :=
  let sl := s.slot slot
  if s.running slot ∧ s.stepState slot = 1 ∧ sl.raised.isSome ∧ sl.unacked ≠ [] ∧
      sl.lastProbe + s.get Obj.abortRepeatTicks ≤ s.gtc then
    sl.unacked.foldl State.peerProbe (s.modSlot slot fun sl => { sl with lastProbe := s.gtc })
  else s

/-- StepCommand 1 (R444). -/
def stepAbort (slot : Nat) (s : State) : State :=
  if ¬ s.running slot ∨ s.stepState slot = 1 then s.refused 0x801A
  else (s.raiseAbort slot 0x7824 0 0xFF noRef 0 0).ok

/-- A peer connection that has carried nothing for KeepaliveTicks sends a zero-length WRITE with AckReq (R443). -/
def keepalive (ctx : Nat) (s : State) : State :=
  s.onConn ctx fun c =>
    if c.kind = 1 ∧ c.st = 2 ∧ max c.carried c.progress + s.get Obj.keepaliveTicks ≤ s.gtc then
      State.peerProbe (s.putConn { c with carried := s.gtc }) c.uid
    else s

/-- Since when a member has made no progress, nothing while it is reachable: an ESTABLISHED connection without packets
outstanding is no sign against it (R443). The time before a slot's launch or resume does not count. -/
def State.silentSince (s : State) (slot uid : Nat) : Option Nat :=
  let from_ := max (s.get (inst Obj.launchTick slot)) (let r := s.get (inst Obj.resumeTick slot); if r ≤ s.gtc then r else 0)
  match s.peerConn uid with
  | some c => if c.st = 2 ∧ c.unacked = [] then none else some (max c.progress from_)
  | none => some from_

/-- A member has been unreachable for MemberTimeoutTicks (R443, R444). -/
def memberTimeout (slot uid : Nat) (s : State) : State :=
  if (s.others slot).contains uid ∧ ((s.silentSince slot uid).map fun t => decide (t + s.get Obj.memberTimeoutTicks ≤ s.gtc)).getD false then
    s.raiseAbort slot 0x7822 0 0xFF noRef 0 uid
  else s

end Sys2Proof.Machine
end

