-- ==== Sys2Proof/Machine/Source.lean ====
section
/-! DEFINITION. SOURCE and PARSE: opening Folien shards, scanning tar shards, reading and checking records, and trying one
copy after another (R70 to R92). -/

namespace Sys2Proof.Machine

/-! ## Folien shards -/

/-- The first failed check's code of a list, 0 where all pass. -/
def firstCode (l : List (Bool × Nat)) : Nat := ((l.find? fun c => !c.1).map Prod.snd).getD 0

/-- The raw fields of index entry `i` of a Folien shard (R73). -/
def entryBytes (b : Bytes) (i : Nat) : Bytes := slice (field b 0x30 8 + 32 * i) 32 b

/-- The code that marks the sample of an index entry, 0 where the entry is good (R74, R77, R90). -/
def entryCode (b : Bytes) (maxRecord i : Nat) : Nat :=
  let e := entryBytes b i
  let off := field e 0 8
  let bytes := field e 8 4
  let index := field b 0x30 8
  let prev := if i = 0 then 0 else field (entryBytes b (i - 1)) 0 8 + field (entryBytes b (i - 1)) 8 4
  firstCode [
    (decide (field e 0x0C 4 ≤ maxRecord), 0x1024),
    (decide (128 ≤ off ∧ off % 8 = 0) && (decide (index + 32 * field b 0x0C 4 ≤ off) || decide (off + bytes ≤ index)), 0x1020),
    (decide (off + bytes ≤ field b 0x40 8) && decide (prev ≤ off) && bytes == roundUp (32 + field e 0x0C 4) 8, 0x1020),
    (byteAt e 0x13 == 0 && field e 0x1C 4 == 0 && decide (byteAt e 0x12 ≤ 2), 0x1020),
    (payloadKinds.contains (byteAt e 0x11), 0x1025),
    (kindClass (byteAt e 0x11) == byteAt e 0x10, 0x1026)]

/-- Index entry `i` of a Folien shard as the open keeps it. -/
def indexEntry (b : Bytes) (maxRecord i : Nat) : IndexEntry :=
  let e := entryBytes b i
  { offset := field e 0 8, recordBytes := field e 8 4, length := field e 0x0C 4, cls := byteAt e 0x10, kind := byteAt e 0x11
    framing := byteAt e 0x12, cost := field e 0x14 4, tokens := field e 0x18 4, code := entryCode b maxRecord i }

/-- The code of the shard fault of a Folien object, 0 where it opens (R72, R90). -/
def folienFault (j : Job) (num : Nat) (sh : ShardRec) (b : Bytes) : Nat :=
  let count := field b 0x0C 4
  let index := field b 0x30 8
  let flags := field b 0x24 4
  firstCode [
    (decide (128 ≤ b.length ∧ field b 0x40 8 ≤ b.length), 0x1016),
    (slice 0 4 b == bytesOf [0x46, 0x4C, 0x53, 0x31], 0x1011),
    (field b 4 2 == 1, 0x1012),
    (crc32c (b.take 0x7C) == field b 0x7C 4, 0x1013),
    (field b 8 4 == 128 && decide (1 ≤ count ∧ count ≤ 1048576) && decide (flags ≤ 1) && decide (field b 0x28 8 < 2 ^ 40), 0x1019),
    (decide (index % 8 = 0 ∧ 128 ≤ index) && field b 0x3C 4 == 0 && decide (128 ≤ field b 0x40 8), 0x1019),
    ((flags == 1 || field b 0x48 8 == 0) && allZero (slice 0x50 44 b), 0x1019),
    (field b 0x10 16 == j.corpusId, 0x1014),
    (field b 0x20 4 == num && field b 0x28 8 == sh.first && count == sh.count, 0x1015),
    (decide (index + 32 * count ≤ field b 0x40 8), 0x1017),
    (crc32c (slice index (32 * count) b) == field b 0x38 4, 0x1018)]

/-- The tag of the vocabulary that TOKENIZE loads (R78). -/
def Job.vocabTag (j : Job) : Option Nat := j.tokenizeStage.map fun st => (tokenizeParams st.param).vocab % 2 ^ 64

/-- A Folien object opened (R72): its shard fault, or its entries and whether their token counts are claims (R78). -/
def openFolien (j : Job) (num : Nat) (sh : ShardRec) (maxRecord : Nat) (b : Bytes) : Except Nat (List IndexEntry × Bool) :=
  let f := folienFault j num sh b
  if f ≠ 0 then .error f
  else .ok ((List.range sh.count).map (indexEntry b maxRecord), field b 0x24 4 == 1 && j.vocabTag == some (field b 0x48 8))

/-! ## Tar shards -/

/-- A numeric field in octal; nothing where it is none (R81). -/
def octalField (b : Bytes) : Option Nat :=
  let digits := (b.dropWhile (· == 0x20)).takeWhile fun c => c != 0x20 && c != 0
  if digits.all fun c => decide (0x30 ≤ c.toNat ∧ c.toNat ≤ 0x37) then
    some (digits.foldl (fun (v : Nat) c => 8 * v + (c.toNat - 0x30)) 0)
  else none

/-- A decimal number of at least one digit. -/
def decimal (b : Bytes) : Option Nat :=
  if b ≠ [] ∧ b.all fun c => decide (0x30 ≤ c.toNat ∧ c.toNat ≤ 0x39) then
    some (b.foldl (fun (v : Nat) c => 10 * v + (c.toNat - 0x30)) 0)
  else none

/-- Does a header's checksum hold (R81)? -/
def tarChecksumOk (h : Bytes) : Bool :=
  octalField (slice 148 8 h) == some (((h.take 148 ++ h.drop 156).map (·.toNat)).sum + 8 * 0x20)

/-- The size and the path that an extended header gives the next one. -/
abbrev PaxFields := Option Nat × Option Bytes

/-- The records of an extended header, at most `fuel` (R81); nothing where one is refused. -/
def paxRecords : Nat → Bytes → PaxFields → Option PaxFields
  | 0, _, acc => some acc
  | _, [], acc => some acc
  | fuel + 1, b, acc =>
    match decimal (b.takeWhile (· != 0x20)) with
    | none => none
    | some n =>
      let head := (b.takeWhile (· != 0x20)).length + 1
      let record := b.take n
      if n ≤ head ∨ b.length < n ∨ record.getLast? ≠ some 0x0A then none
      else
        let body := (record.drop head).dropLast
        let key := body.takeWhile (· != 0x3D)
        let value := body.drop (key.length + 1)
        if key.length = body.length then none
        else if key = ascii ['s', 'i', 'z', 'e'] then
          match decimal value with
          | some v => paxRecords fuel (b.drop n) (some v, acc.2)
          | none => none
        else if key = ascii ['p', 'a', 't', 'h'] then
          if 4096 < value.length then none else paxRecords fuel (b.drop n) (acc.1, some value)
        else paxRecords fuel (b.drop n) acc

/-- A name cut at its final suffix: what stands before the dot, and the suffix in lower case. -/
def cutSuffix (name : Bytes) : Option (Bytes × Bytes) :=
  let tail := name.reverse.takeWhile fun c => c != 0x2E && c != 0x2F
  match name.reverse.drop tail.length with
  | c :: rest =>
    if c = 0x2E then
      some (rest.reverse, tail.reverse.map fun x => if 0x41 ≤ x.toNat ∧ x.toNat ≤ 0x5A then x + 0x20 else x)
    else none
  | [] => none

/-- The payload kind of a suffix (R77). -/
def suffixKind (sfx : Bytes) : Option Nat :=
  ([(['j', 'p', 'g'], 0x01), (['j', 'p', 'e', 'g'], 0x01), (['p', 'n', 'g'], 0x02), (['j', '2', 'k'], 0x03),
    (['j', '2', 'c'], 0x03), (['j', 'p', '2'], 0x04), (['f', 'l', 'a', 'c'], 0x10), (['o', 'p', 'u', 's'], 0x11),
    (['w', 'a', 'v'], 0x12), (['t', 'x', 't'], 0x20), (['u', '1', '6'], 0x23)].find? fun e => ascii e.1 == sfx).map Prod.snd

/-- The payload kind and FRAMING of a member's name (R82). -/
def memberKind (name : Bytes) : Option (Nat × Nat) :=
  match cutSuffix name with
  | none => none
  | some (rest, sfx) =>
    let framing := if sfx = ascii ['z', 's', 't'] then 1 else if sfx = ascii ['l', 'z', '4'] then 2 else 0
    if framing = 0 then (suffixKind sfx).map fun k => (k, 0)
    else match cutSuffix rest with
      | some (_, inner) => (suffixKind inner).map fun k => (k, framing)
      | none => none

/-- What a scan of a tar archive finds (R82, R83): the records in order, the members skipped and beyond the count, and the
code that ended it early, or 0. -/
structure TarScan where
  entries : List IndexEntry := []
  skipped : Nat := 0
  excess : Nat := 0
  code : Nat := 0
deriving DecidableEq, Repr

/-- A member's name: the path of its extended header, or prefix and name. -/
def memberName (h : Bytes) (pax : PaxFields) : Bytes :=
  match pax.2 with
  | some p => p
  | none =>
    let cut (b : Bytes) : Bytes := b.takeWhile (· != 0)
    let prefix_ := cut (slice 345 155 h)
    if prefix_ = [] then cut (slice 0 100 h) else prefix_ ++ [0x2F] ++ cut (slice 0 100 h)

/-- A regular member joins the scan (R82, R83). -/
def TarScan.member (t : TarScan) (count maxRecord off size : Nat) (name : Bytes) : TarScan :=
  match memberKind name with
  | none => { t with skipped := t.skipped + 1 }
  | some (kind, framing) =>
    if count ≤ t.entries.length then { t with excess := t.excess + 1 }
    else
      { t with entries := t.entries ++
        [{ offset := off, recordBytes := size, length := size, cls := kindClass kind, kind := kind, framing := framing
           cost := 0, tokens := 0, code := if maxRecord < size then 0x1024 else 0 }] }

/-- The blocks of an archive from an offset on, at most `fuel` headers (R81). -/
def tarBlocks (count maxRecord : Nat) (b : Bytes) : Nat → Nat → Option PaxFields → TarScan → TarScan
  | 0, _, _, t => t
  | fuel + 1, off, pax, t =>
    let stop (code : Nat) : TarScan := { t with code := code }
    if off = b.length ∧ pax.isNone then t
    else if b.length < off + 512 then stop 0x1041
    else
      let h := slice off 512 b
      if allZero h ∧ off + 1024 ≤ b.length ∧ allZero (slice (off + 512) 512 b) then t
      else if ¬ tarChecksumOk h then stop 0x1040
      else
        match octalField (slice 124 12 h) with
        | none => stop 0x1042
        | some sizeField =>
          let flag := byteAt h 156
          let data := off + 512
          let past (n : Nat) : Nat := data + roundUp n 512
          if flag = 0x30 ∨ flag = 0 then
            let size := ((pax.map Prod.fst).getD none).getD sizeField
            if b.length < data + size then stop 0x1041
            else tarBlocks count maxRecord b fuel (past size) none
              (t.member count maxRecord data size (memberName h (pax.getD (none, none))))
          else if 0x31 ≤ flag ∧ flag ≤ 0x37 then
            let size := if flag = 0x31 ∨ flag = 0x32 ∨ flag = 0x37 then ((pax.map Prod.fst).getD none).getD sizeField else 0
            tarBlocks count maxRecord b fuel (past size) none t
          else if flag = 0x67 then tarBlocks count maxRecord b fuel (past sizeField) pax t
          else if flag = 0x78 then
            if b.length < data + sizeField then stop 0x1041
            else match paxRecords sizeField (slice data sizeField b) (none, none) with
              | some p => tarBlocks count maxRecord b fuel (past sizeField) (some p) t
              | none => stop 0x1043
          else stop 0x1042

/-- Does an archive begin as a compressed one (R81)? -/
def tarCompressed (b : Bytes) : Bool :=
  [[0x28, 0xB5, 0x2F, 0xFD], [0x04, 0x22, 0x4D, 0x18], [0x1F, 0x8B], [0x42, 0x5A, 0x68]].any fun m =>
    b.take m.length == bytesOf m

/-- The scan of a tar shard (R81 to R83). -/
def scanTar (count maxRecord : Nat) (b : Bytes) : TarScan :=
  if tarCompressed b then { code := 0x1042 } else tarBlocks count maxRecord b (b.length / 512 + 1) 0 none {}

/-! ## Records -/

/-- The code of a Folien record read from its offset, 0 where it is sound (R75, R76). The CRC is taken over the payload bytes that the
index entry counts, since no length is trusted from the record before it. -/
def recordCode (sample : Nat) (e : IndexEntry) (r : Bytes) : Nat :=
  let un := field r 0x14 4
  firstCode [
    (slice 0 4 r == bytesOf [0x46, 0x52, 0x43, 0x31], 0x1021),
    (crc32c (r.take 0x18 ++ slice 32 e.length r) == field r 0x18 4, 0x1022),
    (field r 4 4 == e.length && field r 8 8 == sample && byteAt r 0x10 == e.cls && byteAt r 0x11 == e.kind, 0x1023),
    (byteAt r 0x12 == e.framing && byteAt r 0x13 == 0 && field r 0x1C 4 == 0, 0x1023),
    (decide (un ≤ 1073741824), 0x1024),
    (if e.framing = 0 then un == e.length else decide (1 ≤ un), 0x1023)]

/-- The code of a Zstandard frame header (R80). -/
def zstdHeaderCode (known : Nat) (b : Bytes) : Nat :=
  let fhd := byteAt b 4
  let single := bit fhd 5
  let wd := if single then 0 else 1
  let dict := [0, 1, 2, 4].getD (fhd % 4) 0
  let fcsBytes := [if single then 1 else 0, 2, 4, 8].getD (fhd / 64) 0
  let fcs := field b (5 + wd + dict) fcsBytes + (if fcsBytes = 2 then 256 else 0)
  let exp := 2 ^ (10 + byteAt b 5 / 8)
  let window := if single then fcs else exp + exp / 8 * (byteAt b 5 % 8)
  firstCode [
    (b.take 4 == bytesOf [0x28, 0xB5, 0x2F, 0xFD] && decide (5 + wd + dict + fcsBytes ≤ b.length) && decide (5 ≤ b.length), 0x1030),
    (field b (5 + wd) dict == 0 && decide (window ≤ 8388608), 0x1031),
    (known == 0 || fcsBytes == 0 || fcs == known, 0x1032)]

/-- The code of an LZ4 frame header (R80). -/
def lz4HeaderCode (known : Nat) (b : Bytes) : Nat :=
  let flg := byteAt b 4
  let size := if bit flg 3 then 8 else 0
  let dict := if bit flg 0 then 4 else 0
  firstCode [
    (b.take 4 == bytesOf [0x04, 0x22, 0x4D, 0x18] && flg / 64 == 1 && decide (7 + size + dict ≤ b.length), 0x1030),
    (!bit flg 0 && decide (4 ≤ byteAt b 5 / 16 % 8), 0x1031),
    (known == 0 || size == 0 || field b 6 8 == known, 0x1032)]

/-- PARSE's checks of a payload (R77, R80): its kind and its frame header. -/
def parseCode (accept kind framing known : Nat) (payload : Bytes) : Nat :=
  if accept ≠ 0 ∧ ¬ bit accept kind then 0x1027
  else if framing = 1 then zstdHeaderCode known payload
  else if framing = 2 then lz4HeaderCode known payload
  else 0

/-- ACCEPT_KINDS for a class: 0 where PARSE is absent or does not act on it (R89). -/
def Job.acceptFor (j : Job) (cls : Nat) : Nat :=
  if ((j.stageOf 0x02).map fun e => bit e.2.classMask cls).getD false then j.acceptKinds else 0

/-! ## Open shards -/

/-- What a slot knows of a copy of a shard. -/
def State.shardOpen (s : State) (slot shard node : Nat) : Option ShardOpen :=
  (s.slot slot).shards.find? fun o => o.shard == shard && o.node == node

/-- What a slot knows of a copy changes. -/
def State.putShard (s : State) (slot : Nat) (o : ShardOpen) : State :=
  s.modSlot slot fun sl =>
    { sl with shards := (sl.shards.filter fun x => !(x.shard == o.shard && x.node == o.node)) ++ [o] }

/-- A copy is forgotten. -/
def State.dropShard (s : State) (slot : Nat) (o : ShardOpen) : State :=
  s.modSlot slot fun sl => { sl with shards := sl.shards.filter fun x => !(x.shard == o.shard && x.node == o.node) }

/-- The open shards of all slots, faults apart, with their slots (R92). -/
def State.openShards (s : State) : List (Nat × ShardOpen) :=
  s.slots.zipIdx.flatMap fun (sl, i) => (sl.shards.filter fun o => o.fault == 0).map fun o => (i, o)

/-- Room for one more open shard: the one used least recently that nothing waits for is dropped; nothing where every one has
waiting items (R92). -/
def State.shardRoom (s : State) : Option State :=
  let l := s.openShards
  if l.length < s.get Obj.shardOpenCacheEntries then some s
  else match l.filter fun e => e.2.waiters.isEmpty && !e.2.opening with
    | [] => none
    | h :: t =>
      let v := t.foldl (fun (best x : Nat × ShardOpen) => if x.2.lastUse < best.2.lastUse then x else best) h
      some (s.dropShard v.1 v.2)

/-- A READ of a peer's copy is sent; its key and address are the peer's own, which the spec does not say how the reader
learns. -/
def State.readPeer (s : State) (node length : Nat) : State :=
  let key := s.free % 2 ^ 32
  let s := s.useFree
  let addr := s.free % 2 ^ 64
  s.useFree.peerRead node key addr length

/-! ## Copies -/

/-- Is a code a content code (R88)? -/
def contentReason (code : Nat) : Bool := decide (0x1011 ≤ code ∧ code ≤ 0x1044)

/-- The item after a copy has failed with a code. -/
def Item.copyFailed (it : Item) (code : Nat) : Item :=
  { it with
    tried := it.tried + 1, reading := false, peerRead := none, copies := it.copies.drop 1
    contentCode := if contentReason code then code else it.contentCode }

/-- The item with the fields of its index entry (R73, R78). -/
def Item.indexed (it : Item) (o : ShardOpen) (e : IndexEntry) : Item :=
  { it with
    cls := e.cls, kind := e.kind, framing := e.framing, payload := e.length, cost := e.cost
    claim := if o.tagged && e.cls == 2 then e.tokens else 0 }

/-- The index entry of record `i` of an opened copy, or the code of its sample (R74, R83). -/
def ShardOpen.entryAt (o : ShardOpen) (i : Nat) : Except Nat IndexEntry :=
  match o.entries[i]? with
  | some e => if e.code = 0 then .ok e else .error e.code
  | none => .error o.endCode

/-- A copy is tried (R88, R91, R92): the state in which the item waits, or the code with which the copy fails at once. -/
def State.tryCopy (s : State) (it : Item) (node : Nat) : Except Nat State :=
  match (s.job it.slot).shardOf it.sample with
  | none => .error 0
  | some (num, sh) =>
    let it := { it with shard := num, st := 1, openWait := false }
    match s.shardOpen it.slot num node with
    | some o =>
      if o.fault ≠ 0 then .error o.fault
      else if o.opening then .ok ((s.putItem it).putShard it.slot { o with waiters := o.waiters ++ [it.entry] })
      else match o.entryAt (it.sample - sh.first) with
        | .error c => .error c
        | .ok e =>
          let it := it.indexed o e
          let s := s.putShard it.slot { o with lastUse := s.gtc }
          if node = myUid then .ok (s.putItem { it with reading := true })
          else .ok ((s.putItem { it with peerRead := some (node, s.gtc) }).readPeer node e.recordBytes)
    | none =>
      if node = myUid ∧ (s.sealedObject sh.objectId).isNone then .error 0x1010
      else match s.shardRoom with
        | none => .ok ((s.putItem { it with openWait := true }).bump Obj.shardOpenWaits)
        | some t =>
          let t := (t.putItem it).putShard it.slot
            { shard := num, node := node, opening := true, waiters := [it.entry], lastUse := s.gtc }
          .ok (if node = myUid then t else t.readPeer node 128)

/-- The copies are tried in order until one can be waited for; when every one has failed the item ends (R88). -/
def tryCopies : List Nat → Item → State → State
  | [], it, s => s.failItem it (if it.contentCode = 0 then 0x1050 else it.contentCode)
  | node :: rest, it, s =>
    match s.tryCopy { it with copies := node :: rest } node with
    | .ok t => t
    | .error code =>
      tryCopies rest ({ it with copies := node :: rest }.copyFailed code) (if rest = [] then s else s.bump Obj.alternateReads)

/-- A copy has failed with a code: the next one is tried (R88). -/
def State.nextCopy (s : State) (it : Item) (code : Nat) : State :=
  let it := it.copyFailed code
  tryCopies it.copies it (if it.copies = [] then s else s.bump Obj.alternateReads)

/-- The devices whose copies of a shard this node tries, in order: its own first, at most COPY_LIMIT of them (R88, R93). -/
def State.copiesTried (s : State) (slot : Nat) (sh : ShardRec) : List Nat :=
  let nodes := (s.copyNodes slot sh).filter (· == myUid) ++ (s.copyNodes slot sh).filter (· != myUid)
  let most := (s.job slot).copyLimit
  if most = 0 then nodes else nodes.take most

/-- An item starts at SOURCE: its copies in order, the owner's first, as many as COPY_LIMIT allows (R88, R89). -/
def State.fetch (s : State) (it : Item) : State :=
  let nodes := match (s.job it.slot).shardOf it.sample with
    | some (_, sh) => s.copiesTried it.slot sh
    | none => []
  tryCopies nodes { it with st := 1, stage := 0, hit := 0 } s

/-- Run an operation on each of a list of entries that still hold items. -/
def eachItem (l : List Nat) (f : State → Item → State) (s : State) : State :=
  l.foldl (fun (t : State) e => t.onItem e (f t)) s

/-- Items that waited for room among the open shards try again (R92). -/
def State.wakeOpens (s : State) : State :=
  eachItem ((s.items.filter fun it => it.openWait).map Item.entry) (fun t it => tryCopies it.copies it t) s

/-- A shard fault is established for a copy (R91); the shard counts as faulted once every copy that is tried
is (R93). -/
def State.shardFault (s : State) (slot : Nat) (o : ShardOpen) (code : Nat) : State :=
  let s := (s.bump Obj.shardFaults).putShard slot { o with opening := false, fault := code, waiters := [] }
  match (s.job slot).shards[o.shard]? with
  | some sh =>
    if (s.copiesTried slot sh).all fun n => ((s.shardOpen slot o.shard n).map fun x => x.fault != 0).getD false then
      s.bump (inst Obj.shardsFaulted slot)
    else s
  | none => s

/-- The open of a copy failed without a shard fault: it is forgotten and the waiting items try their next copies. -/
def State.openFailed (s : State) (slot : Nat) (o : ShardOpen) (code : Nat) : State :=
  (eachItem o.waiters (fun t it => t.nextCopy it code) (s.dropShard slot o)).wakeOpens

/-- The bytes of a copy: of the local one those of the store's object, of a peer's those read. -/
def State.copyBytes (s : State) (node object : Nat) (remote : Option Bytes) : Option Bytes :=
  if node = myUid then s.sealedObject object else remote

/-- A copy in course of being opened, with its shard entry. -/
def State.opening (s : State) (slot shard node : Nat) : Option (ShardOpen × ShardRec) :=
  match s.shardOpen slot shard node, (s.job slot).shards[shard]? with
  | some o, some sh => if o.opening then some (o, sh) else none
  | _, _ => none

/-- The open of a Folien copy ends (R72, R91): `media` is the code of a media failure or 0, `remote` what was read of a
peer's copy. -/
def shardOpenComplete (slot shard node media : Nat) (remote : Option Bytes) (s : State) : State :=
  match s.opening slot shard node with
  | none => s
  | some (o, sh) =>
    if sh.format ≠ 0 then s
    else if media ≠ 0 then s.openFailed slot o media
    else match s.copyBytes node sh.objectId remote with
      | none => s.openFailed slot o (if node = myUid then 0x1010 else 0)
      | some b =>
        match openFolien (s.job slot) shard sh (s.get Obj.maxRecordBytes) b with
        | .error code => (eachItem o.waiters (fun t it => t.nextCopy it code) (s.shardFault slot o code)).wakeOpens
        | .ok (entries, tagged) =>
          let s := (s.putShard slot
            { o with opening := false, entries := entries, tagged := tagged, endAt := sh.count, waiters := [] }).bump
            (inst Obj.shardsOpened slot)
          (eachItem o.waiters (fun t it => tryCopies it.copies it t) s).wakeOpens

/-- The scan of a tar copy ends (R83). -/
def tarScanComplete (slot shard node media : Nat) (remote : Option Bytes) (s : State) : State :=
  match s.opening slot shard node with
  | none => s
  | some (o, sh) =>
    if sh.format ≠ 1 then s
    else if media ≠ 0 then s.openFailed slot o media
    else match s.copyBytes node sh.objectId remote with
      | none => s.openFailed slot o (if node = myUid then 0x1010 else 0)
      | some b =>
        let t := scanTar sh.count (s.get Obj.maxRecordBytes) b
        let s := ((s.bump Obj.tarScans).count Obj.tarMembersSkipped t.skipped).count Obj.tarMembersExcess t.excess
        let s := (s.putShard slot
          { o with
            opening := false, entries := t.entries, endAt := t.entries.length, waiters := []
            endCode := if t.code = 0 then 0x1044 else t.code }).bump (inst Obj.shardsOpened slot)
        let s := s.heapOrAbort slot .tarIndices (32 * t.entries.length)
        (eachItem o.waiters (fun t it => tryCopies it.copies it t) s).wakeOpens

/-! ## Reads -/

/-- A record, or a tar member's data, has been read from a copy: it is checked (R76, R77, R80), and its payload goes on, or
the next copy is tried. -/
def State.takeRecord (s : State) (it : Item) (o : ShardOpen) (first format : Nat) (r : Bytes) : State :=
  match o.entryAt (it.sample - first) with
  | .error c => s.nextCopy it c
  | .ok e =>
    let s := (s.bump Obj.recordsRead).count Obj.recordBytesRead r.length
    let code := if format = 0 then recordCode it.sample e r else 0
    if code ≠ 0 then (if code = 0x1022 then s.bump Obj.recordCrcErrors else s).nextCopy it code
    else
      let payload := if format = 0 then slice 32 e.length r else r
      let known := if format = 0 then field r 0x14 4 else if e.framing = 0 then e.length else 0
      let j := s.job it.slot
      let code := parseCode (j.acceptFor e.cls) e.kind e.framing known payload
      if code ≠ 0 then s.nextCopy it code
      else s.output { it with reading := false, peerRead := none, uncompressed := known } payload (j.requesterOf 0)

/-- The copy an item reads from, with its shard entry. -/
def State.readingFrom (s : State) (it : Item) (node : Nat) : Option (ShardOpen × ShardRec) :=
  match s.shardOpen it.slot it.shard node, (s.job it.slot).shards[it.shard]? with
  | some o, some sh => some (o, sh)
  | _, _ => none

/-- The media code left for an item's read by the store, 0 where there is none; it is taken. -/
def State.mediaCode (s : State) (entry : Nat) : Nat × State :=
  (((s.store.failed.find? fun f => f.1 == entry).map Prod.snd).getD 0,
    s.modStore fun t => { t with failed := t.failed.filter fun f => f.1 != entry })

/-- The local read of an item's record ends (R76, R88). -/
def recordReadComplete (entry : Nat) (s : State) : State :=
  s.onItem entry fun it =>
    if ¬ it.reading then s
    else
      let (code, s) := s.mediaCode entry
      match s.readingFrom it myUid with
      | none => s.nextCopy it 0x1010
      | some (o, sh) =>
        if code ≠ 0 then s.nextCopy it code
        else match s.sealedObject sh.objectId, o.entryAt (it.sample - sh.first) with
          | some b, .ok e => s.takeRecord it o sh.first sh.format (slice e.offset e.recordBytes b)
          | _, _ => s.nextCopy it 0x1010

/-- The read of a record from a further copy ends (R88): the bytes, or nothing where it failed. -/
def peerRecordReadComplete (entry : Nat) (data : Option Bytes) (s : State) : State :=
  s.onItem entry fun it =>
    match it.peerRead with
    | none => s
    | some (node, _) =>
      match s.readingFrom it node, data with
      | some (o, sh), some r => s.takeRecord it o sh.first sh.format r
      | _, _ => s.nextCopy it 0

/-- A peer read has taken too long (R88). -/
def peerFetchTimeout (entry : Nat) (s : State) : State :=
  s.onItem entry fun it =>
    match it.peerRead with
    | none => s
    | some (_, since) => if since + s.get Obj.peerFetchTimeoutTicks < s.gtc then s.nextCopy it 0 else s

end Sys2Proof.Machine
end

