-- ==== Sys2Proof/Machine/Cache.lean ====
section
/-! DEFINITION. The Decoded Sample Cache: lookups, hits, fills, eviction with the clock, the flash tier and the commands that
drop entries (R183 to R193). -/

namespace Sys2Proof.Machine

/-! ## Keys -/

/-- FW_MAJOR of the running image. -/
def State.fwMajor (s : State) : Nat := s.get Obj.fwVersionMajor

/-- The digest input of a job (R184). -/
def State.digestInput (s : State) (j : Job) : Bytes :=
  let d := s.decodeSettings j
  let or (v w : Nat) : Nat := if v = 0 then w else v
  bytesOf [0x44, 0x43, 0x50, 0x31] ++ leBytes 2 s.fwMajor ++ zeros 2 ++ leBytes 16 j.corpusId ++
    leBytes 8 (or j.acceptKinds ((payloadKinds.map fun k => 2 ^ k).sum)) ++
    leBytes 2 (or j.maxRatio (s.get Obj.defaultMaxRatio)) ++ leBytes 1 d.reduce ++ leBytes 1 d.upsample ++
    leBytes 4 (or j.outputLimit (s.get Obj.maxRecordBytes)) ++ leBytes 1 d.alphaMode ++ leBytes 1 (ofBool d.flacMd5) ++
    leBytes 1 (ofBool (decide (0 < s.get Obj.slowLanePiers))) ++ zeros 1 ++ leBytes 4 (s.get Obj.maxRecordBytes) ++
    leBytes 8 d.workLimit ++ leBytes 8 (s.get Obj.maxDecodedBytes)

/-- PARAM_DIGEST of a job (R183). -/
def State.paramDigest (s : State) (j : Job) : Nat := leNat (shake256 16 (s.digestInput j))

/-- The digest of a slot as VALIDATE computed it. -/
def State.slotDigest (s : State) (slot : Nat) : Nat := s.get (inst Obj.cacheParamDigest slot)

/-- Is an entry that of a sample and digest? -/
def CacheEntry.hasKey (e : CacheEntry) (sample dig : Nat) : Bool := e.sample == sample && e.digest == dig

/-- The same of a stored entry. -/
def FlashEntry.hasKey (e : FlashEntry) (sample dig : Nat) : Bool := e.sample == sample && e.digest == dig

/-- The entry of the GDDR7 tier for a key. -/
def State.gddrEntry (s : State) (sample dig : Nat) : Option CacheEntry :=
  s.cache.entries.find? fun e => e.visible && e.hasKey sample dig

/-- The entry of the flash tier for a key. -/
def State.flashEntry (s : State) (sample dig : Nat) : Option FlashEntry :=
  (s.cache.segments.flatMap FlashSegment.entries).find? fun e => e.hasKey sample dig

/-- The record index and requester of the CACHE stage. -/
def Job.cacheStage (j : Job) : Nat × Nat := ((j.stageOf 0x05).map fun e => (e.1, e.2.requester)).getD (0, 0)

/-! ## Room -/

/-- The clock hand goes round, clearing bits, and stops at the first entry it may evict (R188): its place and the entries as
it leaves them. -/
def clockHand : Nat → Nat → List CacheEntry → Option (Nat × List CacheEntry)
  | 0, _, _ => none
  | fuel + 1, hand, l =>
    match l[hand]? with
    | none => if l = [] then none else clockHand fuel 0 l
    | some e =>
      if e.pinnedBy.isSome ∨ e.readers ≠ 0 ∨ ¬ e.visible then clockHand fuel (hand + 1) l
      else if e.refBit then clockHand fuel (hand + 1) (l.set hand { e with refBit := false })
      else some (hand, l)

/-- May the flash tier be written: it exists, the store is mounted for writing and the hold-up check allows it (R189)? -/
def State.flashWritable (s : State) : Bool := s.get Obj.storeState == 2 && s.gateOpen

/-- An entry evicted from the GDDR7 tier goes to compression for the flash tier, or is dropped (R189). -/
def State.demote (s : State) (e : CacheEntry) : State :=
  if s.get Obj.cacheFlashBytes = 0 ∨ ¬ e.flash ∨ (s.flashEntry e.sample e.digest).isSome then s
  else if s.flashWritable then { s with cache := { s.cache with compressing := s.cache.compressing ++ [e] } }
  else s.bump Obj.cacheFlashWritesHeld

/-- One entry is evicted from the GDDR7 tier; nothing where every one is pinned or being read (R188). -/
def State.evictOne (s : State) : Option State :=
  match clockHand (3 * s.cache.entries.length + 3) s.cache.hand s.cache.entries with
  | none => none
  | some (hand, l) =>
    let s := { s with cache := { s.cache with hand := hand, entries := l.eraseIdx hand } }
    match l[hand]? with
    | some e => some ((s.bump Obj.cacheEvictions).demote e).cacheStatus
    | none => none

/-- Entries are evicted until some blocks are free, at most `fuel` (R188). -/
def makeBlocks (blocks : Nat) : Nat → State → Option State
  | 0, _ => none
  | fuel + 1, s =>
    if s.get Obj.cacheGddrUsedBytes + cacheBlock * blocks ≤ s.get Obj.cacheGddrBytes then some s
    else s.evictOne.bind (makeBlocks blocks fuel)

/-- Room for some blocks in the GDDR7 tier. -/
def State.cacheRoom (s : State) (blocks : Nat) : Option State := makeBlocks blocks (s.cache.entries.length + 1) s

/-- PIN is honoured while pinned bytes stay within their limit (R188). -/
def State.pinFor (s : State) (slot blocks : Nat) : Option Nat :=
  if (s.job slot).cachePin ∧ s.get Obj.cacheGddrPinnedBytes + cacheBlock * blocks ≤ s.get Obj.cachePinMaxBytes then some slot
  else none

/-! ## Fills -/

/-- DECODE has ended without failure for an item whose class the job fills from (R187): the fill takes a reference on the chain,
or is skipped. -/
def State.startFill (s : State) (it : Item) : State :=
  let dig := s.slotDigest it.slot
  let blocks := ceilDiv it.data.length cacheBlock
  if (s.gddrEntry it.sample dig).isSome ∨ (s.flashEntry it.sample dig).isSome then s
  else if s.get Obj.cacheMaxEntryBytes < it.data.length then s.bump Obj.cacheFillsSkipped
  else match it.chain, s.cacheRoom blocks with
    | some c, some s =>
      let s := s.addChain c
      let j := s.job it.slot
      let fill : CacheFill :=
        { slot := it.slot, chain := some c
          entry :=
            { sample := it.sample, digest := dig, objectId := ((j.shardOf it.sample).map fun x => x.2.objectId).getD 0
              data := it.data, blocks := blocks, flash := j.flashTier } }
      State.cacheStatus { s with cache := { s.cache with fills := s.cache.fills ++ [fill] } }
    | _, _ => s.bump Obj.cacheFillsSkipped

/-- The copy of a fill ends: the entry is inserted, or skipped where one for its key came first (R187, R192). -/
def cacheFillComplete (place : Nat) (s : State) : State :=
  match s.cache.fills[place]? with
  | none => s
  | some f =>
    let s := { s with cache := { s.cache with fills := s.cache.fills.eraseIdx place } }
    let s := match f.chain with
      | some c => s.dropChain c
      | none => s
    let s := s.cacheStatus
    if (s.gddrEntry f.entry.sample f.entry.digest).isSome then s.bump Obj.cacheFillsSkipped
    else
      let pin := s.pinFor f.slot f.entry.blocks
      let s := { s with cache := { s.cache with entries := s.cache.entries ++ [{ f.entry with pinnedBy := pin }] } }
      ((s.bump Obj.cacheFills).bump (inst Obj.slotCacheFills f.slot)).cacheStatus

/-- A slot returns to EMPTY: what it pinned is pinned no longer (R188). -/
def State.unpin (s : State) (slot : Nat) : State :=
  State.cacheStatus { s with cache := { s.cache with
    entries := s.cache.entries.map fun (e : CacheEntry) => if e.pinnedBy = some slot then { e with pinnedBy := none } else e } }

/-! ## The flash tier -/

/-- The header of an entry of the flash tier and its stored bytes (R190). -/
def FlashEntry.encode (e : FlashEntry) : Bytes :=
  let h := bytesOf [0x44, 0x53, 0x43, 0x45] ++ leBytes 2 (ofBool e.compressed) ++ zeros 2 ++ leBytes 8 e.sample ++
    leBytes 16 e.digest ++ leBytes 16 e.objectId ++ leBytes 8 e.stored.length
  h ++ leBytes 4 (crc32c (h ++ e.stored)) ++ zeros 4 ++ e.stored

/-- The object of the n-th segment: an identifier reserved to the Zhevyel (R340). -/
def segmentObject (n : Nat) : Nat := 0xFF + 256 * n

/-- The oldest segment is dropped whole and its object deleted (R189). -/
def State.dropSegment (s : State) : State :=
  match s.cache.segments with
  | [] => s
  | g :: t =>
    let s := { s with cache := { s.cache with segments := t } }
    let s := s.count Obj.cacheEvictions g.entries.length
    match s.object g.object with
    | some o =>
      ((s.unmapObject o).modStore fun st => { st with objects := st.objects.filter fun x => x.object != g.object }).cacheStatus
    | none => s.cacheStatus

/-- A segment is opened at the end of the log; the tier being full, the oldest goes first (R189). -/
def State.openSegment (s : State) : State :=
  let s := if s.get Obj.cacheFlashBytes < (s.cache.segments.length + 1) * s.get Obj.cacheSegmentBytes then s.dropSegment else s
  let id := segmentObject s.cache.nextSegment
  let s := s.modStore fun t => { t with objects := t.objects ++ [{ object := id, st := 2 }] }
  State.cacheStatus { s with cache := { s.cache with
    segments := s.cache.segments ++ [{ object := id, entries := [] }], nextSegment := s.cache.nextSegment + 1 } }

/-- An entry is appended to the open segment, or to a new one where that is full. -/
def State.appendEntry (s : State) (e : FlashEntry) : State :=
  let b := e.encode
  let full := match s.cache.segments.getLast? with
    | some g => decide (s.get Obj.cacheSegmentBytes < g.bytes + b.length)
    | none => true
  let s := if full then s.openSegment else s
  match s.cache.segments.getLast? with
  | none => s
  | some g =>
    match s.object g.object with
    | none => s
    | some o =>
      let g := { g with entries := g.entries ++ [e], bytes := g.bytes + b.length }
      State.storeStatus (State.appendObject { s with cache := { s.cache with segments := s.cache.segments.dropLast ++ [g] } } o b)

/-- Compression of an evicted entry ends (R189): it is stored compressed, or raw where that saves nothing. One that no segment
holds is dropped, and one that may not be written now is held back. -/
def cacheCompressComplete (place : Nat) (s : State) : State :=
  match s.cache.compressing[place]? with
  | none => s
  | some e =>
    let s := { s with cache := { s.cache with compressing := s.cache.compressing.eraseIdx place } }
    let out := Config.zstdCompress (s.get Obj.cacheCompressLevel) e.data
    let small := decide (out.length + 1 ≤ e.data.length)
    let stored := if small then out else e.data
    if ¬ s.flashWritable then s.bump Obj.cacheFlashWritesHeld
    else if s.get Obj.cacheSegmentBytes < 64 + stored.length ∨ s.get Obj.cacheFlashBytes = 0 then s
    else
      let s := if small then s else s.bump Obj.cacheStoredRaw
      s.appendEntry { sample := e.sample, digest := e.digest, objectId := e.objectId, compressed := small, stored := stored }

/-! ## Lookups -/

/-- The class of a sample where an opened copy of its shard gives it. -/
def State.sampleClass (s : State) (slot x : Nat) : Option Nat :=
  match (s.job slot).shardOf x with
  | none => none
  | some (num, sh) =>
    (((s.slot slot).shards.find? fun o => o.shard == num && o.fault == 0 && !o.opening).bind fun o => o.entries[x - sh.first]?).map
      IndexEntry.cls

/-- An item found in the cache goes to FETCHING while its entry is read. -/
def Item.hitting (it : Item) (tier : Nat) (b : Bytes) : Item :=
  let d := descriptorOf b
  { it with st := 1, stage := 0, hit := tier, cls := d.cls, kind := d.kind }

/-- The owner looks an item up as it leaves QUEUED (R185, R186): a hit is read, a miss starts at SOURCE. Where the class is not
yet known, it is the entry's own. -/
def State.lookUp (s : State) (it : Item) : State :=
  let j := s.job it.slot
  let dig := s.slotDigest it.slot
  let acts (c : Nat) : Bool := j.looksUp c
  let looks : Bool := match s.sampleClass it.slot it.sample with
    | some c => acts c
    | none => acts 0 || acts 1 || acts 2
  if !looks then s.fetch it
  else
    let hits := inst Obj.slotCacheHits it.slot
    match s.gddrEntry it.sample dig, (if j.flashTier && s.get Obj.cacheFlashBytes != 0 then s.flashEntry it.sample dig else none) with
    | some e, _ =>
      if acts (descriptorOf e.data).cls then
        let s := { s with cache := { s.cache with
            entries := replaceFirst (fun x => x.visible && x.hasKey it.sample dig)
              { e with refBit := true, readers := e.readers + 1 } s.cache.entries } }
        ((s.bump Obj.cacheHitsGddr).bump hits).putItem (it.hitting 1 e.data)
      else s.fetch it
    | none, some _ =>
      ((s.bump Obj.cacheHitsFlash).bump hits).putItem { it with st := 1, stage := 0, hit := 2 }
    | none, none => ((s.bump Obj.cacheMisses).bump (inst Obj.slotCacheMisses it.slot)).fetch it

/-- A read of an entry ends; one that has left the index gives its blocks up with its last reader (R192). -/
def State.endRead (s : State) (sample dig : Nat) : State :=
  let end_ (e : CacheEntry) : Option CacheEntry :=
    if e.readers ≤ 1 ∧ ¬ e.visible then none else some { e with readers := e.readers - 1 }
  let rec go : List CacheEntry → List CacheEntry
    | [] => []
    | e :: t => if e.hasKey sample dig ∧ e.readers ≠ 0 then (end_ e).toList ++ t else e :: go t
  State.cacheStatus { s with cache := { s.cache with entries := go s.cache.entries } }

/-- The checks of a copied sample (R186). -/
def copiedOk (sample : Nat) (b : Bytes) : Bool := sampleMagicOk b && (descriptorOf b).sample == sample

/-- A copied sample fails its checks: the entry goes from both tiers and the item continues as a miss (R186). -/
def State.corruptEntry (s : State) (it : Item) : State :=
  let dig := s.slotDigest it.slot
  let s := State.cacheStatus { s with cache := { s.cache with
      entries := dropEntries (fun e => e.hasKey it.sample dig) s.cache.entries
      segments := dropStored (fun e => e.hasKey it.sample dig) s.cache.segments } }
  (s.bump Obj.cacheCorruptions).fetch { it with hit := 0 }

/-- A hit of the GDDR7 tier has been copied (R186): `ok` says that its bytes came as the entry holds them. -/
def cacheHitCopyComplete (entry : Nat) (ok : Bool) (s : State) : State :=
  s.onItem entry fun it =>
    if it.hit ≠ 1 ∨ it.waitOut.isSome then s
    else
      let dig := s.slotDigest it.slot
      let found := s.cache.entries.find? fun e => e.hasKey it.sample dig && e.readers != 0
      let s := s.endRead it.sample dig
      match found with
      | some e =>
        if ok ∧ copiedOk it.sample e.data then s.output it e.data (s.job it.slot).cacheStage.2 else s.corruptEntry it
      | none => s.corruptEntry it

/-- A promoted entry joins the GDDR7 tier where room can be made (R189). -/
def State.promote (s : State) (it : Item) (e : FlashEntry) (data : Bytes) : State :=
  let blocks := ceilDiv data.length cacheBlock
  match s.cacheRoom blocks with
  | some s =>
    let pin := s.pinFor it.slot blocks
    State.cacheStatus { s with cache := { s.cache with
      entries := s.cache.entries ++
        [{ sample := e.sample, digest := e.digest, objectId := e.objectId, data := data, blocks := blocks, pinnedBy := pin
           refBit := true, flash := (s.job it.slot).flashTier }] } }
  | none => s

/-- A hit of the flash tier has been read (R189): `ok` says that its bytes came as stored. -/
def cacheFlashReadComplete (entry : Nat) (ok : Bool) (s : State) : State :=
  s.onItem entry fun it =>
    if it.hit ≠ 2 ∨ it.waitOut.isSome then s
    else match s.flashEntry it.sample (s.slotDigest it.slot) with
      | none => s.corruptEntry it
      | some e =>
        let data := if e.compressed then
            match Config.inflateFrame 1 e.stored with
            | .ok (b, _) => b
            | .error _ => []
          else e.stored
        if ok ∧ e.crcOk ∧ copiedOk it.sample data then
          let s := if s.get Obj.cachePromote = 1 ∧ (s.gddrEntry it.sample e.digest).isNone then s.promote it e data else s
          let cls := (descriptorOf data).cls
          if (s.job it.slot).looksUp cls then
            s.output { it with cls := cls, kind := (descriptorOf data).kind } data (s.job it.slot).cacheStage.2
          else s.fetch { it with hit := 0 }
        else s.corruptEntry it

/-! ## Commands -/

/-- Is a slot with a CACHE stage and CacheMode other than OFF RUNNING or DRAINING (R191)? -/
def State.cacheBusy (s : State) : Bool :=
  allSlots.any fun i =>
    (s.jobState i == 4 || s.jobState i == 5) && (s.job i).cacheMode != 0 && ((s.job i).stageOf 0x05).isSome

/-- A CacheCommand drops entries (R191). -/
def cacheCommandWrite (n : Nat) (s : State) : State :=
  if s.cacheBusy then s.refused 0x801A
  else
    let dig := s.get Obj.cachePurgeDigest
    (if n = 1 then s.purge (fun e => e.pinnedBy.isNone) none
    else if n = 2 then s.purge (fun _ => true) (some fun _ => true)
    else s.purge (fun e => e.digest == dig) (some fun e => e.digest == dig)).ok

end Sys2Proof.Machine
end

