-- ==== Sys2Proof/Machine/Prepare.lean ====
section
/-! DEFINITION. The attempts of items on engines: decompression, decoding with its budget and slow lane, transforms and
tokenization, and the retry after an internal fault (R123 to R157, R178, R218 to R220, R432). -/

namespace Sys2Proof.Machine

/-! ## Retry -/

/-- An item starts again: from the input of its stage, from SOURCE, or, that input being the damaged data, from the input of the
stage before, which of a record just read or a cache hit is SOURCE (R308, R432). -/
def State.restartItem (s : State) (it : Item) (damaged fromSource : Bool) : State :=
  let s := s.cancelWait it.entry
  let it := { it with engine := none, waitOut := none, faultSeq := s.lastFaultSeq }
  let afresh (s : State) : State :=
    let s := match it.chain with
      | some c => s.dropChain c
      | none => s
    s.fetch { it with chain := none, data := [], before := [], madeAt := 0, results := [] }
  if it.st = 1 ∨ fromSource ∨ (damaged ∧ it.madeAt = 0) then afresh s
  else if damaged then
    let s := match it.chain with
      | some c => s.dropChain c
      | none => s
    let i := it.madeAt
    let it := { it with chain := none, data := it.before, before := [], madeAt := 0
                        results := it.results.filter fun r => decide (r.1 < i) }
    match (s.job it.slot).stages[i]? with
    | some st => s.arrive it i st.kind st
    | none => s.putItem { it with stage := i }
  else s.putItem it

/-- An attempt that met an internal fault is made again on another element (R432). Past the limit the item ends. -/
def State.retryItem (s : State) (it : Item) (damaged fromSource : Bool) : State :=
  if s.get Obj.itemRetryLimit ≤ it.retries then
    s.failItem { it with faultSeq := s.lastFaultSeq } 0x7002
  else
    (s.bump Obj.faultRecoveryCount).restartItem
      { it with
        faultAt := if it.st = 1 ∨ fromSource ∨ (damaged ∧ it.madeAt = 0) then none else some s.gtc
        retries := it.retries + 1, perturb := it.perturb ||| 128, avoid := it.engine } damaged fromSource

/-- Is an item on an engine of a kind, with its attempt not yet over? -/
def Item.runsOn (it : Item) (kinds : List Nat) : Bool :=
  it.waitOut.isNone && !it.prepared && (it.engine.map fun e => kinds.contains e.1).getD false

/-- The ticks an attempt has had its engine. -/
def State.elapsed (s : State) (it : Item) : Nat := s.gtc - it.engineSince

/-- An attempt ends: its engine was busy so long and has finished an item (R528). -/
def State.attemptDone (s : State) (it : Item) : State :=
  (s.engineEvent it 0x100 (s.elapsed it)).engineEvent it 0x101 1

/-- The stage record an item stands at. -/
def State.stageRec (s : State) (it : Item) : Option StageRec := (s.job it.slot).stages[it.stage]?

/-! ## Decompression -/

/-- Counters of the limits a decode or decompression met (R154). -/
def State.countLimit (s : State) (code : Nat) : State :=
  if code = 0x2010 ∨ code = 0x2011 ∨ code = 0x2012 then s.bump Obj.outputLimitRefusals
  else if code = 0x2051 then s.bump Obj.workLimitRefusals
  else s

/-- A Zstandard engine finishes a frame (R126, R127). -/
def decompressComplete (entry : Nat) (s : State) : State :=
  s.onItem entry fun it =>
    if ¬ it.runsOn [4] then s
    else
      let j := s.job it.slot
      let acts := it.stage ≠ 255
      let limit := if acts ∧ j.outputLimit ≠ 0 then j.outputLimit else s.get Obj.maxRecordBytes
      let ratio := if acts ∧ j.maxRatio ≠ 0 then j.maxRatio else s.get Obj.defaultMaxRatio
      let s := (s.attemptDone it).engineEvent it 0x105 it.data.length
      match decompressFrame it.framing (if it.uncompressed = 0 then none else some it.uncompressed) limit ratio it.data with
      | .error code => (s.countLimit code).failItem it code
      | .ok out =>
        let s := (s.count Obj.bytesDecompressed out.length).engineEvent it 0x106 out.length
        s.output { it with framing := 0, uncompressed := out.length } out (j.requesterOf it.stage)

/-! ## Decoding -/

/-- A decode attempt ends: the output waits for its chain, or the item ends with its code (R129, R143, R144). -/
def State.decodeDone (s : State) (it : Item) : State :=
  let j := s.job it.slot
  let longest := inst Obj.longestDecodeTicks it.slot
  let s := s.attemptDone it
  match decodePayload (s.decodeSettings j) it.kind it.sample it.data with
  | .error code => (s.countLimit code).failItem it code
  | .ok d =>
    let took := s.elapsed it
    let s := s.set longest (max (s.get longest) (it.measured + took))
    let s := if d.pixels = 0 then s else s.engineEvent it 0x102 d.pixels
    let s := if it.kind = 0x21 ∨ it.kind = 0x22 ∨ it.kind = 0x23 then s.bump Obj.utf16Conversions else s
    s.output { it with measured := if it.slow then it.measured else took } d.bytes (j.requesterOf it.stage)

/-- Does an item stand at DECODE? -/
def State.atDecode (s : State) (it : Item) : Bool := ((s.stageRec it).map fun st => st.kind == 4).getD false

/-- A Dealer finishes an item (R129). -/
def decodeComplete (entry : Nat) (s : State) : State :=
  s.onItem entry fun it => if it.runsOn [1, 2] ∧ s.atDecode it then s.decodeDone it else s

/-- The slow lane finishes an item (R142). -/
def slowLaneDecodeComplete (entry : Nat) (s : State) : State :=
  s.onItem entry fun it =>
    if it.runsOn [8] ∧ s.atDecode it then
      let s := ((s.bump Obj.slowLaneItems).bump (inst Obj.slotSlowLaneItems it.slot)).count Obj.slowLaneBusyTicks (s.elapsed it)
      s.decodeDone it
    else s

/-- A decoder passes the work limit (R144): this is what the count of its input comes to. -/
def workLimitExceeded (entry : Nat) (s : State) : State :=
  s.onItem entry fun it =>
    let beyond : Bool := match decodePayload (s.decodeSettings (s.job it.slot)) it.kind it.sample it.data with
      | .error code => code == 0x2051
      | .ok _ => false
    if it.runsOn [1, 2, 8] ∧ s.atDecode it ∧ beyond then s.decodeDone it else s

/-- The decode budget of an item in ticks (R147). -/
def State.budget (s : State) (it : Item) : Nat :=
  max (s.get Obj.budgetFloorTicks) ((s.decodeSettings (s.job it.slot)).budgetFactor * 64 * s.costOf it)

/-- The budget of an item on a Dealer is spent: it restarts on the slow lane (R147). Ticks while another slot holds the class are
not counted; with no slow lane nothing is escalated (R142). -/
def decodeBudgetExpired (entry : Nat) (s : State) : State :=
  s.onItem entry fun it =>
    if it.runsOn [1, 2] ∧ s.atDecode it ∧ s.holdsFor 1 it.slot ∧ s.budget it ≤ s.elapsed it ∧ 0 < s.get Obj.slowLanePiers then
      let took := s.elapsed it
      let s := s.engineEvent it 0x100 took
      let s := (s.bump Obj.escalations).bump (inst Obj.slotEscalations it.slot)
      let it := { it with engine := none, slow := true, flags := it.flags ||| 2, measured := took }
      let s := s.putItem it
      if s.enginesOf 8 = [] then s.failItem it 0x7050 else s
    else s

/-- The first decode of a sample in the job leaves its cost in the annotation table (R79). -/
def State.annotate (s : State) (slot sample : Nat) (f : Annotation → Annotation) : State :=
  if s.get Obj.annotationEnable ≠ 1 then s
  else s.modSlot slot fun sl =>
    { sl with annotations :=
      if sl.annotations.any fun a => a.sample == sample then modifyWhere (fun a => a.sample == sample) f sl.annotations
      else sl.annotations ++ [f { sample := sample, cost := 0, tokens := 0 }] }

/-- An item leaves DECODE without failure (R79, R154, R155, R187). -/
def State.leaveDecode (s : State) (it : Item) : State :=
  let d := descriptorOf it.data
  let s := (s.bump Obj.itemsDecoded).bump (inst Obj.slotItemsDecoded it.slot)
  let s := if d.cls = 0 then s.count Obj.pixelsDecoded (d.width * d.height)
    else if d.cls = 1 then s.count Obj.audioFramesDecoded d.width else s
  let s := s.annotate it.slot it.sample fun (a : Annotation) =>
    if a.cost = 0 then { a with cost := min (2 ^ 32 - 1) (it.measured / 64) } else a
  if (s.job it.slot).fillsCache it.cls then s.startFill it else s

/-! ## Transforms -/

/-- The layout of the stream that carries a class (R172). -/
def Job.layoutOf (j : Job) (cls : Nat) : Nat := (((j.streamOf cls).bind fun k => j.streams[k]?).map StreamRec.layout).getD 0

/-- The input of a TRANSFORM fails its MAGIC or its CRC (R178): an internal fault the first time, the end of the item the
second. `check` is 1 for MAGIC and 2 for the CRC. -/
def State.inputCorrupt (s : State) (it : Item) (check : Nat) : State :=
  let s := s.bump Obj.transformInputErrors
  let s := s.raiseFault
    { cls := 2, reason := 0x7003, tile := (it.engine.map fun e => 1 + e.2 / 64).getD 0xFF
      unit := (it.engine.map Prod.snd).getD 0
      action := if it.checks = 0 then 1 else 4, slot := it.slot, requester := (s.job it.slot).requesterOf it.stage, ref := it.ref
      detail0 := (it.chain.map Chain.name).getD 0, detail1 := check }
  if it.checks = 0 then s.retryItem { it with checks := 1 } true false
  else s.failItem { it with faultSeq := s.lastFaultSeq } 0x3012

/-- A warp engine or signal Dealer finishes a TRANSFORM stage (R157 to R176). `check` is 0 where the input passed its checks
(R178). -/
def transformComplete (entry check : Nat) (s : State) : State :=
  s.onItem entry fun it =>
    match s.stageRec it with
    | none => s
    | some st =>
      if ¬ it.runsOn [2, 3] ∨ st.kind ≠ 8 then s
      else if check ≠ 0 then s.inputCorrupt it check
      else
        let j := s.job it.slot
        let most := s.get Obj.maxDecodedBytes
        let s := s.attemptDone it
        let it := { it with checks := 0 }
        if it.cls = 0 then
          match warp j most it.stage it.epoch it.position (j.layoutOf 0) st.param it.data with
          | .error code => s.failItem it code
          | .ok w =>
            let s := (((s.count Obj.warpPixelsOut w.pixels).count Obj.meshVerticesComputed w.vertices).count Obj.edgeTaps w.edge)
            let s := s.engineEvent it 0x103 w.pixels
            let s := if w.fallback then s.bump (inst Obj.cropFallbacks it.slot) else s
            (s.count (inst Obj.autoReduceLevels it.slot) w.auto).output it w.bytes st.requester
        else
          match transformSignal j most it.stage it.epoch it.position st.param it.data with
          | .error code => s.failItem it code
          | .ok o =>
            ((s.count Obj.signalFramesOut o.frames).count Obj.melFramesOut o.mel).output { it with valid := o.valid } o.bytes
              st.requester

/-- An item leaves a TRANSFORM stage without failure (R182). -/
def State.leaveTransform (s : State) (it : Item) : State :=
  s.bump (inst (if it.cls = 0 then Obj.slotImagesTransformed else Obj.slotSignalsTransformed) it.slot)

/-! ## Tokenization -/

/-- Does a CURATE, FILTER, KERNEL or TRANSFORM stage with the text bit lie between DECODE and TOKENIZE (R78, R111)? -/
def Job.textMayChange (j : Job) : Bool :=
  let first := ((j.stageOf 0x04).map Prod.fst).getD 0
  let last := ((j.stageOf 0x0A).map Prod.fst).getD 0
  j.stages.zipIdx.any fun e =>
    decide (first < e.2 ∧ e.2 < last) && decide (6 ≤ e.1.kind ∧ e.1.kind ≤ 9) && bit e.1.classMask 2

/-- The text that reaches TOKENIZE: of a decoded sample its data; of a class that DECODE does not act on, the payload (R123). -/
def Job.textOf (j : Job) (b : Bytes) : Bytes :=
  if ((j.stageOf 0x04).map fun e => bit e.2.classMask 2).getD false then sampleData b else b

/-- A text as TOKENIZE makes it of its input (R218 to R220): the tokenized sample, its identifiers, whether they were cut, the
subparts cleaned and the bytes after cleaning; or the code. -/
structure TokenOut where
  bytes : Bytes
  tokens : List Nat
  cut : Bool
  subs : Nat
  cleaned : Nat

/-- TOKENIZE of a text (R218 to R220). -/
def State.tokenizeText (s : State) (j : Job) (sample : Nat) (text : Bytes) : Except Nat TokenOut :=
  let p := tokenizeParams ((j.tokenizeStage.map StageRec.param).getD [])
  let img := s.imageBytes 0 p.vocab
  let subs := subparts text
  if p.policy = 2 ∧ subs ≠ 0 then .error 0x3810
  else
    let clean := cleanText (p.policy == 1) text
    let (tokens, cut) := tokenize img p clean
    if s.get Obj.maxDecodedBytes < 4 * tokens.length + 64 then .error 0x3811
    else .ok { bytes := tokenizedSample tokens cut (decide (subs ≠ 0)) sample (p.vocab % 2 ^ 64) subs text.length
               tokens := tokens, cut := cut, subs := subs, cleaned := clean.length }

/-- A tokenizer engine finishes an item; a claim that the text must meet is tested (R78, R219). -/
def tokenizeComplete (entry : Nat) (s : State) : State :=
  s.onItem entry fun it =>
    if ¬ it.runsOn [5] then s
    else
      let j := s.job it.slot
      let text := j.textOf it.data
      let s := s.attemptDone it
      match s.tokenizeText j it.sample text with
      | .error code => s.failItem it code
      | .ok o =>
        let n := o.tokens.length
        let sl (k : Nat) : Nat := inst k it.slot
        let s := (s.engineEvent it 0x104 o.cleaned).count Obj.textBytesTokenized o.cleaned
        let s := (s.count Obj.illFormedSubparts o.subs).count (sl Obj.slotIllFormedSubparts) o.subs
        let s := s.annotate it.slot it.sample fun (a : Annotation) => { a with tokens := n }
        if it.claim ≠ 0 ∧ it.claim ≠ n ∧ ¬ j.textMayChange then s.failItem it 0x1028
        else
          let s := ((s.bump Obj.textItemsTokenized).bump (sl Obj.slotTextItems)).count Obj.tokensProduced n
          let s := s.count (sl Obj.slotTokens) n
          let s := if o.cut then (s.bump Obj.truncatedItems).bump (sl Obj.slotTruncatedItems) else s
          s.output it o.bytes (j.requesterOf it.stage)

end Sys2Proof.Machine
end

