-- ==== Sys2Proof/Machine/Census.lean ====
section
/-! DEFINITION. The epoch census: this node's contribution, the exchange with the other members, restarts, and the copy of a
finished census to a joining spare (R110 to R113, R588). -/

namespace Sys2Proof.Machine

/-! ## What a node knows of the corpus -/

/-- The bytes of a copy of an object on a device. -/
def State.copyContent (s : State) (uid object : Nat) : Option Bytes :=
  if uid = myUid then s.sealedObject object else Config.peerObject uid object

/-- A copy of a shard opened: its entries and the bytes they lie in; nothing where it is absent or faulted. -/
def State.openCopy (s : State) (slot num : Nat) (sh : ShardRec) (uid : Nat) : Option (ShardOpen × Bytes) :=
  match s.copyContent uid sh.objectId with
  | none => none
  | some b =>
    let o : ShardOpen := { shard := num, node := uid, opening := false }
    let most := s.get Obj.maxRecordBytes
    if sh.format = 0 then
      match openFolien (s.job slot) num sh most b with
      | .error _ => none
      | .ok (entries, tagged) => some ({ o with entries := entries, tagged := tagged, endAt := sh.count }, b)
    else
      let t := scanTar sh.count most b
      some ({ o with
        entries := t.entries, endAt := t.entries.length, endCode := if t.code = 0 then 0x1044 else t.code }, b)

/-- The copies of a sample's shard in the order they are tried, each with the index entry of the sample (R88, R588). -/
def State.entriesOf (s : State) (slot x : Nat) : List (ShardOpen × ShardRec × IndexEntry × Bytes) :=
  match (s.job slot).shardOf x with
  | none => []
  | some (num, sh) =>
    (s.copyNodes slot sh).filterMap fun uid =>
      match s.openCopy slot num sh uid with
      | none => none
      | some (o, b) => match o.entryAt (x - sh.first) with
        | .ok e => some (o, sh, e, b)
        | .error _ => none

/-- The sound payload of a sample, from the first copy that gives one, with its kind, FRAMING and length if known. -/
def State.payloadOf (s : State) (slot x : Nat) : Option (IndexEntry × Nat × Bytes) :=
  ((s.entriesOf slot x).filterMap fun (_, sh, e, b) =>
    let r := slice e.offset e.recordBytes b
    let payload := if sh.format = 0 then slice 32 e.length r else r
    let known := if sh.format = 0 then field r 0x14 4 else if e.framing = 0 then e.length else 0
    if (if sh.format = 0 then recordCode x e r else 0) ≠ 0 then none
    else if parseCode ((s.job slot).acceptFor e.cls) e.kind e.framing known payload ≠ 0 then none
    else some (e, known, payload)).head?

/-- The pre-pass of a text (R111): the tokens it comes to, nothing where it fails. -/
def State.prePass (s : State) (slot x : Nat) : Option Nat :=
  let j := s.job slot
  match s.payloadOf slot x with
  | none => none
  | some (e, known, payload) =>
    let plain : Except Nat Bytes :=
      if e.framing = 0 then .ok payload
      else
        let limit := if j.outputLimit = 0 then s.get Obj.maxRecordBytes else j.outputLimit
        let ratio := if j.maxRatio = 0 then s.get Obj.defaultMaxRatio else j.maxRatio
        decompressFrame e.framing (if known = 0 then none else some known) limit ratio payload
    match plain with
    | .error _ => none
    | .ok b =>
      match decodePayload (s.decodeSettings j) e.kind x b with
      | .error _ => none
      | .ok d => match s.tokenizeText j x (sampleData d.bytes) with
        | .ok o => some o.tokens.length
        | .error _ => none

/-- The samples of a job that this node owns (R87). -/
def State.ownedSamples (s : State) (slot : Nat) : List Nat :=
  (List.range (s.job slot).n).filter fun x => s.ownerOf slot x == myUid

/-- COUNT and SOURCE of a text (R111). -/
def State.censusCount (s : State) (slot x : Nat) (o : ShardOpen) (e : IndexEntry) : Nat × Nat :=
  let measured := (((s.slot slot).annotations.find? fun a => a.sample == x).map Annotation.tokens).getD 0
  if o.tagged ∧ e.tokens ≠ 0 then (e.tokens, 0)
  else if measured ≠ 0 ∧ ¬ (s.job slot).textMayChange then (measured, 1)
  else match s.prePass slot x with
    | some n => (n, 2)
    | none => (0, 3)

/-- Insertion in the order of positions. -/
def insertRec (r : CensusRec) : List CensusRec → List CensusRec
  | [] => [r]
  | h :: t => if r.position ≤ h.position then r :: h :: t else h :: insertRec r t

/-- Records in the order of positions. -/
def sortRecs (l : List CensusRec) : List CensusRec := l.foldr insertRec []

/-- This node's text census records of an epoch (R110, R112). -/
def State.ownText (s : State) (slot epoch : Nat) : List CensusRec :=
  let j := s.job slot
  if ¬ j.packs then []
  else sortRecs ((s.ownedSamples slot).filterMap fun x =>
    match (s.entriesOf slot x).head? with
    | some (o, _, e, _) =>
      let p := (riffleInverse j.seed j.n x epoch).1
      if e.cls = 2 ∧ p < j.issued then
        let (n, src) := s.censusCount slot x o e
        some { position := p, count := n, cls := 2, source := src }
      else none
    | none => none)

/-- This node's Talon directory records of an epoch (R110, R588). -/
def State.ownDirectory (s : State) (slot epoch : Nat) : List CensusRec :=
  let j := s.job slot
  ((List.range j.t).map fun i => j.m + i).filterMap fun p =>
    let x := riffle j.seed j.n p epoch
    if s.ownerOf slot x ≠ myUid then none
    else some (match (s.entriesOf slot x).head? with
      | some (_, _, e, _) => { position := p, count := 0, cls := e.cls, source := 0xFF }
      | none => { position := p, count := 0, cls := 3, source := 3 })

/-! ## Records as bytes -/

/-- The 16 bytes of a record (R110). -/
def CensusRec.encode (r : CensusRec) : Bytes :=
  leBytes 8 r.position ++ leBytes 4 r.count ++ leBytes 1 r.cls ++ leBytes 1 r.source ++ zeros 2

/-- Records as bytes. -/
def censusBytesOf (text dir : List CensusRec) : Bytes := (text ++ dir).flatMap CensusRec.encode

/-- The record at a place. -/
def recAt (b : Bytes) (i : Nat) : CensusRec :=
  { position := field b (16 * i) 8, count := field b (16 * i + 8) 4, cls := byteAt b (16 * i + 12), source := byteAt b (16 * i + 13) }

/-- Is a list strictly in the order of positions? -/
def risingRecs : List CensusRec → Bool
  | a :: b :: t => decide (a.position < b.position) && risingRecs (b :: t)
  | _ => true

/-- The records of a contribution or of a full census, nothing where one is malformed (R110, R113). -/
def readRecs (j : Job) (nText nDir : Nat) (b : Bytes) : Option (List CensusRec × List CensusRec) :=
  let text := (List.range nText).map (recAt b)
  let dir := (List.range nDir).map fun i => recAt b (nText + i)
  let pad := (List.range (nText + nDir)).all fun i => field b (16 * i + 14) 2 == 0
  if b.length = 16 * (nText + nDir) ∧ pad ∧ risingRecs text ∧ risingRecs dir ∧
      (text.all fun r => r.cls == 2 && decide (r.source ≤ 3) && decide (r.position < j.issued)) ∧
      (dir.all fun r => r.count == 0 && decide (j.m ≤ r.position ∧ r.position < j.n) &&
        ((decide (r.cls ≤ 2) && r.source == 0xFF) || (r.cls == 3 && r.source == 3))) then
    some (text, dir)
  else none

/-! ## Messages -/

/-- The immediate of census messages (R113). -/
def censusImmediate : Nat := 0x5A434E31

/-- A census message (R113). -/
def censusMessage (type slot epoch build key addr nText nDir dig : Nat) : Bytes :=
  bytesOf [0x5A, 0x43, 0x4E, 0x31] ++ leBytes 1 type ++ leBytes 1 slot ++ leBytes 2 epoch ++ leBytes 4 build ++ leBytes 4 key ++
    leBytes 8 addr ++ leBytes 8 nText ++ leBytes 8 nDir ++ leBytes 32 dig ++ zeros 8

/-- Are the fields of a census message of a type legal (R113)? -/
def censusLegal (type : Nat) (b : Bytes) : Bool :=
  b.length == 80 && b.take 4 == bytesOf [0x5A, 0x43, 0x4E, 0x31] && byteAt b 4 == type && decide (byteAt b 5 < 64) &&
    decide (field b 8 4 ≤ 2) && (type == 1 || field b 8 4 == 0) && decide (field b 0x18 8 ≤ 2 ^ 40) &&
    decide (field b 0x20 8 ≤ 2 ^ 40) && allZero (slice 0x48 8 b) && (type != 3 || allZero (slice 0x0C 60 b))

/-- What a message offers. -/
def contributionOf (uid : Nat) (b : Bytes) : Contribution :=
  { uid := uid, key := field b 0x0C 4, address := field b 0x10 8, textRecords := field b 0x18 8, dirRecords := field b 0x20 8
    digest := field b 0x28 32 }

/-- The READs of a contribution, each of at most 2^30 bytes (R113). -/
def State.readContribution (s : State) (c : Contribution) : State :=
  let n := 16 * (c.textRecords + c.dirRecords)
  (List.range (ceilDiv n (2 ^ 30))).foldl (fun (t : State) i =>
    t.peerRead c.uid c.key (c.address + i * 2 ^ 30) (min (2 ^ 30) (n - i * 2 ^ 30))) s

/-! ## Building -/

/-- The census objects follow a census (R122). -/
def State.showCensus (s : State) (slot : Nat) (c : Census) : State :=
  let at_ (k : Nat) : Nat := inst k slot
  let s := s.set (at_ Obj.censusState) c.state
  if c.state ≠ 2 then s
  else
    s.setAll [(at_ Obj.censusEpoch, c.epoch), (at_ Obj.censusDocuments, c.text.length),
      (at_ Obj.censusTokens, ((c.text.map CensusRec.count).sum)), (at_ Obj.censusSequences, ((s.job slot).plan c).length),
      (at_ Obj.censusDigest, c.digest), (at_ Obj.packedBatches, (s.job slot).packedCount ((s.job slot).plan c).length),
      (at_ Obj.censusBytes, 16 * (((s.slot slot).censuses.map fun x => x.text.length + x.dir.length).sum))]

/-- Does a job have a census: a Talon directory or a text census (R110)? -/
def Job.needsCensus (j : Job) : Bool := j.packs || (decide (0 < j.t) && j.corruptPolicy == 0)

/-- The other members whose contributions a build still lacks. -/
def State.censusMissing (s : State) (slot : Nat) (c : Census) : List Nat :=
  (s.members slot).filter fun uid => !c.contributions.any fun x => x.uid == uid && x.text.isSome

/-- The region that exports a census to the others is revoked (R113). -/
def State.revokeCensus (s : State) (slot epoch : Nat) : State := s.revoke .censusExport slot epoch

/-- A spare's REQUEST is answered with a FULL (R113). -/
def State.sendFull (s : State) (slot : Nat) (c : Census) (uid : Nat) : State :=
  let base := ((s.regions.find? fun r => r.key == c.exportKey).map Region.base).getD 0
  s.peerSend uid (some censusImmediate)
    (censusMessage 2 slot c.epoch 0 c.exportKey base c.text.length c.dir.length c.digest)

/-- A joining spare asks every member for the census of an epoch (R113, R451). -/
def State.askCensus (s : State) (slot epoch : Nat) : State :=
  if ¬ (s.job slot).needsCensus then s
  else
    let c : Census := { epoch := epoch, state := 1, restarts := 0, started := s.gtc, contributions := [] }
    let s := (s.putCensus slot c).showCensus slot c
    (s.others slot).foldl (fun (t : State) uid => t.peerSend uid (some censusImmediate) (censusMessage 3 slot epoch 0 0 0 0 0 0)) s

/-- The merged census is READY: its digest, its export, and the answers to the spares that asked before (R112, R113). A spare that
built the Talon directory with the members asks for the text census now (R451). -/
def State.finishCensus (s : State) (slot : Nat) (c : Census) (text dir : List CensusRec) : State :=
  if c.wantsText then s.askCensus slot c.epoch else
  let bytes := censusBytesOf text dir
  let asked := c.requests
  let c := { c with state := 2, text := text, dir := dir, digest := digestNat bytes, requests := [] }
  let (key, s) := match s.register .censusExport none bytes.length slot c.epoch bytes with
    | some (r, t) => (r.key, t)
    | none => (0, s)
  let c := { c with exportKey := key }
  let s := s.putCensus slot c
  let n := ((s.job slot).plan c).length
  let s := s.modSlot slot fun sl =>
    { sl with packedCounts := (sl.packedCounts.filter fun e => e.1 != c.epoch) ++ [(c.epoch, (s.job slot).packedCount n)] }
  let s := asked.foldl (fun (t : State) uid => t.sendFull slot c uid) s
  (s.showCensus slot c).heapOrAbort slot .census bytes.length

/-- Does a resume fill withheld positions of an epoch with Talon substitutes (R451)? -/
def State.resumesWithTalon (s : State) (slot epoch : Nat) : Bool :=
  s.get (inst Obj.resumeCorruptPolicy slot) == 2 && ((s.slot slot).replayFrom.map Prod.fst) == some epoch

/-- A build begins, with its count of restarts: this node's contribution is laid out and offered to every other member (R112,
R113). With no other member it is the whole census. -/
def State.buildCensus (s : State) (slot epoch build : Nat) (dirOnly : Option (List CensusRec)) : State :=
  let j := s.job slot
  let before := s.census slot epoch
  let text := match dirOnly with
    | some _ => []
    | none => s.ownText slot epoch
  let dir := if 0 < j.t ∧ (j.corruptPolicy = 0 ∨ dirOnly.isSome ∨ s.resumesWithTalon slot epoch) then s.ownDirectory slot epoch else []
  let bytes := censusBytesOf text dir
  let dig := digestNat bytes
  let s := s.revokeCensus slot epoch
  let mine : Contribution :=
    { uid := myUid, key := 0, address := 0, textRecords := text.length, dirRecords := dir.length, digest := dig
      text := some text, dir := dir }
  let c : Census :=
    { epoch := epoch, state := 1, restarts := build, started := s.gtc, contributions := [mine]
      requests := (before.map Census.requests).getD [], wantsText := (before.map Census.wantsText).getD false }
  let c := match dirOnly with
    | some t => { c with text := t, dirOnly := true }
    | none => c
  let s := (s.putCensus slot c).showCensus slot c
  match s.others slot with
  | [] => s.finishCensus slot c (if dirOnly.isSome then c.text else text) dir
  | others =>
    match s.register .censusExport none bytes.length slot epoch bytes with
    | some (r, t) =>
      others.foldl (fun (u : State) uid => u.peerSend uid (some censusImmediate)
        (censusMessage 1 slot epoch build r.key r.base text.length dir.length dig)) t
    | none => s

/-- The census of an epoch is started where the job has one and none is held (R112). Censuses of epochs that are past are
released. -/
def State.startCensus (s : State) (slot epoch : Nat) : State :=
  let j := s.job slot
  if ¬ j.needsCensus ∨ (s.census slot epoch).isSome ∨ j.epochFirst + j.epochCount ≤ epoch then s
  else
    let live (c : Census) : Bool := decide (s.get (inst Obj.currentEpoch slot) ≤ c.epoch) ||
      s.batches.any (fun b => b.slot == slot && b.epoch == c.epoch) || s.shoes.any (fun x => x.slot == slot && decide (x.epoch ≤ c.epoch))
    let old := (s.slot slot).censuses.filter fun c => !live c
    let s := old.foldl (fun (t : State) c => t.revokeCensus slot c.epoch) s
    let s := s.modSlot slot fun sl => { sl with censuses := sl.censuses.filter live }
    s.buildCensus slot epoch 0 none

/-- A build restarts; the third restart ends it FAILED, and the step fails (R112, R444). -/
def State.restartCensus (s : State) (slot : Nat) (c : Census) (skip : Nat) : State :=
  let build := c.restarts + skip
  if 3 ≤ build then
    let c := { c with state := 3 }
    ((s.putCensus slot c).showCensus slot c).raiseAbort slot 0x7821 c.epoch 0xFF noRef 0x8804 0
  else
    (s.countW 32 (inst Obj.censusRestarts slot) skip).buildCensus slot c.epoch build
      (if c.dirOnly then some c.text else none)

/-- Every member's contribution is there: they are merged, unless two records share a position (R113). -/
def State.mergeCensus (s : State) (slot : Nat) (c : Census) : State :=
  if s.censusMissing slot c ≠ [] then s
  else
    let text := sortRecs (c.contributions.flatMap fun x => x.text.getD [])
    let dir := sortRecs (c.contributions.flatMap Contribution.dir)
    if risingRecs text ∧ risingRecs dir then
      s.finishCensus slot c (if c.dirOnly then c.text else text) dir
    else s.restartCensus slot c 1

/-- The census of a slot and epoch that a message names, while the slot runs. -/
def State.namedCensus (s : State) (b : Bytes) : Option (Nat × Census) :=
  let slot := byteAt b 5
  if s.running slot then (s.census slot (field b 6 2)).map fun c => (slot, c) else none

/-- A census message that is ignored is counted (R113). -/
def State.ignoreMessage (s : State) : State := s.bump Obj.peerMessagesIgnored

/-- An OFFER arrives (R112, R113). A spare that has asked for a census which the members are still building joins the build. -/
def censusOfferReceived (uid : Nat) (b : Bytes) (s : State) : State :=
  if ¬ censusLegal 1 b then s.ignoreMessage
  else match s.namedCensus b with
    | none => s.ignoreMessage
    | some (slot, c) =>
      let build := field b 8 4
      if build < c.restarts ∨ c.state = 3 then s
      else
        let s := if c.state = 1 ∧ c.contributions = [] then s.buildCensus slot c.epoch build none
          else if c.restarts < build then s.restartCensus slot c (build - c.restarts) else s
        match s.census slot c.epoch with
        | some c =>
          if c.state ≠ 1 then s
          else
            let x := contributionOf uid b
            (s.putCensus slot { c with contributions := (c.contributions.filter fun y => y.uid != uid) ++ [x] }).readContribution x
        | none => s

/-- The read of a contribution ends: the bytes, or nothing where it failed, when it is read again (R112, R113). -/
def censusContributionReadComplete (slot epoch uid : Nat) (data : Option Bytes) (s : State) : State :=
  match s.census slot epoch with
  | none => s
  | some c =>
    match c.contributions.find? fun x => x.uid == uid && x.text.isNone with
    | none => s
    | some x =>
      if c.state ≠ 1 ∨ uid = myUid then s
      else match data with
        | none => s.readContribution x
        | some b =>
          match readRecs (s.job slot) x.textRecords x.dirRecords b with
          | some (text, dir) =>
            if digestNat b ≠ x.digest then s.restartCensus slot c 1
            else
              let c := { c with contributions := c.contributions.map fun (y : Contribution) =>
                if y.uid = uid then { y with text := some text, dir := dir } else y }
              (s.putCensus slot c).mergeCensus slot c
          | none => s.restartCensus slot c 1

/-- A contribution is still missing CensusTimeoutTicks after the start of the build (R112). -/
def censusTimeout (slot epoch : Nat) (s : State) : State :=
  match s.census slot epoch with
  | none => s
  | some c =>
    if c.state = 1 ∧ s.censusMissing slot c ≠ [] ∧ c.contributions ≠ [] ∧ c.started + s.get Obj.censusTimeoutTicks ≤ s.gtc then
      s.restartCensus slot c 1
    else s

/-- A REQUEST of a spare of the slot is answered with a FULL, once the census is READY (R113). -/
def censusRequestReceived (uid : Nat) (b : Bytes) (s : State) : State :=
  if ¬ censusLegal 3 b then s.ignoreMessage
  else match s.namedCensus b with
    | none => s.ignoreMessage
    | some (slot, c) =>
      if c.state = 2 then s.sendFull slot c uid
      else if c.state = 1 then s.putCensus slot { c with requests := c.requests.filter (· != uid) ++ [uid] }
      else s

/-- A FULL arrives at a joining spare: the census named by the first is read (R113). -/
def censusFullReceived (uid : Nat) (b : Bytes) (s : State) : State :=
  if ¬ censusLegal 2 b then s.ignoreMessage
  else match s.namedCensus b with
    | none => s.ignoreMessage
    | some (slot, c) =>
      if c.state ≠ 1 ∨ c.contributions ≠ [] then s
      else
        let x := contributionOf uid b
        let s := s.putCensus slot { c with fulls := c.fulls ++ [x] }
        if c.fulls = [] then s.readContribution x else s

/-- The read of a full census ends (R113): accepted when its digest is what it names and every other FULL names the same, else
the next member that answered is read. -/
def censusFullReadComplete (slot epoch : Nat) (data : Option Bytes) (s : State) : State :=
  match s.census slot epoch with
  | none => s
  | some c =>
    match c.fulls with
    | [] => s
    | x :: rest =>
      let good : Option (List CensusRec × List CensusRec) := data.bind fun b =>
        if digestNat b = x.digest ∧ rest.all fun y => y.digest == x.digest then
          readRecs (s.job slot) x.textRecords x.dirRecords b
        else none
      if c.state ≠ 1 then s
      else match good with
        | some (text, dir) => s.finishCensus slot { c with fulls := [] } text dir
        | none =>
          let s := s.putCensus slot { c with fulls := rest ++ [x] }
          s.readContribution (rest.headD x)

end Sys2Proof.Machine
end

