-- ==== Sys2Proof/Machine/Assembly.lean ====
section
/-! DEFINITION. From the owner to the assembler: offering prepared samples, the peer item messages, starting batches, placing
samples, and filling positions with substitutes and masks (R23, R102 to R109, R117, R149, R196, R587, R589). -/

namespace Sys2Proof.Machine

/-! ## The owner's side -/

/-- A peer item message (R105). -/
def itemMessage (ref kind flags status key addr len crc : Nat) : Bytes :=
  leBytes 8 ref ++ leBytes 1 kind ++ leBytes 1 flags ++ leBytes 2 status ++ leBytes 4 key ++ leBytes 8 addr ++ leBytes 4 len ++
    leBytes 4 crc

/-- A RELEASE is sent to an owner. -/
def State.sendRelease (s : State) (uid ref : Nat) : State := s.peerSend uid none (itemMessage ref 3 0 0 0 0 0 0)

/-- A PREPARE is sent to an owner: for a position's own sample, or for a Talon position and attempt. -/
def State.sendPrepare (s : State) (uid ref : Nat) (talon : Option (Nat × Nat)) : State :=
  s.peerSend uid none (itemMessage ref 2 0 0 0 ((talon.map Prod.fst).getD allOnes64) ((talon.map Prod.snd).getD 0) 0)

/-- A prepared sample is offered to one device: exported with a READY, or its failure reported; to this device itself it is handed
over (R104, R105). Nothing where no region is left. -/
def State.offerTo (s : State) (it : Item) (uid : Nat) : Option (Export × State) :=
  let sub := ofBool it.talon.isSome
  if uid = myUid then some ({ uid := uid, key := 0 }, s)
  else if it.reason ≠ 0 then some ({ uid := uid, key := 0 }, s.peerSend uid none (itemMessage it.ref 1 sub it.reason 0 0 0 0))
  else match s.register .sampleExport none it.data.length it.slot it.entry it.data with
    | some (r, t) =>
      some ({ uid := uid, key := r.key },
        t.peerSend uid none (itemMessage it.ref 1 sub 0 r.key r.base it.data.length (crc32c it.data)))
    | none => none

/-- A prepared sample is offered to a list of devices. -/
def offerAll : List Nat → Item → State → State
  | [], it, s => s.putItem it
  | uid :: t, it, s =>
    match s.offerTo it uid with
    | some (e, s) => offerAll t { it with offered := true, exported := it.exported ++ [e] } s
    | none => s.putItem it

/-- Do all the batches that carry an item lie before the point a replay starts from (R451)? -/
def State.beforeReplay (s : State) (it : Item) (l : List (Nat × Nat)) : Bool :=
  match (s.slot it.slot).replayFrom with
  | some (epoch, first) => it.epoch == epoch && l.all fun e => decide (e.2 < first.getD e.1 0)
  | none => false

/-- A prepared sample is offered where its batches are known (R104); one that no batch delivers ends at its owner (R589). -/
def State.offer (s : State) (it : Item) : State :=
  if ¬ it.prepared ∨ it.offered then s
  else if it.late then s.endOwner it
  else if it.asker ≠ 0 then offerAll [it.asker] it s
  else match s.batchesOf it.slot it.epoch it.position it.cls with
    | none => s
    | some [] => s.endHere it (if it.reason = 0 then 8 else 10) it.reason
    | some l =>
      if s.beforeReplay it l then s.endHere it 10 0x7800
      else
        let to_ := ((l.map fun e => s.assemblerOf it.slot e.2).eraseDups).filter fun u => !it.releasedBy.contains u
        if to_ = [] then s.endOwner it else offerAll to_ it s

/-- A device is done with a prepared sample: its export is revoked, and with the last one the item leaves its owner (R587). -/
def State.releaseExport (s : State) (it : Item) (uid : Nat) : State :=
  let mine := it.exported.filter fun e => e.uid == uid
  let s := mine.foldl (fun (t : State) e => if e.key = 0 then t else t.revokeKey e.key) s
  let it := { it with exported := it.exported.filter fun e => e.uid != uid }
  if it.exported = [] then s.endOwner it else s.putItem it

/-- An assembler declares an item late before it is prepared (R149): with every assembler gone it stops, or, where the cache is to
be filled, goes on to the end of DECODE. -/
def State.stopLate (s : State) (it : Item) (uid : Nat) : State :=
  let it := { it with releasedBy := it.releasedBy ++ [uid] }
  let left := ((s.batchesOf it.slot it.epoch it.position it.cls).map fun l =>
    (l.map fun e => s.assemblerOf it.slot e.2).any fun u => !it.releasedBy.contains u).getD false
  if left then s.putItem it
  else if (s.job it.slot).fillsCache it.cls ∧ ¬ it.decoded (s.job it.slot) then s.putItem { it with late := true }
  else s.endOwner it

/-- A RELEASE takes effect at this owner; one for a sample already freed is ignored (R587). -/
def State.released' (s : State) (uid ref : Nat) : State :=
  match s.items.find? fun it => it.ref == ref && it.offered && it.exported.any fun e => e.uid == uid with
  | some it => s.releaseExport it uid
  | none =>
    match s.items.find? fun it => it.ref == ref && !it.offered && (it.asker == 0 || it.asker == uid) with
    | some it => if it.asker = uid ∧ uid ≠ 0 then s.endOwner it else s.stopLate it uid
    | none => s

/-- A sample is prepared on request, under the SampleRef of the position it fills (R106, R107). -/
def State.prepare (s : State) (slot epoch position : Nat) (talon : Option (Nat × Nat)) (asker : Nat) : State :=
  let j := s.job slot
  let entry := itemTable + leastFree (s.items.length + 1) (s.items.map fun it => it.entry - itemTable)
  let it : Item :=
    { entry := entry, slot := slot, epoch := epoch, position := position
      sample := riffle j.seed j.n ((talon.map Prod.fst).getD position) epoch, talon := talon, asker := asker
      issueTick := s.gtc, generation := s.get (inst Obj.replayGeneration slot) }
  (s.addItem it).lookUp it

/-! ## Peer messages -/

/-- Does a peer item message name a slot and epoch that this device runs, and are its fields legal (R105)? -/
def State.itemMessageOk (s : State) (kind : Nat) (b : Bytes) : Bool :=
  let ref := field b 0 8
  let j := s.job (refSlot ref)
  b.length == 32 && byteAt b 8 == kind && decide (byteAt b 9 < 4) && s.running (refSlot ref) &&
    decide (j.epochFirst ≤ refEpoch ref ∧ refEpoch ref < j.epochFirst + j.epochCount) && decide (refPosition ref < j.n) &&
    (kind == 1 || (field b 0x0C 4 == 0 && field b 0x1C 4 == 0)) && (kind != 3 || (field b 0x10 8 == 0 && field b 0x18 4 == 0))

/-- The Shoe of a stream of a slot. -/
def State.shoe (s : State) (slot stream : Nat) : Option Shoe := s.shoes.find? fun x => x.slot == slot && x.stream == stream

/-- Is a batch still to be started at this assembler? -/
def Shoe.ahead (x : Shoe) (epoch index : Nat) : Bool := decide (x.epoch < epoch ∨ (x.epoch = epoch ∧ x.next ≤ index))

/-- Does a batch stand in its Shoe? After a resume a Shoe may hold batches ahead of the one it starts next (R451). -/
def State.inShoe (s : State) (slot stream epoch index : Nat) : Bool :=
  s.batches.any fun b => b.slot == slot && b.stream == stream && b.epoch == epoch && b.index == index

/-- Is a batch of this device's own still to be started? -/
def State.toStart (s : State) (x : Shoe) (epoch index : Nat) : Bool :=
  x.ahead epoch index && s.assemblerOf x.slot index == myUid && !s.inShoe x.slot x.stream epoch index

/-- May a batch that holds a position still be started here? -/
def State.positionAhead (s : State) (slot epoch position : Nat) : Bool :=
  let j := s.job slot
  s.shoes.any fun x => x.slot == slot &&
    (match j.streams[x.stream]? with
      | some st =>
        if j.packedStream st then
          match s.censusReady slot epoch with
          | some c => (j.batchesOfDocument c position).any fun b => s.toStart x epoch b
          | none => decide (x.epoch ≤ epoch)
        else
          s.toStart x epoch (position / j.batchSize)
      | none => false)

/-- A READY is ignored, counted and answered with RELEASE (R106, R587). -/
def State.ignoreReady (s : State) (uid ref : Nat) : State := s.ignoreMessage.sendRelease uid ref

/-- A READY arrives (R104 to R106): it waits until its position can take it, or is ignored. -/
def peerReady (uid : Nat) (b : Bytes) (s : State) : State :=
  if ¬ s.itemMessageOk 1 b then s.ignoreMessage
  else
    let ref := field b 0 8
    let o : Offer :=
      { uid := uid, ref := ref, flags := byteAt b 9, status := field b 0x0A 2, key := field b 0x0C 4, addr := field b 0x10 8
        length := field b 0x18 4, crc := field b 0x1C 4 }
    let wanted : Bool := match s.fill (refSlot ref) (refEpoch ref) (refPosition ref) with
      | some f =>
        (f.st == 0 && !bit o.flags 0) || (f.st == 3 && f.asked && bit o.flags 0) ||
          s.positionAhead (refSlot ref) (refEpoch ref) (refPosition ref)
      | none => s.positionAhead (refSlot ref) (refEpoch ref) (refPosition ref)
    if wanted then { s with offers := (s.offers.filter fun x => !(x.ref == ref && x.uid == uid)) ++ [o] }
    else s.ignoreReady uid ref

/-- A PREPARE arrives at an owner (R106, R109): its own sample is prepared afresh, or a Talon substitute under the position's
SampleRef. -/
def peerPrepare (uid : Nat) (b : Bytes) (s : State) : State :=
  if ¬ s.itemMessageOk 2 b then s.ignoreMessage
  else
    let ref := field b 0 8
    let talon := field b 0x10 8
    if talon = allOnes64 then
      let s := (s.items.filter fun it => it.ref == ref && !it.own && it.asker == uid && it.talon.isNone).foldl State.endOwner s
      match s.items.find? fun it => it.ref == ref && it.own with
      | some it =>
        let s := it.exported.foldl (fun (t : State) e => if e.uid = uid ∧ e.key ≠ 0 then t.revokeKey e.key else t) s
        if it.exported.any fun e => e.uid != uid then
          (s.putItem { it with exported := it.exported.filter fun e => e.uid != uid }).prepare it.slot it.epoch it.position none uid
        else if it.prepared then
          let s := s.releaseItem it
          let it := { it with
            prepared := false, offered := false, exported := [], chain := none, data := [], before := [], madeAt := 0
            results := [], reason := 0, failStage := 255, avoid := none }
          (s.putItem it).fetch it
        else s
      | none => s.prepare (refSlot ref) (refEpoch ref) (refPosition ref) none uid
    else if (s.job (refSlot ref)).n ≤ talon then s.ignoreMessage
    else s.prepare (refSlot ref) (refEpoch ref) (refPosition ref) (some (talon, field b 0x18 4)) uid

/-- A RELEASE arrives at an owner (R587). -/
def peerRelease (uid : Nat) (b : Bytes) (s : State) : State :=
  if ¬ s.itemMessageOk 3 b then s.ignoreMessage else s.released' uid (field b 0 8)

/-! ## Starting batches -/

/-- The batches of a stream in an epoch, once known (R101, R116). -/
def State.batchesIn (s : State) (slot stream epoch : Nat) : Option Nat :=
  let j := s.job slot
  if ((j.streams[stream]?).map j.packedStream).getD false then findKey epoch (s.slot slot).packedCounts else some j.batchCount

/-- The next batch that this device assembles, from an epoch and index on: nothing where none is left or it is not yet known. -/
def nextOwn (s : State) (slot stream : Nat) : Nat → Nat → Nat → Option (Nat × Nat)
  | 0, _, _ => none
  | fuel + 1, epoch, from_ =>
    let j := s.job slot
    match s.batchesIn slot stream epoch with
    | none => none
    | some n =>
      match (List.range (j.assemblers.length + s.batches.length)).find? fun i => decide (from_ + i < n) && s.assemblerOf slot (from_ + i) == myUid &&
          !s.inShoe slot stream epoch (from_ + i) with
      | some i => some (epoch, from_ + i)
      | none => if epoch + 1 < j.epochFirst + j.epochCount then nextOwn s slot stream fuel (epoch + 1) 0 else none

/-- The next batch of a Shoe. -/
def State.nextBatchOf (s : State) (x : Shoe) : Option (Nat × Nat) :=
  nextOwn s x.slot x.stream ((s.job x.slot).epochCount + 1) x.epoch x.next

/-- The batches in a Shoe. -/
def State.shoeBatches (s : State) (x : Shoe) : List Batch := s.batches.filter fun b => b.slot == x.slot && b.stream == x.stream

/-- The Shoe space reserved by the slots in READY, ARMED, RUNNING or DRAINING (R195). -/
def State.shoeReserved (s : State) : Nat :=
  ((allSlots.filter s.connecting).flatMap fun i => (s.job i).streams.map (shoeReserve (s.get Obj.maxDecodedBytes) (s.job i))).sum

/-- The bytes that the Shoes hold above their reservations (R195). -/
def State.shoeExtra (s : State) : Nat :=
  (s.shoes.map fun x =>
    match (s.job x.slot).streams[x.stream]? with
    | some st =>
      let j := s.job x.slot
      let most := s.get Obj.maxDecodedBytes
      ((s.shoeBatches x).length - st.lowWater) * (shoeSpace most j st 1 - shoeSpace most j st 0)
    | none => 0).sum

/-- Does a batch of the Shoe follow the one that is started next, as a batch kept over a resume may (R451)? -/
def State.keptAhead (s : State) (x : Shoe) (b : Batch) : Bool :=
  match s.nextBatchOf x with
  | some (e, i) => decide (e < b.epoch ∨ (e = b.epoch ∧ i < b.index))
  | none => (s.batchesIn x.slot x.stream x.epoch).isNone && x.ahead b.epoch b.index

/-- May a Shoe take one more batch (R196)? Batches kept over a resume that follow it leave it its place (R451). -/
def State.shoeTakes (s : State) (x : Shoe) (st : StreamRec) : Bool :=
  let n := ((s.shoeBatches x).filter fun b => !s.keptAhead x b).length
  let j := s.job x.slot
  let most := s.get Obj.maxDecodedBytes
  let one := shoeSpace most j st 1 - shoeSpace most j st 0
  decide (n < st.depth) && (decide (n < st.lowWater) ||
    ((s.slot x.slot).holds.getD 2 true &&
      decide (s.shoeReserved + s.shoeExtra + one ≤ s.get Obj.shoeSpaceBytes)))

/-- Has a batch been issued whole, as a batch started in DRAINING must be (R34)? -/
def State.issuedWhole (s : State) (slot epoch : Nat) (positions : List Nat) : Bool :=
  let (cur, next) := (s.slot slot).mark.getD (s.get (inst Obj.currentEpoch slot), (s.slot slot).nextPosition)
  decide (epoch < cur) || (epoch == cur && positions.all fun p => decide (p < next))

/-- The positions of a packed batch: the documents with a segment in it (R116). -/
def Job.packedPositions (j : Job) (c : Census) (q : Nat) : List Nat :=
  let segs := (((j.plan c).drop (q * j.packSize)).take j.packSize).flatten
  (c.text.zipIdx.filter fun e => segs.any fun g => g.rank == e.2).map fun e => e.1.position

/-- The record of a replacement made before for a position, which a replay applies (R453). -/
def State.recorded (s : State) (slot ref : Nat) : Option HistoryRec :=
  if s.get (inst Obj.replayGeneration slot) = 0 then none
  else ((s.slot slot).replacementLog.filter fun r => r.ref == ref).getLast?

/-- A position begins to be filled (R107, R453). -/
def State.newFill (s : State) (slot epoch position cls : Nat) : Fill :=
  let j := s.job slot
  let f : Fill :=
    { slot := slot, epoch := epoch, position := position, cls := cls, sample := riffle j.seed j.n position epoch, since := s.gtc
      generation := s.get (inst Obj.replayGeneration slot) }
  match s.recorded slot (sampleRef slot epoch position) with
  | some r =>
    let reason := if r.reason = 0x7800 then 0 else r.reason
    if r.talon ≠ noRef then { f with st := 3, next := r.attempt, reason := reason, flags := 4 ||| 128 }
    else if bit r.flags 3 then { f with st := 2, reason := reason, endReason := reason, flags := r.flags ||| 128 }
    else f
  | none => f

/-- A batch starts (R196): the classes of its positions, where it is not packed, are those that its samples' index entries give. -/
def batchStart (slot stream : Nat) (classes : List Nat) (s : State) : State :=
  match s.shoe slot stream, (s.job slot).streams[stream]? with
  | some x, some st =>
    match s.nextBatchOf x with
    | none => s
    | some (epoch, index) =>
      let j := s.job slot
      let packed := j.packedStream st
      let at_ : List (Nat × Nat) :=
        if packed then (match s.censusReady slot epoch with
          | some c => (j.packedPositions c index).map fun p => (p, 2)
          | none => [])
        else (List.zip (j.batchPositions index) classes).filter fun e => bit st.classMask e.2
      let ready := if packed then (s.censusReady slot epoch).isSome else classes.length == (j.batchPositions index).length
      let whole := s.jobState slot == 4 || s.issuedWhole slot epoch (if packed then at_.map Prod.fst else j.batchPositions index)
      if ¬ s.running slot ∨ ¬ ready ∨ ¬ whole ∨ ¬ s.shoeTakes x st then s
      else
        let used := (s.shoeBatches x).map Batch.shoeSlot
        let k := leastFree st.depth used
        let gen := (findKey k x.uses).getD 0 + 1
        let b : Batch :=
          { slot := slot, stream := stream, epoch := epoch, index := index, positions := at_.map Prod.fst, shoeSlot := k
            generation := gen }
        let fresh := at_.filter fun e => (s.fill slot epoch e.1).isNone
        let unrec := (fresh.filter fun e => decide (s.get (inst Obj.replayGeneration slot) ≠ 0 ∧ j.orderMode = 1) &&
          j.assemblerAt (s.slot slot).oldForce index != myUid && (s.recorded slot (sampleRef slot epoch e.1)).isNone).length
        let s := { s with
          fills := s.fills ++ fresh.map fun (e : Nat × Nat) => s.newFill slot epoch e.1 e.2
          batches := s.batches ++ [b]
          shoes := modifyWhere (fun (y : Shoe) => y.slot == slot && y.stream == stream)
            (fun (y : Shoe) => { y with epoch := epoch, next := index + 1, uses := putKey k gen y.uses }) s.shoes }
        s.count (inst Obj.replayUnrecorded slot) unrec
  | _, _ => s

/-! ## Filling -/

/-- A position is masked (R107): `reason` is the original sample's, `ending` that with which the item ends. -/
def State.mask (s : State) (f : Fill) (ending : Nat) : State :=
  (s.putFill { f with st := 2, asked := false, reading := none, endReason := ending, flags := f.flags ||| 8 }).bump
    (inst Obj.maskedSlots f.slot)

/-- A position needs filling (R107, R433): its sample failed with a code, was filtered, or, with `timing`, is late. -/
def State.needFill (s : State) (f : Fill) (code : Nat) (timing : Bool) : State :=
  let j := s.job f.slot
  let f := { f with
    reason := if f.reason = 0 then code else f.reason, reading := none, asked := false
    flags := f.flags ||| (if timing then 4 else 0) ||| (if filterReason code then 16 else 0) |||
      (if hardwareReason code then 64 else 0) }
  if j.corruptPolicy = 0 then s.putFill { f with st := 3 }
  else if j.corruptPolicy = 1 ∨ timing ∨ filterReason code then s.mask f f.reason
  else s.putFill { f with st := 4, endReason := f.reason }

/-- A sample is placed at its position (R104). -/
def State.place (s : State) (f : Fill) (data : Bytes) (valid : Nat) : State :=
  let j := s.job f.slot
  let sub := f.st == 3
  let f := { f with
    st := 1, data := data, valid := valid, reading := none, asked := false
    sample := if sub then riffle j.seed j.n ((f.talon.map Prod.fst).getD 0) f.epoch else f.sample }
  (if sub then s.bump (inst Obj.substitutions f.slot) else s).putFill f

/-- A substitute failed, or was late in its turn: the attempt counts as a try (R108, R109). -/
def State.tryFailed (s : State) (f : Fill) (corrupt : Bool) : State :=
  let s := s.bump (inst Obj.substitutesCorrupt f.slot)
  s.putFill { f with
    tries := f.tries + 1, asked := false, reading := none
    bad := if corrupt then f.bad ++ (f.talon.map Prod.fst).toList else f.bad, talon := none }

/-- What one attempt of the search gives (R108): a Talon position to prepare, or the standing of the search after attempts that
fail without a fetch. -/
inductive SearchEnd where
  | prepare (t a tries skips : Nat)
  | exhausted (tries skips : Nat)

/-- The search of R108 from attempt `a`, at most `fuel` further attempts. -/
def talonSearch (j : Job) (dir : List CensusRec) (f : Fill) : Nat → Nat → Nat → Nat → SearchEnd
  | 0, _, tries, skips => .exhausted tries skips
  | fuel + 1, a, tries, skips =>
    if j.substituteTries ≤ tries then .exhausted tries skips
    else
      let t := talonPick j f.epoch f.position a
      if (((dir.find? fun r => r.position == t).map CensusRec.cls).getD 3) ≠ f.cls then
        talonSearch j dir f fuel (a + 1) tries (skips + 1)
      else if f.bad.contains t then talonSearch j dir f fuel (a + 1) (tries + 1) skips
      else .prepare t a tries skips

/-- The search goes on for a position that wants a substitute (R108): it waits for the census, and the sample is prepared here or
asked of its owner. -/
def State.search (s : State) (f : Fill) : State :=
  let j := s.job f.slot
  match s.censusReady f.slot f.epoch with
  | none => s
  | some c =>
    if ¬ c.dir.any fun r => r.cls == f.cls then s.mask f 0x8803
    else
      let note (tries skips : Nat) (s : State) : State :=
        (s.count (inst Obj.substitutesCorrupt f.slot) (tries - f.tries)).count (inst Obj.substituteClassSkips f.slot) skips
      match talonSearch j c.dir f (4096 - f.next) f.next f.tries 0 with
      | .exhausted tries skips => (note tries skips s).mask { f with talon := none } 0x8802
      | .prepare t a tries skips =>
        let s := note tries skips s
        let f := { f with talon := some (t, a), next := a + 1, tries := tries, asked := true }
        let owner := s.ownerOf f.slot (riffle j.seed j.n t f.epoch)
        let s := s.putFill f
        if owner = myUid then s.prepare f.slot f.epoch f.position (some (t, a)) myUid
        else s.sendPrepare owner (sampleRef f.slot f.epoch f.position) (some (t, a))

/-- A prepared sample of this device is taken for a position (R104). -/
def State.takeLocal (s : State) (f : Fill) (it : Item) : State :=
  let s := if it.reason ≠ 0 then
      if f.st = 3 then s.tryFailed f true
      else s.needFill { f with
        lastStage := it.failStage, faultSeq := it.faultSeq, flags := f.flags ||| it.flags, perturb := it.perturb
        retries := it.retries } it.reason false
    else s.place { f with
        flags := f.flags ||| (it.flags &&& 3), perturb := f.perturb ||| it.perturb, retries := it.retries, faultSeq := it.faultSeq }
      it.data it.valid
  s.releaseExport it myUid

/-- A READY is taken for a position: its failure decides the filling, or its bytes are read (R104). -/
def State.takeOffer (s : State) (f : Fill) (o : Offer) : State :=
  let s := { s with offers := s.offers.filter fun x => x != o }
  if o.status ≠ 0 then
    (if f.st = 3 then s.tryFailed f true else s.needFill f o.status false).sendRelease o.uid o.ref
  else (s.putFill { f with reading := some o }).peerRead o.uid o.key o.addr o.length

/-- A position takes what stands ready for it: a sample of this device, a READY, or the next attempt of its search. -/
def State.serveFill (s : State) (f : Fill) : State :=
  let ref := sampleRef f.slot f.epoch f.position
  let open_ := f.reading.isNone && (f.st == 0 || (f.st == 3 && f.asked))
  if f.st = 3 ∧ ¬ f.asked then s.search f
  else if ¬ open_ then s
  else match s.items.find? fun it =>
      it.ref == ref && it.offered && (it.exported.any fun e => e.uid == myUid) && it.talon == (if f.st = 3 then f.talon else none) with
    | some it => s.takeLocal f it
    | none =>
      match s.offers.find? fun o => o.ref == ref && bit o.flags 0 == (f.st == 3) with
      | some o => s.takeOffer f o
      | none => s

/-- Every position is served once. -/
def State.serveFills (s : State) : State :=
  (s.fills.map fun f => (f.slot, f.epoch, f.position)).foldl (fun (t : State) k =>
    match t.fill k.1 k.2.1 k.2.2 with
    | some f => t.serveFill f
    | none => t) s

/-- READYs that no position wants any more are answered with RELEASE (R587), and samples of this device that its own positions no
longer want are released. -/
def State.sweepOffers (s : State) : State :=
  let wanted (s : State) (ref : Nat) (sub : Bool) : Bool :=
    s.positionAhead (refSlot ref) (refEpoch ref) (refPosition ref) ||
      ((s.fill (refSlot ref) (refEpoch ref) (refPosition ref)).map fun f => if sub then f.st == 3 else f.st == 0).getD false
  let old := s.offers.filter fun o => !wanted s o.ref (bit o.flags 0)
  let s := { s with offers := s.offers.filter fun o => wanted s o.ref (bit o.flags 0) }
  let s := old.foldl (fun (t : State) o => t.ignoreReady o.uid o.ref) s
  (s.items.filter fun it => it.offered && (it.exported.any fun e => e.uid == myUid) && !wanted s it.ref it.talon.isSome).foldl
    (fun (t : State) it => t.releaseExport it myUid) s

/-- The read of a prepared sample ends (R104, R106): its bytes are checked, placed and answered with RELEASE; with a wrong CRC it is
read again, then prepared again, and at the fourth mismatch the position needs filling. -/
def preparedReadComplete (uid ref : Nat) (data : Bytes) (valid : Nat) (s : State) : State :=
  match s.fill (refSlot ref) (refEpoch ref) (refPosition ref) with
  | none => s
  | some f =>
    match f.reading with
    | none => s
    | some o =>
      if o.uid ≠ uid ∨ o.ref ≠ ref then s
      else if data.length = o.length ∧ crc32c data = o.crc then (s.place f data valid).sendRelease uid ref
      else
        let s := s.bump Obj.preparedCrcErrors
        let f := { f with crcErrors := f.crcErrors + 1 }
        if f.crcErrors ≤ 2 then (s.putFill f).peerRead o.uid o.key o.addr o.length
        else if f.crcErrors = 3 then (s.putFill { f with reading := none }).sendPrepare uid ref (if f.st = 3 then f.talon else none)
        else
          let s := s.raiseFault { cls := 2, reason := 0x7003, action := 4, slot := f.slot, ref := ref, detail1 := 2 }
          let f := { f with faultSeq := s.lastFaultSeq }
          let s := s.sendRelease uid ref
          if f.st = 3 then s.tryFailed f true else s.needFill f 0x8805 false

/-! ## Lateness -/

/-- Could a position of a batch be declared late, its grace apart (R149, R439)? Its batch is the lowest of the stream not yet
complete here, every other position is filled, and the alarm is raised. -/
def State.mayBeLate (s : State) (b : Batch) : Bool :=
  let j := s.job b.slot
  let open_ := (s.fills.filter fun f => f.slot == b.slot && f.epoch == b.epoch && b.positions.contains f.position &&
    (f.st == 0 || f.st == 3))
  let first := s.batches.all fun x => !(x.slot == b.slot && x.stream == b.stream && x.ready.isNone && !x.building) ||
    decide (b.epoch < x.epoch ∨ (b.epoch = x.epoch ∧ b.index ≤ x.index))
  j.orderMode == 1 && j.corruptPolicy != 2 && b.ready.isNone && !b.building && first && open_.length == 1 &&
    s.get (shoeKey Obj.lowWaterAlarm b.slot b.stream) == 1

/-- The ticks since which batches could have been declared late are kept. -/
def State.trackLate (s : State) : State :=
  { s with batches := s.batches.map fun (b : Batch) =>
    { b with lateSince := if s.mayBeLate b then some (b.lateSince.getD s.gtc) else none } }

/-- A position is declared late (R149): its owner is released and the position filled. While the replacement log is full nothing is
declared late (R439). -/
def lateDeclaration (slot stream position : Nat) (s : State) : State :=
  match s.batches.find? fun b => b.slot == slot && b.stream == stream && b.positions.contains position && s.mayBeLate b with
  | none => s
  | some b =>
    match s.fill slot b.epoch position with
    | none => s
    | some f =>
      let due := (b.lateSince.map fun t => decide (t + s.get Obj.relaxedGraceTicks ≤ s.gtc)).getD false
      if ¬ due ∨ ¬ (f.st = 0 ∨ f.st = 3) then s
      else if s.logFull slot then s.bump (inst Obj.replacementLogFull slot)
      else
        let j := s.job slot
        let s := s.bump (inst Obj.lateDeclared slot)
        let ref := sampleRef slot b.epoch position
        let x := if f.st = 3 then riffle j.seed j.n ((f.talon.map Prod.fst).getD position) b.epoch else f.sample
        let owner := s.ownerOf slot x
        let s := if owner = myUid then s.released' myUid ref else s.sendRelease owner ref
        if f.st = 3 then s.tryFailed { f with flags := f.flags ||| 4 } false else s.needFill f 0 true

end Sys2Proof.Machine
end

