-- ==== Sys2Proof/Machine/Delivery.lean ====
section
/-! DEFINITION. Batches from assembled to delivered: the envelope, building, PUSH and PULL delivery with credits and releases, the
low-water alarm, and the endings of the items delivered (R194 to R208, R437). -/

namespace Sys2Proof.Machine

/-! ## The envelope -/

/-- The tensor of a filled position as an entry describes it: bytes, ELEMENT_TYPE, extents and VALID (R199). -/
structure TensorOut where
  bytes : Bytes
  element : Nat
  dims : Nat × Nat × Nat
  valid : Nat

/-- The tensor of a position of a stream without PACK (R199). A masked image or signal has a zero-filled tensor, a masked text an
empty one. -/
def Job.tensorOf (j : Job) (st : StreamRec) (f : Fill) : TensorOut :=
  let masked := f.st != 1
  if f.cls = 2 then
    let tokens := j.tokenizeStage.isSome
    let b := if masked then [] else if tokens then f.data.drop 64 else j.textOf f.data
    let n := if tokens then b.length / 4 else b.length
    { bytes := b, element := if tokens then 0x20 else 0x21, dims := (n, 1, 1), valid := n }
  else
    let size := j.tensorBytes f.cls
    let b := if masked then zeros size else f.data
    let dims := if f.cls = 1 then (j.audioFrames, max 1 j.melBands, 1)
      else if st.layout = 0 then (j.imageHeight, j.imageWidth, j.imageChannels)
      else (j.imageChannels, j.imageHeight, j.imageWidth)
    { bytes := b, element := j.elementType, dims := dims
      valid := if f.cls = 0 then dims.1 else if masked then 0 else f.valid }

/-- FLAGS of an entry (R199, R200): masked, substituted, timing cause. -/
def Fill.entryFlags (f : Fill) : Nat :=
  ofBool (f.st != 1) + 2 * ofBool (f.st == 1 && f.talon.isSome) + 4 * ofBool (bit f.flags 2)

/-- A sample entry of 64 bytes (R199) for a tensor at an offset. -/
def sampleEntry (f : Fill) (t : TensorOut) (offset : Nat) : Bytes :=
  leBytes 8 (sampleRef f.slot f.epoch f.position) ++ leBytes 8 (if f.st = 1 then f.sample else noRef) ++
    leBytes 8 (if f.st = 1 then (f.talon.map Prod.fst).getD noRef else noRef) ++ leBytes 2 f.entryFlags ++ leBytes 2 f.reason ++
    leBytes 2 (if f.st = 1 then (f.talon.map Prod.snd).getD 0 else 0) ++ leBytes 1 f.cls ++ leBytes 1 t.element ++
    leBytes 8 offset ++ leBytes 4 t.bytes.length ++ leBytes 4 t.dims.1 ++ leBytes 4 t.dims.2.1 ++ leBytes 4 t.dims.2.2 ++
    leBytes 4 t.valid ++ leBytes 4 (crc32c t.bytes)

/-- An envelope (R198): its header fields, its entry table and its body. `short` and `packed` are FLAGS. -/
def envelope (b : Batch) (slice count entryBytes entries seqs seqLen : Nat) (short packed : Bool) (tick : Nat) (table body : Bytes) :
    Bytes :=
  let h := bytesOf [0x5A, 0x42, 0x45, 0x31] ++ leBytes 2 1 ++ leBytes 2 entryBytes ++ leBytes 1 b.slot ++ leBytes 1 b.stream ++
    leBytes 2 (ofBool short + 2 * ofBool packed) ++ leBytes 2 b.epoch ++ leBytes 2 seqs ++ leBytes 8 b.index ++ leBytes 4 slice ++
    leBytes 4 count ++ leBytes 4 entries ++ leBytes 4 seqLen ++ leBytes 8 (64 + table.length + body.length)
  h ++ leBytes 8 tick ++ leBytes 4 (crc32c (h ++ table)) ++ leBytes 4 (crc32c body) ++ table ++ body

/-- Tensors laid one after another from an offset (R201): their offsets and the bytes from there to the end of the slice. -/
def layTensors : List TensorOut → Nat → List Nat × Bytes
  | [], _ => ([], [])
  | t :: rest, at_ =>
    let (offs, b) := layTensors rest (at_ + roundUp t.bytes.length 64)
    (at_ :: offs, padTo (roundUp t.bytes.length 64) t.bytes ++ b)

/-- The envelope of a slice of a stream without PACK (R198 to R201). -/
def Job.plainSlice (j : Job) (st : StreamRec) (b : Batch) (slice tick : Nat) (fills : List Fill) : Bytes :=
  let ps := (j.slicePositions b.index slice).filter b.positions.contains
  let fs := ps.filterMap fun p => fills.find? fun f => f.isAt b.slot b.epoch p
  let ts := fs.map (j.tensorOf st)
  let start := roundUp (64 + 64 * fs.length) 64
  let (offs, data) := layTensors ts start
  let table := (List.zip (List.zip fs ts) offs).flatMap fun e => sampleEntry e.1.1 e.1.2 e.2
  envelope b slice j.sliceCount 64 fs.length 0 0 (b.index == j.fullBatches && j.shortPositions != 0) false tick table data

/-- The tokens a document gives its segments: cut or padded to its census count, and whether that changed it (R111, R117). -/
def Job.documentTokens (j : Job) (f : Fill) (count : Nat) : List Nat × Bool :=
  let own := if f.st = 1 then sampleTokens f.data else []
  ((own ++ List.replicate (count - own.length) j.padToken).take count, f.st == 1 && f.talon.isNone && own.length != count)

/-- A segment entry of 32 bytes (R200). -/
def segmentEntry (f : Fill) (g : Segment) (start : Nat) (padded : Bool) : Bytes :=
  leBytes 8 (sampleRef f.slot f.epoch f.position) ++ leBytes 8 (if f.st = 1 then (f.talon.map Prod.fst).getD noRef else noRef) ++
    leBytes 4 g.offset ++ leBytes 4 start ++ leBytes 4 g.length ++ leBytes 1 (f.entryFlags + 8 * ofBool padded) ++ zeros 1 ++
    leBytes 2 f.reason

/-- The segments of a sequence with the tokens before each, from a token index on. -/
def segmentStarts : List Segment → Nat → List (Segment × Nat)
  | [], _ => []
  | g :: t, at_ => (g, at_) :: segmentStarts t (at_ + g.length)

/-- The envelope of a slice of a packed stream (R198, R200, R201). -/
def Job.packedSlice (j : Job) (c : Census) (b : Batch) (slice tick : Nat) (fills : List Fill) : Bytes :=
  let plan := j.plan c
  let seqs := (plan.drop (b.index * j.packSize + slice * j.seqsPerSlice)).take j.seqsPerSlice
  let doc (g : Segment) : Option (Fill × Nat) :=
    (c.text[g.rank]?).bind fun r => (fills.find? fun f => f.isAt b.slot b.epoch r.position).map fun f => (f, r.count)
  let table := (seqs.zipIdx.flatMap fun e => segmentStarts e.1 (e.2 * j.seqLen)).flatMap fun e =>
    match doc e.1 with
    | some (f, n) => segmentEntry f e.1 e.2 (j.documentTokens f n).2
    | none => []
  let tokens := seqs.flatMap fun q =>
    let own := q.flatMap fun g => match doc g with
      | some (f, n) => ((j.documentTokens f n).1.drop g.offset).take g.length
      | none => []
    own ++ List.replicate (j.seqLen - own.length) j.padToken
  let k := if seqs = [] then 0 else j.seqsPerSlice
  let all := tokens ++ List.replicate (k * j.seqLen - tokens.length) j.padToken
  let gap := zeros (roundUp (64 + table.length) 64 - (64 + table.length))
  let data := padTo (roundUp (4 * all.length) 64) (tokenBytes all)
  envelope b slice j.sliceCount 32 (table.length / 32) k j.seqLen (decide (plan.length < (b.index + 1) * j.packSize)) true tick
    table (if k = 0 then [] else gap ++ data)

/-- The envelopes of a batch. -/
def State.envelopes (s : State) (b : Batch) (tick : Nat) : List Bytes :=
  let j := s.job b.slot
  match j.streams[b.stream]? with
  | none => []
  | some st =>
    (List.range j.sliceCount).map fun i =>
      if j.packedStream st then
        match s.censusReady b.slot b.epoch with
        | some c => j.packedSlice c b i tick s.fills
        | none => []
      else j.plainSlice st b i tick s.fills

/-! ## Building -/

/-- A batch changes. -/
def State.putBatch (s : State) (b : Batch) : State :=
  { s with
    batches := modifyWhere (fun (x : Batch) => x.slot == b.slot && x.stream == b.stream && x.epoch == b.epoch && x.index == b.index)
      (fun _ => b) s.batches }

/-- Is every position of a batch decided? -/
def State.assembled (s : State) (b : Batch) : Bool :=
  b.positions.all fun p => ((s.fill b.slot b.epoch p).map fun f => f.st == 1 || f.st == 2 || f.st == 4).getD false

/-- Does a batch hold a position withheld under FAIL_STEP (R107)? The reason comes with it. -/
def State.withheldReason (s : State) (b : Batch) : Option Nat :=
  ((b.positions.filterMap fun p => s.fill b.slot b.epoch p).find? fun f => f.st == 4).map Fill.reason

/-- The document whose failed pre-pass fails the step of a packed batch under FAIL_STEP: the first such of the windows whose sequences
begin in the batch (R117). -/
def Job.prePassDocument (j : Job) (c : Census) (index : Nat) : Option CensusRec :=
  ((List.range (ceilDiv c.text.length (max 1 j.packWindow))).filter fun w =>
      (packPlan j.seqLen j.packWindow (c.text.take (w * j.packWindow))).length / max 1 j.packSize == index).findSome? fun w =>
    ((c.text.drop (w * j.packWindow)).take j.packWindow).find? fun r => r.source == 3

/-- The document whose failed pre-pass fails the step of a batch when it is delivered (R117). -/
def State.prePassFailure (s : State) (b : Batch) : Option CensusRec :=
  let j := s.job b.slot
  if j.corruptPolicy = 2 ∧ ((j.streams[b.stream]?).map j.packedStream).getD false then
    (s.censusReady b.slot b.epoch).bind fun c => j.prePassDocument c b.index
  else none

/-- The DELIVER stage's requester (R194). -/
def Job.deliverRequester (j : Job) : Nat := ((j.stageOf 0x0D).map fun e => e.2.requester).getD 0

/-- Batches whose positions are all decided ask for the buffers of their slices (R194, R325). -/
def State.startBuilds (s : State) : State :=
  (s.batches.filter fun b => b.ready.isNone && !b.building && s.assembled b).foldl (fun (t : State) b =>
    let n := ((t.envelopes b 0).map fun e => chainBuffers e.length).sum
    (t.putBatch { b with building := true }).requestBuffers (t.job b.slot).deliverRequester n b.holder) s

/-- The buffers have come: every slice is built, and the batch is ready (R194). A batch assembled again keeps what is known of its
slices (R308). -/
def State.finishBuild (s : State) (b : Batch) (buffers : List Nat) : State :=
  let st := (s.job b.slot).streams[b.stream]?
  let first := (st.map StreamRec.firstConsumer).getD 0
  let slices := ((s.envelopes b s.gtc).zipIdx).map fun (e : Bytes × Nat) =>
    let old : SliceState := (b.slices[e.2]?).getD { consumer := first + e.2, since := s.gtc }
    { old with bytes := e.1 }
  (s.putBatch { b with building := false, buffers := buffers, ready := some s.gtc, slices := slices, lateSince := none }).bump
    (shoeKey Obj.batchesAssembled b.slot b.stream)

/-! ## Leaving the Shoe -/

/-- Is a position also in another batch of this device that has not been delivered (a document may have segments in several)? -/
def State.elsewhere (s : State) (b : Batch) (p : Nat) : Bool :=
  let j := s.job b.slot
  (s.batches.any fun x => x.slot == b.slot && x.stream == b.stream && x.epoch == b.epoch && x.index != b.index &&
      x.positions.contains p) ||
    (match s.shoe b.slot b.stream, s.censusReady b.slot b.epoch with
      | some x, some c =>
        ((j.streams[b.stream]?).map j.packedStream).getD false &&
          (j.batchesOfDocument c p).any fun q => s.toStart x b.epoch q
      | _, _ => false)

/-- The items of a delivered batch end (R437). -/
def State.endDelivered (s : State) (b : Batch) : State :=
  b.positions.foldl (fun (t : State) p =>
    match t.fill b.slot b.epoch p with
    | none => t
    | some f =>
      if t.elsewhere b p then t
      else if f.st = 1 then
        if f.talon.isSome then t.endFill f 9 f.reason 7 else t.endFill f 8 0 7
      else t.endFill f 10 f.endReason 7) s

/-- The lowest batch of the current epoch that this device has yet to deliver, over the streams of a slot; where none is left, the
number of batches of the epoch. Nothing where a stream's batches are not known yet (R46). -/
def State.lowestOwn (s : State) (slot : Nat) : Option Nat :=
  let epoch := s.get (inst Obj.currentEpoch slot)
  let mine := s.shoes.filter fun x => x.slot == slot
  let held := (s.batches.filter fun b => b.slot == slot && b.epoch == epoch).map Batch.index
  let ahead := mine.filterMap fun x => (s.nextBatchOf x).bind fun e => if e.1 = epoch then some e.2 else none
  match held ++ ahead with
  | [] =>
    let counts := mine.map fun x => s.batchesIn slot x.stream epoch
    if mine = [] ∨ counts.contains none then none else some ((counts.filterMap id).foldl max 0)
  | h :: t => some (t.foldl min h)

/-- NextBatch shows the lowest batch of this device not yet delivered (R46). -/
def State.showNext (s : State) (slot : Nat) : State :=
  match s.lowestOwn slot with
  | none => s
  | some n => s.set (inst Obj.nextBatch slot) n

/-- NextBatch follows a delivery, and each increment leaves its tick (R46, R146). -/
def State.followNext (s : State) (slot : Nat) : State :=
  let old := s.get (inst Obj.nextBatch slot)
  let s := s.showNext slot
  if s.get (inst Obj.nextBatch slot) ≤ old then s
  else
    let s := s.modSlot slot fun sl =>
      { sl with batchTicks := (sl.batchTicks ++ [s.gtc]).drop (sl.batchTicks.length + 1 - 17) }
    s.set (inst Obj.batchPeriodTicks slot) (s.batchPeriod slot)

/-- The reason with which a position last ended on this device, 0 where none did. -/
def State.endReasonOf (s : State) (slot ref : Nat) : Nat :=
  (((s.slot slot).history.filter fun r => r.ref == ref && r.reason != 0).getLast?.map HistoryRec.reason).getD 0

/-- A batch leaves the Shoe, delivered (R194); a failed pre-pass then fails its step (R117). -/
def State.leaveShoe (s : State) (b : Batch) : State :=
  let s := (s.bump (streamKey Obj.batchesDelivered b.slot b.stream)).set (streamKey Obj.lastDeliveredBatch b.slot b.stream) b.index
  let s := s.endDelivered b
  let s := { s with
    shoes := modifyWhere (fun (x : Shoe) => x.slot == b.slot && x.stream == b.stream && x.epoch == b.epoch)
      (fun (x : Shoe) => { x with next := max x.next (b.index + 1) }) s.shoes }
  let t := (s.dropBatch b).followNext b.slot
  match s.prePassFailure b with
  | some r => t.raiseAbort b.slot 0x7820 b.epoch b.stream b.index (s.endReasonOf b.slot (sampleRef b.slot b.epoch r.position)) 0
  | none => t

/-! ## Delivery -/

/-- The order in which a Shoe delivers. -/
def Batch.precedes (a b : Batch) : Bool := decide (a.epoch < b.epoch ∨ (a.epoch = b.epoch ∧ a.index < b.index))

/-- The batches of a Shoe that stand before another. -/
def State.batchesBefore (s : State) (b : Batch) : List Batch :=
  s.batches.filter fun x => x.slot == b.slot && x.stream == b.stream && x.precedes b

/-- Is delivery of a batch held by a withheld one at or before it, or by one before it that is still to be assembled again (R107, R207,
R451)? -/
def State.heldBack (s : State) (b : Batch) : Bool :=
  ((b :: s.batchesBefore b).any fun x => (s.withheldReason x).isSome) ||
    ((s.shoe b.slot b.stream).map fun x => s.keptAhead x b).getD false

/-- The assembler entry of a batch. -/
def Job.entryOf (j : Job) (index : Nat) : Nat := index % max 1 j.assemblers.length

/-- The credit account of a triple (R204). -/
def State.credit (s : State) (slot stream entry consumer : Nat) : Credit :=
  (s.credits.find? fun c => c.slot == slot && c.stream == stream && c.entry == entry && c.consumer == consumer).getD
    { slot := slot, stream := stream, entry := entry, consumer := consumer, credits := (s.job slot).ringOwned consumer
      lastReturn := s.gtc }

/-- A credit account changes. -/
def State.putCredit (s : State) (c : Credit) : State :=
  { s with
    credits := (s.credits.filter fun x => !(x.slot == c.slot && x.stream == c.stream && x.entry == c.entry && x.consumer == c.consumer)) ++
      [c] }

/-- A slice of a ready batch is written to its consumer's ring where a credit and the order allow (R202 to R204). -/
def State.pushSlice (s : State) (b : Batch) (i : Nat) : State :=
  let j := s.job b.slot
  match s.batches.find? fun x => x.slot == b.slot && x.stream == b.stream && x.epoch == b.epoch && x.index == b.index with
  | none => s
  | some b =>
    match b.slices[i]? with
    | none => s
    | some sl =>
      let before := (s.batchesBefore b).all fun x => ((x.slices[i]?).map fun y => y.stage != 0).getD false
      let entry := j.entryOf b.index
      let c := s.credit b.slot b.stream entry sl.consumer
      match s.consumerConn b.slot sl.consumer, j.consumers[sl.consumer]? with
      | some conn, some r =>
        if sl.stage ≠ 0 ∨ ¬ before ∨ c.credits = 0 ∨ conn.st ≠ 2 then s
        else
          let addr := r.ringAddress + j.ringSlot sl.consumer b.stream entry c.written * r.slotBytes
          let body := sl.bytes.drop 64
          let s := if body = [] then s
            else s.postOn conn.ctx { kind := .write, key := r.key, addr := addr + 64, body := body, length := body.length }
          let s := s.postOn conn.ctx
            { kind := .write, key := r.key, addr := addr, body := sl.bytes.take 64, length := 64, imm := some (b.index % 2 ^ 32) }
          let c := { c with credits := c.credits - 1, written := c.written + 1, lastReturn := if c.freed = c.written then s.gtc else c.lastReturn }
          (s.putCredit c).putBatch { b with slices := b.slices.set i { sl with stage := 1, since := s.gtc } }
      | _, _ => s

/-- A stream's delivery mode: 0 PUSH, 1 PULL. -/
def State.deliveryOf (s : State) (b : Batch) : Nat := (((s.job b.slot).streams[b.stream]?).map StreamRec.delivery).getD 0

/-- Ready batches go out, lowest first: PUSH slices are written, PULL entries show STATE 1 (R203, R205). -/
def State.deliverReady (s : State) : State :=
  (s.batches.filter fun b => b.ready.isSome).foldl (fun (t : State) b =>
    if ¬ t.delivers b.slot ∨ t.heldBack b then t
    else if t.deliveryOf b = 0 then (List.range b.slices.length).foldl (fun (u : State) i => u.pushSlice b i) t
    else if (t.batchesBefore b).all fun x => x.opened then t.putBatch { b with opened := true }
    else t) s

/-- A FAIL_STEP batch raises its step failure once, as it is withheld (R107, R444). -/
def State.raiseWithheld (s : State) : State :=
  (s.batches.filter fun b => !b.noted).foldl (fun (t : State) b =>
    match t.withheldReason b with
    | some reason => (t.putBatch { b with noted := true }).raiseAbort b.slot 0x7820 b.epoch b.stream b.index reason 0
    | none => t) s

/-- A consumer's transport has acknowledged a slice (R194). -/
def pushSliceAcknowledged (slot stream epoch index slice : Nat) (s : State) : State :=
  match s.batches.find? fun b => b.slot == slot && b.stream == stream && b.epoch == epoch && b.index == index with
  | none => s
  | some b =>
    match b.slices[slice]? with
    | none => s
    | some x =>
      if x.stage ≠ 1 ∨ s.deliveryOf b ≠ 0 then s
      else
        let b := { b with slices := b.slices.set slice { x with stage := 2, since := s.gtc } }
        let s := s.putBatch b
        if b.slices.all fun y => y.stage == 2 then s.leaveShoe b else s

/-- Does a consumer belong to a stream? -/
def Job.consumes (j : Job) (consumer stream : Nat) : Bool := (j.streamsOfConsumer consumer).any fun e => e.1 == stream

/-- Does a stream's traffic go sealed? -/
def Job.sealedStream (j : Job) (stream : Nat) : Bool := ((j.streams[stream]?).map fun st => st.sealMode == 1).getD false

/-- A credit arrives from a consumer (R204). -/
def creditReturn (slot consumer imm : Nat) (sealed_ : Bool) (s : State) : State :=
  let j := s.job slot
  let stream := bits imm 28 4
  let entry := bits imm 16 10
  let count := bits imm 0 16
  if ¬ s.running slot then s
  else if j.sealedStream stream ∧ ¬ sealed_ then s
  else if bits imm 26 2 ≠ 0 ∨ count = 0 ∨ ¬ j.consumes consumer stream ∨ s.assemblerOf slot entry ≠ myUid ∨ j.assemblers.length ≤ entry
    then s.bump Obj.creditErrors
  else
    let c := s.credit slot stream entry consumer
    let good := min count (c.written - c.freed)
    let s := if good < count then s.bump Obj.creditErrors else s
    s.putCredit { c with credits := c.credits + good, freed := c.freed + good, lastReturn := s.gtc }

/-- A consumer releases its slice of a PULL batch (R206). -/
def pullRelease (slot consumer imm : Nat) (sealed_ : Bool) (s : State) : State :=
  let j := s.job slot
  let stream := bits imm 28 4
  if ¬ s.running slot then s
  else if j.sealedStream stream ∧ ¬ sealed_ then s
  else match s.batches.find? fun b =>
      b.slot == slot && b.stream == stream && b.ready.isSome && b.index % 2 ^ 28 == bits imm 0 28 && s.deliveryOf b == 1 with
    | none => s.bump Obj.releaseErrors
    | some b =>
      match b.slices.findIdx? fun x => x.consumer == consumer with
      | none => s.bump Obj.releaseErrors
      | some i =>
        match b.slices[i]? with
        | none => s
        | some x =>
          if x.stage = 2 ∨ ¬ b.opened then s.bump Obj.releaseErrors
          else
            let b := { b with slices := b.slices.set i { x with stage := 2, since := s.gtc } }
            let s := s.putBatch b
            if b.slices.all fun y => y.stage == 2 then s.leaveShoe b else s

/-- Since when a consumer of a stream owes a credit or a release, nothing where it owes none. -/
def State.owing (s : State) (slot stream consumer : Nat) : Option Nat :=
  let j := s.job slot
  if ((j.streams[stream]?).map fun st => st.delivery == 0).getD true then
    let l := (s.credits.filter fun c => c.slot == slot && c.stream == stream && c.consumer == consumer && decide (c.freed < c.written)).map
      Credit.lastReturn
    match l with
    | [] => none
    | h :: t => some (t.foldl min h)
  else
    let l := (s.batches.filter fun b => b.slot == slot && b.stream == stream && b.opened).flatMap fun b =>
      (b.slices.filter fun x => x.consumer == consumer && x.stage != 2).map SliceState.since
    match l with
    | [] => none
    | h :: t => some (t.foldl min h)

/-- A consumer has returned no credit or release for ConsumerStallTicks (R207). -/
def consumerStall (slot stream consumer : Nat) (s : State) : State :=
  match s.owing slot stream consumer with
  | none => s
  | some since =>
    if s.gtc < since + s.get Obj.consumerStallTicks ∨ ¬ s.running slot then s
    else
      let ready := (s.batches.filter fun b => b.slot == slot && b.stream == stream && b.ready.isSome).length
      let s := (s.bump Obj.consumerStalls).postShoe 2 slot stream ready consumer
      { s with
        credits := s.credits.map fun (c : Credit) =>
          if c.slot = slot ∧ c.stream = stream ∧ c.consumer = consumer then { c with lastReturn := s.gtc } else c
        batches := s.batches.map fun (b : Batch) =>
          if b.slot = slot ∧ b.stream = stream then
            { b with slices := b.slices.map fun (x : SliceState) => if x.consumer = consumer then { x with since := s.gtc } else x }
          else b }

/-! ## The low-water alarm -/

/-- Has the assembler a batch left to start in the job's epochs? A packed epoch whose plan is not ready counts as one. -/
def State.batchLeft (s : State) (x : Shoe) : Bool :=
  (s.nextBatchOf x).isSome || ((s.batchesIn x.slot x.stream x.epoch).isNone)

/-- The low-water alarm of a Shoe follows its ready batches (R197). -/
def State.alarm (s : State) (x : Shoe) : State :=
  match (s.job x.slot).streams[x.stream]? with
  | none => s
  | some st =>
    let key := shoeKey Obj.lowWaterAlarm x.slot x.stream
    let ready := ((s.shoeBatches x).filter fun b => b.ready.isSome).length
    let raised := s.get key == 1
    let tell := (s.job x.slot).lowWaterEvent
    if ready < st.lowWater ∧ ¬ raised ∧ s.batchLeft x then
      let s := (s.set key 1).bump (shoeKey Obj.lowWaterAlarms x.slot x.stream)
      if tell ∧ (x.lastRaise.map fun t => decide (t + s.get Obj.sliceTicks ≤ s.gtc)).getD true then
        let s := s.postShoe 1 x.slot x.stream ready 0xFFFF
        { s with
          shoes := modifyWhere (fun (y : Shoe) => y.slot == x.slot && y.stream == x.stream)
            (fun (y : Shoe) => { y with lastRaise := some s.gtc }) s.shoes }
      else s
    else if st.lowWater ≤ ready ∧ raised then
      let s := s.set key 0
      if tell then s.postShoe 0 x.slot x.stream ready 0xFFFF else s
    else s

/-- Every Shoe's alarm follows. -/
def State.alarms (s : State) : State := s.shoes.foldl State.alarm s

/-! ## The export region of a PULL Shoe -/

/-- The directory entry of a Shoe slot (R205). -/
def State.directoryEntry (s : State) (slot stream k : Nat) : Bytes :=
  match s.batches.find? fun b => b.slot == slot && b.stream == stream && b.shoeSlot == k && b.ready.isSome with
  | some b =>
    leBytes 8 b.index ++ leBytes 2 b.epoch ++ leBytes 2 (ofBool b.opened) ++ leBytes 4 b.generation ++
      leBytes 8 (b.ready.getD 0) ++ zeros 8
  | none => leBytes 8 noRef ++ zeros 24

/-- The bytes of the export region of a PULL Shoe (R205). -/
def State.exportImage (s : State) (slot stream : Nat) : Bytes :=
  let j := s.job slot
  match j.streams[stream]? with
  | none => []
  | some st =>
    let stride := pullSliceStride (s.get Obj.maxDecodedBytes) j st
    padTo (pullDirectoryBytes st) ((List.range st.depth).flatMap fun k => s.directoryEntry slot stream k) ++
      (List.range st.depth).flatMap fun k =>
        let slices := ((s.batches.find? fun b => b.slot == slot && b.stream == stream && b.shoeSlot == k && b.ready.isSome).map
          Batch.slices).getD []
        (List.range j.sliceCount).flatMap fun i => padTo stride (((slices[i]?).map SliceState.bytes).getD [])

end Sys2Proof.Machine
end

