-- ==== Sys2Proof/Machine/Issue.lean ====
section
/-! DEFINITION. Issue and drain: the next position a member owns, the turn of the epoch, the end of issue, and the way of a draining
slot to STOPPED (R30, R34, R36, R103). -/

namespace Sys2Proof.Machine

/-- The entries of the Item Table in use. -/
def State.ownItems (s : State) : List Item := s.items.filter Item.own

/-- May a slot issue: it is RUNNING, or issues again after a resume, and its share and the table have room (R36, R451)? -/
def State.mayIssue (s : State) (slot : Nat) : Bool :=
  (s.jobState slot == 4 || (s.jobState slot == 5 && (s.slot slot).mark.isSome)) && !(s.slot slot).awaitStart && decide ((s.itemsOf slot).length < (s.slot slot).share) && decide (s.ownItems.length < itemTable)

/-- An item is issued for a position (R103). -/
def State.issueItem (s : State) (slot epoch position x : Nat) : State :=
  let entry := leastFree itemTable (s.ownItems.map Item.entry)
  let it : Item :=
    { entry := entry, slot := slot, epoch := epoch, position := position, sample := x, issueTick := s.gtc
      generation := s.get (inst Obj.replayGeneration slot) }
  ((s.addItem it).event 7 0x100 1 none (some slot)).lookUp it

/-- The turn of the epoch, or the end of issue (R34). -/
def State.endEpoch (s : State) (slot epoch : Nat) : State :=
  let j := s.job slot
  if epoch + 1 < j.epochFirst + j.epochCount then
    (s.set (inst Obj.currentEpoch slot) (epoch + 1)).modSlot slot fun sl => { sl with nextPosition := 0 }
  else (s.modSlot slot fun sl => { sl with issueDone := true }).enterState slot 5

/-- Positions are evaluated in ascending order until one whose sample this node owns is issued, at most `fuel` of them (R103). A
position that still has a live item is not issued again, and a slot that was DRAINING when it resumed issues no further than it had
(R34, R451). -/
def issueScan : Nat → Nat → State → State
  | 0, _, s => s
  | fuel + 1, slot, s =>
    let j := s.job slot
    let epoch := s.get (inst Obj.currentEpoch slot)
    let p := (s.slot slot).nextPosition
    let past : Bool := match (s.slot slot).mark with
      | some (e, q) => decide (e < epoch ∨ (e = epoch ∧ q ≤ p))
      | none => false
    if s.jobState slot = 5 ∧ past then s.modSlot slot fun sl => { sl with mark := none }
    else if ¬ s.running slot ∨ (s.jobState slot = 5 ∧ (s.slot slot).mark.isNone) then s
    else if j.issued ≤ p then issueScan fuel slot (s.endEpoch slot epoch)
    else
      let s := if p = 0 then s.startCensus slot (epoch + 1) else s
      let (x, passes) := rifflePasses j.seed j.n p epoch
      let s := ((s.bump Obj.riffleEvaluations).count Obj.riffleWalkPasses passes).event 7 0x102 (8 * passes) none none
      let s := s.modSlot slot fun sl => { sl with nextPosition := p + 1 }
      let live := s.items.any fun it => it.own && it.slot == slot && it.epoch == epoch && it.position == p
      if s.ownerOf slot x = myUid ∧ ¬ live then s.issueItem slot epoch p x else issueScan fuel slot s

/-- The next owned position of a slot is issued (R103). -/
def itemIssue (slot : Nat) (s : State) : State :=
  let j := s.job slot
  if s.mayIssue slot then issueScan ((j.issued + 1) * j.epochCount + 1) slot s else s

/-- The first items of a slot are issued, as many as its share takes (R30, R451). -/
def State.issueFirst (s : State) (slot : Nat) : State :=
  (List.range (s.slot slot).share).foldl (fun (t : State) _ => itemIssue slot t) s

/-! ## Draining -/

/-- The positions of a batch: of a packed one those of its documents, nothing where its plan is not known. -/
def State.positionsOf (s : State) (slot epoch stream index : Nat) : List Nat :=
  let j := s.job slot
  if ((j.streams[stream]?).map j.packedStream).getD false then
    ((s.censusReady slot epoch).map fun c => j.packedPositions c index).getD []
  else j.batchPositions index

/-- In DRAINING, what belongs only to batches that were not issued whole ends FAILED with 0x7800: such a batch is not assembled
(R34). -/
def State.dropUnissued (s : State) (slot : Nat) : State :=
  let cut (s : State) (epoch stream index : Nat) : Bool := !s.issuedWhole slot epoch (s.positionsOf slot epoch stream index)
  let s := (s.batches.filter fun b => b.slot == slot && b.ready.isNone && cut s b.epoch b.stream b.index).foldl
    (fun (t : State) b =>
      let t := (t.cancelWait b.holder).dropBatch b
      b.positions.foldl (fun (u : State) p => match u.fill slot b.epoch p with
        | some f => if u.elsewhere b p then u else u.endFill f 10 0x7800 f.lastState
        | none => u) t) s
  (s.items.filter fun it => it.own && it.slot == slot && it.prepared).foldl (fun (t : State) it =>
    match t.batchesOf slot it.epoch it.position it.cls with
    | some (e :: l) => if (e :: l).all fun e => cut t it.epoch e.1 e.2 then t.endHere it 10 0x7800 else t
    | _ => t) s

/-- Has a draining slot nothing left to do on this node (R34, R437)? -/
def State.drained (s : State) (slot : Nat) : Bool :=
  s.jobState slot == 5 && s.stepState slot == 0 && (s.slot slot).mark.isNone && !(s.slot slot).awaitStart &&
    !(s.slot slot).awaitCheck && (s.items.all fun it => it.slot != slot) && (s.fills.all fun f => f.slot != slot) &&
    (s.batches.all fun b => b.slot != slot) &&
    s.shoes.all fun x => x.slot != slot ||
      (match s.nextBatchOf x with
        | some (e, i) => !s.issuedWhole slot e (s.positionsOf slot e x.stream i)
        | none => true)

/-- A draining slot's leftovers end, and, when nothing is left, it is STOPPED: its exports are revoked (R34, R113, R205). -/
def State.drain (s : State) (slot : Nat) : State :=
  if s.jobState slot ≠ 5 then s
  else
    let s := if s.stepState slot = 0 then s.dropUnissued slot else s
    if s.drained slot then
      let s := [RegionKind.shoeExport, .sampleExport, .recordExport, .censusExport].foldl (fun (t : State) k => t.revokeSlot slot k) s
      let s := { s with shoes := s.shoes.filter fun x => x.slot != slot, credits := s.credits.filter fun c => c.slot != slot
                        offers := s.offers.filter fun o => refSlot o.ref != slot }
      s.enterState slot 6
    else s

end Sys2Proof.Machine
end

