-- ==== Sys2Proof/Machine/Curate.lean ====
section
/-! DEFINITION. CURATE on the Trestle: prefill and step passes, the token loop of a generator, result records and the curation log
(R227 to R236, R261 to R270). -/

namespace Sys2Proof.Machine

/-! ## The curation log -/

/-- The ring of a slot's curation log: its region. -/
def State.logRegion (s : State) (slot : Nat) : Option Region := s.regionOf .curationLog slot 0

/-- A pad record of some bytes (R265). -/
def padRecord (n : Nat) : Bytes := resultRecord 0 0 0 0 0xFF 0 0 (zeros (n - 32))

/-- A record joins the log of a slot, after a pad record where it would cross the end of the ring; nothing where it does not fit
(R265). -/
def State.appendLog (s : State) (slot : Nat) (r : Bytes) : Option State :=
  match s.logRegion slot with
  | none => some s
  | some g =>
    let size := s.get Obj.curationLogBytes
    let head := s.get (inst Obj.curationLogHead slot)
    let n := roundUp r.length 64
    let room := size - head % size
    let pad := if room < n then room else 0
    if size < head + pad + n - s.get (inst Obj.curationLogRelease slot) then none
    else
      let ring := if pad = 0 then g.content else overwrite g.content (head % size) (padRecord pad)
      let ring := overwrite ring ((head + pad) % size) (padTo n r)
      let s := { s with
        regions := s.regions.map fun (x : Region) => if x.index = g.index then { x with content := ring } else x }
      some (s.set (inst Obj.curationLogHead slot) (head + pad + n))

/-- A result record goes to the log where the stage asks for it, and the item leaves the stage; without room the item waits there
(R264, R265). `text` replaces the item's text. -/
def State.logResult (s : State) (it : Item) (r : Bytes) (text : Option Bytes) : State :=
  let j := s.job it.slot
  match j.stages[it.stage]? with
  | none => s
  | some st =>
    let logged := if byteAt st.param 1 = 1 then s.appendLog it.slot r else some s
    match logged with
    | none => s.putItem { it with logWait := some (r, text) }
    | some s =>
      let s := s.bump (inst Obj.slotCuratedItems it.slot)
      let it := { it with logWait := none, results := it.results ++ [(it.stage, r)] }
      match text with
      | some b => s.output it b st.requester
      | none => (s.putItem it).goOn it it.stage

/-- A write of CurationLogRelease frees consumed bytes, and records that wait are appended (R265). -/
def curationLogRelease (slot value : Nat) (s : State) : State :=
  let key := inst Obj.curationLogRelease slot
  if value < s.get key ∨ s.get (inst Obj.curationLogHead slot) < value then s.refused 0x800A
  else
    let s := s.accept key value
    eachItem ((s.items.filter fun it => it.slot == slot && it.logWait.isSome).map Item.entry)
      (fun t it => match it.logWait with
        | some (r, text) => t.logResult it r text
        | none => t) s

/-! ## Passes -/

/-- The stage an item is curated at, with its bundle. -/
def State.curating (s : State) (it : Item) : Option (StageRec × Bytes) :=
  match s.stageRec it with
  | some st => if st.kind = 6 ∧ ¬ it.prepared ∧ it.waitOut.isNone ∧ it.logWait.isNone then some (st, s.stageImage (s.job it.slot) st) else none
  | none => none

/-- Is an image that a stage needs, by kind and digest, there and whole (R308)? -/
def State.wholeImage (s : State) (kind dig : Nat) : Bool := ((s.loadedImage kind dig).map fun l => !l.damaged).getD false

/-- A pass of `rows` rows is counted (R275): its multiply-accumulates, and its matrix operators where they run on the Piers. -/
def State.countPass (s : State) (slot : Nat) (img : Bytes) (phase rows : Nat) : State :=
  let macs := passMacs img phase rows
  let s := (s.count Obj.trestleMacs macs).event 0 0x100 macs none (some slot)
  if s.get Obj.trestleState = 1 then s.count Obj.pierMatrixOperators (passMatmuls img phase) else s

/-- The result record of an item at its stage. -/
def Item.result (it : Item) (role cause flags : Nat) (payload : Bytes) : Bytes :=
  resultRecord it.ref it.sample it.stage role cause flags 0 payload

/-- Is an FP32 code a NaN or an infinity? -/
def notFinite (v : F32) : Bool := match f32 v with
  | .nan => true
  | .inf _ => true
  | _ => false

/-- A scorer or embedder item has its OUTPUT row (R261). -/
def State.scored (s : State) (it : Item) (st : StageRec) (img : Bytes) (row : List F32) : State :=
  let role := bundleRole img
  let row := if role = 2 ∧ byteAt st.param 3 = 1 then l2Row row else row
  if row.any notFinite then s.failItem it 0x4031
  else (s.bump Obj.curationResults).logResult it (it.result role 0xFF 0 (scoresPayload row)) none

/-! ## Generation -/

/-- The generation of an item. -/
def State.generationOf (s : State) (entry : Nat) : Option Generation := s.generations.find? fun g => g.entry == entry

/-- A generation takes its new standing. -/
def State.putGeneration (s : State) (g : Generation) : State :=
  { s with generations := (s.generations.filter fun x => x.entry != g.entry) ++ [g] }

/-- A generation has its cause: the held bytes are flushed unless a stop string ended it, and the result record is made (R229, R236,
R264). -/
def State.endGeneration (s : State) (it : Item) (st : StageRec) (g : Generation) (cause : Nat) : State :=
  let (tail, n) := if cause = 1 then ([], 0) else detokFlush g.held
  let text := g.text ++ tail
  let s := ((s.count Obj.replacementsEmitted n).count Obj.detokBytesEmitted tail.length).count
    (inst Obj.slotGeneratedTokens it.slot) g.tokens.length
  let s := if cause = 1 then s.bump Obj.stopHits else if cause = 3 then s.bump Obj.deadEnds else s
  let s := { s with generations := s.generations.filter fun x => x.entry != g.entry }
  let r := it.result 3 cause (ofBool g.cut + 2 * ofBool g.abandoned) (generationPayload g.tokens text)
  let s := s.bump Obj.curationResults
  if byteAt st.param 0 = 1 then
    if s.get Obj.maxDecodedBytes < text.length + 64 then s.failItem it 0x4032
    else s.logResult it r (some (encodeText (descriptorOf it.data).kind it.sample text))
  else s.logResult it r none

/-- One turn of the token loop: the step limit, the choice of the token, its text, and the causes that end the generation (R268). A
generation without a cause waits for its step pass. -/
def State.turn (s : State) (it : Item) (st : StageRec) (g : Generation) : State :=
  let j := s.job it.slot
  let p := st.param
  let control := s.imageBytes 1 (field p 0x30 32)
  let set := (controlRecords control).getD {}
  let vocab := match s.images.find? fun l => l.kind == 0 && !l.building && digestNat l.bytes % 2 ^ 64 == controlTag control with
    | some l => l.bytes
    | none => []
  if field p 4 4 ≤ g.steps then s.endGeneration it st g 2
  else
    let bans (t : Nat) : Bool := set.bans g.tokens t
    let forced := match g.forced with
      | t :: _ => if bans t then none else some t
      | [] => none
    let abandon := g.forced != [] && forced.isNone
    let s := if abandon then s.bump Obj.forcedAbandoned else s
    let g := { g with abandoned := g.abandoned || abandon, forced := if abandon then [] else g.forced }
    if forced.isNone ∧ ((List.range g.logits.length).all fun t => bans t) then s.endGeneration it st g 3
    else
      let method := if byteAt p 2 = 0xFF then j.sampling else byteAt p 2
      let u := uniformReal (draw j.seed it.epoch it.position it.stage g.steps)
      let chosen : Except Nat Nat := match forced with
        | some t => .ok t
        | none => selectToken method (field p 8 2) (pf p 0x0C) (pf p 0x10) u bans g.logits
      match chosen with
      | .error code =>
        State.failItem { s with generations := s.generations.filter fun x => x.entry != g.entry } it code
      | .ok t =>
        let s := s.bump Obj.generationSteps
        let s := if forced.isSome then s.bump Obj.forcedTokens
          else if (List.range g.logits.length).any fun x => bans x then s.bump Obj.maskedSteps else s
        let tokens := g.tokens ++ [t]
        let left := if forced.isSome then g.forced.drop 1 else set.triggered tokens
        let eos := (curateEos p).contains t
        let add := if tokenSpecial vocab t ∧ ¬ controlSpecial control then [] else tokenString vocab t
        let d := if eos then { pending := g.held } else detokStep set.stops (controlStopInclude control) g.held add
        let s := if eos then s else ((s.bump Obj.tokensDetokenized).count Obj.detokBytesEmitted d.emit.length).count
          Obj.replacementsEmitted d.replaced
        let g := { g with tokens := tokens, forced := left, held := d.pending, text := g.text ++ d.emit }
        if d.stop then s.endGeneration it st g 1
        else if eos then s.endGeneration it st g 0
        else s.putGeneration g

/-- An item's prefill has run (R262, R268): its scores, its embedding, or the first turn of its generation. -/
def State.prefill (s : State) (it : Item) : State :=
  match s.curating it with
  | none => s
  | some (st, img) =>
    let j := s.job it.slot
    let p := st.param
    let vocabDig := field p 0x50 32
    let controlDig := field p 0x30 32
    if (s.generationOf it.entry).isSome then s
    else if (bundleClass img = 2 ∧ ¬ s.wholeImage 0 vocabDig) ∨ (bundleRole img = 3 ∧ ¬ s.wholeImage 1 controlDig) then
      s.failItem it 0x7021
    else match curateInput j img (s.imageBytes 0 vocabDig) p it.data it.stage it.epoch it.position (s.get Obj.maxDecodedBytes) with
      | .error code => s.failItem it code
      | .ok (env, rows, cut) =>
        let s := s.countPass it.slot img 0 rows
        match runPass img 0 0 env with
        | .error code => s.failItem it code
        | .ok env =>
          let out := outputRow img env
          if bundleRole img ≠ 3 then s.scored it st img out
          else
            s.turn it st
              { entry := it.entry, stage := it.stage, prompt := rows, logits := out, cut := cut, tensors := stateTensors img env }

/-- An item's step pass has run (R268): the pass on its last token, and the next turn. -/
def State.stepPass (s : State) (it : Item) : State :=
  match s.curating it, s.generationOf it.entry with
  | some (st, img), some g =>
    let t := g.tokens.getLastD 0
    let at_ := if bundleClass img = 2 then bundleInput img else bundlePrompt img
    let s := s.countPass it.slot img 1 1
    match runPass img 1 (g.prompt + g.steps) (g.tensors ++ [(at_, [[t]])]) with
    | .error code => State.failItem { s with generations := s.generations.filter fun x => x.entry != g.entry } it code
    | .ok env =>
      s.turn it st { g with steps := g.steps + 1, logits := outputRow img env, tensors := stateTensors img env }
  | _, _ => s

/-- May a list of items share a pass: one slot, which holds INFERENCE, and one stage (R37, R271)? -/
def State.onePass (s : State) (entries : List Nat) : Bool :=
  match entries with
  | [] => false
  | e :: t =>
    match s.item e with
    | none => false
    | some a => (s.slot a.slot).holds.getD 0 true && distinct (e :: t) && t.all fun x =>
        ((s.item x).map fun b => b.slot == a.slot && b.stage == a.stage).getD false

/-- A pass over some items completes. -/
def passComplete (f : State → Item → State) (entries : List Nat) (s : State) : State :=
  if s.onePass entries then
    let s := { s.bump Obj.passesRun with trestleFaults := 0 }
    eachItem entries f s
  else s

/-- A prefill pass completes (R268). -/
def prefillPassComplete (entries : List Nat) (s : State) : State := passComplete State.prefill entries s

/-- A step pass completes (R268). -/
def stepPassComplete (entries : List Nat) (s : State) : State := passComplete State.stepPass entries s

end Sys2Proof.Machine
end

