-- ==== Sys2Proof/Machine/Elements.lean ====
section
/-! DEFINITION. Elements: their faults, retirement and spares, the repair journal, and the faults of engines, of the Trestle, of SRAM,
of the Viaduct and of the node (R248, R308, R431, R432, R545, R546). -/

namespace Sys2Proof.Machine

/-! ## Repairs -/

/-- The entries a repair journal of 2,048 bytes holds. -/
def journalMax : Nat := 512

/-- A repair is applied at once and joins the journal while there is room (R546). -/
def State.journalRepair (s : State) (entry : Nat) : State :=
  let s := s.countW 32 Obj.softRepairs 1
  if s.repair.journal.length < journalMax then
    { s with repair := { s.repair with journal := s.repair.journal ++ [entry] } }
  else s.countW 32 Obj.repairJournalDropped 1

/-- The repair entry of an element (R545). -/
def elementEntry (kind num : Nat) : Nat := 2 * 2 ^ 28 + kind * 2 ^ 24 + num

/-! ## Elements -/

/-- The spares that can take the place of an element: those of its kind, of its tile where the kind stands on both pipeline
tiles. Warp, tokenizer and Zstandard engines have none (R124, R156, R221, R247). -/
def spareNumbers (kind num : Nat) : List Nat :=
  let tile := num / 64 * 64
  match kind with
  | 1 => [tile + 16, tile + 17]
  | 2 => [tile + 8, tile + 9]
  | 6 => List.range' 256 8
  | 7 => List.range' 256 8
  | _ => []

/-- The tile of an element, as R434 numbers tiles. -/
def elementTile (kind num : Nat) : Nat := if kind ≤ 5 then 1 + num / 64 else 0

/-- What is known of an element. -/
def State.element (s : State) (kind num : Nat) : Option Element := s.elements.find? fun e => e.kind == kind && e.num == num

/-- An element takes its new standing. -/
def State.putElement (s : State) (e : Element) : State :=
  if (s.element e.kind e.num).isSome then
    { s with elements := replaceFirst (fun (x : Element) => x.kind == e.kind && x.num == e.num) e s.elements }
  else { s with elements := s.elements ++ [e] }

/-- The spares of an element not yet used. -/
def State.sparesFor (s : State) (kind num : Nat) : List Nat :=
  if kind = 8 then s.pierRoles.2.2.filter (64 ≤ ·)
  else (spareNumbers kind num).filter fun n => (s.element kind n).isNone

/-- Retire an element, applied softly and journalled; its spare takes its place (R432). The ACTION of R434: 2 with a spare, 3
without, 0 where it was retired before. A spare that fails before it is used is a spare lost. A Trestle with no spare left
for a needed row or column runs on the Piers from then on (R248). -/
def State.retireElement (s : State) (kind num : Nat) : Nat × State :=
  let e := (s.element kind num).getD { kind := kind, num := num }
  if ¬ e.inService then (0, s)
  else
    let unused := e.spare == false && (spareNumbers kind num).contains num
    let spares := (s.sparesFor kind num).filter (· != num)
    let s := (s.putElement { e with inService := false }).journalRepair (elementEntry kind num)
    if unused then (2, s)
    else match spares with
      | n :: _ => (2, if kind = 8 then s else s.putElement { kind := kind, num := n, spare := true })
      | [] => (3, if kind = 6 ∨ kind = 7 then s.set Obj.trestleState 1 else s)

/-- A fault of an element: it is retired when the fault is permanent or its ElementRetireFaults-th within 10^10 ticks (R432). -/
def State.elementFault (s : State) (kind num : Nat) (permanent : Bool) : Nat × State :=
  let e := (s.element kind num).getD { kind := kind, num := num }
  let recent := e.faults.filter (fun t => s.gtc ≤ t + 10 ^ 10) ++ [s.gtc]
  let s := s.putElement { e with faults := recent }
  if permanent ∨ s.get Obj.elementRetireFaults ≤ recent.length then s.retireElement kind num else (0, s)

/-- UNIT of an element: its number within the tile as the counter banks number the engines (R434, R528), a Pier's and a line's its
own. -/
def elementUnit (kind num : Nat) : Nat := if kind ≤ 5 then engineUnit kind num else num

/-- DETAIL0 of an element (R435). -/
def elementDetail (kind num : Nat) : Nat := kind * 2 ^ 56 + num

/-- The last element of a kind has been retired, with no spare and no fallback: class TILE is raised, and the items that wait for the
kind end FAILED (R431). The Trestle falls back on the Piers, and the Piers on those of curation. -/
def State.lastElement (s : State) (kind num action : Nat) : State :=
  if (action = 2 ∨ action = 3) ∧ (kind ≤ 5 ∨ kind = 8) ∧ s.enginesOf kind = [] then
    if kind = 8 ∧ s.get Obj.slowLanePiers = 0 then s
    else
      let waiting := s.items.filter (s.queuedFor kind)
      let s := s.raiseFault
        { cls := 11, tile := elementTile kind num, reason := 0x7050, unit := elementUnit kind num, action := 4
          detail0 := elementDetail kind num, detail1 := 0xFF }
      waiting.foldl (fun (t : State) it => t.failItem it 0x7050) s
  else s

/-- The counter of restarts after faults of an engine of a kind (R125, R156, R221). -/
def retryCounter (kind : Nat) : Nat :=
  match kind with
  | 3 => Obj.warpRetries
  | 5 => Obj.tokenizerRetries
  | _ => Obj.dealerRetries

/-- The outcome of a fault on an item as a record shows it: retried, or failed for want of retries (R432, R434). -/
def State.retryAction (s : State) (it : Item) : Nat := if s.get Obj.itemRetryLimit ≤ it.retries then 4 else 1

/-- A self-check fault of the engine an item runs on (R125, R156, R221, R432). -/
def State.engineFault (s : State) (it : Item) (kind num : Nat) (permanent : Bool) : State :=
  let (action, s) := s.elementFault kind num permanent
  let retry := s.retryAction it
  let s := s.raiseFault
    { cls := 1, tile := elementTile kind num, reason := 0x7001, unit := elementUnit kind num
      action := if action = 0 then retry else action, slot := it.slot, requester := (s.job it.slot).requesterOf it.stage
      ref := it.ref, detail0 := elementDetail kind num, detail1 := it.stage }
  let s := if retry = 1 then s.bump (retryCounter kind) else s
  (s.retryItem it false false).lastElement kind num action

/-! ## The Trestle -/

/-- The Trestle faults during a matrix operator (R248): its output is discarded and the operator runs again, after remapping
where the fault retires a row or column, and on the Piers where it faults for the third time in the pass or no spare is
left. `line` is a row, or a column, of the array. -/
def trestleOperatorFault (entries : List Nat) (column : Bool) (line : Nat) (permanent : Bool) (s : State) : State :=
  let items := entries.filterMap s.item
  match items with
  | [] => s
  | it :: _ =>
    if s.get Obj.trestleState = 1 ∨ ¬ s.onePass entries ∨ 264 ≤ line then s
    else
      let kind := if column then 7 else 6
      let (action, s) := s.elementFault kind line permanent
      let s := s.raiseFault
        { cls := 1, tile := 0, reason := 0x7001, unit := line, action := if action = 0 then 1 else action
          slot := it.slot, requester := (s.job it.slot).requesterOf it.stage, ref := it.ref
          detail0 := elementDetail kind line, detail1 := it.stage }
      let seq := s.lastFaultSeq
      let s := items.foldl (fun (t : State) x => t.putItem { x with perturb := x.perturb ||| 128, faultSeq := seq }) s
      let faults := s.trestleFaults + 1
      let s : State := { (s.bump Obj.trestleRetries).bump Obj.faultRecoveryCount with trestleFaults := faults }
      if faults = 3 ∨ s.get Obj.trestleState = 1 then s.bump Obj.pierMatrixOperators else s

/-! ## The node -/

/-- A fault of class NODE: 1 firmware, 2 a Viaduct link, 3 thermal (R431, R435). Every slot whose step runs raises a collective
abort that names this device; then every slot ends as ABORT ends it. -/
def State.nodeFault (s : State) (cause link : Nat) : State :=
  let s := s.raiseFault { cls := 12, tile := 7, reason := 0x7060, action := 5, detail0 := cause, detail1 := link }
  let s := allSlots.foldl (fun (t : State) i => t.raiseAbort i 0x7823 0 0xFF noRef 0 myUid) s
  allSlots.foldl
    (fun (t : State) i =>
      if t.jobState i = 3 ∨ t.jobState i = 4 ∨ t.jobState i = 5 then t.abortSlot i 0x7060 0x7060 else t) s

/-- A lane of a Viaduct link keeps failing after retry (R431): a spare lane takes its traffic, or with none left the link is lost. -/
def viaductLaneFailure (tile link lane : Nat) (s : State) : State :=
  let used := (findKey (tile * 65536 + link) s.lanesUsed).getD 0
  let left := Config.viaductSpares tile link - used
  if left = 0 then
    let s := s.raiseFault { cls := 4, tile := tile, reason := 0x7012, unit := link, action := 3, detail0 := link }
    s.nodeFault 2 link
  else
    let s := { s with lanesUsed := putKey (tile * 65536 + link) (used + 1) s.lanesUsed }
    let s := s.raiseFault
      { cls := 4, tile := tile, reason := 0x7011, unit := link, action := 2, detail0 := link, detail1 := left - 1 }
    s.journalRepair (elementEntry 9 lane)

/-- The record of an uncorrectable SRAM word, and what it does to the node where it held firmware state (R308, R431). -/
def State.sramRecord (s : State) (tile address bank action : Nat) (it : Option Item) : State :=
  let f : Fault64 := { cls := 6, tile := tile, reason := 0x7022, unit := bank, action := action, detail0 := address, detail1 := bank }
  match it with
  | some it => s.raiseFault { f with slot := it.slot, requester := (s.job it.slot).requesterOf it.stage, ref := it.ref }
  | none => s.raiseFault f

end Sys2Proof.Machine
end

