-- ==== Sys2Proof/Machine/Kernels.lean ====
section
/-! DEFINITION. Pier kernels: the pool, the entry state, service calls, DMA, and how an item ends in a KERNEL stage (R277 to R293,
R303, R304). What a kernel's own instructions do is RISC-V code of the package and comes with the command that ends a stretch of
them, as a `KernelStep`. -/

namespace Sys2Proof.Machine

/-! ## Runs -/

/-- The first address of the kernel scratchpad, and of the code (R283). -/
def spadBase : Nat := 0x200000
def codeBase : Nat := 0x100000

/-- The kernel of an item. -/
def State.kernel (s : State) (entry : Nat) : Option KernelRun := s.kernels.find? fun k => k.entry == entry

/-- A kernel takes its new standing. -/
def State.putKernel (s : State) (k : KernelRun) : State :=
  { s with kernels := replaceFirst (fun (x : KernelRun) => x.entry == k.entry) k s.kernels }

/-- The package of an item's KERNEL stage, and its stage record. -/
def State.kernelPackage (s : State) (it : Item) : StageRec × Bytes :=
  let j := s.job it.slot
  match j.stages[it.stage]? with
  | some st => (st, s.stageImage j st)
  | none => ({ kind := 9, classMask := 0, refIndex := 0xFF, requester := 0, param := [] }, [])

/-- SPAD_BYTES of a package (R295). -/
def spadBytes (img : Bytes) : Nat := field img 0x28 4

/-- The instructions an item may retire (R292, R298). -/
def instructionLimit (st : StageRec) (img : Bytes) : Nat :=
  (if field st.param 0 4 = 0 then field img 0x2C 4 else field st.param 0 4) * 65536

/-- The result records of the earlier CURATE stages, in stage order (R284). -/
def Item.kernelResults (it : Item) : List Bytes := ((it.results.filter fun r => decide (r.1 < it.stage)).map Prod.snd).take 8

/-- Does the item reach its stage as a tensor (R284, R298)? -/
def State.tensorInput (s : State) (it : Item) : Bool :=
  let j := s.job it.slot
  (j.stages.take it.stage).any fun p => s.makesTensor j p it.cls

/-- The item descriptor (R284). -/
def State.itemDescriptor (s : State) (it : Item) (st : StageRec) (img : Bytes) : Bytes :=
  let j := s.job it.slot
  let results := it.kernelResults.length
  let handles := (List.range 8).flatMap fun i => leBytes 4 (if i < results then i + 1 else 0xFFFFFFFF)
  ascii ['K', 'I', 'D', '1'] ++ leBytes 2 1 ++ leBytes 1 it.stage ++ leBytes 1 it.cls ++ leBytes 8 it.ref ++ leBytes 8 it.sample ++
    leBytes 4 (ofBool it.talon.isSome + 2 * ofBool (bit it.flags 0)) ++ leBytes 4 0 ++ leBytes 8 it.data.length ++
    leBytes 1 (if s.tensorInput it then 1 + it.cls else 0) ++ leBytes 1 results ++ leBytes 2 (field st.param 4 2) ++
    leBytes 4 (instructionLimit st img / 65536) ++ handles ++ leBytes 1 j.elementType ++ leBytes 1 j.imageChannels ++
    leBytes 2 j.imageHeight ++ leBytes 2 j.imageWidth ++ zeros 2 ++ leBytes 4 j.audioFrames ++ zeros 36 ++
    padTo (field st.param 4 2) (st.param.drop 16)

/-- The registers at entry (R283). -/
def entryRegs (st : StageRec) (img : Bytes) : PierRegs :=
  { pc := codeBase + field img 0x14 4
    x := (((((List.replicate 32 0).set 1 0xFF0).set 2 (spadBase + spadBytes img)).set 10 0x10000).set 11 (field st.param 4 2))
    f := List.replicate 32 0, v := List.replicate 32 0, vl := 0, vtype := 2 ^ 63, fcsr := 0, vxrm := 0, vxsat := 0, vstart := 0 }

/-- The pool Piers that hold no item (R277). -/
def State.freePiers (s : State) : List Nat := s.pierRoles.2.1.filter fun n => s.kernels.all fun k => k.pier != n

/-- Does an item wait for a pool Pier? -/
def State.waitsForPier (s : State) (it : Item) : Bool :=
  !it.prepared && it.engine.isNone && it.waitOut.isNone &&
    ((s.job it.slot).stages[it.stage]?).any (·.kind == 9) && (s.kernel it.entry).isNone

/-- Which of two waiting items goes first: the one that reached its stage first, then the lower slot, then the lower position. -/
def kernelBefore (a b : Item) : Bool :=
  decide (a.engineSince < b.engineSince ∨ (a.engineSince = b.engineSince ∧
    (a.slot < b.slot ∨ (a.slot = b.slot ∧ a.epoch * 2 ^ 41 + a.position ≤ b.epoch * 2 ^ 41 + b.position))))

/-- The earliest waiting kernel item. -/
def State.nextKernelItem (s : State) : Option Item :=
  (s.items.filter s.waitsForPier).foldl
    (fun (best : Option Item) it => match best with
      | some b => if kernelBefore b it then some b else some it
      | none => some it) none

/-- A free pool Pier takes the earliest waiting kernel item, sets the entry state and starts it (R277, R283). A restarted item runs on
another Pier than the one it was abandoned on, unless the pool has no other. -/
def kernelItemStart (s : State) : State :=
  match s.nextKernelItem with
  | none => s
  | some it =>
    let free := s.freePiers
    let others := free.filter fun n => it.avoid != some (8, n)
    match if s.pierRoles.2.1.length ≤ 1 then free else others with
    | [] => s
    | n :: _ =>
      let (st, img) := s.kernelPackage it
      if ¬ s.imageWhole (s.job it.slot) st then s.failItem it 0x7021
      else
        let data := slice (field img 0x20 4) (field img 0x24 4) img
        let k : KernelRun :=
          { entry := it.entry, pier := n, since := s.gtc, regs := entryRegs st img, descriptor := s.itemDescriptor it st img
            spad := Memory.write [] spadBase data }
        let s := match it.faultAt with
          | some f => s.count Obj.faultRecoveryTicks (s.gtc - f)
          | none => s
        let s := s.putItem { it with engine := some (8, n), engineSince := s.gtc, faultAt := none }
        { s with kernels := s.kernels ++ [k] }

/-! ## How an item ends -/

/-- The Pier of a kernel was busy so long (R528). -/
def State.pierDone (s : State) (it : Item) (k : KernelRun) : State :=
  s.event 0 0x104 (s.gtc - k.since) (some k.pier) (some it.slot)

/-- A kernel fails its item with a code (R286, R292, R293): traps and limits are counted, and the history has the pc. -/
def State.kernelFail (s : State) (it : Item) (k : KernelRun) (code : Nat) : State :=
  let s := if 0x4810 ≤ code ∧ code ≤ 0x4819 ∨ 0x4830 ≤ code ∧ code ≤ 0x4832 then s.bump Obj.kernelTraps
    else if code = 0x4820 then s.bump Obj.kernelLimitFailures else s
  let s := (s.bump (inst Obj.slotKernelFailures it.slot)).pierDone it k
  s.failItem { it with faultPc := k.regs.pc } code

/-- The bytes that a target names: the input, a result record, or a chain of the kernel's own. -/
def targetBytes (it : Item) (k : KernelRun) (target : Nat) : Bytes :=
  if target = 0 then it.data
  else if target ≤ 8 then it.kernelResults.getD (target - 1) []
  else ((k.chains.find? fun c => c.id == target).map KernelChain.data).getD []

/-- The target of a handle that is held (R285): handles 0 to 8 name themselves while there is such a record. -/
def targetOf (it : Item) (k : KernelRun) (handle : Nat) : Option Nat :=
  if handle ≤ it.kernelResults.length then some handle
  else (k.handles.find? fun h => h.num == handle).map KernelHandle.target

/-- The chain behind a target. -/
def targetChain (it : Item) (k : KernelRun) (target : Nat) : Option Chain :=
  if target = 0 then it.chain else (k.chains.find? fun c => c.id == target).map KernelChain.chain

/-- An item leaves its KERNEL stage with data in a chain, the references of which are settled (R290). -/
def State.leaveKernel (s : State) (it : Item) (k : KernelRun) : State :=
  let s := (s.bump Obj.kernelItems).bump (inst Obj.slotKernelItems it.slot)
  let s := s.pierDone it k
  let it := { it with engine := none, avoid := none }
  ({ s with kernels := s.kernels.filter fun x => x.entry != it.entry }.putItem it).goOn it it.stage

/-- PASS: the item goes on with its input unchanged (R290). -/
def State.passKernel (s : State) (it : Item) (k : KernelRun) : State :=
  (k.handles.foldl (fun (t : State) h => t.dropTarget it k h.target) s).leaveKernel it k

/-- The descriptor check of EMIT in form 0 (R291): the fields within R129, the strides of R130. -/
def emitSampleOk (it : Item) (b : Bytes) (chainLength maxDecoded : Nat) : Bool :=
  let d := descriptorOf b
  let image := d.cls == 0
  let n := field b 0x30 8
  decide (64 ≤ b.length) && sampleMagicOk b && d.cls == it.cls && d.sample == it.sample &&
    payloadKinds.contains d.kind && kindClass d.kind == d.cls && decide (d.element ≤ 3) &&
    decide (1 ≤ d.channels ∧ d.channels ≤ 16) && (d.cls != 2 || d.channels == 1) &&
    (!image || decide (1 ≤ d.width ∧ d.width ≤ 65535 ∧ 1 ≤ d.height ∧ d.height ≤ 65535)) && (d.cls != 2 || d.height == 0) &&
    decide (d.colour ≤ 6) && decide (d.alpha ≤ 1) && decide (1 ≤ d.depth ∧ d.depth ≤ 32) &&
    (if d.kind = 3 ∨ d.kind = 4 then decide (d.reduce ≤ 5) else d.reduce == 0) &&
    d.rowStride == (if image then rowStrideOf d.width d.element else 0) &&
    d.planeStride == (if image then d.rowStride * d.height else if d.cls = 1 then signalStride d.width else 0) &&
    (d.kind == 0x11 || d.gain == 0) && allZero (slice 0x2A 6 b) && allZero (slice 0x3C 4 b) &&
    decide (n + 64 ≤ chainLength ∧ n + 64 ≤ maxDecoded)

/-- DIM0 of the tensor of a class (R199). -/
def Job.dim0 (j : Job) (cls : Nat) : Nat :=
  if cls = 1 then j.audioFrames
  else if ((j.streamOf cls).bind fun i => j.streams[i]?).any (·.layout != 0) then j.imageChannels else j.imageHeight

/-- EMIT (R290, R291): the output is checked in the order of the rule, and the handle's reference passes to the item. -/
def State.emitKernel (s : State) (it : Item) (k : KernelRun) (handle form valid : Nat) : State :=
  let j := s.job it.slot
  let (_, img) := s.kernelPackage it
  match targetOf it k handle with
  | none => s.kernelFail it k 0x4811
  | some target =>
    let b := targetBytes it k target
    let n := 64 + field b 0x30 8
    let size := j.tensorBytes it.cls
    if 1 < form then s.kernelFail it k 0x4811
    else if form = 0 ∧ ¬ emitSampleOk it b b.length (s.get Obj.maxDecodedBytes) then s.kernelFail it k 0x4830
    else if form = 1 ∧ ¬ (it.cls ≤ 1 ∧ size ≤ b.length ∧ 1 ≤ valid ∧ valid ≤ j.dim0 it.cls) then s.kernelFail it k 0x4831
    else if (form = 1) ≠ (kernelEmits img it.cls = true) ∨ (form = 0 ∧ s.tensorInput it) then s.kernelFail it k 0x4832
    else
      let out := if form = 1 then b.take size else overwrite (b.take n) 0x38 (leBytes 4 (crc32c (slice 64 (n - 64) b)))
      let chain := targetChain it k target
      let kept := k.handles.filter fun h => h.num != handle
      let s := kept.foldl (fun (t : State) h => t.dropTarget it k h.target) s
      let s := if handle = 0 then s else match it.chain with
        | some c => s.dropChain c
        | none => s
      let it := { it with chain := chain, data := out, before := it.data, madeAt := it.stage, valid := if form = 1 then valid else it.valid }
      s.leaveKernel it k

/-- An ending call takes effect (R290): 8 EMIT, 9 PASS, 10 FAIL, 11 REJECT with its arguments. -/
def State.endKernel (s : State) (it : Item) (k : KernelRun) (call : Nat) (args : List Nat) : State :=
  let a := args.getD 0 0
  let (_, img) := s.kernelPackage it
  match call with
  | 8 => s.emitKernel it k a (args.getD 1 0) (args.getD 2 0)
  | 9 => s.passKernel it k
  | 10 => if 0x4C00 ≤ a ∧ a ≤ 0x4CFF then s.kernelFail it k a else s.kernelFail it k 0x4811
  | _ =>
    if ¬ bit (field img 0x10 4) 1 ∨ 15 < a then s.kernelFail it k 0x4819
    else ((s.bump (inst Obj.slotKernelRejects it.slot)).pierDone it k).failItem it (0x4880 + a)

/-! ## Running -/

/-- Does a range meet the scratchpad range of an outstanding DMA (R289)? -/
def KernelRun.meets (k : KernelRun) (addr len : Nat) : Bool :=
  k.dmas.any fun d => decide (addr < d.spad + d.rows * d.length ∧ d.spad < addr + len)

/-- Is a range within the scratchpad? -/
def inSpad (img : Bytes) (addr len : Nat) : Bool := decide (spadBase ≤ addr ∧ addr + len ≤ spadBase + spadBytes img)

/-- An argument register. -/
def regArg (r : PierRegs) (i : Nat) : Nat := r.x.getD (10 + i) 0

/-- The result of a call: a0 returns 0, and a1 a value where there is one (R286). -/
def KernelRun.answer (k : KernelRun) (value : Option Nat) : KernelRun :=
  let x := k.regs.x.set 10 0
  { k with regs := { k.regs with x := match value with
    | some v => x.set 11 v
    | none => x } }

/-- Instructions retired are counted (R292, R303). -/
def State.retired (s : State) (it : Item) (k : KernelRun) (n : Nat) : State :=
  (s.count Obj.kernelInstructions n).event 0 0x103 n (some k.pier) (some it.slot)

/-- A kernel's own instructions since its last call, and then what ends the stretch. A kernel that waits, or whose store meets an
outstanding DMA, has not come so far (R289); instructions past the limit end the item, and so does a store outside the
scratchpad (R292, R293). -/
def State.runKernel (s : State) (entry : Nat) (w : KernelStep) (f : Item → KernelRun → State → State) : State :=
  match s.item entry, s.kernel entry with
  | some it, some k =>
    let (st, img) := s.kernelPackage it
    if k.allocating.isSome ∨ k.waiting.isSome ∨ k.ending.isSome ∨ w.stores.any (fun x => k.meets x.1 x.2.length) then s
    else
      let limit := instructionLimit st img
      let ran := min w.insns (limit - k.insns)
      let good := w.stores.all fun x => inSpad img x.1 x.2.length
      let stores := w.stores.takeWhile fun x => inSpad img x.1 x.2.length
      let k := { k with regs := w.regs, insns := k.insns + ran, spad := stores.foldl (fun m x => Memory.write m x.1 x.2) k.spad }
      let s := (s.putKernel k).retired it k ran
      if ran < w.insns then s.kernelFail it k 0x4820
      else if ¬ good then s.kernelFail it k 0x4813
      else f it k s
  | _, _ => s

/-- A service call (R286): a7 holds its number, and it is charged 64 instructions before it acts (R292). -/
def State.serviceCall (s : State) (entry call : Nat) (w : KernelStep) (f : Item → KernelRun → Bytes → State → State) : State :=
  if w.regs.x.getD 17 0 ≠ call then s
  else s.runKernel entry w fun it k t =>
    let (st, img) := t.kernelPackage it
    if instructionLimit st img < k.insns + 64 then t.kernelFail it k 0x4820
    else
      let k := { k with insns := k.insns + 64 }
      f it k img ((t.putKernel k).retired it k 64)

/-- The lowest free handle of those given out (R285). -/
def KernelRun.freeHandle (k : KernelRun) : Option Nat :=
  (List.range' 9 55).find? fun n => k.handles.all fun h => h.num != n

/-! ## Chains -/

/-- CHAIN_ALLOC: the request for buffers is made, and the call waits for them (R286). -/
def chainAlloc (entry : Nat) (w : KernelStep) (s : State) : State :=
  s.serviceCall entry 1 w fun it k _ t =>
    let n := regArg k.regs 0
    if n = 0 ∨ t.get Obj.maxDecodedBytes < n then t.kernelFail it k 0x4818
    else if k.freeHandle.isNone then t.kernelFail it k 0x4817
    else
      (t.putKernel { k with allocating := some (n, t.gtc) }).requestBuffers ((t.job it.slot).requesterOf it.stage) (chainBuffers n) entry

/-- A CHAIN_ALLOC has its buffers: the call returns with a handle on the zeroed chain. Nothing where no call waits. -/
def State.chainAllocated (s : State) (it : Item) (got : List Nat) : Option State :=
  match s.kernel it.entry with
  | some k => match k.allocating, k.freeHandle with
    | some (n, since), some h =>
      let c : KernelChain := { id := k.nextChain, chain := makeChain n got, data := zeros n }
      let k : KernelRun := { k with
        allocating := none, nextChain := k.nextChain + 1, chains := k.chains ++ [c]
        handles := k.handles ++ [({ num := h, target := k.nextChain } : KernelHandle)] }
      some ((s.putKernel (k.answer (some h))).count Obj.kernelBufferWaitTicks (s.gtc - since))
    | _, _ => none
  | none => none

/-- CHAIN_LENGTH (R286). -/
def chainLength (entry : Nat) (w : KernelStep) (s : State) : State :=
  s.serviceCall entry 2 w fun it k _ t =>
    match targetOf it k (regArg k.regs 0) with
    | some target => t.putKernel (k.answer (some (targetBytes it k target).length))
    | none => t.kernelFail it k 0x4811

/-- REF_ADD (R286): a new handle on the same chain. -/
def kernelRefAdd (entry : Nat) (w : KernelStep) (s : State) : State :=
  s.serviceCall entry 3 w fun it k _ t =>
    match targetOf it k (regArg k.regs 0) with
    | none => t.kernelFail it k 0x4811
    | some target =>
      let chain := targetChain it k target
      let full := (chain.map fun c => c.all.any fun h => (t.pool.find h).any (·.count == 255)).getD false
      match k.freeHandle with
      | some h =>
        if full then t.kernelFail it k 0x4817
        else
          let t := match chain with
            | some c => t.addChain c
            | none => t
          t.putKernel (KernelRun.answer { k with handles := k.handles ++ [({ num := h, target := target } : KernelHandle)] } (some h))
      | none => t.kernelFail it k 0x4817

/-- REF_DROP (R286). -/
def kernelRefDrop (entry : Nat) (w : KernelStep) (s : State) : State :=
  s.serviceCall entry 4 w fun it k _ t =>
    let h := regArg k.regs 0
    match k.handles.find? fun x => x.num == h with
    | some x =>
      if k.dmas.any fun d => d.handle == h then t.kernelFail it k 0x4811
      else
        let handles := k.handles.filter fun y => y.num != h
        let chains := k.chains.filter fun c => c.id != x.target || handles.any fun y => y.target == x.target
        (t.dropTarget it k x.target).putKernel (KernelRun.answer { k with handles := handles, chains := chains } none)
    | none => t.kernelFail it k 0x4811

/-! ## DMA -/

/-- A DMA descriptor as it is copied at DMA_SUBMIT (R288). -/
def dmaOf (b : Bytes) (target now : Nat) : KernelDma :=
  { tag := byteAt b 1, write := byteAt b 0 == 1, handle := field b 4 4, target := target, offset := field b 8 8
    spad := field b 0x10 4, length := field b 0x14 4, rows := max 1 (field b 0x18 2), stride := field b 0x1C 4, since := now }

/-- The fields of a descriptor that are illegal in themselves (R288, R289). -/
def dmaIllegal (k : KernelRun) (img b : Bytes) : Bool :=
  let d := dmaOf b 0 0
  decide (1 < byteAt b 0) || decide (15 < d.tag) || k.dmas.any (fun x => x.tag == d.tag) || field b 2 2 != 0 || field b 0x1A 2 != 0 ||
    d.length == 0 || decide (spadBytes img < d.length) || !inSpad img d.spad (d.rows * d.length) ||
    (if field b 0x18 2 ≤ 1 then d.stride != 0 else decide (d.stride < d.length))

/-- The references on the chain of a target: those on its first buffer. -/
def State.targetRefs (s : State) (it : Item) (k : KernelRun) (target : Nat) : Nat :=
  ((targetChain it k target).bind fun c => (s.pool.find c.name).map Held.count).getD 0

/-- DMA_SUBMIT (R288, R289). -/
def dmaSubmit (entry : Nat) (w : KernelStep) (s : State) : State :=
  let a := regArg w.regs 0
  if (s.kernel entry).any fun k => k.meets a 32 then s
  else s.serviceCall entry 5 w fun it k img t =>
    if a % 8 ≠ 0 ∨ ¬ inSpad img a 32 then t.kernelFail it k 0x4811
    else
      let b := Memory.bytes k.spad a 32
      match targetOf it k (field b 4 4) with
      | none => t.kernelFail it k 0x4811
      | some target =>
        let d := dmaOf b target t.gtc
        let own := 9 ≤ target
        if dmaIllegal k img b then t.kernelFail it k 0x4811
        else if (own ∨ ¬ d.write) ∧ (targetBytes it k target).length < d.offset + (d.rows - 1) * d.stride + d.length then
          t.kernelFail it k 0x4815
        else if d.write ∧ (¬ own ∨ 1 < t.targetRefs it k target) then t.kernelFail it k 0x4816
        else t.putKernel (KernelRun.answer { k with dmas := k.dmas ++ [d] } none)

/-- Is a DMA of those that a wait names (R286)? -/
def KernelDma.named (d : KernelDma) (tag : Nat) : Bool := tag == 0xFF || d.tag == tag

/-- DMA_WAIT (R286): it returns when the DMAs named are complete. -/
def dmaWait (entry : Nat) (w : KernelStep) (s : State) : State :=
  s.serviceCall entry 6 w fun it k _ t =>
    let tag := regArg k.regs 0
    if 15 < tag ∧ tag ≠ 0xFF then t.kernelFail it k 0x4811
    else if k.dmas.any fun d => d.named tag then t.putKernel { k with waiting := some tag }
    else t.putKernel (k.answer none)

/-- What a kernel does when a DMA has ended: a wait returns, and an ending call takes effect with the last one. -/
def State.dmaEnded (s : State) (it : Item) (k : KernelRun) : State :=
  match k.ending with
  | some (call, args) => if k.dmas = [] then s.endKernel it k call args else s.putKernel k
  | none => match k.waiting with
    | some tag => if k.dmas.any fun d => d.named tag then s.putKernel k else s.putKernel (KernelRun.answer { k with waiting := none } none)
    | none => s.putKernel k

/-- The rows of a READ, moved to the scratchpad; of a WRITE, into a chain's bytes. -/
def KernelDma.intoSpad (d : KernelDma) (src : Bytes) (m : Memory) : Memory :=
  (List.range d.rows).foldl (fun m r => Memory.write m (d.spad + r * d.length) (slice (d.offset + r * d.stride) d.length src)) m
def KernelDma.intoChain (d : KernelDma) (m : Memory) (dst : Bytes) : Bytes :=
  (List.range d.rows).foldl (fun b r => overwrite b (d.offset + r * d.stride) (Memory.bytes m (d.spad + r * d.length) d.length)) dst

/-- A DMA finishes (R288, R289). One submitted after another on its handle, or whose scratchpad range meets an earlier one's, has
not begun. -/
def dmaComplete (entry tag : Nat) (s : State) : State :=
  match s.item entry, s.kernel entry with
  | some it, some k =>
    let before := k.dmas.takeWhile fun d => d.tag != tag
    match k.dmas.find? fun d => d.tag == tag with
    | none => s
    | some d =>
      if before.any fun x => x.handle == d.handle || decide (x.spad < d.spad + d.rows * d.length ∧ d.spad < x.spad + x.rows * x.length)
      then s
      else
        let left := k.dmas.filter fun x => x.tag != tag
        let s := s.count Obj.kernelDmaBytes (d.rows * d.length)
        if d.write then
          let chains := modifyWhere (fun (c : KernelChain) => c.id == d.target)
            (fun c => { c with data := d.intoChain k.spad c.data }) k.chains
          s.dmaEnded it { k with dmas := left, chains := chains }
        else s.dmaEnded it { k with dmas := left, spad := d.intoSpad (targetBytes it k d.target) k.spad }
  | _, _ => s

/-- An item whose Pier or DMA failed starts again from its input (R278). -/
def State.restartKernel (s : State) (it : Item) (k : KernelRun) : State :=
  let s := (s.pierDone it k).stopKernel it
  let s := if s.retryAction it = 1 then s.bump Obj.kernelRetries else s.bump (inst Obj.slotKernelFailures it.slot)
  s.retryItem it false false

/-- A DMA has not completed within 1,000,000 ticks (R278). -/
def dmaTimeout (entry tag : Nat) (s : State) : State :=
  match s.item entry, s.kernel entry with
  | some it, some k =>
    if k.dmas.any fun d => d.tag == tag && decide (d.since + 1000000 ≤ s.gtc) then s.restartKernel it k else s
  | _, _ => s

/-- A pool Pier raises an internal fault (R278, R432). With no Pier left for the pool, the class TILE is raised and the items that
wait for one end FAILED (R431). -/
def State.pierFault (s : State) (it : Item) (k : KernelRun) (permanent : Bool) : State :=
  let (action, s) := s.elementFault 8 k.pier permanent
  let s := s.raiseFault
    { cls := 1, tile := 0, reason := 0x7001, unit := k.pier, action := if action = 0 then s.retryAction it else action, slot := it.slot
      requester := (s.job it.slot).requesterOf it.stage, ref := it.ref, detail0 := elementDetail 8 k.pier, detail1 := it.stage }
  let s := s.restartKernel it k
  if (action = 2 ∨ action = 3) ∧ s.pierRoles.2.1 = [] then
    let s := s.raiseFault
      { cls := 11, tile := 0, reason := 0x7050, unit := k.pier, action := 4, detail0 := elementDetail 8 k.pier, detail1 := 0xFF }
    (s.items.filter s.waitsForPier).foldl (fun (t : State) x => t.failItem x 0x7050) s
  else s

/-! ## Draws and endings -/

/-- RNG (R287): the draws of the position being filled, written to the scratchpad. -/
def rng (entry : Nat) (w : KernelStep) (s : State) : State :=
  let d := regArg w.regs 0
  let n := regArg w.regs 1
  let a := regArg w.regs 2
  if (s.kernel entry).any fun k => k.meets a (4 * n) then s
  else s.serviceCall entry 7 w fun it k img t =>
    if n = 0 ∨ 4096 < n ∨ 2 ^ 36 < d + n ∨ a % 4 ≠ 0 ∨ ¬ inSpad img a (4 * n) then t.kernelFail it k 0x4811
    else
      let words := (List.range n).flatMap fun i => leBytes 4 (draw (t.job it.slot).seed it.epoch it.position it.stage (d + i))
      t.putKernel (KernelRun.answer { k with spad := Memory.write k.spad a words } none)

/-- An ending call: it takes effect once the outstanding DMAs are complete (R290). -/
def State.endingCall (s : State) (entry call : Nat) (w : KernelStep) : State :=
  s.serviceCall entry call w fun it k _ t =>
    let args := (List.range 4).map (regArg k.regs)
    if k.dmas = [] then t.endKernel it k call args else t.putKernel { k with ending := some (call, args) }

def emit (entry : Nat) (w : KernelStep) (s : State) : State := s.endingCall entry 8 w
def pass (entry : Nat) (w : KernelStep) (s : State) : State := s.endingCall entry 9 w
def fail (entry : Nat) (w : KernelStep) (s : State) : State := s.endingCall entry 10 w
def reject (entry : Nat) (w : KernelStep) (s : State) : State := s.endingCall entry 11 w

/-- An ECALL with a number that is none of R286. -/
def serviceUnknown (entry : Nat) (w : KernelStep) (s : State) : State :=
  let call := w.regs.x.getD 17 0
  if 1 ≤ call ∧ call ≤ 11 then s else s.serviceCall entry call w fun it k _ t => t.kernelFail it k 0x4810

/-- A trap of the kernel's own (R293): an illegal instruction, an access fault, or EBREAK. -/
def kernelTrap (entry : Nat) (w : KernelStep) (code : Nat) (s : State) : State :=
  s.runKernel entry w fun it k t => if 0x4812 ≤ code ∧ code ≤ 0x4814 then t.kernelFail it k code else t

/-- The instruction that would pass the limit is not executed (R292): the kernel has retired as many as it may. -/
def kernelLimit (entry : Nat) (w : KernelStep) (s : State) : State :=
  s.runKernel entry w fun it k t =>
    let (st, img) := t.kernelPackage it
    if instructionLimit st img ≤ k.insns then t.kernelFail it k 0x4820 else t

/-- A return to the sentinel without an ending call (R290). -/
def noEnding (entry : Nat) (w : KernelStep) (s : State) : State :=
  if w.regs.pc ≠ 0xFF0 then s else s.runKernel entry w fun it k t => t.kernelFail it k 0x4821

end Sys2Proof.Machine
end

