-- ==== Sys2Proof/Machine/FaultEffects.lean ====
section
/-! DEFINITION. Internal faults as they meet an item wherever it runs: an engine's, a Pier's, and an SRAM word's (R278, R308, R431,
R432). -/

namespace Sys2Proof.Machine

/-- The self-check of the engine or pool Pier an item runs on reports a fault (R432). -/
def itemEngineFault (entry : Nat) (permanent : Bool) (s : State) : State :=
  match s.item entry with
  | some it => match s.kernel entry, it.engine with
    | some k, _ => s.pierFault it k permanent
    | none, some (kind, n) => if it.waitOut.isNone ∧ ¬ it.prepared then s.engineFault it kind n permanent else s
    | none, none => s
  | none => s

/-- An uncorrectable SRAM word (R308, R431): of an item's attempt, which is retried; of firmware state, which is a fault of the
node; or of neither, which is counted. `damaged` says that the word held the input of the stage. -/
def sramUncorrectable (tile address bank : Nat) (entry : Option Nat) (damaged firmware : Bool) (s : State) : State :=
  if firmware then (s.sramRecord tile address bank 5 none).nodeFault 1 0
  else match entry.bind s.item with
    | some it =>
      if it.engine.isNone ∨ it.waitOut.isSome ∨ it.prepared then s.sramRecord tile address bank 0 none
      else
        let s := s.sramRecord tile address bank (s.retryAction it) (some it)
        match s.kernel it.entry with
        | some k => s.restartKernel it k
        | none => s.retryItem it damaged false
    | none => s.sramRecord tile address bank 0 none

end Sys2Proof.Machine
end

