-- ==== Sys2Proof/Machine/Replay.lean ====
section
/-! DEFINITION. Replay: where it starts, what it ends and keeps, what becomes of withheld positions, and the membership it takes into
force (R442, R450 to R453). -/

namespace Sys2Proof.Machine

/-! ## The point of replay -/

/-- ReplayBatch of each stream of a slot. -/
def State.replayPoints (s : State) (slot : Nat) : List Nat :=
  (List.range (s.job slot).streams.length).map fun j => s.get (inst Obj.replayBatch slot + j)

/-- The first position of a stream's first batch, nothing where a packing plan is not known yet (R451). -/
def State.firstPosition (s : State) (slot epoch : Nat) (st : StreamRec) (batch : Nat) : Option Nat :=
  let j := s.job slot
  if j.packedStream st then
    match s.censusReady slot epoch with
    | none => none
    | some c =>
      match (j.plan c)[batch * j.packSize]? with
      | some (g :: _) => some (((c.text[g.rank / max 1 j.packWindow * j.packWindow]?).map CensusRec.position).getD j.m)
      | _ => some j.m
  else some (min (batch * j.batchSize) j.m)

/-- p_start (R451): the lowest over the streams. -/
def State.startPosition (s : State) (slot epoch : Nat) (points : List Nat) : Option Nat :=
  (List.zip (s.job slot).streams points).foldl (fun (acc : Option Nat) e =>
    match acc, s.firstPosition slot epoch e.1 e.2 with
    | some a, some b => some (min a b)
    | _, _ => none) (some (s.job slot).issued)

/-- Does a packed stream start beyond the batches of its census (R450)? Nothing while that is not READY. -/
def State.beyondPlan (s : State) (slot epoch : Nat) (points : List Nat) : Option Bool :=
  let j := s.job slot
  match s.censusReady slot epoch with
  | none => none
  | some c =>
    some ((List.zip j.streams points).any fun e => j.packedStream e.1 && decide (j.packedCount (j.plan c).length ≤ e.2))

/-- What a resume left waiting for a packing plan follows once it is known: the place where issue restarts, and the halt with 0x7812
of a ReplayBatch beyond it (R450, R451). -/
def State.afterPlan (s : State) (slot : Nat) : State :=
  match (s.slot slot).replayFrom with
  | none => s
  | some (epoch, points) =>
    let s := if (s.slot slot).awaitStart then
        match s.startPosition slot epoch points with
        | some p => (s.modSlot slot fun sl => { sl with nextPosition := p, awaitStart := false }).issueFirst slot
        | none => s
      else s
    if (s.slot slot).awaitCheck then
      match s.beyondPlan slot epoch points with
      | none => s
      | some past =>
        let s := s.modSlot slot fun sl => { sl with awaitCheck := false }
        if past ∧ s.delivers slot then
          let s := s.set (inst Obj.stepLastReason slot) 0x7812
          let s := s.modSlot slot fun sl => { sl with haltTick := s.gtc }
          let s := { s with batches := s.batches.map fun (b : Batch) => if b.slot = slot then { b with opened := false } else b }
          s.setStepState slot 1
        else s
    else s

/-! ## What a replay ends and keeps -/

/-- Does a batch stay in the Shoe (R451): it lies at or after the point of replay, and its assembler is still this node? -/
def State.staysIn (s : State) (slot epoch : Nat) (points : List Nat) (b : Batch) : Bool :=
  b.slot == slot && b.epoch == epoch && decide (points.getD b.stream 0 ≤ b.index) && s.assemblerOf slot b.index == myUid

/-- Does one of a list of batches hold a position? -/
def holdsFill (l : List Batch) (f : Fill) : Bool := l.any fun b => b.slot == f.slot && b.epoch == f.epoch && b.positions.contains f.position

/-- The batches that do not stay are discarded (R451): the positions of one that was ready or lies before the point of replay end
FAILED with 0x7800; those of one whose assembler changed before it was ready are assembled elsewhere. -/
def State.discardBatches (s : State) (slot epoch : Nat) (points : List Nat) : State :=
  let mine := s.batches.filter fun b => b.slot == slot
  let gone := mine.filter fun b => !s.staysIn slot epoch points b
  let kept := mine.filter fun b => s.staysIn slot epoch points b
  let ending := gone.filter fun b => b.epoch != epoch || b.ready.isSome || decide (b.index < points.getD b.stream 0)
  let s := gone.foldl (fun (t : State) b => (t.cancelWait b.holder).dropBatch b) s
  (s.fills.filter fun f => f.slot == slot && !holdsFill kept f).foldl (fun (t : State) f =>
    if f.epoch ≠ epoch ∨ holdsFill ending f then t.endFill f 10 0x7800 f.lastState else t.dropFill f) s

/-- A prepared item of the replayed epoch is offered to the assemblers of its batches under the new membership (R451). -/
def State.offerAgain (s : State) (it : Item) : State :=
  if ¬ it.prepared ∨ ¬ it.offered ∨ it.asker ≠ 0 then s
  else match s.batchesOf it.slot it.epoch it.position it.cls with
    | some (b :: l) =>
      if s.beforeReplay it (b :: l) then s.endHere it 10 0x7800
      else
        let to_ := (((b :: l).map fun e => s.assemblerOf it.slot e.2).eraseDups).filter fun u => !it.releasedBy.contains u
        let s := it.exported.foldl (fun (t : State) e => if e.key = 0 ∨ to_.contains e.uid then t else t.revokeKey e.key) s
        let it := { it with exported := it.exported.filter fun e => to_.contains e.uid }
        if to_ = [] then s.endOwner it
        else offerAll (to_.filter fun u => it.exported.all fun e => e.uid != u) it s
    | _ => s

/-- The items of a slot at a resume (R451): those of other epochs end FAILED with 0x7800, what a removed assembler asked for is
dropped, and the others are offered again. -/
def State.turnItems (s : State) (slot epoch : Nat) : State :=
  (s.items.filter fun it => it.slot == slot).foldl (fun (t : State) it =>
    if it.epoch ≠ epoch then
      let it := { it with failState := it.st }
      if (t.fill slot it.epoch it.position).isSome then (t.noteLast it).endOwner { it with reason := 0x7800 } else t.endHere it 10 0x7800
    else if it.asker ≠ 0 ∧ ¬ (t.members slot).contains it.asker then t.endOwner it
    else t.offerAgain it) s

/-- What the positions kept were waiting for from a node that owns it no more is asked of the new owner (R106, R451). -/
def State.turnFills (s : State) (slot : Nat) (old : Nat → Nat) : State :=
  let j := s.job slot
  (s.fills.filter fun f => f.slot == slot).foldl (fun (t : State) f =>
    let x := riffle j.seed j.n ((f.talon.map Prod.fst).getD f.position) f.epoch
    let owner := t.ownerOf slot x
    if old x = owner then t
    else
      let t := t.putFill { f with reading := none }
      if f.st = 3 ∧ f.asked then
        if owner = myUid then t.prepare slot f.epoch f.position f.talon myUid
        else t.sendPrepare owner (sampleRef slot f.epoch f.position) f.talon
      else t) s

/-! ## Withheld positions -/

/-- What ResumeCorruptPolicy decides for a position withheld under FAIL_STEP (R451). -/
def State.decideWithheld (s : State) (policy : Nat) (f : Fill) : State :=
  if policy = 0 then s.putFill (s.newFill f.slot f.epoch f.position f.cls)
  else
    let f := { f with flags := f.flags ||| 32 }
    if policy = 1 then s.mask f f.reason else s.putFill { f with st := 3, asked := false, reading := none }

/-- The withheld positions of a slot are decided, and their batches built again (R451). -/
def State.liftWithheld (s : State) (slot policy : Nat) : State :=
  let s := (s.batches.filter fun b => b.slot == slot && (s.withheldReason b).isSome).foldl (fun (t : State) b =>
    let t := b.buffers.foldl State.refDrop (t.cancelWait b.holder)
    t.putBatch { b with ready := none, building := false, buffers := [], slices := [], noted := false }) s
  (s.fills.filter fun f => f.slot == slot && f.st == 4).foldl (fun (t : State) f => t.decideWithheld policy f) s

/-! ## The resume -/

/-- The pending list comes into force, and the slot turns to the replayed epoch (R451). -/
def State.takeForce (s : State) (slot epoch : Nat) (points : List Nat) : State :=
  let s := s.modSlot slot fun sl =>
    { sl with
      oldForce := sl.inForce, inForce := sl.pendingList, raised := none, unacked := [], replayFrom := some (epoch, points) }
  ((s.countW 16 (inst Obj.replayGeneration slot) 1).set (inst Obj.currentEpoch slot) epoch).syncConns

/-- The censuses of a slot after a resume (R112, R451): a failed one is forgotten, a build goes on under a changed membership from its
start, and a Talon directory that ResumeCorruptPolicy needs is built for itself. -/
def State.turnCensuses (s : State) (slot epoch : Nat) (changed : Bool) : State :=
  let s := s.modSlot slot fun sl => { sl with censuses := sl.censuses.filter fun c => c.state != 3 }
  let s := (s.slot slot).censuses.foldl (fun (t : State) c =>
    if c.state = 1 ∧ changed then t.restartCensus slot c 1 else t) s
  let s := (s.startCensus slot epoch).startCensus slot (epoch + 1)
  if s.resumesWithTalon slot epoch ∧ (s.job slot).corruptPolicy ≠ 0 then
    match s.census slot epoch with
    | none => s.buildCensus slot epoch 0 (some [])
    | some c => if c.state = 2 then s.buildCensus slot epoch 0 (some c.text) else s
  else s

/-- Delivery starts afresh at the point of replay (R451, R452): credits are full, releases are forgotten, and every batch kept is still
to be delivered. -/
def State.restartShoes (s : State) (slot epoch : Nat) (points : List Nat) : State :=
  { s with
    credits := s.credits.filter fun c => c.slot != slot
    shoes := modifyWhere (fun (x : Shoe) => x.slot == slot)
      (fun (x : Shoe) => { x with epoch := epoch, next := points.getD x.stream 0 }) s.shoes
    batches := modifyWhere (fun (b : Batch) => b.slot == slot)
      (fun (b : Batch) =>
        { b with opened := false, lateSince := none
                 slices := b.slices.map fun (x : SliceState) => { x with stage := 0, since := s.gtc } }) s.batches }

/-- Issue restarts at p_start, or waits for the plan that gives it (R451). -/
def State.restartIssue (s : State) (slot : Nat) (start : Option Nat) : State :=
  let packs := (s.job slot).packs
  let s := s.modSlot slot fun sl => { sl with
    nextPosition := start.getD 0, awaitStart := start.isNone, awaitCheck := packs, issueDone := false }
  s.issueFirst slot

/-- What each member does at GTC = ResumeTick (R451, R452). -/
def State.replay (s : State) (slot : Nat) : State :=
  let epoch := s.get (inst Obj.replayEpoch slot)
  let points := s.replayPoints slot
  let before := s.members slot
  let reached := (s.slot slot).mark.getD (s.get (inst Obj.currentEpoch slot), (s.slot slot).nextPosition)
  let drains := s.jobState slot == 5
  let old := s.ownerOf slot
  let s := s.takeForce slot epoch points
  let s := s.modSlot slot fun sl => { sl with mark := if drains then some reached else none }
  let start := s.startPosition slot epoch points
  let s := (s.turnItems slot epoch).discardBatches slot epoch points
  let s := { s with offers := s.offers.filter fun o => refSlot o.ref != slot || (refEpoch o.ref == epoch && (s.members slot).contains o.uid) }
  let s := s.turnCensuses slot epoch (s.members slot != before)
  let s := (s.turnFills slot old).liftWithheld slot (s.get (inst Obj.resumeCorruptPolicy slot))
  let s := s.restartShoes slot epoch points
  let s := s.showNext slot
  (s.setStepState slot 0).restartIssue slot start

/-! ## The commands -/

/-- May the step and membership objects of a slot be written (R457)? -/
def State.stepOpen (s : State) (slot : Nat) : Bool := s.stepState slot == 1 || s.jobState slot == 2

/-- The bytes of which MembershipDigest is taken: the entries of a list sorted by their old UIDs, whose first byte is the most
significant in that order (R442). -/
def listBytes (l : List Replacement) : Bytes :=
  let key (u : Nat) : Nat := beNat (leBytes 16 u)
  let rec ins (r : Replacement) : List Replacement → List Replacement
    | [] => [r]
    | h :: t => if key r.old ≤ key h.old then r :: h :: t else h :: ins r t
  (l.foldr ins []).flatMap fun r => leBytes 16 r.old ++ leBytes 16 r.new ++ leBytes 16 r.address

/-- MembershipDigest: that of the pending list (R442, R457). -/
def State.membershipDigest (s : State) (slot : Nat) : Nat := digestNat (listBytes (s.slot slot).pendingList)

/-- The first condition of R450 that fails for RESUME or, with `join`, for JOIN. -/
def State.resumeFault (s : State) (slot : Nat) (join : Bool) : Nat :=
  let j := s.job slot
  let l := (s.slot slot).pendingList
  let at_ (k : Nat) : Nat := s.get (inst k slot)
  let held (sh : ShardRec) : Bool :=
    (sh.primary :: sh.alternates).any fun n => ((j.nodes[n]?).map fun x => standIn l x.uid != 0).getD false
  let epoch := at_ Obj.replayEpoch
  let tick := at_ Obj.resumeTick
  firstCode [
    (if join then s.jobState slot == 2 else s.running slot && s.stepState slot == 1, 0x7813),
    (!join || at_ Obj.expectedDigest == at_ Obj.manifestDigest, 0x8012),
    (j.shards.all held, 0x7815),
    (s.membershipDigest slot == at_ Obj.expectedMembershipDigest, 0x7811),
    (decide (j.epochFirst ≤ epoch ∧ epoch < j.epochFirst + j.epochCount) &&
      ((List.zip j.streams (s.replayPoints slot)).all fun e => j.packedStream e.1 || decide (e.2 < j.batchCount)), 0x7812),
    (tick % s.get Obj.sliceTicks == 0, 0x800A),
    (decide (s.gtc + s.get Obj.launchLeadMin ≤ tick), 0x8011),
    (s.synced, 0x8019),
    (at_ Obj.resumeCorruptPolicy != 2 || j.t != 0, 0x8801)]

/-- A refused StepCommand sets StepLastReason (R450). -/
def State.refuseStep (s : State) (slot code : Nat) : State := (s.set (inst Obj.stepLastReason slot) code).refused code

/-- StepCommand 2, RESUME (R450). -/
def resume (slot : Nat) (s : State) : State :=
  match s.resumeFault slot false with
  | 0 => (s.setStepState slot 2).ok
  | code => s.refuseStep slot code

/-- StepCommand 3, JOIN (R450). -/
def join (slot : Nat) (s : State) : State :=
  match s.resumeFault slot true with
  | 0 =>
    let s := s.set (inst Obj.launchTick slot) (s.get (inst Obj.resumeTick slot))
    let s := (s.modSlot slot fun sl => { sl with joined := true }).setStepState slot 2
    (s.enterState slot 3).ok
  | code => s.refuseStep slot code

/-- Is a resume of a slot at hand that has not come due? -/
def State.resumeWaits (s : State) (slot : Nat) : Bool :=
  s.stepState slot == 2 && decide (s.gtc < s.get (inst Obj.resumeTick slot))

/-- StepCommand 4, CANCEL (R450): a member returns to HALTED, a spare to READY. -/
def cancel (slot : Nat) (s : State) : State :=
  if ¬ s.resumeWaits slot then s.refused 0x801A
  else if (s.slot slot).joined then ((s.unjoin slot).enterState slot 2).ok
  else (s.setStepState slot 1).ok

/-! ## Membership -/

/-- Would the devices that the slots name, with a slot's pending list replaced, stay within the peer connections (R379)? -/
def State.peersFit (s : State) (slot : Nat) (l : List Replacement) : Bool :=
  let t := s.modSlot slot fun sl => { sl with pendingList := l }
  let slots := (allSlots.filter t.connecting)
  decide (((slots.flatMap t.peersOf).eraseDups).length ≤ 1024)

/-- A list with an entry in place of an earlier one of its old UID (R442). -/
def putReplacement (l : List Replacement) (r : Replacement) : List Replacement := (l.filter fun x => x.old != r.old) ++ [r]

/-- The pending list becomes another; connections follow it (R379). -/
def State.setPending (s : State) (slot : Nat) (l : List Replacement) : State :=
  ((s.modSlot slot fun sl => { sl with pendingList := l }).syncConns).ok

/-- A refused MemberCommand (R458). -/
def State.refuseMember (s : State) (slot code : Nat) : State := (s.set (inst Obj.stepLastReason slot) 0x7814).refused code

/-- MemberCommand 1, REPLACE (R442, R454, R458). -/
def replaceMember (slot : Nat) (s : State) : State :=
  let at_ (k : Nat) : Nat := s.get (inst k slot)
  let r : Replacement :=
    { old := at_ Obj.memberOldUid, new := at_ Obj.memberNewUid, address := if at_ Obj.memberNewUid = 0 then 0 else at_ Obj.memberNewAddress }
  let l := (s.slot slot).pendingList
  if ¬ s.stepOpen slot then s.refuseMember slot 0x801A
  else if ¬ (s.job slot).uids.contains r.old ∨
      (r.new ≠ 0 ∧ ((s.members slot).contains r.new ∨ l.any fun x => x.old != r.old && x.new == r.new)) ∨
      ¬ s.peersFit slot (putReplacement l r) then s.refuseMember slot 0x7814
  else s.setPending slot (putReplacement l r)

/-- A placement tag of a kind: 0 TRAY, 1 POWER_SHELF, 2 COOLING_LOOP, 3 SWITCH (R440, R458). -/
def TagRec.tag (t : TagRec) (kind : Nat) : Nat :=
  if kind = 0 then t.tray else if kind = 1 then t.shelf else if kind = 2 then t.loop else t.switch

/-- MemberCommand 2, REMOVE_DOMAIN (R458): every node that carries the tag is removed. -/
def removeDomain (slot : Nat) (s : State) : State :=
  let j := s.job slot
  let kind := s.get (inst Obj.memberDomainKind slot)
  let value := s.get (inst Obj.memberDomainValue slot)
  let gone := (List.zip j.nodes j.tags).filter fun e => value != 0 && e.2.tag kind == value
  if ¬ s.stepOpen slot then s.refuseMember slot 0x801A
  else s.setPending slot (gone.foldl (fun l e => putReplacement l { old := e.1.uid, new := 0, address := 0 }) (s.slot slot).pendingList)

/-- MemberCommand 3, CLEAR: the pending list is the list in force again (R442, R458). -/
def memberClear (slot : Nat) (s : State) : State :=
  if ¬ s.stepOpen slot then s.refuseMember slot 0x801A else s.setPending slot (s.slot slot).inForce

end Sys2Proof.Machine
end

