-- ==== Sys2Proof/Machine/Flow.lean ====
section
/-! DEFINITION. What follows from any change of the pipeline: buffers are granted, items go on from stage to stage, engines take
items, prepared samples are offered and placed, batches are built and delivered, alarms and draining slots follow (R34, R145,
R194, R197, R325). -/

namespace Sys2Proof.Machine

/-- The item that leaves its stage with its output in place: a cache hit goes on after CACHE (R186), a record from SOURCE, and each
stage's counters and consequences follow (R154, R182). -/
def State.passStage (s : State) (it : Item) : State :=
  let j := s.job it.slot
  if it.hit ≠ 0 then
    let it := { it with hit := 0, flags := it.flags ||| 1 }
    (s.putItem it).goOn it j.cacheStage.1
  else if it.stage = 255 then s.goOn it 0
  else match (j.stages[it.stage]?).map StageRec.kind with
    | some 0x04 =>
      let s := s.leaveDecode it
      if it.late then s.endOwner it else s.goOn it it.stage
    | some 0x08 => (s.leaveTransform it).goOn it it.stage
    | some 0x01 => s.leaveSource it
    | _ => s.goOn it it.stage

/-- An item's output has its buffers: the input is freed and the item leaves the stage (R145, R325). -/
def State.landItem (s : State) (it : Item) (out : Bytes) (handles : List Nat) : State :=
  let s := s.countWait it
  let s := match it.chain with
    | some c => s.dropChain c
    | none => s
  let it := it.landed out handles
  (s.putItem it).passStage it

/-- A request has all its buffers: an output lands, a kernel's chain is made, a batch is built. One whose holder is gone gives them
back. -/
def State.granted (s : State) (w : BufferWait) : State :=
  let back (s : State) : State := w.got.foldl State.refDrop s
  if w.holder < 65536 then
    match s.item w.holder with
    | some it => match it.waitOut with
      | some out => s.landItem it out w.got
      | none => (s.chainAllocated it w.got).getD (back s)
    | none => back s
  else if commandHolder ≤ w.holder then s
  else match s.batches.find? fun b => b.building && b.holder == w.holder with
    | some b => s.finishBuild b w.got
    | none => back s

/-- One round: what waits for buffers is served, engines take items, samples are offered and placed, batches ask for their
buffers. -/
def State.round (s : State) : State :=
  let (done, s) := s.serveBuffers
  let s := done.foldl State.granted s
  let s := s.dispatch
  let s := (s.items.map Item.entry).foldl (fun (t : State) e => t.onItem e t.offer) s
  (s.serveFills).sweepOffers.startBuilds

/-- Rounds until none is likely to change anything more. -/
def rounds : Nat → State → State
  | 0, s => s
  | fuel + 1, s => rounds fuel s.round

/-- What follows from a change. -/
def State.flow (s : State) : State :=
  let s := rounds (2 + s.pool.waiting.length + s.items.length + s.batches.length) s
  let s := s.raiseWithheld.deliverReady.alarms.trackLate
  let s := (allSlots.foldl State.afterPlan s)
  let s := (allSlots.foldl State.drain s)
  (allSlots.filter fun i => s.running i).foldl State.followNext s

end Sys2Proof.Machine
end

