-- ==== Sys2Proof/Machine/Manifest.lean ====
section
/-! DEFINITION. The manifest: how its sections are read, and the checks of VALIDATE in their order (R13 to R28, R84 to R87,
R118, R119, R157, R195, R201, R202, R237, R261 to R266, R277, R298, R307, R325, R372, R379, R419, R424, R440, R441,
R583 to R585). -/

namespace Sys2Proof.Machine

/-- A refusal of VALIDATE (R16): the reason, RejectSection and RejectOffset. -/
structure Reject where
  code : Nat
  section_ : Nat
  offset : Nat
deriving DecidableEq, Repr

/-- The first refusal of a list of checks. -/
def firstReject (l : List (Option Reject)) : Option Reject := l.findSome? id

/-- A refusal unless the condition holds. -/
def demand (ok : Bool) (code sect off : Nat) : Option Reject := if ok then none else some ⟨code, sect, off⟩

/-- A refusal with 0x800A at the first field out of range; the offsets are from the start of the manifest. -/
def demandFields (sect base : Nat) (l : List (Nat × Bool)) : Option Reject :=
  (firstBad l).map fun o => ⟨0x800A, sect, base + o⟩

/-! ## Header and directory -/

/-- SECTION_COUNT. -/
def sectionCount (raw : Bytes) : Nat := field raw 0x0C 2

/-- TOTAL_LENGTH. -/
def totalLength (raw : Bytes) : Nat := field raw 8 4

/-- Step 1 of R16. -/
def headerReject (raw : Bytes) (staged slot : Nat) : Option Reject :=
  let h (ok : Bool) (code off : Nat) := demand ok code 0xFFFF off
  firstReject [
    h (raw.take 4 == bytesOf [0x4B, 0x4D, 0x46, 0x31]) 0x8001 0,
    h (field raw 4 2 == 1) 0x8002 4,
    h (field raw 0x38 4 == crc32c (raw.take 0x38)) 0x8004 0x38,
    h (decide (128 ≤ totalLength raw ∧ totalLength raw ≤ 67108864 ∧ totalLength raw ≤ staged)) 0x8003 8,
    h (decide (8 ≤ sectionCount raw ∧ sectionCount raw ≤ 32)) 0x800A 0x0C,
    h (byteAt raw 0x0E == slot) 0x801B 0x0E,
    h (byteAt raw 0x0F == 0) 0x800A 0x0F,
    h (match nulPadded (slice 0x10 32 raw) with
       | some s => !s.isEmpty
       | none => false) 0x8018 0x10,
    h (field raw 0x3C 4 == 0) 0x800A 0x3C]

/-- A directory entry (R14). -/
structure DirEntry where
  type : Nat
  version : Nat
  offset : Nat
  length : Nat
  crc : Nat
deriving DecidableEq, Repr

/-- The i-th directory entry. -/
def dirEntry (raw : Bytes) (i : Nat) : DirEntry :=
  let o := 0x40 + 16 * i
  { type := field raw o 2, version := field raw (o + 2) 2, offset := field raw (o + 4) 4, length := field raw (o + 8) 4
    crc := field raw (o + 12) 4 }

/-- The directory entries. -/
def directory (raw : Bytes) : List DirEntry := (List.range (sectionCount raw)).map (dirEntry raw)

/-- Is a TYPE one of the ten that the Zhevyel reads? -/
def coreType (t : Nat) : Bool := decide (1 ≤ t ∧ t ≤ 10)

/-- Step 2 of R16 for entry `i`. -/
def entryReject (raw : Bytes) (i : Nat) : Option Reject :=
  let e := dirEntry raw i
  let before := (directory raw).take i
  let at_ (ok : Bool) (code field : Nat) := demand ok code 0xFFFF (0x40 + 16 * i + field)
  let apart := before.all fun p => decide (e.offset + e.length ≤ p.offset ∨ p.offset + p.length ≤ e.offset)
  firstReject [
    at_ (decide (8 ≤ e.length ∧ e.offset + e.length ≤ totalLength raw)) 0x8006 8,
    at_ (e.offset % 8 == 0) 0x8006 4,
    at_ (decide (0x40 + 16 * sectionCount raw ≤ e.offset) && apart) 0x8006 4,
    at_ (coreType e.type || decide (0x8000 ≤ e.type)) 0x8009 0,
    at_ (!coreType e.type || e.version == 1) 0x8009 2,
    at_ (!coreType e.type || before.all fun p => p.type != e.type) 0x8008 0,
    at_ (e.crc == crc32c (slice e.offset e.length raw)) 0x8005 12]

/-- Step 2 of R16. -/
def directoryReject (raw : Bytes) : Option Reject :=
  let fits := (totalLength raw - 0x40) / 16
  firstReject (
    demand (decide (sectionCount raw ≤ fits)) 0x8006 0xFFFF (0x40 + 16 * fits) ::
      (List.range (sectionCount raw)).map (entryReject raw))

/-- The offset and length of the section of a TYPE, if present. -/
def findSection (raw : Bytes) (t : Nat) : Option (Nat × Nat) :=
  ((directory raw).find? (·.type == t)).map fun e => (e.offset, e.length)

/-- The offset of a section; 0 where it is absent. -/
def secOff (raw : Bytes) (t : Nat) : Nat := ((findSection raw t).map Prod.fst).getD 0

/-- The length of a section; 0 where it is absent. -/
def secLen (raw : Bytes) (t : Nat) : Nat := ((findSection raw t).map Prod.snd).getD 0

/-! ## Reading the sections -/

/-- STAGE_COUNT, and the offset of stage record `i` (R18). -/
def stageCount (raw : Bytes) : Nat := field raw (secOff raw 4) 2
def stageOff (raw : Bytes) (i : Nat) : Nat := secOff raw 4 + 8 + 32 * i

/-- Stage record `i`. -/
def stageAt (raw : Bytes) (i : Nat) : StageRec :=
  let o := stageOff raw i
  { kind := byteAt raw o, classMask := byteAt raw (o + 1), refIndex := byteAt raw (o + 2), requester := byteAt raw (o + 3)
    param := slice (secOff raw 4 + field raw (o + 8) 4) (field raw (o + 12) 4) raw, paramOffset := field raw (o + 8) 4 }

/-- The stage records. -/
def stagesOf (raw : Bytes) : List StageRec := (List.range (stageCount raw)).map (stageAt raw)

/-- A node or assembler entry at an offset (R23, R85). -/
def nodeAt (raw : Bytes) (o : Nat) : NodeRec := { uid := field raw o 16, address := field raw (o + 16) 16 }

/-- NODE_COUNT and SHARD_COUNT of SHARD_MAP. -/
def nodeCount (raw : Bytes) : Nat := field raw (secOff raw 2 + 2) 2
def shardCount (raw : Bytes) : Nat := field raw (secOff raw 2 + 4) 4

/-- The offset of node entry `k`, and of the first shard entry of an INLINE map. -/
def nodeOff (raw : Bytes) (k : Nat) : Nat := secOff raw 2 + 0x38 + 32 * k
def shardsOff (raw : Bytes) : Nat := nodeOff raw (nodeCount raw)

/-- Is the map EXTERNAL? -/
def mapExternal (raw : Bytes) : Bool := byteAt raw (secOff raw 2) == 1

/-- A shard entry (R85). -/
def shardAt (b : Bytes) (o : Nat) : ShardRec :=
  { objectId := field b o 16, first := field b (o + 0x10) 8, count := field b (o + 0x18) 4, format := byteAt b (o + 0x1C)
    primary := field b (o + 0x1E) 2
    alternates := (List.range (min 3 (byteAt b (o + 0x1D)))).map fun i => field b (o + 0x20 + 2 * i) 2 }

/-- The bytes of the shard entries: from the manifest, or of the sealed object of an EXTERNAL map. -/
def State.shardBytes (s : State) (raw : Bytes) : Bytes :=
  if mapExternal raw then (s.sealedObject (field raw (secOff raw 2 + 8) 16)).getD []
  else slice (shardsOff raw) (40 * shardCount raw) raw

/-- An entry of BUNDLES (R20). -/
def bundleAt (raw : Bytes) (i : Nat) : BundleRef :=
  let o := secOff raw 5 + 8 + 48 * i
  { refKind := byteAt raw o, minSramKib := field raw (o + 4) 4, digest := field raw (o + 16) 32 }

/-- The bundle entries: none without the section. -/
def bundlesOf (raw : Bytes) : List BundleRef :=
  if (findSection raw 5).isNone then [] else (List.range (field raw (secOff raw 5) 2)).map (bundleAt raw)

/-- A mode of MODE_SET (R25), by its offset. -/
def modeAt (raw : Bytes) (o : Nat) : Nat := byteAt raw (secOff raw 9 + o)

/-- A stream mode after inheritance (R21). -/
def inherit (v mode : Nat) : Nat := if v = 0xFF then mode else v

/-- Stream record `k` (R21). -/
def streamOff (raw : Bytes) (k : Nat) : Nat := secOff raw 6 + 8 + 32 * k
def streamAt (raw : Bytes) (k : Nat) : StreamRec :=
  let o := streamOff raw k
  { classMask := byteAt raw (o + 1), delivery := inherit (byteAt raw (o + 2)) (modeAt raw 3)
    sealMode := inherit (byteAt raw (o + 3)) (modeAt raw 5), sprayMode := inherit (byteAt raw (o + 4)) (modeAt raw 6)
    layout := inherit (byteAt raw (o + 5)) (modeAt raw 9), firstConsumer := field raw (o + 8) 2
    count := field raw (o + 10) 2, depth := field raw (o + 12) 2, lowWater := field raw (o + 14) 2 }

/-- The stream records. -/
def streamsOf (raw : Bytes) : List StreamRec := (List.range (field raw (secOff raw 6) 2)).map (streamAt raw)

/-- Consumer record `c` (R22). -/
def consumerOff (raw : Bytes) (c : Nat) : Nat := secOff raw 7 + 8 + 48 * c
def consumerAt (raw : Bytes) (c : Nat) : ConsumerRec :=
  let o := consumerOff raw c
  { address := field raw o 16, qpn := field raw (o + 0x10) 4, key := field raw (o + 0x14) 4
    ringAddress := field raw (o + 0x18) 8, ringSlots := field raw (o + 0x20) 4, slotBytes := field raw (o + 0x24) 4
    dscp := byteAt raw (o + 0x28) }

/-- The consumer records. -/
def consumersOf (raw : Bytes) : List ConsumerRec := (List.range (field raw (secOff raw 7) 4)).map (consumerAt raw)

/-- Assembler entry `a` (R23). -/
def assemblerOff (raw : Bytes) (a : Nat) : Nat := secOff raw 10 + 8 + 32 * a

/-- A placement tag record (R440). -/
def tagAt (raw : Bytes) (k : Nat) : TagRec :=
  let o := secOff raw 3 + 8 + 16 * k
  { tray := field raw o 2, shelf := field raw (o + 2) 2, loop := field raw (o + 4) 2, switch := field raw (o + 6) 2 }

/-- N and T in use (R17). -/
def corpusN (raw : Bytes) : Nat := field raw (secOff raw 1 + 0x10) 8
def corpusT (raw : Bytes) : Nat :=
  let t := field raw (secOff raw 1 + 0x18) 8
  if t = 0 then corpusN raw / 1024 else t

/-- The working structures of a manifest (R27). -/
def State.readJob (s : State) (raw : Bytes) : Job :=
  let c := secOff raw 1
  let g := secOff raw 8
  let b := s.shardBytes raw
  { name := (slice 0x10 32 raw).takeWhile (· != 0), seed := field raw 0x30 8, corpusId := field raw c 16
    n := corpusN raw, t := corpusT raw, epochFirst := field raw (c + 0x24) 2, epochCount := field raw (c + 0x26) 2
    mapForm := byteAt raw (secOff raw 2)
    nodes := (List.range (nodeCount raw)).map fun k => nodeAt raw (nodeOff raw k)
    shards := (List.range (shardCount raw)).map fun k => shardAt b (40 * k)
    tags := if (findSection raw 3).isNone then [] else (List.range (nodeCount raw)).map (tagAt raw)
    stages := stagesOf raw, bundles := bundlesOf raw, streams := streamsOf raw, consumers := consumersOf raw
    assemblers := (List.range (field raw (secOff raw 10) 2)).map fun a => nodeAt raw (assemblerOff raw a)
    batchSize := field raw g 4, sliceCount := field raw (g + 4) 4, seqLen := field raw (g + 8) 4
    packWindow := field raw (g + 12) 4, imageHeight := field raw (g + 16) 2, imageWidth := field raw (g + 18) 2
    imageChannels := byteAt raw (g + 20), elementType := byteAt raw (g + 21), audioFrames := field raw (g + 24) 4
    orderMode := modeAt raw 0, corruptPolicy := modeAt raw 1, cacheMode := modeAt raw 2, lastBatch := modeAt raw 4
    shaperReset := modeAt raw 7, policerColour := modeAt raw 8, sampling := modeAt raw 10
    digest := digestNat (raw.take (totalLength raw)) }

/-! ## Step 3: required sections -/

/-- Does a stage record of one of the kinds stand in STAGE_GRAPH? -/
def hasStage (raw : Bytes) (kinds : List Nat) : Bool := (stagesOf raw).any fun st => kinds.contains st.kind

/-- Step 3 of R16 (R15). -/
def requiredReject (raw : Bytes) : Option Reject :=
  firstReject (([1, 2, 4, 5, 6, 7, 8, 9, 10] : List Nat).map fun t =>
    demand ((findSection raw t).isSome || (t == 5 && !hasStage raw [6, 9])) 0x8007 t 0)

/-! ## Step 4: the fields of each section -/

/-- A section of fixed size (R584). -/
def fixedReject (raw : Bytes) (t size : Nat) (l : Bytes → List (Nat × Bool)) : Option Reject :=
  let o := secOff raw t
  firstReject [demand (secLen raw t == size) 0x800A t o, demandFields t o (l (slice o size raw))]

/-- A counted section: the count of `w` bytes and its range, the length, the bytes reserved after it, and the records of
`size` bytes (R584). -/
def countedReject (raw : Bytes) (t w lo hi size : Nat) (exact : Bool) (record : Nat → Option Reject) : Option Reject :=
  let o := secOff raw t
  let n := field raw o w
  let need := 8 + size * n
  firstReject (
    [demand (decide (lo ≤ n ∧ n ≤ hi)) 0x800A t o,
      demand (if exact then secLen raw t == need else decide (need ≤ secLen raw t)) 0x800A t o,
      demand (allZero (slice (o + w) (8 - w) raw)) 0x800A t (o + w)] ++
      (if lo ≤ n ∧ n ≤ hi ∧ need ≤ secLen raw t then (List.range n).map record else []))

/-- CORPUS (R17). -/
def corpusReject (raw : Bytes) : Option Reject :=
  fixedReject raw 1 64 fun b =>
    let n := field b 0x10 8
    let first := field b 0x24 2
    [(0x10, decide (1 ≤ n ∧ n ≤ 2 ^ 40)), (0x18, decide (field b 0x18 8 ≤ n / 2)), fieldWithin b 0x20 4 1 16777216,
      fieldWithin b 0x26 2 1 (min 65535 (65536 - first)), (0x28, (nulPadded (slice 0x28 24 b)).isSome)]

/-- The fields of a shard entry but PRIMARY_NODE and ALTERNATE_NODE (R85). -/
def shardFields (b : Bytes) : List (Nat × Bool) :=
  [(0x10, decide (field b 0x10 8 < 2 ^ 40)), fieldWithin b 0x18 4 1 1048576, byteUpTo b 0x1C 1, byteUpTo b 0x1D 3,
    reserved b 0x26 2]

/-- SHARD_MAP (R84, R86). -/
def shardMapReject (raw : Bytes) : Option Reject :=
  let o := secOff raw 2
  let form := byteAt raw o
  let need := 0x38 + 32 * nodeCount raw + (if form = 0 then 40 * shardCount raw else 0)
  let whole := secLen raw 2 == need
  firstReject (
    [demand (decide (form ≤ 1)) 0x800A 2 o,
      demand (decide (1 ≤ nodeCount raw ∧ nodeCount raw ≤ 1024)) 0x800A 2 (o + 2),
      demand (shardCount raw == field raw (secOff raw 1 + 0x20) 4) 0x800A 2 (o + 4),
      demand whole 0x800A 2 (o + 4),
      demand (form == 1 || field raw (o + 8) 16 == 0) 0x800A 2 (o + 8),
      demand (form == 1 || field raw (o + 0x18) 32 == 0) 0x800A 2 (o + 0x18),
      demand (byteAt raw (o + 1) == 0) 0x800A 2 (o + 1)] ++
      (if form = 0 ∧ whole then
        (List.range (shardCount raw)).map fun k =>
          let e := shardsOff raw + 40 * k
          demandFields 2 e (shardFields (slice e 40 raw))
      else []))

/-- PLACEMENT_TAGS (R440). -/
def tagsReject (raw : Bytes) : Option Reject :=
  if (findSection raw 3).isNone then none
  else countedReject raw 3 2 (nodeCount raw) (nodeCount raw) 16 true fun k =>
    let o := secOff raw 3 + 8 + 16 * k
    demandFields 3 o [byteUpTo (slice o 16 raw) 8 1, reserved (slice o 16 raw) 9 7]

/-- Does a block of stage `i` lie where R584 wants it: in the parameter area, sharing no byte with an earlier record's block
but being the same block? -/
def blockPlaced (raw : Bytes) (i : Nat) : Bool :=
  let range (k : Nat) : Nat × Nat := (field raw (stageOff raw k + 8) 4, field raw (stageOff raw k + 12) 4)
  let (po, pl) := range i
  po % 8 == 0 &&
    (if pl = 0 then decide (po ≤ secLen raw 4)
     else decide (8 + 32 * stageCount raw ≤ po ∧ po + pl ≤ secLen raw 4) &&
       (List.range i).all fun k => range k == (po, pl) || disjointRanges (range k) (po, pl))

/-- The fields of stage record `i` (R18). -/
def stageReject (raw : Bytes) (i : Nat) : Option Reject :=
  let o := stageOff raw i
  let b := slice o 32 raw
  let n := field b 12 4
  let code := lengthCode (byteAt b 0) n
  firstReject [
    demand (decide (1 ≤ byteAt b 0 ∧ byteAt b 0 ≤ 0x0D)) 0x800C 4 o,
    demandFields 4 o [(1, decide (1 ≤ byteAt b 1 ∧ byteAt b 1 < 8)), (2, decide (byteAt b 2 ≤ 31 ∨ byteAt b 2 = 0xFF)),
      byteUpTo b 3 63, reserved b 4 4, (8, blockPlaced raw i)],
    demand (code == 0) code 4 (o + 12),
    demandFields 4 o [reserved b 16 16]]

/-- The stages in the order in which their blocks stand (R16). -/
def stagesByBlock (raw : Bytes) : List Nat :=
  let off (i : Nat) : Nat := field raw (stageOff raw i + 8) 4
  (List.range (stageCount raw)).foldl (fun l i => l.takeWhile (fun k => decide (off k ≤ off i)) ++ [i] ++
    l.dropWhile fun k => decide (off k ≤ off i)) []

/-- The parameter block of stage `i` by itself. -/
def paramReject (raw : Bytes) (i : Nat) : Option Reject :=
  let st := stageAt raw i
  (blockFault st.kind st.param).map fun f =>
    ⟨f.1, 4, match f.2 with
      | some o => secOff raw 4 + st.paramOffset + o
      | none => stageOff raw i + 12⟩

/-- STAGE_GRAPH (R18). -/
def graphReject (raw : Bytes) : Option Reject :=
  firstReject (countedReject raw 4 2 2 32 32 false (stageReject raw) :: (stagesByBlock raw).map (paramReject raw))

/-- BUNDLES (R20). -/
def bundlesReject (raw : Bytes) : Option Reject :=
  if (findSection raw 5).isNone then none
  else countedReject raw 5 2 1 32 48 true fun i =>
    let o := secOff raw 5 + 8 + 48 * i
    let b := slice o 48 raw
    demandFields 5 o [fieldWithin b 0 1 1 2, reserved b 1 3, (4, byteAt b 0 == 1 || field b 4 4 == 0), reserved b 8 8]

/-- The bits of CLASS_MASK of the streams before `k`. -/
def earlierMask (raw : Bytes) (k : Nat) : Nat := ((List.range k).map fun i => byteAt raw (streamOff raw i + 1)).foldl (· ||| ·) 0

/-- STREAMS (R21). -/
def streamsReject (raw : Bytes) : Option Reject :=
  countedReject raw 6 2 1 16 32 true fun k =>
    let o := streamOff raw k
    let b := slice o 32 raw
    let mask := byteAt b 1
    let mode (at_ : Nat) : Nat × Bool := (at_, decide (byteAt b at_ ≤ 1 ∨ byteAt b at_ = 0xFF))
    demandFields 6 o [(0, byteAt b 0 == k),
      (1, decide (1 ≤ mask ∧ mask < 8) && mask &&& earlierMask raw k == 0 &&
        !(hasStage raw [0x0B] && bit mask 2 && mask != 4)),
      mode 2, mode 3, mode 4, mode 5, reserved b 6 2, fieldWithin b 12 2 2 1024,
      fieldWithin b 14 2 1 (field b 12 2 - 1), reserved b 16 16]

/-- CONSUMERS but the fields that depend on the delivery (R22). -/
def consumersReject (raw : Bytes) : Option Reject :=
  countedReject raw 7 4 1 16384 48 true fun c =>
    let o := consumerOff raw c
    let b := slice o 48 raw
    demandFields 7 o [(0x10, byteAt b 0x13 == 0), byteUpTo b 0x28 63, reserved b 0x29 7]

/-- BATCH_GEOMETRY (R24, R171). -/
def geometryReject (raw : Bytes) : Option Reject :=
  fixedReject raw 8 32 fun b =>
    let mask := earlierMask raw (field raw (secOff raw 6) 2)
    let images := bit mask 0
    let signals := bit mask 1
    let packs := hasStage raw [0x0B]
    let size := field b 0 4
    let height := field b 16 2
    let pack (o lo hi : Nat) : Nat × Bool := if packs then fieldWithin b o 4 lo hi else fieldWithin b o 4 0 0
    [fieldWithin b 0 4 1 (min 65536 (corpusN raw - corpusT raw)),
      (4, decide (1 ≤ field b 4 4 ∧ field b 4 4 ≤ 16384 ∧ size % field b 4 4 = 0)), pack 8 128 131072, pack 12 1 65536,
      fieldWithin b 16 2 0 (if images then 16384 else 0),
      (18, decide (field b 18 2 ≤ 16384 ∧ (field b 18 2 = 0 ↔ height = 0))),
      (20, [0, 1, 3].contains (byteAt b 20) && (byteAt b 20 == 0) == (height == 0)),
      byteUpTo b 21 (if images || signals then 6 else 0), reserved b 22 2,
      fieldWithin b 24 4 0 (if signals then 1048576 else 0), reserved b 28 4]

/-- MODE_SET (R25). -/
def modesReject (raw : Bytes) : Option Reject :=
  fixedReject raw 9 16 fun b =>
    [byteUpTo b 0 1, byteUpTo b 1 2, byteUpTo b 2 3, byteUpTo b 3 1, byteUpTo b 4 1, byteUpTo b 5 1, byteUpTo b 6 1,
      byteUpTo b 7 1, byteUpTo b 8 1, byteUpTo b 9 1, byteUpTo b 10 2, reserved b 11 1, fieldWithin b 12 2 1 1000,
      reserved b 14 2]

/-- ASSEMBLERS (R23). -/
def assemblersReject (raw : Bytes) : Option Reject := countedReject raw 10 2 1 1024 32 true fun _ => none

/-- Step 4 of R16: the fields of each section in TYPE order. -/
def sectionsReject (raw : Bytes) : Option Reject :=
  firstReject [corpusReject raw, shardMapReject raw, tagsReject raw, graphReject raw, bundlesReject raw, streamsReject raw,
    consumersReject raw, geometryReject raw, modesReject raw, assemblersReject raw]

/-! ## Step 5, rows 1 to 4: stages, references, images -/

/-- The rank of a stage kind, KERNEL apart (R19). -/
def kindRank (k : Nat) : Nat := if k ≤ 8 then k else k - 1

/-- The rank of stage `i`: a KERNEL takes that of the record before it. -/
def stageRank : List StageRec → Nat → Nat
  | [], prev => prev
  | st :: t, prev => stageRank t (if st.kind = 9 then prev else kindRank st.kind)

/-- Row 1 of R585. -/
def rowGraph (raw : Bytes) (j : Job) : List (Option Reject) :=
  let sts := j.stages
  let n := sts.length
  let order (i : Nat) : Option Reject :=
    match sts[i]? with
    | none => none
    | some st =>
      let before := sts.take i
      let prev := stageRank before 0
      let rank := if st.kind = 9 then prev else kindRank st.kind
      let once := [6, 7, 8, 9].contains st.kind || before.all fun p => p.kind != st.kind
      let ends := (st.kind == 1) == (i == 0) && (st.kind == 0x0D) == (i + 1 == n)
      demand (decide (prev ≤ rank) && once && ends && (st.kind != 9 || decide (6 ≤ rank ∧ rank ≤ 8))) 0x800C 4 (stageOff raw i)
  let index (i : Nat) : Option Reject :=
    match sts[i]? with
    | none => none
    | some st =>
      demand (if st.kind = 6 ∨ st.kind = 9 then decide (st.refIndex < j.bundles.length) else st.refIndex == 0xFF) 0x800C 4
        (stageOff raw i + 2)
  let pack (i : Nat) : Option Reject :=
    match sts[i]? with
    | none => none
    | some st =>
      demand (st.kind != 0x0B || (st.classMask == 4 && (sts.take i).any fun p => p.kind == 0x0A && bit p.classMask 2)) 0x800C
        4 (stageOff raw i)
  (List.range n).map order ++ [demand (sts.any fun st => st.kind == 0x0C) 0x800C 4 (secOff raw 4)] ++
    (List.range n).map index ++ (List.range n).map pack

/-- Row 2 of R585 (R20). -/
def rowReferences (s : State) (raw : Bytes) (j : Job) : List (Option Reject) :=
  let off (i : Nat) : Nat := secOff raw 5 + 8 + 48 * i
  (j.bundles.zipIdx.map fun (r, i) =>
    demand (s.loadedImage (if r.refKind = 1 then 2 else 3) r.digest).isSome 0x800D 5 (off i + 16)) ++
  j.stages.map fun st =>
    if st.kind = 6 ∨ st.kind = 9 then
      demand (((j.bundles[st.refIndex]?).map BundleRef.refKind) == some (if st.kind = 6 then 1 else 2)) 0x800D 5
        (off st.refIndex)
    else none

/-- The stages of a kind, each with its record index. -/
def Job.stagesOfKind (j : Job) (kind : Nat) : List (Nat × StageRec) :=
  (j.stages.zipIdx.filter fun e => e.1.kind == kind).map fun e => (e.2, e.1)

/-- The offset of a byte of a stage's block from the start of the manifest. -/
def blockOff (raw : Bytes) (st : StageRec) (o : Nat) : Nat := secOff raw 4 + st.paramOffset + o

/-- V of the vocabulary that a TOKENIZE stage names. -/
def State.vocabV (s : State) (dig : Nat) : Nat := vocabSize (s.imageBytes 0 dig)

/-- The rows of the weights of a bundle's EMBED records. -/
def embedRows (img : Bytes) : List Nat :=
  ((List.range (bundleOps img)).map (opAt img)).filterMap fun o =>
    if o.opcode = 2 then some (tensorAt img o.in1).rows else none

/-- Row 3 of R585 for a CURATE stage: its vocabulary, its control set, and its identifiers against V (R263). -/
def curateVocab (s : State) (raw : Bytes) (j : Job) (st : StageRec) : List (Option Reject) :=
  let img := s.stageImage j st
  let p := st.param
  let text := bundleClass img == 2
  let gen := bundleRole img == 3
  let vd := field p 0x50 32
  let cd := field p 0x30 32
  let vocab := s.imageBytes 0 vd
  let ctl := s.imageBytes 1 cd
  let v := if gen then s.controlVocab ctl else vocabSize vocab
  let pv := if text then vocabSize vocab else v
  let at_ (ok : Bool) (code o : Nat) := demand ok code 4 (blockOff raw st o)
  let below (o n v : Nat) (unused : Bool) : List (Option Reject) :=
    (List.range n).map fun i =>
      let t := field p (o + 4 * i) 4
      at_ (decide (t < v) || (unused && t == 0xFFFFFFFF)) 0x4021 (o + 4 * i)
  [at_ (if text then (s.loadedImage 0 vd).isSome else vd == 0) (if text then 0x3820 else 0x4020) 0x50,
    at_ (if gen then (s.loadedImage 1 cd).isSome else cd == 0) (if gen then 0x3838 else 0x4020) 0x30,
    at_ (!text || (embedRows img).all (· == vocabSize vocab)) 0x4021 0x50,
    at_ (!gen || ((tensorAt img (bundleOutput img)).cols == v && (embedRows img).all (· == v))) 0x4021 0x30] ++
    (if gen || text then below 0x1C 2 v true ++ below 0x80 64 pv false else [])

/-- Row 3 of R585. -/
def rowVocabs (s : State) (raw : Bytes) (j : Job) : List (Option Reject) :=
  ((j.stagesOfKind 0x0A).flatMap fun (_, st) =>
    let p := tokenizeParams st.param
    let v := s.vocabV p.vocab
    [demand (s.loadedImage 0 p.vocab).isSome 0x3820 4 (blockOff raw st 0),
      demand (decide (p.bos < v)) 0x3828 4 (blockOff raw st 0x24),
      demand (decide (p.eos < v)) 0x3828 4 (blockOff raw st 0x28)]) ++
  ((j.stagesOfKind 0x0B).map fun (i, st) =>
    match j.tokenizeStage with
    | some tk =>
      let o := if st.param.isEmpty then stageOff raw i + 8 else blockOff raw st 0
      demand (decide (j.padToken < s.vocabV (tokenizeParams tk.param).vocab)) 0x3828 4 o
    | none => none) ++
  (j.stagesOfKind 6).flatMap fun (_, st) => curateVocab s raw j st

/-- The tensor forms of R157. -/
def tensorForms (s : State) (raw : Bytes) (j : Job) : List (Option Reject) :=
  let made (cls : Nat) (before : List StageRec) : Bool := before.any fun st => s.makesTensor j st cls
  (j.streams.zipIdx.map fun (st, k) =>
    demand ([0, 1].all fun c => !bit st.classMask c || made c j.stages) 0x3001 6 (streamOff raw k + 1)) ++
  ((j.stagesOfKind 8).map fun (i, st) =>
    demand ([0, 1].all fun c => !(j.carries c && bit st.classMask c && made c (j.stages.take i))) 0x3002 4
      (stageOff raw i + 1)) ++
  (j.stagesOfKind 8).flatMap fun (i, st) =>
    let b := transformBlock st.param
    let tensor := j.carries 0 && bit st.classMask 0 && byteAt b 0 == 1
    let at_ (o : Nat) : Nat := if st.param.isEmpty then stageOff raw i + 8 else blockOff raw st o
    [demand (!tensor || outExtent (field b 4 2) j.imageWidth == j.imageWidth) 0x3003 4 (at_ 4),
      demand (!tensor || outExtent (field b 6 2) j.imageHeight == j.imageHeight) 0x3003 4 (at_ 6)]

/-- The combinations of each TRANSFORM block (R159, R163, R177). -/
def transformRejects (raw : Bytes) (j : Job) : List (Option Reject) :=
  (j.stagesOfKind 8).map fun (i, st) =>
    (firstBad (transformCombos j (bit st.classMask 0) (transformBlock st.param))).map fun o =>
      ⟨0x3003, 4, if st.param.isEmpty then stageOff raw i + 8 else blockOff raw st o⟩

/-- The view and the fit of the bundle of a CURATE stage (R261 to R263). -/
def curateFit (s : State) (raw : Bytes) (j : Job) (i : Nat) (st : StageRec) : List (Option Reject) :=
  let img := s.stageImage j st
  let p := st.param
  let cls := bundleClass img
  let role := bundleRole img
  let text := cls == 2
  let view := viewBlock p
  let input := tensorAt img (bundleInput img)
  let output := tensorAt img (bundleOutput img)
  let fits (ok : Bool) (o : Nat) := demand ok 0x4021 4 (blockOff raw st o)
  let range (ok : Bool) (o : Nat) := demand ok 0x4020 4 (blockOff raw st o)
  let (rows, cols) := viewExtents j cls p
  let zero (o : Nat) : Bool := pf view o % 2 ^ 31 == 0
  let viewField (f : Option Nat) (code : Nat) : Option Reject :=
    if text then none else f.map fun o => ⟨code, 4, blockOff raw st (0x180 + o)⟩
  let refSram := ((j.bundles[st.refIndex]?).map BundleRef.minSramKib).getD 0
  [demand (st.classMask == 2 ^ cls) 0x4021 4 (stageOff raw i + 1),
    demand (decide (bundleWorkset img ≤ refSram)) 0x4021 4 (stageOff raw i + 2),
    demand (role == 3 || (output.rows == 1 && decide (output.cols ≤ if role = 1 then 16 else 4096))) 0x4021 4
      (stageOff raw i + 2),
    fits (byteAt p 0 == 0 || (role == 3 && text)) 0,
    range (if role = 3 then decide (1 ≤ field p 4 4) else field p 4 4 == 0) 4,
    range (if text then byteAt p 0x0A == 0 else byteAt p 0x0A != 0) 0x0A,
    range (if cls = 0 then byteAt p 0x0B != 0 else byteAt p 0x0B == 0) 0x0B,
    range (if text then decide (1 ≤ field p 0x14 4) else field p 0x14 4 == 0) 0x14,
    fits (decide (field p 0x14 4 ≤ bundleMaxRows img)) 0x14,
    fits (role != 3 || decide ((if text then field p 0x14 4 else field p 0x24 2) + field p 4 4 ≤ bundleContext img)) 4,
    range (if cls = 1 then field p 0x18 4 != 0 else field p 0x18 4 == 0) 0x18,
    fits (role != 3 || text || field p 0x24 2 != 0) 0x24,
    range (!text || allZero view) 0x180,
    viewField (firstBad (transformFields view)) 0x4020,
    viewField (firstBad [(0, byteAt view 0 == 1), (8, byteAt view 8 != 2), (0x0E, byteAt view 0x0E == 0),
      (0x10, field view 0x10 4 == 0), (0x24, zero 0x24), (0xC2, byteAt view 0xC2 != 1)]) 0x4020,
    viewField (firstBad (transformCombos (viewJob j p) (cls == 0) view)) 0x3003,
    fits (text || (input.cols == cols && (input.rows == rows || input.rows == 0))) 0x180,
    fits (text || viewDtype (byteAt p 0x0A) == input.dtype) 0x0A]

/-- The references of a FILTER stage (R266): each condition names an earlier CURATE stage of the right role. -/
def filterRefs (s : State) (raw : Bytes) (j : Job) (i : Nat) (st : StageRec) : List (Option Reject) :=
  (filterConditions st.param).flatMap fun (o, c) =>
    let kind := byteAt c 0
    let named := if byteAt c 1 < i then (j.stages[byteAt c 1]?).filter fun x => x.kind == 6 else none
    let img := (named.map (s.stageImage j)).getD []
    let role := bundleRole img
    let wanted := if kind ≤ 2 then 1 else if kind = 4 then 2 else 3
    let element := field c 2 2
    let elementOk :=
      if kind ≤ 2 then decide (element < (tensorAt img (bundleOutput img)).cols)
      else if kind = 4 then decide (element < bundleTensors img) && (tensorAt img element).kind == 5
      else true
    [demand (named.isSome && role == wanted) 0x4022 4 (blockOff raw st (o + 1)),
      demand (named.isNone || elementOk) 0x4022 4 (blockOff raw st (o + 2))]

/-- The rules of a KERNEL stage (R277, R298). -/
def kernelFit (s : State) (raw : Bytes) (j : Job) (i : Nat) (st : StageRec) : List (Option Reject) :=
  let img := s.stageImage j st
  let form := byteAt img 0x0F
  let tensorIn (cls : Nat) : Bool := bit st.classMask cls && (j.stages.take i).any fun p => s.makesTensor j p cls
  [demand (s.get Obj.kernelPiers != 0) 0x480A 4 (stageOff raw i),
    demand (decide (field st.param 4 2 ≤ field img 0x30 2)) 0x4808 4 (blockOff raw st 4),
    demand (st.classMask &&& byteAt img 0x0E == st.classMask) 0x4809 4 (stageOff raw i + 1),
    demand ([0, 1].all fun c => !bit form c || j.carries c) 0x4809 4 (stageOff raw i + 2),
    demand ([0, 1].all fun c => !tensorIn c || kernelEmits img c) 0x4809 4 (stageOff raw i + 2)]

/-- Row 4 of R585. -/
def rowStages (s : State) (raw : Bytes) (j : Job) : List (Option Reject) :=
  tensorForms s raw j ++ transformRejects raw j ++
    ((j.stagesOfKind 6).flatMap fun (i, st) => curateFit s raw j i st) ++
    ((j.stagesOfKind 7).flatMap fun (i, st) => filterRefs s raw j i st) ++
    (j.stagesOfKind 9).flatMap fun (i, st) => kernelFit s raw j i st

/-! ## Step 5, rows 5 to 8 -/

/-- Row 5 of R585 (R42). -/
def rowModes (raw : Bytes) (j : Job) : List (Option Reject) :=
  demand (!(modeAt raw 5 == 0 && modeAt raw 6 == 1)) 0x800B 9 (secOff raw 9 + 6) ::
    j.streams.zipIdx.map fun (st, k) => demand (!(st.sealMode == 0 && st.sprayMode == 1)) 0x800B 6 (streamOff raw k + 4)

/-- The consumer ranges of the streams (R21). -/
def consumerRanges (raw : Bytes) (j : Job) : List (Option Reject) :=
  j.streams.zipIdx.flatMap fun (st, k) =>
    [demand (decide (st.firstConsumer < j.consumers.length)) 0x800A 6 (streamOff raw k + 8),
      demand (st.count == j.sliceCount && decide (st.firstConsumer + st.count ≤ j.consumers.length)) 0x800A 6
        (streamOff raw k + 10)]

/-- One consumer record in row 6 of R585 (R22, R202, R372, R379, R419). -/
def consumerChecks (s : State) (raw : Bytes) (j : Job) (c : Nat) (r : ConsumerRec) : List (Option Reject) :=
  let o := consumerOff raw c
  let named := j.streamsOfConsumer c
  let push := named.any fun e => e.2.delivery == 0
  let at_ (ok : Bool) (code f : Nat) := demand ok code 7 (o + f)
  let zero (v : Nat) : Bool := push || v == 0
  let shares := j.ringShares c
  [at_ (zero r.key) 0x800A 0x14, at_ (if push then r.ringAddress % 4096 == 0 else r.ringAddress == 0) 0x800A 0x18,
    at_ (if push then decide (2 ≤ r.ringSlots ∧ r.ringSlots ≤ 4096) else r.ringSlots == 0) 0x800A 0x20,
    at_ (if push then r.slotBytes % 4096 == 0 && decide (r.slotBytes ≤ 2 ^ 30) else r.slotBytes == 0) 0x800A 0x24,
    at_ (!push || r.ringSlots % shares == 0) 0x800A 0x20,
    at_ (!(ipv4Mapped r.address && s.get Obj.deviceAddressV4 == 0)) 0x6001 0,
    at_ (r.dscp != s.get Obj.controlDscp) 0x6C03 0x28] ++
    match named with
    | [] => []
    | first :: rest => rest.flatMap fun e =>
      [demand (e.2.sealMode == first.2.sealMode) 0x6002 6 (streamOff raw e.1 + 3),
        demand (e.2.sprayMode == first.2.sprayMode) 0x6002 6 (streamOff raw e.1 + 4)]

/-- Row 6 of R585. -/
def rowConsumers (s : State) (raw : Bytes) (j : Job) : List (Option Reject) :=
  consumerRanges raw j ++ (j.consumers.zipIdx.flatMap fun (r, c) => consumerChecks s raw j c r) ++
    j.assemblers.zipIdx.map fun (a, k) =>
      demand (!(ipv4Mapped a.address && s.get Obj.deviceAddressV4 == 0)) 0x6001 10 (assemblerOff raw k + 16)

/-- Row 7 of R585 (R119). -/
def rowTalon (raw : Bytes) (j : Job) : List (Option Reject) :=
  [demand (!(j.corruptPolicy == 0 && j.t == 0)) 0x8801 1 (secOff raw 1 + 0x18)]

/-- Do two nodes of the table share a non-zero value of some tag (R441)? -/
def Job.tagsShared (j : Job) (a b : Nat) : Bool :=
  match j.tags[a]?, j.tags[b]? with
  | some x, some y =>
    (x.tray != 0 && x.tray == y.tray) || (x.shelf != 0 && x.shelf == y.shelf) || (x.loop != 0 && x.loop == y.loop) ||
      (x.switch != 0 && x.switch == y.switch)
  | _, _ => false

/-- The placement collisions: shard and alternate numbers, in order (R441). -/
def Job.collisions (j : Job) : List (Nat × Nat) :=
  j.shards.zipIdx.flatMap fun (sh, k) =>
    (sh.alternates.zipIdx.filter fun e => j.tagsShared sh.primary e.1).map fun e => (k, e.2)

/-- Row 8 of R585: the shard map and the placement (R86, R441). `readable` says whether the EXTERNAL map could be read. -/
def rowShards (s : State) (raw : Bytes) (j : Job) (readable : Bool) : List (Option Reject) :=
  let ext := mapExternal raw
  let b := s.shardBytes raw
  let digestOff := secOff raw 2 + 0x18
  let at_ (k f : Nat) : Nat := if ext then digestOff else shardsOff raw + 40 * k + f
  let n := j.shards.length
  let loaded := (s.sealedObject (field raw (secOff raw 2 + 8) 16)).isSome && readable &&
    b.length == 40 * shardCount raw && digestNat b == field raw digestOff 32
  let fieldsOk := (List.range n).all fun k => (firstBad (shardFields (slice (40 * k) 40 b))).isNone
  let starts := j.shards.zipIdx.map fun (sh, k) =>
    demand (sh.first == (match k with
      | 0 => 0
      | m + 1 => ((j.shards[m]?).map fun p => p.first + p.count).getD 0)) 0x1001 2 (at_ k 0x10)
  let last := demand (((j.shards.getLast?).map fun sh => sh.first + sh.count) == some j.n) 0x1001 2 (at_ (n - 1) 0x18)
  let nodeChecks := j.shards.zipIdx.flatMap fun (sh, k) =>
    demand (decide (sh.primary < j.nodes.length)) 0x1002 2 (at_ k 0x1E) ::
      (List.range 3).map fun i =>
        let a := field b (40 * k + 0x20 + 2 * i) 2
        demand (match sh.alternates[i]? with
          | some a => decide (a < j.nodes.length) && a != sh.primary && !(sh.alternates.take i).contains a
          | none => a == 0xFFFF) 0x1002 2 (at_ k (0x20 + 2 * i))
  let strict := byteAt raw (secOff raw 3 + 16) % 2 == 1 && (findSection raw 3).isSome
  [demand (!ext || loaded) 0x1003 2 digestOff, demand (!ext || fieldsOk) 0x800A 2 digestOff] ++ starts ++ [last] ++
    nodeChecks ++
    [match strict, j.collisions with
      | true, (k, i) :: _ => some ⟨0x7810, 2, at_ k (0x20 + 2 * i)⟩
      | _, _ => none]

/-! ## Step 5, rows 9 and 10 -/

/-- Row 9 of R585 (R424). -/
def rowProfiles (s : State) (slot : Nat) : List (Option Reject) :=
  let sh := s.get (inst Obj.slotShaperProfile slot)
  let po := s.get (inst Obj.slotPolicerProfile slot)
  [demand (!((sh < 32 && s.get (inst Obj.shapeRateMbps sh) == 0) || (po < 32 && s.get (inst Obj.policerCirMbps po) == 0)))
    0x6C01 0xFFFF 0]

/-- The slots in READY, ARMED, RUNNING or DRAINING besides one. -/
def State.otherJobs (s : State) (slot : Nat) : List Nat := allSlots.filter fun i => i != slot && s.connecting i

/-- The running sums of a list. -/
def runningSums (l : List Nat) : List Nat := (l.foldl (fun (acc : List Nat × Nat) x => (acc.1 ++ [acc.2 + x], acc.2 + x)) ([], 0)).1

/-- The bytes of a slot's structures in the heap that VALIDATE takes (R79, R265, R307, R439): the shard map, the annotation
table's place is taken as entries come, the curation log, and the history ring and replacement log. -/
def State.heapNeeds (s : State) (j : Job) : List (HeapKind × Nat) :=
  [(HeapKind.shardMap, 40 * j.shards.length)] ++
    (if (j.stagesOfKind 6).any fun (_, st) => byteAt st.param 1 == 1 then
      [(HeapKind.curationLog, s.get Obj.curationLogBytes)] else []) ++
    [(HeapKind.history, s.get Obj.itemHistoryBytes), (HeapKind.history, s.get Obj.replacementLogBytes)]

/-- The heap with a slot's structures in place of its staging window. -/
def State.takeHeap (s : State) (slot : Nat) (j : Job) : Option State :=
  (s.heapNeeds j).foldl (fun (acc : Option State) e => acc.bind fun (t : State) => t.heapTake slot e.1 e.2)
    (some (s.heapFree slot .staging))

/-- Row 10 of R585 (R28, R195, R201, R307, R325). -/
def rowLimits (s : State) (raw : Bytes) (j : Job) (slot : Nat) : List (Option Reject) :=
  let max_ := s.get Obj.maxDecodedBytes
  let others := s.otherJobs slot
  let lim (ok : Bool) (sect off : Nat) := demand ok 0x8010 sect off
  let space := s.get Obj.shoeSpaceBytes
  let held := (others.flatMap fun i => (s.job i).streams.map (shoeReserve max_ (s.job i))).sum
  let needs := runningSums (j.streams.map (shoeNeed max_ j))
  let reserves := runningSums (j.streams.map (shoeReserve max_ j))
  let shoe := (List.zip needs reserves).zipIdx.map fun (e, k) =>
    lim (decide (e.1 ≤ space ∧ held + e.2 ≤ space)) 6 (streamOff raw k + 12)
  let known := ((others.flatMap s.peersOf)).eraseDups
  let table := j.nodes.map NodeRec.uid
  let names (l : List Nat) : Nat := ((known ++ l).filter (· != myUid)).eraseDups.length
  let peers := (List.range table.length).map (fun k => lim (decide (names (table.take (k + 1)) ≤ 1024)) 2 (nodeOff raw k)) ++
    (List.range j.assemblers.length).map fun k =>
      lim (decide (names (table ++ (j.assemblers.take (k + 1)).map NodeRec.uid) ≤ 1024)) 10 (assemblerOff raw k)
  let slices := j.streams.zipIdx.flatMap fun (st, k) =>
    let size := sliceBytesMax max_ j st
    lim (decide (size ≤ 2 ^ 30)) 6 (streamOff raw k) ::
      (if st.delivery = 0 then
        (List.range' st.firstConsumer st.count).map fun c =>
          lim (decide (size ≤ ((j.consumers[c]?).map ConsumerRec.slotBytes).getD 0)) 7 (consumerOff raw c + 0x24)
      else [])
  let quotas := j.stages.zipIdx.map fun (st, i) =>
    lim (decide (chainBuffers max_ ≤ s.get (inst Obj.requesterQuota st.requester))) 4 (stageOff raw i + 3)
  (j.bundles.zipIdx.map fun (r, i) => lim (decide (r.minSramKib ≤ 98304)) 5 (secOff raw 5 + 8 + 48 * i + 4)) ++
    [lim (decide (j.consumers.length + (others.map fun i => (s.job i).consumers.length).sum ≤ 16384)) 7 (secOff raw 7)] ++
    shoe ++ peers ++ slices ++ quotas ++ [lim (s.takeHeap slot j).isSome 0xFFFF 0]

/-! ## The whole check -/

/-- Step 5 of R16 in the order of R585. -/
def crossReject (s : State) (raw : Bytes) (slot : Nat) (readable : Bool) : Option Reject :=
  let j := s.readJob raw
  firstReject (rowGraph raw j ++ rowReferences s raw j ++ rowVocabs s raw j ++ rowStages s raw j ++ rowModes raw j ++
    rowConsumers s raw j ++ rowTalon raw j ++ rowShards s raw j readable ++ rowProfiles s slot ++ rowLimits s raw j slot)

/-- The check of a manifest staged into a slot (R16): the first fault. -/
def manifestReject (s : State) (raw : Bytes) (staged slot : Nat) (readable : Bool) : Option Reject :=
  match headerReject raw staged slot with
  | some r => some r
  | none =>
    match directoryReject raw with
    | some r => some r
    | none =>
      match requiredReject raw with
      | some r => some r
      | none =>
        match sectionsReject raw with
        | some r => some r
        | none => crossReject s raw slot readable

end Sys2Proof.Machine
end

