-- ==== Sys2Proof/Machine/Lifecycle.lean ====
section
/-! DEFINITION. The life of a slot: staging, VALIDATE, the commands of JobCommand and the launch (R26 to R36). -/

namespace Sys2Proof.Machine

/-! ## Staging -/

/-- The per-slot objects of a slot take their defaults, as when it leaves EMPTY (R96, R515). -/
def State.clearSlot (s : State) (slot : Nat) : State :=
  { s with dict := s.dict.filter fun e => slotOf e.1 != some slot, blobs := s.blobs.filter fun e => slotOf e.1 != some slot }

/-- The bytes of the staging window of a slot. -/
def stagingBytes : Nat := 67108864

/-- The staging window of a slot is registered and its address and key shown (R26, R390). With the region table full it stays open to
the bus alone. -/
def State.openStaging (s : State) (slot : Nat) : State :=
  let s := s.modSlot slot fun sl => { sl with windowOpen := true, validating := false }
  match s.register .staging none stagingBytes slot 0 [] with
  | some (r, s) => s.setAll [(inst Obj.stagingAddress slot, r.base), (inst Obj.stagingKey slot, r.key)]
  | none => s.setAll [(inst Obj.stagingAddress slot, 0), (inst Obj.stagingKey slot, 0)]

/-- The staging window closes: its region is revoked (R27). -/
def State.closeStaging (s : State) (slot : Nat) : State :=
  let s := s.modSlot slot fun sl => { sl with windowOpen := false }
  (s.revoke .staging slot 0).setAll [(inst Obj.stagingAddress slot, 0), (inst Obj.stagingKey slot, 0)]

/-- A command of a slot that is not legal, or not accepted: JobLastReason, and the write refused (R33, R46). -/
def State.refuseJob (s : State) (slot code : Nat) : State := (s.set (inst Obj.jobLastReason slot) code).refused code

/-- A write of StagingOpen (R26, R44): an EMPTY slot is given a zero-filled window and becomes STAGED; an open window stays as it
is. Where the heap has no room the write is refused with 0x8010 (R307). A refused write shows its reason in JobLastReason. -/
def stagingOpen (slot : Nat) (s : State) : State :=
  if s.jobState slot = 0 then
    match s.heapTake slot .staging stagingBytes with
    | none => (s.bump Obj.heapExhaustions).refuseJob slot 0x8010
    | some t =>
      let t := (t.clearSlot slot).setSlot slot {}
      ((t.openStaging slot).enterState slot 1).ok
  else if s.jobState slot = 1 then s.ok
  else s.refuseJob slot 0x800E

/-! ## VALIDATE -/

/-- A refused manifest: the slot stays STAGED with its window reopened and its contents unchanged (R27). -/
def State.rejectManifest (s : State) (slot : Nat) (r : Reject) : State :=
  let s := if 0x6C00 ≤ r.code ∧ r.code < 0x7000 then s.set (inst Obj.lastTrafficReason slot) r.code else s
  (s.openStaging slot).setAll [(inst Obj.jobLastReason slot, r.code), (inst Obj.rejectSection slot, r.section_),
    (inst Obj.rejectOffset slot, r.offset)]

/-- A manifest found good becomes the slot's job (R27): the window is freed, the heap structures are taken, ManifestDigest, SliceWeight,
JobName and CacheParamDigest are shown, M4 is extended (R475) and the slot is READY. -/
def State.acceptManifest (s : State) (slot : Nat) (raw : Bytes) : State :=
  let j := s.readJob raw
  let s := (s.takeHeap slot j).getD s
  let s := s.modSlot slot fun sl => { sl with window := [], windowTop := 0, validating := false, job := some j }
  let s := s.setAll [(inst Obj.manifestDigest slot, j.digest), (inst Obj.sliceWeight slot, field raw (secOff raw 9 + 12) 2),
    (inst Obj.cacheParamDigest slot, s.paramDigest j)]
  let s := (s.setBlob (inst Obj.jobName slot) j.name).extend 4 slot (leBytes 32 j.digest)
  s.enterState slot 2

/-- The check of the staged bytes, once the window's revocation has drained (R16, R27). PlacementCollisions is known once the check has
come past the shard map (R441). -/
def State.checkManifest (s : State) (slot : Nat) : State :=
  let sl := s.slot slot
  let raw := Memory.bytes sl.window 0 sl.windowTop
  match manifestReject s raw sl.windowTop slot sl.mapReadable with
  | none =>
    let s := s.set (inst Obj.placementCollisions slot) (s.readJob raw).collisions.length
    s.acceptManifest slot raw
  | some r =>
    let past := decide (r.code = 0x7810 ∨ r.code = 0x6C01 ∨ r.code = 0x8010)
    let s := if past then s.set (inst Obj.placementCollisions slot) (s.readJob raw).collisions.length else s
    let s := if r.code = 0x8010 ∧ r.section_ = 0xFFFF then s.bump Obj.heapExhaustions else s
    s.rejectManifest slot r

/-- VALIDATE (R27): the window closes and, unless writes accepted before are still being placed, the bytes are checked at once.
`readable` says whether an EXTERNAL shard map could be read (R86). -/
def validate (slot : Nat) (readable draining : Bool) (s : State) : State :=
  if s.jobState slot ≠ 1 ∨ (s.slot slot).validating then s.refuseJob slot 0x801A
  else
    let s := (s.closeStaging slot).modSlot slot fun sl => { sl with validating := true, mapReadable := readable }
    let s := s.ok
    if draining then s
    else
      let s := match s.regionOf .staging slot 0 with
        | some r => s.retireRegion r.index
        | none => s
      s.checkManifest slot

/-! ## Launch -/

/-- The shares of the Item Table follow SliceWeight (R36). -/
def State.shareTable (s : State) : State :=
  let live := allSlots.filter s.running
  let total := (live.map fun i => s.get (inst Obj.sliceWeight i)).sum
  live.foldl (fun (t : State) i =>
    t.modSlot i fun sl => { sl with share := max 16 (itemTable * t.get (inst Obj.sliceWeight i) / total) }) s

/-- The Shoes of a slot, one for each stream, start empty at an epoch; a PULL Shoe is registered as an export region, its directory
taking heap memory (R196, R205, R307). -/
def State.openShoes (s : State) (slot epoch : Nat) : State :=
  let j := s.job slot
  (j.streams.zipIdx).foldl (fun (t : State) e =>
    let k := e.2
    let t := { t with shoes := t.shoes ++ [({ slot := slot, stream := k, epoch := epoch } : Shoe)] }
    if e.1.delivery = 1 ∧ t.running slot then
      let t := t.heapOrAbort slot .pullDirectory (32 * e.1.depth)
      if t.running slot then
        match t.register .shoeExport none (exportBytes (t.get Obj.maxDecodedBytes) j e.1) slot k [] with
        | some (r, t) => t.setAll [(shoeKey Obj.pullRegionAddress slot k, r.base), (shoeKey Obj.pullRegionKey slot k, r.key)]
        | none => t
      else t
    else t) s

/-- The curation log of a slot is exported at RUNNING where one was taken at VALIDATE (R265). -/
def State.openLog (s : State) (slot : Nat) : State :=
  if (s.job slot).stages.any fun st => st.kind == 6 && byteAt st.param 1 == 1 then
    let size := s.get Obj.curationLogBytes
    match s.register .curationLog none size slot 0 (zeros size) with
    | some (r, s) => s.setAll [(inst Obj.curationLogAddress slot, r.base), (inst Obj.curationLogKey slot, r.key)]
    | none => s
  else s

/-- The records of a slot's shards are exported to its peers: shard map entry e from address e × 2^40 on (R390). -/
def State.openRecords (s : State) (slot : Nat) : State :=
  match s.register .recordExport (some 0) ((s.job slot).shards.length * 2 ^ 40) slot 0 [] with
  | some (_, s) => s
  | none => s

/-- A slot enters RUNNING at an epoch with its Shoes, regions and share (R30). -/
def State.startRunning (s : State) (slot epoch : Nat) : State :=
  let s := (s.enterState slot 4).set (inst Obj.currentEpoch slot) epoch
  let s := s.modSlot slot fun sl => { sl with
    nextPosition := 0, issueDone := false, joined := false, haltTick := s.gtc, credits := [0, 0, 0, 0]
    holds := [true, true, true, true] }
  ((s.shareTable.openShoes slot epoch).openRecords slot).openLog slot

/-- A launched slot runs at an epoch with its census (R30, R112). -/
def State.startJob (s : State) (slot epoch : Nat) : State := (s.startRunning slot epoch).startCensus slot epoch

/-- The launch of an ARMED slot that JOIN did not arm (R30). -/
def State.launch (s : State) (slot : Nat) : State :=
  let s := s.startJob slot (s.job slot).epochFirst
  s.issueFirst slot

/-- Has the launch of a slot come due (R31)? -/
def State.launchDue (s : State) (slot : Nat) : Bool :=
  s.jobState slot == 3 && decide (s.get (inst Obj.launchTick slot) ≤ s.gtc)

/-! ## The other commands -/

/-- The first condition of R29 that fails, with its code. -/
def State.armFault (s : State) (slot : Nat) : Nat :=
  let tick := s.get (inst Obj.launchTick slot)
  firstCode [(s.get (inst Obj.expectedDigest slot) == s.get (inst Obj.manifestDigest slot), 0x8012),
    (tick % s.get Obj.sliceTicks == 0, 0x800A), (decide (s.gtc + s.get Obj.launchLeadMin ≤ tick), 0x8011), (s.synced, 0x8019)]

/-- ARM (R29). -/
def arm (slot : Nat) (s : State) : State :=
  if s.jobState slot ≠ 2 then s.refuseJob slot 0x801A
  else match s.armFault slot with
    | 0 => ((s.modSlot slot fun sl => { sl with joined := false }).enterState slot 3).ok
    | code => s.refuseJob slot code

/-- DISARM (R33). A launch that is due has already happened (R31). -/
def disarm (slot : Nat) (s : State) : State :=
  if s.jobState slot = 3 ∧ ¬ s.launchDue slot then
    ((s.unjoin slot).enterState slot 2).ok
  else s.refuseJob slot 0x801A

/-- STOP (R34): issue ends, and the slot drains; an ARMED one returns to READY. -/
def stop (slot : Nat) (s : State) : State :=
  if s.jobState slot = 3 then ((s.unjoin slot).enterState slot 2).ok
  else if s.jobState slot = 4 then ((s.modSlot slot fun sl => { sl with issueDone := true }).enterState slot 5).ok
  else s.refuseJob slot 0x801A

/-- ABORT (R35). -/
def abort (slot : Nat) (s : State) : State :=
  if s.jobState slot = 3 ∨ s.jobState slot = 4 ∨ s.jobState slot = 5 then ((s.unjoin slot).abortSlot slot 0x8014 0x8014).ok
  else s.refuseJob slot 0x801A

/-- The objects of a slot that its manifest gives read as their defaults again (R96, R122). -/
def State.forgetManifest (s : State) (slot : Nat) : State :=
  s.setAll ([Obj.manifestDigest, Obj.sliceWeight, Obj.cacheParamDigest, Obj.placementCollisions, Obj.stagingAddress, Obj.stagingKey,
    Obj.curationLogAddress, Obj.curationLogKey].map fun k => (inst k slot, 0)) |>.setBlob (inst Obj.jobName slot) []

/-- RELEASE (R33): every resource of the slot is freed, its regions are revoked and its cache pins end (R188, R265, R390). -/
def jobRelease (slot : Nat) (s : State) : State :=
  let st := s.jobState slot
  if st = 1 ∨ st = 2 ∨ st = 6 ∨ st = 7 then
    let s := (s.revokeWhere fun r => r.owner == slot && r.kind != .objectWindow).unpin slot
    let s := ((s.heapFreeSlot slot).forgetManifest slot).setSlot slot {}
    (s.enterState slot 0).ok
  else s.refuseJob slot 0x801A

end Sys2Proof.Machine
end

