-- ==== Sys2Proof/Machine/Slicing.lean ====
section
/-! DEFINITION. Time-slicing (R36 to R40): who contends for each class, whether the demands fit, the weighted credits at a slice boundary, and
the switches. -/

namespace Sys2Proof.Machine

/-- The place of a class in `credits` and `holds`. -/
def SliceClass.index : SliceClass → Nat
  | .inference => 0
  | .dealer => 1
  | .shoe => 2
  | .token => 3

/-- The engine kinds that a class covers: Dealers and warp engines, or tokenizer engines (R37). -/
def SliceClass.kinds : SliceClass → List Nat
  | .dealer => [1, 2, 3]
  | .token => [5]
  | _ => []

/-- The items of a slot that wait for engines of some kinds. -/
def State.waitingFor (s : State) (slot : Nat) (kinds : List Nat) : Nat :=
  (s.items.filter fun it => it.slot == slot && kinds.any fun k => s.queuedFor k it).length

/-- Does an item stand at a CURATE stage? -/
def State.atCurate (s : State) (it : Item) : Bool :=
  !it.prepared && ((s.job it.slot).stages[it.stage]?.map StageRec.kind) == some 6

/-- MIN_SRAM_KIB of a job: that of its largest bundle. -/
def Job.minSram (j : Job) : Nat := ((j.bundles.filter fun r => r.refKind == 1).map BundleRef.minSramKib).foldl max 0

/-- The full-depth Shoe need of a slot (R195). -/
def State.shoeNeedOf (s : State) (slot : Nat) : Nat :=
  ((s.job slot).streams.map (shoeNeed (s.get Obj.maxDecodedBytes) (s.job slot))).sum

/-- Has a Shoe of a slot filled up to its low-water count with another batch to start? -/
def State.wantsShoe (s : State) (slot : Nat) : Bool :=
  s.shoes.any fun x => x.slot == slot && (match (s.job slot).streams[x.stream]? with
    | some st =>
      decide (st.lowWater ≤ (s.shoeBatches x).length ∧ (s.shoeBatches x).length < st.depth) && (s.nextBatchOf x).isSome
    | none => false)

/-- Is a slot a contender for a class: has it work waiting for it (R37)? -/
def State.contends (s : State) (c : SliceClass) (slot : Nat) : Bool :=
  s.running slot && (match c with
    | .inference => s.items.any fun it => it.slot == slot && s.atCurate it
    | .shoe => s.wantsShoe slot
    | c => decide (0 < s.waitingFor slot c.kinds))

/-- The Dealers in service. -/
def State.dealersInService (s : State) : Nat := (s.enginesOf 1).length + (s.enginesOf 2).length

/-- Do the contenders' demands for a class fit together (R37)? -/
def State.demandsFit (s : State) (c : SliceClass) (l : List Nat) : Bool :=
  match c with
  | .inference => decide ((l.map fun i => (s.job i).minSram).sum ≤ 98304)
  | .dealer =>
    decide ((l.map fun i => min (s.waitingFor i c.kinds) s.dealersInService).sum ≤ s.dealersInService)
  | .shoe => decide ((l.map s.shoeNeedOf).sum ≤ s.get Obj.shoeSpaceBytes)
  | .token => decide ((l.map fun i => s.waitingFor i c.kinds).sum ≤ (s.enginesOf 5).length)

/-- The credit of a slot for a class. -/
def State.creditOf (s : State) (c : SliceClass) (slot : Nat) : Int := (s.slot slot).credits.getD c.index 0

/-- A slot's credit for a class changes. -/
def State.setCredit (s : State) (c : SliceClass) (slot : Nat) (v : Int) : State :=
  s.modSlot slot fun sl => { sl with credits := sl.credits.set c.index v }

/-- A slot holds a class, or not. -/
def State.setHold (s : State) (c : SliceClass) (slot : Nat) (v : Bool) : State :=
  s.modSlot slot fun sl => { sl with holds := sl.holds.set c.index v }

/-- Does a slot hold a class? -/
def State.hasHold (s : State) (c : SliceClass) (slot : Nat) : Bool := (s.slot slot).holds.getD c.index true

/-- The contender with the largest credit, the lowest slot number on a tie (R38). -/
def State.largestCredit (s : State) (c : SliceClass) : List Nat → Option Nat
  | [] => none
  | i :: t =>
    match s.largestCredit c t with
    | none => some i
    | some k => if s.creditOf c k ≤ s.creditOf c i then some i else some k

/-- The slots that hold a class afterwards take it, and the others give it up. -/
def State.giveClass (s : State) (c : SliceClass) (holders : List Nat) : State :=
  allSlots.foldl (fun (t : State) i => t.setHold c i (holders.contains i)) s

/-- The switch of a class in course. -/
def State.switchOf (s : State) (c : SliceClass) : Option Switch := s.switches.find? fun w => w.cls == c

/-- A class goes to new holders (R39): engines of DEALER and TOKEN finish what they hold, the Shoe space changes hands at once, and INFERENCE
waits for its switch. -/
def State.switchTo (s : State) (c : SliceClass) (contenders holders : List Nat) : State :=
  let others := s.switches.filter fun w => w.cls != c
  let planned (i : Nat) : Bool := match s.switchOf c with
    | some w => w.holders.contains i
    | none => s.hasHold c i
  if contenders.all fun i => planned i == holders.contains i then
    (if (s.switchOf c).isSome then s else s.giveClass c holders)
  else
    let s := (s.bump Obj.sliceSwitchCount).event 7 0x104 1 none holders.head?
    match c with
    | .inference => { s with switches := others ++ [{ cls := c, since := s.gtc, holders := holders }] }
    | .shoe => s.giveClass c holders
    | c => { s.giveClass c holders with switches := others ++ [{ cls := c, since := s.gtc, holders := holders }] }

/-- One class at a slice boundary (R38): the slot it is granted to, where the demands do not fit. -/
def State.sliceClass (s : State) (c : SliceClass) : Option Nat × State :=
  let l := allSlots.filter (s.contends c)
  let s := (allSlots.filter fun i => !l.contains i).foldl (fun (t : State) i => t.setCredit c i 0) s
  if s.demandsFit c l then (none, s.switchTo c l allSlots)
  else
    let w := (l.map fun i => s.get (inst Obj.sliceWeight i)).sum
    let s := l.foldl (fun (t : State) i => t.setCredit c i (t.creditOf c i + t.get (inst Obj.sliceWeight i))) s
    match s.largestCredit c l with
    | none => (none, s)
    | some p => (some p, (s.setCredit c p (s.creditOf c p - w)).switchTo c l [p])

/-- A slice boundary, at a multiple of SliceTicks (R36 to R38). -/
def sliceBoundary (s : State) : State :=
  if s.gtc % s.get Obj.sliceTicks ≠ 0 then s else
  let s := s.shareTable
  let (picks, s) := [SliceClass.inference, .dealer, .shoe, .token].foldl
    (fun (acc : List Nat × State) c => match acc.2.sliceClass c with
      | (some p, t) => (acc.1 ++ [p], t)
      | (none, t) => (acc.1, t)) ([], s)
  picks.eraseDups.foldl (fun (t : State) i => t.bump (inst Obj.slicesHeld i)) s

/-- A switch of INFERENCE starts (R39): those that lose the class have their working sets saved to their GDDR7. -/
def inferenceSwitchStart (s : State) : State :=
  match s.switchOf .inference with
  | none => s
  | some w =>
    if w.saving then s
    else
      let out := allSlots.filter fun i => s.running i && s.hasHold .inference i && !w.holders.contains i
      let s := { s with switches := replaceFirst (fun x => x.cls == SliceClass.inference) { w with saving := true } s.switches }
      out.foldl (fun (t : State) i =>
        let t := t.setHold .inference i false
        if (t.job i).minSram = 0 then t else t.heapOrAbort i .workingSet ((t.job i).minSram * 1024)) s

/-- Has a switch come to its end: the working sets are in place, or no engine of the class holds an item of a slot that gave it up? -/
def State.switchOver (s : State) (w : Switch) : Bool :=
  match w.cls with
  | .inference => w.saving
  | c => s.items.all fun it => w.holders.contains it.slot || (match it.engine with
      | some (k, _) => !c.kinds.contains k
      | none => true)

/-- A switch completes (R39). -/
def sliceSwitchComplete (c : SliceClass) (s : State) : State :=
  match s.switchOf c with
  | none => s
  | some w =>
    if ¬ s.switchOver w then s
    else
      let s := { s with switches := s.switches.filter fun x => x.cls != c }
      let s := (s.count Obj.sliceOverrunTicks (s.gtc - w.since)).event 7 0x105 (s.gtc - w.since) none w.holders.head?
      let s := s.giveClass c w.holders
      if c = .inference then w.holders.foldl (fun (t : State) i => t.heapFree i .workingSet) s else s

/-- A sliced class by its number (R37). -/
def sliceClassOf (n : Nat) : SliceClass := if n = 0 then .inference else if n = 1 then .dealer else if n = 2 then .shoe else .token

end Sys2Proof.Machine
end

