-- ==== Sys2Proof/Machine/Channels.lean ====
section
/-! DEFINITION. The GDDR7 channels: refresh, retraining, corrected and uncorrectable errors, row repair and retirement; and the Buffer
Pool Manager's own commands (R308 to R313, R321 to R325). -/

namespace Sys2Proof.Machine

/-! ## Channels -/

/-- A channel's machinery. -/
def State.channel (s : State) (c : Nat) : Channel := s.channels.getD c {}

/-- A channel's machinery changes. -/
def State.modChannel (s : State) (c : Nat) (f : Channel → Channel) : State := { s with channels := s.channels.modify c f }

/-- ChannelState (R329): 0 IN_SERVICE, 1 RETRAINING, 2 RETIRING, 3 RETIRED. -/
def State.channelState (s : State) (c : Nat) : Nat := s.get (inst Obj.channelState c)

/-- The counter bank of a channel's tile: MEM0 3, MEM1 4 (R305, R528). -/
def memBank (c : Nat) : Nat := if c < 48 then 3 else 4

/-- The stack of a channel (R305). -/
def stackOf (c : Nat) : Nat := c / 8

/-- A channel's temperature as its stack reports it; a crossing of 85 °C upward or of 80 °C downward waits for the next multiple of 3,900
(R309). -/
def State.channelTemperature (s : State) (c : Nat) (t : Int) : State :=
  let hot := s.get (inst Obj.channelHot c) == 1
  let s := s.seti 32 (inst Obj.channelTemperature c) t
  if t > 85 ∧ ¬ hot then s.modChannel c fun x => { x with hotPending := some true }
  else if t < 80 ∧ hot then s.modChannel c fun x => { x with hotPending := some false }
  else s

/-- A channel enters or leaves the hot schedule (R309). -/
def hotScheduleChange (c : Nat) (s : State) : State :=
  match (s.channel c).hotPending with
  | some h =>
    if s.gtc % 3900 ≠ 0 then s
    else (s.set (inst Obj.channelHot c) (ofBool h)).modChannel c fun x => { x with hotPending := none }
  | none => s

/-- Is the present tick a refresh start of a channel (R309)? -/
def State.refreshTick (s : State) (c : Nat) : Bool :=
  if s.get (inst Obj.channelHot c) = 1 then s.gtc % 1950 == (20 * c + 5) % 1950 else s.gtc % 3900 == (40 * c) % 3900

/-- The link replays of a channel in the last 10^9 ticks (R310). -/
def State.linkReplays (s : State) (c : Nat) : Nat := ((s.channel c).replays.filter fun t => s.gtc ≤ t + 10 ^ 9).length

/-- Is a channel due for retraining (R310)? -/
def State.trainDue (s : State) (c : Nat) : Bool :=
  let x := s.channel c
  let moved := (s.geti 32 (inst Obj.channelTemperature c) - x.trainTemperature).natAbs
  s.channelState c != 3 &&
    (decide (s.get Obj.retrainDeltaC ≤ moved) || decide (s.get Obj.retrainErrorLimit < s.linkReplays c) ||
      decide (s.get (inst Obj.channelLastTrainTick c) + s.get Obj.retrainPeriodTicks ≤ s.gtc) || x.repairs != [] ||
      s.channelState c == 2 || decide (0 < x.trainFails))

/-- The channels in a retraining hold. -/
def State.training (s : State) : List Nat := (List.range 96).filter fun c => (s.channel c).training.isSome

/-- May one more channel be retrained beside those that are (R310)? -/
def State.mayTrain (s : State) (c : Nat) : Bool :=
  let l := s.training
  decide (l.length < s.get Obj.retrainMaxConcurrent) && l.all fun d => stackOf d != stackOf c

/-- A retraining hold begins (R64, R310). -/
def State.startTraining (s : State) (c : Nat) : State :=
  let s := s.modChannel c fun x => { x with training := some s.gtc }
  let s := if s.channelState c = 0 then s.set (inst Obj.channelState c) 1 else s
  (s.bump Obj.gddrRetrainCount).event (memBank c) 0x104 1 (some c)

/-- Due retrainings begin at a slice boundary, lower numbers first, as many as the limits allow (R310). -/
def State.startTrainings (s : State) : State :=
  (List.range 96).foldl
    (fun (t : State) c => if t.trainDue c && (t.channel c).training.isNone && t.mayTrain c then t.startTraining c else t) s

/-- SLICE_BOUNDARY (R36 to R38, R310). -/
def boundary (s : State) : State :=
  if s.gtc % s.get Obj.sliceTicks ≠ 0 then s else (sliceBoundary s).startTrainings

/-- A refresh begins (R309). With link replays at four times the limit, a due retraining begins with it (R310). In RETAIN the dies
refresh themselves. -/
def refreshStart (c : Nat) (s : State) : State :=
  if 96 ≤ c ∨ ¬ s.refreshTick c ∨ s.channelState c = 3 ∨ s.power.selfRefresh ∨ (s.channel c).refreshing.isSome then s
  else
    let s := s.modChannel c fun x => { x with refreshing := some s.gtc }
    let s := (s.bump Obj.gddrRefreshCount).event (memBank c) 0x102 1 (some c)
    if 4 * s.get Obj.retrainErrorLimit ≤ s.linkReplays c ∧ (s.channel c).training.isNone ∧ s.mayTrain c then s.startTraining c else s

/-- What a hold of a channel did to the requests it held (R64, R65): the ticks by which it delayed the first, in an object and in an event,
and the bit of the items delayed. -/
def State.endHold (s : State) (c counter code b : Nat) (first : Option Nat) (held : List Nat) : State :=
  match first with
  | some t => ((s.count counter (s.gtc - t)).event (memBank c) code (s.gtc - t) (some c)).markPerturb held b
  | none => s

/-- A refresh hold ends (R309). `first` is when the first request it held came, and `held` the items whose requests it held. -/
def refreshEnd (c : Nat) (first : Option Nat) (held : List Nat) (s : State) : State :=
  match (s.channel c).refreshing with
  | some t =>
    if s.gtc < t + s.get Obj.refreshHoldTicks then s
    else (s.modChannel c fun x => { x with refreshing := none }).endHold c Obj.gddrRefreshStallTicks 0x103 0 first held
  | none => s

/-! ## Lost data -/

/-- A prepared or placed sample is lost to its owner: it starts again from SOURCE, and what it was exported under is revoked. -/
def State.restartPrepared (s : State) (it : Item) : State :=
  let s := it.exported.foldl (fun (t : State) e => if e.key = 0 then t else t.revokeKey e.key) s
  let s := s.releaseItem it
  s.fetch { it with
    prepared := false, offered := false, exported := [], chain := none, data := [], before := [], madeAt := 0, results := [], reason := 0
    failStage := 255, avoid := none, faultSeq := s.lastFaultSeq }

/-- A position's sample is prepared again (R105, R308). A masked position has none. -/
def State.prepareAgain (s : State) (f : Fill) : State :=
  if f.st ≠ 1 then s
  else
    let j := s.job f.slot
    let s := s.putFill { f with st := if f.talon.isSome then 3 else 0, asked := f.talon.isSome, data := [] }
    let x := match f.talon with
      | some (t, _) => riffle j.seed j.n t f.epoch
      | none => f.sample
    let owner := s.ownerOf f.slot x
    if owner = myUid then s.prepare f.slot f.epoch f.position f.talon myUid
    else s.sendPrepare owner (sampleRef f.slot f.epoch f.position) f.talon

/-- A batch in a Shoe is assembled again (R308). -/
def State.reassemble (s : State) (b : Batch) : State :=
  let s := b.buffers.foldl State.refDrop (s.cancelWait b.holder)
  let s := s.putBatch { b with buffers := [], ready := none, building := false, opened := false }
  b.positions.foldl (fun (t : State) p => match t.fill b.slot b.epoch p with
    | some f => t.prepareAgain f
    | none => t) s

/-- The Buffer Pool Manager stops granting and rebuilds the node stack (R322). -/
def State.poolFault (s : State) (handle check : Nat) : State :=
  if s.pool.rebuilding then s
  else
    let s := s.bump Obj.linkCheckErrors
    let s := s.raiseFault { cls := 7, tile := 3, reason := 0x7030, detail0 := handle, detail1 := check }
    { s with pool := { s.pool with rebuilding := true, rebuildSince := s.gtc } }

/-- A GDDR7 fault of class MEMORY (R431, R435). -/
def memoryFault (c frame kind reason action : Nat) : Fault64 :=
  { cls := 5, tile := memBank c, reason := reason, unit := c, action := action, detail0 := c * 2 ^ 56 + frame, detail1 := kind }

/-- A loaded image is damaged: it is marked, and the items that stand at a stage that needs it end FAILED (R308). -/
def State.damageImage (s : State) (kind entry : Nat) : State :=
  let images := modifyWhere (fun (l : Loaded) => l.kind == kind && l.entry == entry && !l.building) (fun l => { l with damaged := true })
    s.images
  let s : State := { s with images := images }
  (s.items.filter fun it => !it.prepared && (match s.stageRec it with
    | some st => !s.stageWhole (s.job it.slot) st
    | none => false)).foldl (fun (t : State) it => t.failItem it 0x7021) s

/-- What the consumer of data that cannot be read does (R308). -/
def State.dataLost (s : State) (c frame : Nat) (u : MemoryUse) : State :=
  match u with
  | .item entry input => s.onItem entry fun it =>
    let s := s.raiseFault { memoryFault c frame 1 0x7020 1 with
      slot := it.slot, requester := (s.job it.slot).requesterOf it.stage, ref := it.ref }
    if it.prepared then s.restartPrepared it
    else (s.stopKernel it).restartItem it false input
  | .batch slot stream epoch index =>
    match s.batches.find? fun b => b.slot == slot && b.stream == stream && b.epoch == epoch && b.index == index && b.ready.isSome with
    | some b => (s.raiseFault { memoryFault c frame 2 0x7020 1 with slot := slot }).reassemble b
    | none => s
  | .cacheEntry place =>
    match s.cache.entries[place]? with
    | some e =>
      let s := s.raiseFault (memoryFault c frame 3 0x7020 0)
      let readers := s.items.filter fun it => it.hit == 1 && it.sample == e.sample && s.slotDigest it.slot == e.digest
      let s := State.cacheStatus { s with cache := { s.cache with entries := s.cache.entries.eraseIdx place } }
      readers.foldl (fun (t : State) it => (t.cancelWait it.entry).fetch { it with hit := 0, waitOut := none }) s
    | none => s
  | .map => s.raiseFault (memoryFault c frame 4 0x7020 0)
  | .mirrored => s.raiseFault (memoryFault c frame 5 0x7020 0)
  | .image kind entry => (s.raiseFault (memoryFault c frame 6 0x7021 6)).damageImage kind entry
  | .node handle group => s.poolFault handle (if group then 2 else 1)

/-! ## Repair and retirement -/

/-- A channel is retired as readable: its frames move in retraining holds (R312). -/
def State.retireReadable (s : State) (c : Nat) : State :=
  if 2 ≤ s.channelState c then s else s.set (inst Obj.channelState c) 2

/-- The frames of a channel's own part of the spare pool (R306). -/
def ownSpares : Nat := 1366

/-- The frames in a GiB of the cache tier. -/
def framesPerGib : Nat := 32768

/-- Entries are dropped until the GDDR7 tier is within CacheGddrBytes again, at most `fuel` (R188, R313). -/
def shrinkCache : Nat → State → State
  | 0, s => s
  | fuel + 1, s =>
    if s.get Obj.cacheGddrUsedBytes ≤ s.get Obj.cacheGddrBytes then s
    else match s.evictOne with
      | some t => shrinkCache fuel t
      | none => s

/-- The cache tier is lowered a GiB at a time until some frames have a home, at most `fuel` GiB; the frames still without one come
with the state (R313). What it gives up leaves job memory. -/
def lowerCache : Nat → Nat → State → Nat × State
  | 0, frames, s => (frames, s)
  | fuel + 1, frames, s =>
    if frames = 0 ∨ s.get Obj.cacheGddrBytes < 2 ^ 30 then (frames, s)
    else
      let s := s.setAll [(Obj.cacheGddrBytes, s.get Obj.cacheGddrBytes - 2 ^ 30), (Obj.jobMemoryBytes, s.get Obj.jobMemoryBytes - 2 ^ 30)]
      lowerCache fuel (frames - framesPerGib) (shrinkCache (s.cache.entries.length + 1) s)

/-- Homes for the frames of a retired channel (R313): the spare pool without the channel's own part, then the cache tier. The frames left
without a home come with the state. -/
def State.findHomes (s : State) (frames : Nat) : Nat × State :=
  let pool := s.get Obj.channelSpareFramesLeft - ownSpares
  let s := s.set Obj.channelSpareFramesLeft (pool - frames)
  lowerCache 256 (frames - pool) s

/-- A channel leaves service, and its retirement is journalled (R312, R545, R546). -/
def State.retired' (s : State) (c : Nat) : State :=
  let s := s.setAll [(inst Obj.channelState c, 3), (Obj.channelsInService, s.get Obj.channelsInService - 1)]
  (s.modChannel c fun x => { x with training := none, repairs := [], trainFails := 0 }).journalRepair (4 * 2 ^ 28 + c)

/-- Some frames of a channel find no home (R313): the pool buffers among them are withheld when they are next freed. -/
def State.degrade (s : State) (buffers : List Nat) : State :=
  { s.set Obj.memoryState 1 with pool := { s.pool with homeless := s.pool.homeless ++ buffers } }

/-- A channel whose contents cannot be read is redirected at once, and what it held is lost (R312). -/
def State.retireUnreadable (s : State) (c frames : Nat) (lost : List MemoryUse) : State :=
  let (_, s) := s.findHomes frames
  let s := (s.retired' c).count Obj.lostFrames frames
  lost.foldl (fun (t : State) u => t.dataLost c 0 u) s

/-- The last frame of a retiring channel has moved (R312, R313): `frames` were in use, and `homeless` are the pool buffers that stay where no
home is left. -/
def channelMigrationComplete (c frames : Nat) (homeless : List Nat) (s : State) : State :=
  if s.channelState c ≠ 2 then s
  else
    let (left, s) := s.findHomes (min frames 129706)
    if left = 0 then s.retired' c else s.degrade (homeless.take left)

/-- A frame's repair entry (R545). -/
def frameEntry (c frame : Nat) : Nat := 3 * 2 ^ 28 + c * 2 ^ 17 + frame

/-- The pending repairs of a channel are carried out within its hold, as far as the row repair pool reaches (R311). -/
def State.repairFrames (s : State) (c : Nat) : State :=
  let l := (s.channel c).repairs
  let n := min l.length (s.get Obj.rowRepairFramesLeft)
  let s := (s.set Obj.rowRepairFramesLeft (s.get Obj.rowRepairFramesLeft - n)).count Obj.rowRepairs n
  let s := s.countW 32 (inst Obj.channelRowRepairs c) n
  let s := (l.take n).foldl (fun (t : State) f => t.journalRepair (frameEntry c f)) s
  s.modChannel c fun x => { x with repairs := [], corrected := x.corrected.filter fun e => !(l.take n).contains e.1 }

/-- A retraining hold ends (R310). `ok` says that the training succeeded; after the third failure in a row the channel is retired as
unreadable, with the data on its `frames` frames in use. -/
def retrainComplete (c : Nat) (ok : Bool) (first : Option Nat) (held : List Nat) (frames : Nat) (lost : List MemoryUse) (s : State) :
    State :=
  match (s.channel c).training with
  | none => s
  | some _ =>
    let s := s.modChannel c fun x => { x with training := none }
    let s := if s.channelState c = 1 then s.set (inst Obj.channelState c) 0 else s
    let s := s.endHold c Obj.gddrRetrainStallTicks 0x105 1 first held
    if ok then
      let t := s.geti 32 (inst Obj.channelTemperature c)
      let s := (s.countW 32 (inst Obj.channelRetrains c) 1).set (inst Obj.channelLastTrainTick c) s.gtc
      (s.modChannel c fun x => { x with trainTemperature := t, trainFails := 0, replays := [] }).repairFrames c
    else if (s.channel c).trainFails + 1 < 3 then s.modChannel c fun x => { x with trainFails := x.trainFails + 1 }
    else s.retireUnreadable c frames lost

/-- A frame is due for repair (R311): it waits for a retraining hold, unless no frame is left to repair it with. -/
def State.repairDue (s : State) (c frame : Nat) : State :=
  if s.get Obj.rowRepairFramesLeft = 0 ∨ (s.channel c).repairs.contains frame then s
  else s.modChannel c fun x => { x with repairs := x.repairs ++ [frame] }

/-- A die reports a corrected error (R308, R311). -/
def gddrCorrectedError (c frame : Nat) (s : State) : State :=
  if 96 ≤ c then s
  else
    let n := (findKey frame (s.channel c).corrected).getD 0 + 1
    let s := (s.bump Obj.gddrCorrectedErrors).bump (inst Obj.channelCorrected c)
    let s := s.modChannel c fun x => { x with corrected := putKey frame n x.corrected }
    if s.get Obj.rowRepairThreshold ≤ n then s.repairDue c frame else s

/-- A read comes back uncorrectable (R308, R311, R312): its consumer recovers, the frame is due for repair, and a channel with too many such
errors, or whose frame cannot be repaired, is retired. -/
def gddrUncorrectableRead (c frame : Nat) (u : MemoryUse) (s : State) : State :=
  if 96 ≤ c then s
  else
    let s := (s.bump Obj.gddrUncorrectedErrors).bump (inst Obj.channelUncorrected c)
    let recent := ((s.channel c).uncorrectable.filter fun t => s.gtc ≤ t + 10 ^ 10) ++ [s.gtc]
    let s := s.modChannel c fun x => { x with uncorrectable := recent }
    let s := s.dataLost c frame u
    if 16 < recent.length ∨ s.get Obj.rowRepairFramesLeft = 0 then s.retireReadable c else s.repairDue c frame

/-- A transfer on the link fails its CRC and is replayed (R64, R308): the access that needs it is held for some ticks. -/
def gddrLinkCrcFailure (c ticks : Nat) (held : List Nat) (s : State) : State :=
  if 96 ≤ c then s
  else
    let s := ((s.bump Obj.gddrLinkReplays).bump Obj.gddrLinkReplayCount).count Obj.gddrLinkReplayTicks ticks
    let s := (s.event (memBank c) 0x106 1 (some c)).markPerturb held 6
    s.modChannel c fun x => { x with replays := (x.replays.filter fun t => s.gtc ≤ t + 10 ^ 9) ++ [s.gtc] }

/-- A write of RetireChannel (R312). -/
def retireChannel (c : Nat) (s : State) : State := (s.retireReadable c).ok

/-- A channel that fails its training at power-up is retired before job memory is laid out (R313): job memory falls by 4 GiB, and the
cache tier and then the pool are lowered by GiBs until the heap has its minimum. -/
def State.retireAtPowerUp (s : State) (c : Nat) : State :=
  let s := s.setAll [(inst Obj.channelState c, 3), (Obj.channelsInService, s.get Obj.channelsInService - 1),
    (Obj.channelSpareFramesLeft, s.get Obj.channelSpareFramesLeft - ownSpares),
    (Obj.jobMemoryBytes, s.get Obj.jobMemoryBytes - 2 ^ 32)]
  lay 512 s
where
  /-- A GiB less at a time. -/
  lay : Nat → State → State
    | 0, s => s
    | fuel + 1, s =>
      if heapLeft s (s.get Obj.bufferPoolBytes) (s.get Obj.cacheGddrBytes) (s.get Obj.bundleAreaBytes) then s
      else if 2 ^ 30 ≤ s.get Obj.cacheGddrBytes then lay fuel (s.set Obj.cacheGddrBytes (s.get Obj.cacheGddrBytes - 2 ^ 30))
      else lay fuel (s.set Obj.bufferPoolBytes (s.get Obj.bufferPoolBytes - 2 ^ 30))

/-! ## The Buffer Pool Manager -/

/-- The rebuild of the node stack ends, and granting resumes (R64, R322). -/
def freeListRebuildComplete (s : State) : State :=
  if ¬ s.pool.rebuilding then s
  else
    let waiting := (s.pool.waiting.filter fun w => decide (w.holder < 65536)).map BufferWait.holder
    let s := (s.bump Obj.freeListRebuilds).bump Obj.faultRecoveryCount
    let s := (s.count Obj.faultRecoveryTicks (if s.pool.waiting = [] then 0 else s.gtc - s.pool.rebuildSince)).markPerturb waiting 7
    { s with pool := s.pool.rebuild (s.get Obj.poolBuffers) }

/-- The read of the head node's last group, or of the head itself, ends (R321, R322). -/
def refillComplete (nodeOk groupOk : Bool) (s : State) : State :=
  if 256 ≤ s.pool.cache.length ∨ s.pool.rebuilding then s
  else
    let p := s.pool.expose
    match p.nodes with
    | [] => s
    | n :: _ =>
      if ¬ nodeOk then s.poolFault n.self 1
      else if ¬ groupOk ∧ n.groups ≠ [] then s.poolFault n.self 2
      else
        let p := p.refill
        State.set { s with pool := p } Obj.prefetchCacheFill p.cache.length

/-- Is a buffer's state bit 1: it is held, or has been handed out to a request not yet whole (R323)? -/
def State.allocated (s : State) (h : Nat) : Bool :=
  (s.pool.find h).isSome || s.pool.waiting.any fun w => w.got.contains h

/-- A REF_ADD (1) or REF_DROP (2) on a buffer whose state bit is 0 (R324). -/
def State.doubleFree (s : State) (handle requester operation : Nat) (entry : Option Nat) : State :=
  let s := (s.bump Obj.doubleFrees).bump (inst Obj.requesterDoubleFrees requester)
  let s := s.setAll [(Obj.lastDoubleFreeHandle, handle), (Obj.lastDoubleFreeRequester, requester)]
  let f : Fault64 := { cls := 8, tile := 3, reason := 0x7031, unit := requester, requester := requester, operation := operation
                       detail0 := handle }
  match entry.bind s.item with
  | some it =>
    let engine := (it.engine.map fun e => elementDetail e.1 e.2).getD 0
    let s := s.raiseFault { f with action := s.retryAction it, slot := it.slot, ref := it.ref, detail1 := engine }
    (s.stopKernel it).retryItem it false false
  | none => s.raiseFault f

/-- A reference-count operation of a requester on a buffer, issued for an item where it is for one (R323, R324). -/
def bufferReference (add : Bool) (handle requester : Nat) (entry : Option Nat) (s : State) : State :=
  if s.get Obj.poolBuffers ≤ handle ∨ 64 ≤ requester then s
  else if s.allocated handle then if add then s.refAdd handle else s.refDrop handle
  else s.doubleFree handle requester (if add then 1 else 2) entry

/-- A requester asks for buffers that it holds itself (R325). -/
def bufferAllocate (requester count : Nat) (s : State) : State :=
  if 64 ≤ requester ∨ count = 0 then s else s.requestBuffers requester count commandHolder

end Sys2Proof.Machine
end

