-- ==== Sys2Proof/Machine/PersistArea.lean ====
section
/-! DEFINITION. The persistent area of the boot flash: committing a record, compaction, restoring defaults, and what
the objects take at power-up (R515 to R519, R523). -/

namespace Sys2Proof.Machine

/-- The bytes of a block of the persistent area and the number of blocks (R517). -/
def persistBlock : Nat := 65536

/-- The bytes a record takes: its header of 32 bytes and its value padded to a multiple of 16 (R517). -/
def recordBytes (value : Bytes) : Nat := 32 + roundUp value.length 16

/-- The erased space of the area. -/
def Persist.freeBytes (p : Persist) : Nat := p.erased * persistBlock + (persistBlock - p.fill)

/-- A record of `n` bytes is placed, never across a block boundary. -/
def Persist.place (p : Persist) (n : Nat) : Persist :=
  if p.fill + n ≤ persistBlock then { p with fill := p.fill + n }
  else { p with erased := p.erased - 1, fill := n }

/-- Is there room for a record of `n` bytes? -/
def Persist.fits (p : Persist) (n : Nat) : Bool := decide (p.fill + n ≤ persistBlock) || decide (0 < p.erased)

/-- A committed record of a value. -/
def Persist.commit (p : Persist) (k : Nat) (value : Bytes) : Persist :=
  let q := p.place (recordBytes value)
  { q with
    records := p.records ++ [{ seq := p.nextSeq, key := k, value := value, committed := true }]
    nextSeq := p.nextSeq + 1 }

/-- FwState INSTALLING, while which records and compaction wait (R519). -/
def State.installing (s : State) : Bool := s.get Obj.fwState == 3

/-- The oldest pending record is programmed, read back and committed; a program refused three times is counted and
the record given up (R518, R519). -/
def persistCommit (refusals : Nat) (s : State) : State :=
  if s.installing then s
  else match s.persist.pending with
    | [] => s
    | (k, value, _) :: rest =>
      if !s.persist.fits (recordBytes value) then s
      else if 3 ≤ refusals then
        { s with persist := { s.persist with pending := rest } }.countW 32 Obj.persistErrors 1
      else { s with persist := { s.persist.commit k value with pending := rest } }

/-- The default of an object as bytes. -/
def defaultBytes (k : Nat) : Bytes :=
  match (findRow k).bind fun r => r.ty.size with
  | some n => leBytes n (defaultOf k)
  | none => []

/-- The keys with a committed record, each once. -/
def Persist.keys (p : Persist) : List Nat := ((p.records.filter (·.committed)).map (·.key)).eraseDups

/-- Compaction (R519): the committed record of every object whose value differs from its default is copied under a
new SEQ, and the blocks of superseded records are erased. -/
def persistCompaction (refusals : Nat) (s : State) : State :=
  if s.installing || decide (131072 ≤ s.persist.freeBytes) then s
  else if 3 ≤ refusals then s.countW 32 Obj.persistErrors 1
  else
    let p := s.persist
    let keep := p.keys.filter fun k =>
      (findRow k).isSome && (committedValue p k).isSome && committedValue p k != some (defaultBytes k)
    let empty : Persist := { p with records := [], erased := 239, fill := 0 }
    let q := keep.foldl (fun q k => q.commit k ((committedValue p k).getD [])) empty
    { s with persist := q }.countW 32 Obj.persistCompactions 1

/-- The effect of PersistCommand 1 (R523). -/
def restoreDefaults (s : State) : State :=
  if s.get Obj.powerState = 2 then s.refused 0
  else if !s.allEmpty then s.refused 0x801A
  else
    let p := s.persist
    let kept := p.records.filter fun r => r.key == Obj.revokedUids
    let empty : Persist := { p with
      records := [], erased := 239, fill := 0, pending := p.pending.filter fun e => e.1 == Obj.revokedUids }
    let q := kept.foldl (fun q r => { q.place (recordBytes r.value) with records := q.records ++ [r] }) empty
    { s with persist := q }.ok

/-! ## Power-up -/

/-- The bytes of the header of a record and its padded value, over which RECORD_CRC is taken (R517). -/
def PersistRecord.covered (r : PersistRecord) : Bytes :=
  let ty := ((findRow r.key).map fun x => x.ty.code).getD 0
  bytesOf [0x5A, 0x50, 0x52, 0x31] ++ leBytes 4 r.seq ++ leBytes 2 (keyIndex r.key) ++ leBytes 1 (keySub r.key) ++
    leBytes 1 ty ++ leBytes 2 r.value.length ++ zeros 2 ++ padTo (roundUp r.value.length 16) r.value

/-- The 32-byte header and padded value of a record as it stands in the boot flash (R517). -/
def PersistRecord.encode (r : PersistRecord) : Bytes :=
  r.covered.take 16 ++ leBytes 4 (crc32c r.covered) ++ zeros 8 ++
    (if r.committed then zeros 4 else bytesOf [0xFF, 0xFF, 0xFF, 0xFF]) ++ r.covered.drop 16

/-- The committed record with the highest SEQ of an object. -/
def chosenRecord (p : Persist) (k : Nat) : Option PersistRecord :=
  p.records.foldl (fun best r =>
    if r.key == k && r.committed then
      (match best with
      | some b => if b.seq < r.seq then some r else best
      | none => some r)
    else best) none

/-- An object takes the value of its committed record; a damaged or unfit record leaves the default and is counted
(R518). -/
def restoreObject (s : State) (k : Nat) : State :=
  match chosenRecord s.persist k, findRow k with
  | some r, some row =>
    let bad := s.countW 32 Obj.persistErrors 1
    if r.damaged then bad
    else match row.ty.size with
      | some n =>
        if r.value.length = n ∧ row.inRange (leNat r.value) then s.set k (leNat r.value) else bad
      | none => if r.value.length ≤ row.ty.maxBytes then s.setBlob k r.value else bad
  | _, _ => s

/-- The rules between persistent objects: what must hold, and the objects that take their defaults otherwise (R518). -/
def crossRules (s : State) : List (Bool × List Nat) :=
  let own (k : Nat) := relationOk s k (s.get k)
  [(decide (reserveSum s 64 0 ≤ s.get Obj.poolBuffers) &&
      (List.range 64).all (fun r => decide (s.get (inst Obj.requesterReserve r) ≤ s.get (inst Obj.requesterQuota r))),
    (List.range 64).flatMap fun r => [inst Obj.requesterReserve r, inst Obj.requesterQuota r]),
   (own Obj.bufferPoolBytes && own Obj.shoeSpaceBytes,
    [Obj.bufferPoolBytes, Obj.cacheGddrBytes, Obj.bundleAreaBytes, Obj.shoeSpaceBytes]),
   (own Obj.cachePinMaxBytes, [Obj.cachePinMaxBytes, Obj.cacheGddrBytes]),
   (own Obj.cacheFlashBytes, [Obj.cacheFlashBytes]),
   (own Obj.gcUrgentFreeBands, [Obj.gcUrgentFreeBands, Obj.gcStartFreeBands]),
   (own Obj.pfcDataPriority, [Obj.pfcDataPriority, Obj.pfcControlPriority]),
   (own Obj.pfcXoffBytes && own Obj.pfcXonBytes, [Obj.pfcXoffBytes, Obj.pfcXonBytes]),
   (own Obj.floorSlackPs, [Obj.floorSlackPs, Obj.targetSlackPs]),
   (own Obj.handshakePort, [Obj.handshakePort]),
   (own Obj.retainSramMv, [Obj.retainSramMv])]

/-- Every object of a broken rule takes its default, counted once (R518). -/
def applyRule (s : State) (rule : Bool × List Nat) : State :=
  if rule.1 then s else (rule.2.foldl (fun t k => t.set k (defaultOf k)) s).countW 32 Obj.persistErrors 1

/-- The persistent objects take their committed values at power-up (R515, R518). -/
def restorePersistent (s : State) : State :=
  let s := s.persist.keys.foldl restoreObject s
  (crossRules s).foldl applyRule s

/-! ## Meanings -/

def execPersistCommit (refusals : Nat) (s : State) : Host.Outcome State Fault Refusal :=
  .next (persistCommit refusals s)

def execPersistCompaction (refusals : Nat) (s : State) : Host.Outcome State Fault Refusal :=
  .next (persistCompaction refusals s)

def execRestoreDefaults (s : State) : Host.Outcome State Fault Refusal :=
  .next (writeCommand Obj.persistCommand 1 restoreDefaults s)

end Sys2Proof.Machine
end

