-- ==== Sys2Proof/Machine/Repair.lean ====
section
/-! DEFINITION. The islands and arrays under self-test, what a failure in them costs, the spare rows of the SRAM banks, the repair map
and its fuses (R537, R541 to R547). -/

namespace Sys2Proof.Machine

/-! ## Islands and arrays -/

/-- The islands of logic BIST, by their domain numbers (R537). -/
def testIslands : List Nat := [1, 2, 3, 4, 5, 6, 7, 8, 10, 13, 14, 15, 17]

/-- The core rail of an island (R559). -/
def islandRail (d : Nat) : Nat :=
  if d ≤ 3 then 0 else if d ≤ 7 then 1 else if d ≤ 10 then 2 else if d ≤ 14 then 3 else 4

/-- The clock period of an island in picoseconds, to the picosecond below (R58, R549). -/
def islandPeriodPs (d : Nat) : Nat :=
  match d with
  | 2 => 666
  | 3 => 625
  | 5 => 625
  | 7 => 625
  | 8 => 800
  | 10 => 800
  | 15 => 1000
  | _ => 833

/-- The arrays of the march tests (R543). -/
def marchArrays : List Nat := [0, 1, 2, 3, 4] ++ List.range' 16 68

/-- The banks of an array and the words of a bank (R314). -/
def arrayBanks (a : Nat) : Nat :=
  match a with
  | 0 => 1024
  | 1 => 512
  | 2 => 512
  | 3 => 384
  | 4 => 256
  | _ => 16

def arrayBankWords (a : Nat) : Nat := if a = 0 then 1536 else 1024

/-! ## Spare rows -/

/-- The spare rows of a bank in use. -/
def State.bankSpares (s : State) (array bank : Nat) : List Nat :=
  (s.repair.rows.filter fun r => r.1 == array && r.2.1 == bank).map fun r => r.2.2.2

/-- The repair entry of a row (R545). -/
def rowEntry (array bank row spare : Nat) : Nat := 2 ^ 28 + array * 2 ^ 21 + bank * 2 ^ 11 + row * 2 ^ 2 + spare

/-- A row is remapped to a spare (R544), and the fewest spares left in a bank of its array are shown (R553). -/
def State.remapRow (s : State) (array bank row spare : Nat) : State :=
  let s : State := { s with repair := { s.repair with rows := s.repair.rows ++ [(array, bank, row, spare)] } }
  let k := inst Obj.marchSpareRowsMin array
  s.set k (min (s.get k) (4 - (s.bankSpares array bank).length))

/-- A device failure is noted where it outlives the power (R542). -/
def State.noteDeviceFailure (s : State) (what : Nat) : State :=
  let s := s.set Obj.lbistLastFailIsland what
  { s with persist := s.persist.commit Obj.lbistLastFailIsland (leBytes 1 what) }

/-- A permanent fault of an element that a test finds (R541): it is retired, and the fault recorded. -/
def State.elementFails (s : State) (kind num : Nat) : State :=
  let (action, s) := s.retireElement kind num
  if action = 0 then s
  else
    (s.raiseFault
      { cls := 1, tile := elementTile kind num, reason := 0x7001, unit := elementUnit kind num, action := action
        detail0 := elementDetail kind num, detail1 := 0xFF }).lastElement kind num action

/-- A row is found bad (R543, R544): the lowest free spare of its bank takes its place; with none left a Pier is retired for its
scratchpad, and any other array is a device failure, whose value for LbistLastFailIsland comes with the state, or 0. -/
def State.badRow (s : State) (array bank row : Nat) : Nat × State :=
  if ¬ marchArrays.contains array ∨ arrayBanks array ≤ bank ∨ arrayBankWords array ≤ 4 * row then (0, s)
  else
    let s := s.countW 32 (inst Obj.marchBadRows array) 1
    let spare := leastFree 4 (s.bankSpares array bank)
    if spare < 4 then (0, (s.remapRow array bank row spare).journalRepair (rowEntry array bank row spare))
    else if 16 ≤ array then (0, s.elementFails 8 (array - 16))
    else (0x80 + array, s)

/-- Bad rows, in order, up to the first device failure. -/
def badRows : List (Nat × Nat × Nat) → State → Nat × State
  | [], s => (0, s)
  | (a, b, r) :: l, s =>
    let (failure, s) := s.badRow a b r
    if failure = 0 then badRows l s else (failure, s)

/-! ## Failing partitions -/

/-- The element of a partition of an island of engines or Piers (R537, R435). -/
def partitionElement (d p : Nat) : Option (Nat × Nat) :=
  if d = 2 then some (8, p)
  else
    let tile := if d = 6 then 64 else 0
    if p < 18 then some (1, tile + p)
    else if p < 28 then some (2, tile + (p - 18))
    else if p < 32 then some (3, tile + (p - 28))
    else if p < 34 then some (5, tile + (p - 32))
    else if p < 38 then some (4, tile + (p - 34))
    else none

/-- The failing row and column slices of the Trestle (R541): where both fail, the rows are retired, and the columns instead once no
spare row is left; slices of one kind alone are retired. -/
def State.trestleSlices (s : State) (rows cols : List Nat) : State :=
  let retire (kind : Nat) (t : State) (n : Nat) : State := (t.retireElement kind n).2
  if rows = [] ∨ cols = [] then cols.foldl (retire 7) (rows.foldl (retire 6) s)
  else
    let spare := (s.sparesFor 6 (rows.headD 0)).length
    if spare = 0 then cols.foldl (retire 7) s
    else if rows.length ≤ spare then rows.foldl (retire 6) s
    else cols.foldl (retire 7) ((rows.take spare).foldl (retire 6) s)

/-- The failing partitions of an island are repaired (R541). At start-up a stack controller's channels are retired before job memory is
laid out (R313). A persistent failure of the shared partition is left to the caller. -/
def State.failIsland (s : State) (d : Nat) (failing : List Nat) (startup : Bool) : State :=
  let parts := failing.filter fun p => p + 1 < islandPartitions d
  if d = 1 then s.trestleSlices (parts.filter (· < 264)) ((parts.filter (264 ≤ ·)).map (· - 264))
  else if d = 8 ∨ d = 10 then
    let stack (p : Nat) : Nat := (if d = 8 then 0 else 6) + p
    let channels := parts.flatMap fun p => List.range' (8 * stack p) 8
    channels.foldl
      (fun (t : State) c =>
        if ¬ startup then t.retireReadable c
        else if t.channelState c = 3 then t
        else (t.retireAtPowerUp c).journalRepair (4 * 2 ^ 28 + c)) s
  else
    parts.foldl
      (fun (t : State) p => match partitionElement d p with
        | some (kind, num) => t.elementFails kind num
        | none => t) s

/-! ## The repair map -/

/-- An entry of the map is applied softly at power-up; one that names a spare or an element already used is skipped (R546). -/
def State.applyEntry (s : State) (seen : List Nat) (e : Nat) : State :=
  let conflict := s.countW 32 Obj.repairConflicts 1
  let applied (t : State) : State := t.countW 32 Obj.softRepairs 1
  match bits e 28 4 with
  | 1 =>
    let array := bits e 21 7
    let bank := bits e 11 10
    if (s.bankSpares array bank).contains (bits e 0 2) then conflict
    else applied (s.remapRow array bank (bits e 2 9) (bits e 0 2))
  | 2 =>
    let kind := bits e 24 4
    let num := bits e 0 16
    if (s.element kind num).any fun x => !x.inService then conflict
    else
      let unused := !((s.element kind num).any (·.spare)) && (spareNumbers kind num).contains num
      let spare := (s.sparesFor kind num).find? (· != num)
      let s := s.putElement { kind := kind, num := num, inService := false }
      let s := match spare with
        | some n => if unused ∨ kind = 8 then s else s.putElement { kind := kind, num := n, spare := true }
        | none => if unused ∨ (kind ≠ 6 ∧ kind ≠ 7) then s else s.set Obj.trestleState 1
      applied s
  | 3 => if seen.contains e then conflict else applied (s.set Obj.rowRepairFramesLeft (s.get Obj.rowRepairFramesLeft - 1))
  | 4 => if s.channelState (bits e 0 7) = 3 then conflict else applied (s.retireAtPowerUp (bits e 0 7))
  | _ => s

/-- Entries in order. -/
def applyEntries : List Nat → List Nat → State → State
  | [], _, s => s
  | e :: l, seen, s => applyEntries l (e :: seen) (s.applyEntry seen e)

/-- The repair map at power-up (R546): the fused entries whose check holds, then the journal. -/
def State.applyRepairMap (s : State) : State :=
  applyEntries (((s.repair.fuses.filter (·.2)).map (·.1)) ++ s.repair.journal) [] s

/-- RepairFuseEntries (R554). -/
def fuseEntries : Nat := 2048

/-- Burn the journal into the next free fuse entries, at most `fuel` of them (R547); each entry of the list says whether a fuse entry reads back
as burned, beyond its end all do. -/
def burnFuses : Nat → List Bool → State → State
  | 0, _, s => s
  | fuel + 1, reads, s =>
    match s.repair.journal with
    | [] => s
    | e :: rest =>
      if fuseEntries ≤ s.repair.fuses.length then s
      else
        let good := reads.headD true
        let r : Repair := { s.repair with
          fuses := s.repair.fuses ++ [(e, good)], journal := if good then rest else s.repair.journal }
        let s : State := { s with repair := r }
        burnFuses fuel reads.tail (if good then s else s.countW 32 Obj.fuseBurnFailures 1)

end Sys2Proof.Machine
end

