-- ==== Sys2Proof/Machine/Boot.lean ====
section
/-! DEFINITION. The Keystone: resets, the image checks, the boot sequence, the identity of a boot, ROM recovery, quotes, firmware update
and revocation (R460 to R485, R548). -/

namespace Sys2Proof.Machine

/-! ## Resets -/

/-- Is the store mounted (R364)? -/
def State.mounted (s : State) : Bool := s.storeReady

/-- The flash store as a power loss without a flush leaves it: its last durable commits, over blocks as worn as they are now (R343,
R360). -/
def State.storeLoss (s : State) : State :=
  let d := s.durableStore
  if s.mounted then
    s.modStore fun t => { d with
      erases := t.erases, bad := t.bad, retired := t.retired, nextSeq := t.nextSeq, unclean := true }
  else s

/-- The store as a reset finds it: what only the controller held is gone, and times count from the new GTC. -/
def Store.afterReset (t : Store) : Store :=
  { t with
    reads := [], failed := [], waiting := [], segments := [], hand := 0, campaign := none, patrol := none, lastPatrol := 0
    thresholds := [], journalSince := 0, savedTick := 0, gateTick := none }

/-- The flash tier's segments whose object the store still holds. -/
def State.keptSegments (s : State) : Cache :=
  { segments := s.cache.segments.filter fun g => s.store.objects.any fun o => o.object == g.object
    nextSegment := s.cache.nextSegment }

/-- The registers kept through a reset, with those that the fuses give again (R460, R465). -/
def keptThroughReset : List Nat := [Obj.fuseSecurityVersion, Obj.rootKeyRevoked, Obj.bindingCount, Obj.bootFailStreak]

/-- Every island is reset (R463, R477, R564): what the flash, the boot flash and the fuses hold stays, and the rest starts afresh. The cause
goes to BootCause. -/
def State.restart (s : State) (cause : Nat) : State :=
  let t : State := { State.reset with
    pending := s.pending, freeCount := s.freeCount, answer := s.answer, sent := s.sent
    persist := { s.persist with pending := [] }
    lanesUsed := s.lanesUsed
    repair := { s.repair with rows := [] }
    store := s.store.afterReset
    durableStore := s.durableStore.afterReset
    cache := s.keptSegments
    boot := { slot := s.boot.slot } }
  (t.setAll (keptThroughReset.map fun k => (k, s.get k))).set Obj.bootCause cause

/-- The reset of REBOOT and of a device failure (R477, R542): a mounted store is flushed first (R564). -/
def State.reboot (s : State) : State :=
  let s := if s.mounted then s.powerFailFlush else s
  (s.switchBank true false).restart 2

/-! ## Images -/

/-- The bytes of the header block, and its MAGIC (R462). -/
def headerBytes : Nat := 16384
def imageMagic : Bytes := bytesOf [0x5A, 0x46, 0x57, 0x31]

/-- The body of an image, by BODY_LENGTH. -/
def imageBody (b : Bytes) : Bytes := slice headerBytes (field b 0x10 4) b

/-- The header block and the body: what FwImageDigest covers, and what is staged. -/
def fwWhole (b : Bytes) : Bytes := padTo headerBytes b ++ imageBody b

/-- The used section entries of an image: TARGET, reserved bytes, OFFSET and LENGTH. -/
def imageSections (b : Bytes) : List (Nat × Nat × Nat × Nat) :=
  (List.range 16).map fun i =>
    let e := slice (0x38 + 12 * i) 12 b
    (byteAt e 0, field e 1 3, field e 4 4, field e 8 4)

/-- Do two ranges meet? -/
def rangesMeet (a la b lb : Nat) : Bool := decide (a < b + lb ∧ b < a + la)

/-- Are no two entries of a list in a relation? -/
def noPair {α : Type} (p : α → α → Bool) : List α → Bool
  | [] => true
  | a :: l => l.all (fun b => !p a b) && noPair p l

/-- Check 1 of R464. -/
def imageFormat (b : Bytes) : Bool :=
  let n := field b 0x14 2
  let body := field b 0x10 4
  let used := (imageSections b).take n
  b.take 4 == imageMagic && field b 4 2 == 1 && field b 0xFC 4 == crc32c (padTo 0xFC b) &&
    decide (byteAt b 6 ≤ 3) && decide (0 < byteAt b 7 ∧ byteAt b 7 < 8) && decide (field b 0x0E 2 ≤ 64) &&
    decide (4096 ≤ body ∧ body ≤ 50315264) && decide (1 ≤ n ∧ n ≤ 16) && field b 0x16 2 == 0 && field b 0xF8 4 == 0 &&
    used.all (fun e => decide (1 ≤ e.1 ∧ e.1 ≤ 5) && e.2.1 == 0 && decide (1 ≤ e.2.2.2 ∧ e.2.2.1 + e.2.2.2 ≤ body)) &&
    ((imageSections b).drop n).all (fun e => e == (0, 0, 0, 0)) &&
    noPair (fun x y => rangesMeet x.2.2.1 x.2.2.2 y.2.2.1 y.2.2.2) used &&
    allZero (slice (0x100 + 9893) (headerBytes - 0x100 - 9893) b)

/-- Check 2 of R464. -/
def imageDigestOk (b : Bytes) : Bool :=
  decide ((imageBody b).length = field b 0x10 4) && slice 0x18 32 b == digest (imageBody b)

/-- Checks 3 to 6 of R464, in order. -/
def State.imageAllowed (s : State) (b : Bytes) : Nat :=
  let slot := byteAt b 6
  if ¬ Config.vendorVerifies slot (b.take 256) (slice 0x100 9893 b) then 3
  else if bit (s.get Obj.rootKeyRevoked) slot then 4
  else if field b 0x0E 2 < s.get Obj.fuseSecurityVersion then 5
  else if ¬ bit (byteAt b 7) (s.get Obj.stepping) then 6
  else 0

/-- R464 over a whole image. -/
def State.imageResult (s : State) (b : Bytes) : Nat :=
  if ¬ imageFormat b then 1 else if ¬ imageDigestOk b then 2 else s.imageAllowed b

/-- The checks of step 3 of R463, which leave the digest to step 4. -/
def State.headerResult (s : State) (b : Bytes) : Nat := if ¬ imageFormat b then 1 else s.imageAllowed b

/-- FwImageDigest of an image. -/
def imageDigest (b : Bytes) : Nat := digestNat (fwWhole b)

/-- What the image slot holds. -/
def State.slotImage (s : State) : Bytes := s.boot.slot.getD Config.factoryImage

/-! ## The boot sequence -/

/-- Is the boot flash fit for use (R461)? -/
def flashUsable (f : BootFlash) : Bool := f.sfdp && decide (67108864 ≤ f.bytes) && f.fourByte && decide (0 < f.counters)

/-- BootState changes, with the BOOT event (R481, R505). -/
def State.setBootState (s : State) (v : Nat) : State := (s.set Obj.bootState v).postBoot

/-- The Keystone's machinery changes. -/
def State.modBoot (s : State) (f : Boot → Boot) : State := { s with boot := f s.boot }

/-- The bus takes the persisted data rate (R488). -/
def State.takeBusRate (s : State) : State :=
  let s := restoreObject s Obj.busDataRate
  { s with bus := { s.bus with rate := s.get Obj.busDataRate } }

/-- ROM recovery begins with a result (R466): port 0 alone is tried. -/
def State.enterRecovery (s : State) (result : Nat) : State :=
  let s := s.modBoot fun b => { b with
    released := none, attemptSince := none, beacons := 0, phy := 0, phySince := s.gtc, transfer := none }
  let s := s.setAll [(Obj.recoveryFault, result), (inst Obj.portState 0, 1)]
  s.takeBusRate.setBootState 1

/-- Step 2 of R463 for the boot flash, and step 3: a fault leads to recovery. -/
def State.bootFrom (s : State) (f : BootFlash) : State :=
  let s := if f.sfdp then s.set Obj.bootFlashBytes f.bytes else s
  let s := s.set Obj.bootFlashId (f.id % 2 ^ 24)
  if ¬ flashUsable f then s.enterRecovery 11
  else if s.headerResult s.slotImage ≠ 0 then s.enterRecovery (s.headerResult s.slotImage)
  else
    let s := if s.get Obj.bootState = 1 then (s.set (inst Obj.portState 0) 0).setPort 0 {} else s
    s.setBootState 2

/-- RESET_RELEASE (R463, R563). -/
def resetRelease (f : BootFlash) (s : State) : State :=
  if s.get Obj.bootState = 0 ∧ s.power.pwrgd ∧ s.power.failN ∧ ¬ s.power.halted then s.bootFrom f else s

/-- The measurement registers of a boot (R475). -/
def State.measureBoot (s : State) (image : Bytes) : State :=
  let m2 := digestNat (leBytes 1 (s.get Obj.fuseSecurityVersion) ++ leBytes 1 (s.get Obj.rootKeyRevoked) ++
    leBytes 1 (s.get Obj.bindingCount))
  s.setAll ([(Obj.measurement, Config.bootRomDigest), (Obj.measurement + 1, imageDigest image), (Obj.measurement + 2, m2)] ++
    (List.range' 3 5).map fun i => (Obj.measurement + i, 0))

/-- Job memory and the pool follow their sizes at power-up (R307, R320). -/
def State.layMemory (s : State) : State :=
  let n := s.get Obj.bufferPoolBytes / 32768
  let s := s.setAll [(Obj.poolBuffers, n), (Obj.freeBuffers, n), (Obj.prefetchCacheFill, 512)]
  State.layHeap { s with pool := buildPool n }

/-- The digest of the body has been compared: the measurements are set, the objects take their values, and the HUB is released (R463
steps 4 to 6). The first capacitance measurement begins (R563). -/
def bootBodyRead (s : State) : State :=
  if s.get Obj.bootState ≠ 2 ∨ s.boot.released.isSome then s
  else
    let b := s.slotImage
    if ¬ imageDigestOk b then s.enterRecovery 2
    else
      let s := s.setAll [(Obj.fwVersionMajor, field b 8 2), (Obj.fwVersionMinor, field b 0x0A 2),
        (Obj.fwVersionPatch, field b 0x0C 2), (Obj.fwSecurityVersion, field b 0x0E 2), (Obj.fwImageDigest, imageDigest b),
        (Obj.rootKeySlot, byteAt b 6)]
      let s := (restorePersistent (s.measureBoot b)).takeBusRate.layMemory
      (s.modBoot fun x => { x with released := some s.gtc }).startMeasurement

/-! ## Start-up tests -/

/-- The steps of R548 with what they find. -/
def State.startUp (s : State) (u : StartUp) : State :=
  let s := s.applyRepairMap
  let rails := (List.range 8).map fun r => (r, s.get (inst Obj.railPlannedMv r))
  let s : State := { s with power := { s.power with rails := rails } }
  let lbist := bit (s.get Obj.startupSelftest) 0
  let march := bit (s.get Obj.startupSelftest) 1
  let parts (d : Nat) : List Nat := if lbist then ((u.partitions.filter fun p => p.1 == d).map (·.2)).eraseDups else []
  let shared := testIslands.find? fun d => (parts d).contains (islandPartitions d - 1)
  let s := if lbist then
      testIslands.foldl (fun (t : State) d => t.setAll [(inst Obj.lbistFailedPartitions (d - 1), (parts d).length),
        (inst Obj.lbistLastTick (d - 1), s.gtc)]) s
    else s
  let s := testIslands.foldl (fun (t : State) d => t.failIsland d (parts d) true) s
  match shared with
  | some d => (s.noteDeviceFailure d).modBoot fun b => { b with dead := true }
  | none =>
    let s := if march then marchArrays.foldl (fun (t : State) a => t.set (inst Obj.marchLastTick a) s.gtc) s else s
    let (failure, s) := if march then badRows u.rows s else (0, s)
    if failure ≠ 0 then (s.noteDeviceFailure failure).modBoot fun b => { b with dead := true }
    else
      let s := if s.get Obj.fuseBurnEnable = 1 then burnFuses fuseEntries u.fuses s else s
      let bad := u.channels.filter fun c => c < 96 && s.channelState c != 3
      let s := bad.eraseDups.foldl (fun (t : State) c => (t.retireAtPowerUp c).journalRepair (4 * 2 ^ 28 + c)) s
      let s := ((List.range 96).filter fun c => s.channelState c != 3).foldl
        (fun (t : State) c => t.set (inst Obj.channelLastTrainTick c) s.gtc) s
      s.layMemory

/-! ## The identity -/

/-- The indices of a binding (R468). -/
def bindingIndexes : Nat := 2 ^ 32 - 1

/-- The indices that the bindings after the present one still give (R469). -/
def State.laterIndexes (s : State) : Nat := (16 - s.get Obj.bindingCount) * bindingIndexes

/-- The identity certificate (R471). -/
def identityCertificate : Bytes :=
  let head := ascii ['Z', 'I', 'C', '1'] ++ leBytes 2 1 ++ leBytes 1 Config.certificateSlot ++ leBytes 1 (defaultOf Obj.stepping) ++
    leBytes 16 myUid ++ leBytes 68 Config.identityPublicKey ++ leBytes 8 Config.manufactureSeconds ++ zeros 12
  head ++ padTo 9893 Config.certificateSignature

/-- The boot certificate of a boot (R472). -/
def State.bootCertificate (s : State) (index draw : Nat) : Bytes :=
  let head := ascii ['Z', 'B', 'C', '1'] ++ leBytes 2 1 ++ zeros 2 ++ leBytes 16 myUid ++ leBytes 8 index ++
    padTo 68 (Config.bootPublic draw) ++ zeros 4 ++ leBytes 32 (s.get Obj.fwImageDigest) ++
    leBytes 2 (s.get Obj.fwVersionMajor) ++ leBytes 2 (s.get Obj.fwVersionMinor) ++ leBytes 2 (s.get Obj.fwVersionPatch) ++
    leBytes 2 (s.get Obj.fwSecurityVersion) ++ leBytes 1 (s.get Obj.fuseSecurityVersion) ++
    leBytes 1 (s.get Obj.rootKeyRevoked) ++ zeros 6
  head ++ padTo 9893 (Config.identitySign index head)

/-- The KEM statement of a boot (R473). -/
def kemStatement (index draw kemDraw : Nat) : Bytes :=
  let head := ascii ['Z', 'K', 'C', '1'] ++ leBytes 2 1 ++ zeros 2 ++ leBytes 16 myUid ++ leBytes 8 index ++
    padTo 1568 (Config.kemPublic kemDraw)
  head ++ padTo 2692 (Config.bootSign draw 0 head)

/-- The identity steps succeed with counter value `c`: keys are drawn, and the boot certificate and the KEM statement signed (R469 steps
4 to 7). -/
def State.certify (s : State) (c : Nat) : State :=
  let index := (s.get Obj.bindingCount - 1) * 2 ^ 32 + c
  let draw := s.free
  let kem := s.useFree.free
  let s := s.useFree.useFree
  let cert := s.bootCertificate index draw
  let s := s.modBoot fun b => { b with keyDraw := draw, nextIndex := 1 }
  let s : State := { s with kemKey := kem }
  let s := s.setAll [(Obj.identityState, 1), (Obj.identityIndex, index),
    (Obj.identityIndexesLeft, bindingIndexes - 1 - c + s.laterIndexes), (Obj.bootKeyIndexesLeft, 65535)]
  ((s.setBlob Obj.identityCertificate identityCertificate).setBlob Obj.bootCertificate cert).setBlob Obj.kemCredential
    (kemStatement index draw kem ++ cert ++ identityCertificate)

/-- R469. -/
def State.identitySteps (s : State) (r : CounterRun) : State :=
  match r.value with
  | none => s.setAll [(Obj.identityState, 2), (Obj.identityIndexesLeft, s.laterIndexes)]
  | some c =>
    if bindingIndexes ≤ c then
      s.setAll [(Obj.identityState, if s.get Obj.bindingCount < 16 then 5 else 4), (Obj.identityIndexesLeft, s.laterIndexes)]
    else if ¬ r.advanced then
      s.setAll [(Obj.identityState, 3), (Obj.identityIndexesLeft, bindingIndexes - 1 - c + s.laterIndexes)]
    else s.certify c

/-- The HUB reports itself alive after steps 7 to 9 of R463; a device failure keeps it from doing so (R465, R542). -/
def hubAlive (u : StartUp) (r : CounterRun) (s : State) : State :=
  if s.get Obj.bootState ≠ 2 ∨ s.boot.released.isNone ∨ s.boot.dead ∨ s.power.measuring.isSome then s
  else
    let s := s.startUp u
    if s.boot.dead then s
    else
      let s := ((s.identitySteps r).beginMount).layPorts
      let s := (s.modBoot fun b => { b with released := none }).set Obj.bootFailStreak 0
      s.setBootState 3

/-- The boot watchdog expires (R465). -/
def watchdogExpiry (f : BootFlash) (s : State) : State :=
  match s.boot.released with
  | none => s
  | some t =>
    if s.gtc < t + 60000000000 then s
    else
      let streak := min 3 (s.get Obj.bootFailStreak + 1)
      let s := ((s.stopMeasurement true).restart 3).set Obj.bootFailStreak streak
      if 3 ≤ streak then s.enterRecovery 12 else s.bootFrom f

/-! ## Recovery -/

/-- Is a transfer under way, on the network or on the bus, or an image being checked or written (R466)? -/
def State.recoveryBusy (s : State) : Bool :=
  s.boot.transfer.isSome || s.get Obj.fwState == 1 || s.get Obj.fwState == 3 ||
    s.bus.transfers.any fun t => t.key == Obj.fwImage

/-- The ticks of an attempt: its BEACONs and its wait (R466). -/
def attemptTicks (n : Nat) : Nat := 10 * giga + min (2 ^ (n - 1)) 64 * giga

/-- A recovery attempt begins (R466): a usable image boots. -/
def recoveryAttempt (f : BootFlash) (s : State) : State :=
  let n := s.get Obj.recoveryAttempts
  if s.get Obj.bootState ≠ 1 ∨ s.recoveryBusy ∨ ¬ s.boot.attemptSince.all (fun t => t + attemptTicks (min n 7) ≤ s.gtc) then s
  else
    let s := s.countW 32 Obj.recoveryAttempts 1
    let s := if f.sfdp then s.set Obj.bootFlashBytes f.bytes else s
    let s := s.set Obj.bootFlashId (f.id % 2 ^ 24)
    let result := if ¬ flashUsable f then 11 else s.imageResult s.slotImage
    if result = 0 then s.bootFrom f
    else (s.set Obj.recoveryFault result).modBoot fun b => { b with attemptSince := some s.gtc, beacons := 0 }

/-- The UDP port of recovery, and ff02::1, its first byte in transmission order lowest. -/
def recoveryPort : Nat := 4794
def allNodes : Nat := leNat (bytesOf [0xFF, 0x02] ++ zeros 13 ++ bytesOf [1])

/-- A recovery datagram goes out on port 0, where its link is up (R467). -/
def State.sendRecovery (s : State) (address type offset : Nat) (body : Bytes) : State :=
  if s.get (inst Obj.portState 0) < 2 then s
  else s.send (.udp address recoveryPort (ascii ['Z', 'R', 'C', '1'] ++ leBytes 1 type ++ zeros 3 ++
    leBytes 4 (s.get Obj.recoveryAttempts) ++ leBytes 4 offset ++ body))

/-- A BEACON is due (R466): the first with the attempt, then one every 10^9 ticks, ten in all. -/
def beacon (s : State) : State :=
  match s.boot.attemptSince with
  | none => s
  | some t =>
    if s.get Obj.bootState ≠ 1 ∨ s.recoveryBusy ∨ 10 ≤ s.boot.beacons ∨ s.gtc < t + s.boot.beacons * giga then s
    else
      (s.sendRecovery allNodes 1 0 (leBytes 16 myUid ++ leBytes 1 (s.get Obj.recoveryFault) ++
        leBytes 1 (s.get Obj.fuseSecurityVersion) ++ leBytes 1 (s.get Obj.stepping) ++ zeros 1)).modBoot
        fun b => { b with beacons := b.beacons + 1 }

/-- Port 0 tries the next PHY type (R466). -/
def recoveryLinkTry (s : State) : State :=
  if s.get Obj.bootState ≠ 1 ∨ 2 ≤ s.get (inst Obj.portState 0) ∨ s.gtc < s.boot.phySince + 5 * giga then s
  else s.modBoot fun b => { b with phy := (b.phy + 1) % 3, phySince := s.gtc }

/-- An OFFER (R467). -/
def recoveryOffer (server length digest : Nat) (s : State) : State :=
  if s.get Obj.bootState ≠ 1 ∨ s.get (inst Obj.portState 0) < 2 ∨ s.recoveryBusy ∨ length < 20480 ∨ 50331648 < length then s
  else s.modBoot fun b => { b with transfer := some { server := server, length := length, digest := digest, last := s.gtc } }

/-- The contiguous bytes that pieces cover from some point on, after at most `fuel` turns. -/
def coverFrom : Nat → List (Nat × Bytes) → Nat → Nat
  | 0, _, n => n
  | fuel + 1, l, n =>
    let m := l.foldl (fun m p => if p.1 ≤ n then max m (p.1 + p.2.length) else m) n
    if m = n then n else coverFrom fuel l m

/-- The contiguous count of a transfer (R467). -/
def RecoveryTransfer.count (t : RecoveryTransfer) : Nat := coverFrom (t.pieces.length + 1) t.pieces 0

/-- The image received. -/
def RecoveryTransfer.image (t : RecoveryTransfer) : Bytes :=
  t.pieces.foldl (fun b p => overwrite b p.1 p.2) (zeros t.length)

/-- An image that has arrived by the network is judged, and written where it passes (R466, R467). -/
def State.recoveredImage (s : State) (t : RecoveryTransfer) : State :=
  let b := t.image
  let result := if imageDigest b = t.digest then s.imageResult b else 2
  let s := s.sendRecovery t.server 5 0 (leBytes 1 result ++ zeros 3)
  let s := s.modBoot fun x => { x with transfer := none }
  if result = 0 then
    (s.modBoot fun x => { x with staged := some (fwWhole b), slot := some [] }).setAll
      [(Obj.fwState, 3), (Obj.fwInstallProgress, 0)]
  else s.set Obj.recoveryFault result

/-- DATA (R467): placed, acknowledged at every sixteenth, and the completed image taken. -/
def recoveryData (server offset : Nat) (data : Bytes) (s : State) : State :=
  match s.boot.transfer with
  | none => s
  | some t =>
    if s.get Obj.bootState ≠ 1 ∨ server ≠ t.server ∨ data.length = 0 ∨ 4096 < data.length ∨ t.length < offset + data.length then s
    else
      let t := { t with pieces := t.pieces ++ [(offset, data)], unacked := t.unacked + 1, last := s.gtc, acked := false }
      let t := if 16 ≤ t.unacked then { t with unacked := 0 } else t
      let s := if t.unacked = 0 then s.sendRecovery t.server 4 t.count [] else s
      if t.count = t.length then s.recoveredImage t else s.modBoot fun b => { b with transfer := some t }

/-- The ACK after the last DATA (R467). -/
def recoveryAck (s : State) : State :=
  match s.boot.transfer with
  | none => s
  | some t =>
    if t.acked ∨ s.gtc < t.last + 2000000 then s
    else (s.sendRecovery t.server 4 t.count []).modBoot fun b => { b with transfer := some { t with acked := true } }

/-- The transfer is abandoned (R467). -/
def recoveryTimeout (s : State) : State :=
  match s.boot.transfer with
  | none => s
  | some t => if s.gtc < t.last + 5 * giga then s else s.modBoot fun b => { b with transfer := none }

/-! ## Firmware update -/

/-- FwCommand out of place sets result 7 and is refused (R477, R500). -/
def State.fwBusy (s : State) : State := (s.set Obj.fwLastResult 7).refused 0

/-- An image is taken for checking (R477). -/
def State.checkImage (s : State) (b : Bytes) : State :=
  ((s.modBoot fun x => { x with checking := some b, staged := none }).setAll
    [(Obj.fwState, 1), (Obj.fwStagedDigest, 0), (Obj.fwStagedVersion, 0)]).ok

/-- May an image be staged in the present FwState? -/
def State.mayStage (s : State) : Bool := s.get Obj.fwState != 1 && s.get Obj.fwState != 3

/-- STAGE_IMAGE. -/
def stageImage (s : State) : State := if s.mayStage then s.checkImage (s.blob Obj.fwImage) else s.fwBusy

/-- STAGE_OBJECT; it is none of the commands of recovery (R466). -/
def stageObject (s : State) : State :=
  if ¬ s.mayStage ∨ s.get Obj.bootState = 1 then s.fwBusy
  else match s.sealedObject (s.get Obj.fwSourceObject) with
    | some b => s.checkImage b
    | none =>
      ((s.modBoot fun x => { x with staged := none }).setAll
        [(Obj.fwState, 0), (Obj.fwLastResult, 9), (Obj.fwStagedDigest, 0), (Obj.fwStagedVersion, 0)]).ok

/-- The check ends (R464, R477); in recovery a failing image leaves its result in RecoveryFault (R466). -/
def fwCheckComplete (s : State) : State :=
  match s.boot.checking with
  | none => s
  | some b =>
    let result := s.imageResult b
    let s := (s.modBoot fun x => { x with checking := none }).set Obj.fwLastResult result
    if result = 0 then
      (s.modBoot fun x => { x with staged := some (fwWhole b) }).setAll [(Obj.fwState, 2), (Obj.fwStagedDigest, imageDigest b),
        (Obj.fwStagedVersion, field b 8 2 * 2 ^ 48 + field b 0x0A 2 * 2 ^ 32 + field b 0x0C 2 * 2 ^ 16 + field b 0x0E 2)]
    else
      let s := s.set Obj.fwState 0
      if s.get Obj.bootState = 1 then s.set Obj.recoveryFault result else s

/-- The staged image begins to be written: the header block's own is erased first (R478). -/
def State.beginInstall (s : State) : State :=
  (s.modBoot fun x => { x with slot := some [] }).setAll [(Obj.fwState, 3), (Obj.fwInstallProgress, 0)]

/-- INSTALL (R477, R478); with an island under self-test it waits for it to reopen (R551). -/
def install (s : State) : State :=
  let st := s.get Obj.fwState
  if ¬ ((st = 2 ∨ st = 5) ∧ s.boot.staged.isSome ∧ s.allEmpty) then s.fwBusy
  else if s.isolated ≠ [] then (s.modBoot fun x => { x with waiting := some 3 }).ok
  else s.beginInstall.ok

/-- The install ends (R478); in recovery the new image is booted (R466). -/
def installComplete (ok : Bool) (programmed : Nat) (s : State) : State :=
  match s.boot.staged with
  | none => s
  | some b =>
    if s.get Obj.fwState ≠ 3 then s
    else if ¬ ok then
      let s := s.setAll [(Obj.fwState, 5), (Obj.fwLastResult, 8), (Obj.fwInstallProgress, min programmed b.length)]
      if s.get Obj.bootState = 1 then s.set Obj.recoveryFault 8 else s
    else
      let s := (s.modBoot fun x => { x with slot := some b }).setAll
        [(Obj.fwState, 4), (Obj.fwLastResult, 0), (Obj.fwInstallProgress, b.length)]
      if s.get Obj.bootState = 1 then
        let s := (s.set Obj.bootCause 4).setAll [(inst Obj.portState 0, 0)]
        (s.setPort 0 {}).setBootState 2
      else s

/-- REBOOT (R477); with an island under self-test it waits for it to reopen (R551). -/
def rebootCommand (s : State) : State :=
  if s.get Obj.fwState = 1 ∨ s.get Obj.fwState = 3 ∨ ¬ s.allEmpty ∨ s.get Obj.bootState ≠ 3 then s.fwBusy
  else if s.isolated ≠ [] then (s.modBoot fun x => { x with waiting := some 4 }).ok
  else s.ok.reboot

/-- What waited for the islands of a self-test goes on once none is isolated (R551). -/
def State.islandsOpen (s : State) : State :=
  if s.isolated ≠ [] then s
  else match s.boot.waiting with
    | none => s
    | some 3 => (s.modBoot fun x => { x with waiting := none }).beginInstall
    | some _ => (s.modBoot fun x => { x with waiting := none }).reboot

/-- COMMIT_SVN (R479). -/
def commitSvn (burned : Nat) (s : State) : State :=
  if s.get Obj.bootState ≠ 3 then s.fwBusy
  else
    let need := s.get Obj.fwSecurityVersion - s.get Obj.fuseSecurityVersion
    let s := s.set Obj.fuseSecurityVersion (s.get Obj.fuseSecurityVersion + min need burned)
    (s.set Obj.fwLastResult (if burned < need then 10 else 0)).ok

/-! ## The binding -/

/-- BIND_BOOT_FLASH (R483). -/
def bindBootFlash (counters : List Nat) (advanced : Bool) (s : State) : State :=
  let st := s.get Obj.identityState
  if ¬ (st = 2 ∨ st = 5) ∨ 16 ≤ s.get Obj.bindingCount then s.refused 0
  else match counters.find? (· < bindingIndexes) with
    | none => s.refused 0
    | some c =>
      let s := s.set Obj.bindingCount (s.get Obj.bindingCount + 1)
      (s.identitySteps { value := some c, advanced := advanced }).syncConns.ok

/-! ## Quotes and measurements -/

/-- The signed part of a quote (R476). -/
def State.quoteBody (s : State) : Bytes :=
  ascii ['Z', 'Q', 'T', '1'] ++ leBytes 2 1 ++ zeros 2 ++ leBytes 16 myUid ++ leBytes 8 (s.get Obj.identityIndex) ++ leBytes 8 s.gtc ++
    leBytes 1 (s.get Obj.syncState) ++ leBytes 1 (s.get Obj.storeState) ++ zeros 6 ++ leBytes 32 (s.get Obj.quoteNonce) ++
    (List.range 8).flatMap fun i => leBytes 32 (s.get (Obj.measurement + i))

/-- QUOTE (R476). -/
def quoteCommand (s : State) : State :=
  let no (r : Nat) : State := (s.set Obj.quoteLastResult r).refused 0
  if s.boot.quoting.isSome then no 3
  else if ¬ s.credentialReady then no 1
  else if 65535 < s.boot.nextIndex then no 2
  else
    let i := s.boot.nextIndex
    ((s.modBoot fun b => { b with quoting := some (s.quoteBody, i), nextIndex := i + 1 }).set Obj.bootKeyIndexesLeft (65535 - i)).ok

/-- The quote is signed (R476). -/
def quoteComplete (s : State) : State :=
  match s.boot.quoting with
  | none => s
  | some (body, i) =>
    let q := body ++ padTo 2692 (Config.bootSign s.boot.keyDraw i body) ++ s.blob Obj.bootCertificate ++ identityCertificate
    (((s.modBoot fun b => { b with quoting := none }).setBlob Obj.quote q).set Obj.quoteLastResult 0).countW 32 Obj.quotesIssued 1

/-- MEASURE (R475). -/
def measureCommand (s : State) : State := (s.extend 7 0 (leBytes 32 (s.get Obj.measureValue))).ok

/-! ## Revocation -/

/-- RevokedUids changes (R475, R485): its count, its record and M5 follow. -/
def State.setRevoked (s : State) (l : List Nat) (tag uid : Nat) : State :=
  let b := l.flatMap (leBytes 16)
  let s := ((s.setBlob Obj.revokedUids b).set Obj.revokedUidCount l.length).recordWrite Obj.revokedUids b
  s.extend 5 tag (leBytes 16 uid)

/-- The established connections to a device are closed with 0x6032 (R480). -/
def State.closeRevoked (s : State) (uid : Nat) : State :=
  (s.conns.filter fun c => c.uid == uid && c.st == 2 && c.kind == 1).foldl
    (fun (t : State) c =>
      let reason := leBytes 2 0x6032
      (t.sendHandshake c.address c.port 6 c.attempt (reason ++ zeros 2 ++ macC c.m reason)).loseConn c.ctx 0x6032 4 false) s

/-- ADD, REMOVE and CLEAR (R485). -/
def revokeAdd (s : State) : State :=
  let uid := s.get Obj.revokeUid
  let l := s.revokedList
  if l.contains uid then s.ok
  else if 256 ≤ l.length then s.refused 0
  else ((s.setRevoked (l ++ [uid]) 1 uid).closeRevoked uid).ok

def revokeRemove (s : State) : State :=
  let uid := s.get Obj.revokeUid
  let l := s.revokedList
  if l.contains uid then (s.setRevoked (l.filter (· != uid)) 2 uid).ok else s.refused 0

def revokeClear (s : State) : State := (s.setRevoked [] 3 (s.get Obj.revokeUid)).ok

end Sys2Proof.Machine
end

