-- ==== Sys2Proof/Machine/BootCommands.lean ====
section
/-! DEFINITION. The commands of the Keystone. -/

namespace Sys2Proof.Machine

/-! ## Boot and recovery -/

/-- RESET_RELEASE (R463). -/
def execResetRelease (flash : BootFlash) (s : State) : Host.Outcome State Fault Refusal := .next (resetRelease flash s)

/-- BOOT_BODY_READ_COMPLETE (R463). -/
def execBootBodyReadComplete (s : State) : Host.Outcome State Fault Refusal := .next (bootBodyRead s)

/-- HUB_ALIVE (R465). -/
def execHubAlive (start : StartUp) (counter : CounterRun) (s : State) : Host.Outcome State Fault Refusal :=
  .next (hubAlive start counter s)

/-- BOOT_WATCHDOG_EXPIRY (R465). -/
def execBootWatchdogExpiry (flash : BootFlash) (s : State) : Host.Outcome State Fault Refusal :=
  .next (watchdogExpiry flash s)

/-- RECOVERY_ATTEMPT (R466). -/
def execRecoveryAttempt (flash : BootFlash) (s : State) : Host.Outcome State Fault Refusal :=
  .next (recoveryAttempt flash s)

/-- BEACON (R467). -/
def execBeacon (s : State) : Host.Outcome State Fault Refusal := .next (beacon s)

/-- RECOVERY_LINK_TRY (R466). -/
def execRecoveryLinkTry (s : State) : Host.Outcome State Fault Refusal := .next (recoveryLinkTry s)

/-- OFFER (R467). -/
def execOffer (server length digest : Nat) (s : State) : Host.Outcome State Fault Refusal :=
  .next (recoveryOffer server length digest s)

/-- DATA (R467). -/
def execData (server offset : Nat) (data : Bytes) (s : State) : Host.Outcome State Fault Refusal :=
  .next (recoveryData server offset data s)

/-- RECOVERY_ACK_TIMER (R467). -/
def execRecoveryAckTimer (s : State) : Host.Outcome State Fault Refusal := .next (recoveryAck s)

/-- RECOVERY_TRANSFER_TIMEOUT (R467). -/
def execRecoveryTransferTimeout (s : State) : Host.Outcome State Fault Refusal := .next (recoveryTimeout s)

/-! ## Firmware -/

/-- STAGE_IMAGE (R477). -/
def execStageImage (s : State) : Host.Outcome State Fault Refusal := .next (writeCommand Obj.fwCommand 1 stageImage s)

/-- STAGE_OBJECT (R477). -/
def execStageObject (s : State) : Host.Outcome State Fault Refusal := .next (writeCommand Obj.fwCommand 2 stageObject s)

/-- FW_CHECK_COMPLETE (R477). -/
def execFwCheckComplete (s : State) : Host.Outcome State Fault Refusal := .next (fwCheckComplete s)

/-- INSTALL (R478). -/
def execInstall (s : State) : Host.Outcome State Fault Refusal := .next (writeCommand Obj.fwCommand 3 install s)

/-- INSTALL_COMPLETE (R478). -/
def execInstallComplete (ok : Bool) (programmed : Nat) (s : State) : Host.Outcome State Fault Refusal :=
  .next (installComplete ok programmed s)

/-- REBOOT (R477). -/
def execReboot (s : State) : Host.Outcome State Fault Refusal := .next (writeCommand Obj.fwCommand 4 rebootCommand s)

/-- COMMIT_SVN (R479). -/
def execCommitSvn (burned : Nat) (s : State) : Host.Outcome State Fault Refusal :=
  .next (writeCommand Obj.fwCommand 5 (commitSvn burned) s)

/-! ## Identity, quotes and revocation -/

/-- BIND_BOOT_FLASH (R483). -/
def execBindBootFlash (counters : List Nat) (advanced : Bool) (s : State) : Host.Outcome State Fault Refusal :=
  .next (writeCommand Obj.securityCommand 1 (bindBootFlash counters advanced) s)

/-- QUOTE (R476). -/
def execQuote (s : State) : Host.Outcome State Fault Refusal := .next (writeCommand Obj.quoteCommand 1 quoteCommand s)

/-- QUOTE_COMPLETE (R476). -/
def execQuoteComplete (s : State) : Host.Outcome State Fault Refusal := .next (quoteComplete s)

/-- MEASURE (R475). -/
def execMeasure (s : State) : Host.Outcome State Fault Refusal :=
  .next (writeCommand Obj.measureCommand 1 measureCommand s)

/-- REVOKE_ADD (R485). -/
def execRevokeAdd (s : State) : Host.Outcome State Fault Refusal := .next (writeCommand Obj.revokeCommand 1 revokeAdd s)

/-- REVOKE_REMOVE (R485). -/
def execRevokeRemove (s : State) : Host.Outcome State Fault Refusal :=
  .next (writeCommand Obj.revokeCommand 2 revokeRemove s)

/-- REVOKE_CLEAR (R485). -/
def execRevokeClear (s : State) : Host.Outcome State Fault Refusal :=
  .next (writeCommand Obj.revokeCommand 3 revokeClear s)

end Sys2Proof.Machine
end

