-- ==== Sys2Proof/Machine/JobCommands.lean ====
section
/-! DEFINITION. The commands of a slot's life and of its step: staging, JobCommand, the launch, aborts, replay and membership (R26 to R35,
R443 to R458). -/

namespace Sys2Proof.Machine

/-- A spare that JOIN armed enters RUNNING at ResumeTick and carries out R451 with the members: it starts at ReplayEpoch, obtains the
census from them, and issues from p_start (R450, R451). -/
def State.startSpare (s : State) (slot : Nat) : State :=
  let epoch := s.get (inst Obj.replayEpoch slot)
  let points := s.replayPoints slot
  let s := (s.takeForce slot epoch points).startRunning slot epoch
  let s := if s.resumesWithTalon slot epoch ∧ (s.job slot).corruptPolicy ≠ 0 then
      let s := s.buildCensus slot epoch 0 (some [])
      match s.census slot epoch with
      | some c => if (s.job slot).packs then s.putCensus slot { c with wantsText := true } else s
      | none => s
    else s.askCensus slot epoch
  let j := s.job slot
  let s := if epoch + 1 < j.epochFirst + j.epochCount then s.askCensus slot (epoch + 1) else s
  let s := s.restartShoes slot epoch points
  (s.setStepState slot 0).restartIssue slot (s.startPosition slot epoch points)

/-- ResumeTick comes (R451): a member replays, a spare joins. -/
def resumeTick (slot : Nat) (s : State) : State :=
  if s.stepState slot ≠ 2 ∨ s.gtc < s.get (inst Obj.resumeTick slot) then s
  else if s.running slot then s.replay slot
  else if s.jobState slot = 3 ∧ (s.slot slot).joined then s.startSpare slot
  else s

/-- LaunchTick comes (R30). -/
def launchTick (slot : Nat) (s : State) : State :=
  if ¬ s.launchDue slot then s else if (s.slot slot).joined then resumeTick slot s else s.launch slot

/-- A launch that is due has happened before a command of JobCommand written at its tick or after it (R31). -/
def afterLaunch (slot : Nat) (eff : State → State) (s : State) : State :=
  if s.launchDue slot then eff ((launchTick slot s).flow) else eff s

/-- A write of JobCommand. -/
def jobCommand (slot n : Nat) (eff : State → State) (s : State) : State := writeCommand (inst Obj.jobCommand slot) n eff s

/-- A write of StepCommand. -/
def stepCommand (slot n : Nat) (eff : State → State) (s : State) : State := writeCommand (inst Obj.stepCommand slot) n eff s

/-- A write of MemberCommand. -/
def memberCommand (slot n : Nat) (eff : State → State) (s : State) : State := writeCommand (inst Obj.memberCommand slot) n eff s

/-! ## The life of a slot -/

/-- STAGING_OPEN (R26). -/
def execStagingOpen (slot : Nat) (s : State) : Host.Outcome State Fault Refusal :=
  .next (writeCommand (inst Obj.stagingOpen slot) 1 (stagingOpen slot) s)

/-- VALIDATE (R27). -/
def execValidate (slot : Nat) (readable draining : Bool) (s : State) : Host.Outcome State Fault Refusal :=
  .next (jobCommand slot 1 (validate slot readable draining) s)

/-- ARM (R29). -/
def execArm (slot : Nat) (s : State) : Host.Outcome State Fault Refusal := .next (jobCommand slot 2 (arm slot) s)

/-- DISARM (R33). -/
def execDisarm (slot : Nat) (s : State) : Host.Outcome State Fault Refusal :=
  .next (jobCommand slot 3 (afterLaunch slot (disarm slot)) s)

/-- STOP (R34). -/
def execStop (slot : Nat) (s : State) : Host.Outcome State Fault Refusal :=
  .next ((jobCommand slot 4 (afterLaunch slot (stop slot)) s).flow)

/-- ABORT (R35). -/
def execAbort (slot : Nat) (s : State) : Host.Outcome State Fault Refusal :=
  .next ((jobCommand slot 5 (afterLaunch slot (abort slot)) s).flow)

/-- JOB_RELEASE (R33). -/
def execJobRelease (slot : Nat) (s : State) : Host.Outcome State Fault Refusal :=
  .next ((jobCommand slot 6 (jobRelease slot) s).flow)

/-- LAUNCH (R30). -/
def execLaunch (slot : Nat) (s : State) : Host.Outcome State Fault Refusal := .next ((launchTick slot s).flow)

/-! ## Collective abort -/

/-- KEEPALIVE (R443). -/
def execKeepalive (ctx : Nat) (s : State) : Host.Outcome State Fault Refusal := .next (keepalive ctx s)

/-- MEMBER_TIMEOUT (R443). -/
def execMemberTimeout (slot uid : Nat) (s : State) : Host.Outcome State Fault Refusal :=
  .next ((memberTimeout slot uid s).flow)

/-- STEP_ABORT (R444). -/
def execStepAbort (slot : Nat) (s : State) : Host.Outcome State Fault Refusal :=
  .next ((stepCommand slot 1 (stepAbort slot) s).flow)

/-- ABORT_MESSAGE (R446). -/
def execAbortMessage (uid : Nat) (message : Bytes) (s : State) : Host.Outcome State Fault Refusal :=
  .next ((abortMessage uid message s).flow)

/-- ABORT_ACK (R446). -/
def execAbortAck (uid : Nat) (message : Bytes) (s : State) : Host.Outcome State Fault Refusal :=
  .next (abortAck uid message s)

/-- ABORT_PROBE (R446). -/
def execAbortProbe (slot : Nat) (s : State) : Host.Outcome State Fault Refusal := .next (abortProbe slot s)

/-! ## Replay -/

/-- RESUME (R450). -/
def execResume (slot : Nat) (s : State) : Host.Outcome State Fault Refusal := .next (stepCommand slot 2 (resume slot) s)

/-- JOIN (R450). -/
def execJoin (slot : Nat) (s : State) : Host.Outcome State Fault Refusal := .next (stepCommand slot 3 (join slot) s)

/-- CANCEL (R450). -/
def execCancel (slot : Nat) (s : State) : Host.Outcome State Fault Refusal := .next (stepCommand slot 4 (cancel slot) s)

/-- RESUME_TICK (R451). -/
def execResumeTick (slot : Nat) (s : State) : Host.Outcome State Fault Refusal := .next ((resumeTick slot s).flow)

/-- REPLACE (R458). -/
def execReplace (slot : Nat) (s : State) : Host.Outcome State Fault Refusal :=
  .next (memberCommand slot 1 (replaceMember slot) s)

/-- REMOVE_DOMAIN (R458). -/
def execRemoveDomain (slot : Nat) (s : State) : Host.Outcome State Fault Refusal :=
  .next (memberCommand slot 2 (removeDomain slot) s)

/-- MEMBER_CLEAR (R458). -/
def execMemberClear (slot : Nat) (s : State) : Host.Outcome State Fault Refusal :=
  .next (memberCommand slot 3 (memberClear slot) s)

end Sys2Proof.Machine
end

