-- ==== Sys2Proof/Machine/MemoryCommands.lean ====
section
/-! DEFINITION. The commands of the GDDR7 channels and of the Buffer Pool Manager, and the slice boundary. -/

namespace Sys2Proof.Machine

/-! ## Boundaries and channels -/

/-- SLICE_BOUNDARY (R38). -/
def execSliceBoundary (s : State) : Host.Outcome State Fault Refusal := .next ((boundary s).flow)

/-- REFRESH_START (R309). -/
def execRefreshStart (channel : Nat) (s : State) : Host.Outcome State Fault Refusal := .next (refreshStart channel s)

/-- REFRESH_END (R309). -/
def execRefreshEnd (channel : Nat) (first : Option Nat) (held : List Nat) (s : State) :
    Host.Outcome State Fault Refusal := .next (refreshEnd channel first held s)

/-- HOT_SCHEDULE_CHANGE (R309). -/
def execHotScheduleChange (channel : Nat) (s : State) : Host.Outcome State Fault Refusal :=
  .next (hotScheduleChange channel s)

/-- RETRAIN_COMPLETE (R310). -/
def execRetrainComplete (channel : Nat) (ok : Bool) (first : Option Nat) (held : List Nat) (frames : Nat) (lost : List MemoryUse) (s : State) :
    Host.Outcome State Fault Refusal := .next ((retrainComplete channel ok first held frames lost s).flow)

/-- GDDR_CORRECTED_ERROR (R311). -/
def execGddrCorrectedError (channel frame : Nat) (s : State) : Host.Outcome State Fault Refusal :=
  .next (gddrCorrectedError channel frame s)

/-- GDDR_UNCORRECTABLE_READ (R308). -/
def execGddrUncorrectableRead (channel frame : Nat) (data : MemoryUse) (s : State) :
    Host.Outcome State Fault Refusal := .next ((gddrUncorrectableRead channel frame data s).flow)

/-- GDDR_LINK_CRC_FAILURE (R308). -/
def execGddrLinkCrcFailure (channel ticks : Nat) (held : List Nat) (s : State) : Host.Outcome State Fault Refusal :=
  .next (gddrLinkCrcFailure channel ticks held s)

/-- RETIRE_CHANNEL (R312). -/
def execRetireChannel (channel : Nat) (s : State) : Host.Outcome State Fault Refusal :=
  .next (writeCommand Obj.retireChannel channel (retireChannel channel) s)

/-- CHANNEL_MIGRATION_COMPLETE (R312). -/
def execChannelMigrationComplete (channel frames : Nat) (homeless : List Nat) (s : State) :
    Host.Outcome State Fault Refusal := .next (channelMigrationComplete channel frames homeless s)

/-! ## The Buffer Pool Manager -/

/-- BUFFER_ALLOCATE (R325). -/
def execBufferAllocate (requester count : Nat) (s : State) : Host.Outcome State Fault Refusal :=
  .next ((bufferAllocate requester count s).flow)

/-- FREE_LIST_REBUILD_COMPLETE (R322). -/
def execFreeListRebuildComplete (s : State) : Host.Outcome State Fault Refusal := .next ((freeListRebuildComplete s).flow)

/-- BUFFER_REF_ADD (R323). -/
def execBufferRefAdd (handle requester : Nat) (entry : Option Nat) (s : State) : Host.Outcome State Fault Refusal :=
  .next ((bufferReference true handle requester entry s).flow)

/-- BUFFER_REF_DROP (R323). -/
def execBufferRefDrop (handle requester : Nat) (entry : Option Nat) (s : State) : Host.Outcome State Fault Refusal :=
  .next ((bufferReference false handle requester entry s).flow)

/-- REFILL_COMPLETE (R321). -/
def execRefillComplete (nodeOk groupOk : Bool) (s : State) : Host.Outcome State Fault Refusal :=
  .next ((refillComplete nodeOk groupOk s).flow)

end Sys2Proof.Machine
end

