-- ==== Sys2Proof/Machine/NetCommands.lean ====
section
/-! DEFINITION. The commands of the network that reach into the slots: READ requests, the end of a revocation, and the handshake
(R378 to R385, R390 to R392). -/

namespace Sys2Proof.Machine

/-- The bytes of a shard's object that a record export maps (R390). -/
def State.recordBytes (s : State) (slot off len : Nat) : Option Bytes :=
  match (s.job slot).shards[off / 2 ^ 40]? with
  | none => none
  | some sh =>
    let o := off % 2 ^ 40
    match s.sealedObject sh.objectId with
    | none => none
    | some b => if o + len ≤ min b.length (2 ^ 40) then some (slice o len b) else none

/-- What a region maps at an offset (R390). -/
def regionContent (s : State) (r : Region) (off len : Nat) : Option Bytes :=
  match r.kind with
  | .shoeExport => some (slice off len (s.exportImage r.owner r.part))
  | .recordExport => s.recordBytes r.owner off len
  | _ => some (slice off len r.content)

/-- The last placement or fetch accepted before a revocation completes (R392): the key is retired, and a VALIDATE that waited for it
checks the window. -/
def revokeDrained (index : Nat) (s : State) : State :=
  match s.regions.find? fun r => r.index == index && r.revoking.isSome with
  | none => s
  | some r =>
    let s := s.retireRegion index
    let waits := r.kind == .staging && s.jobState r.owner == 1 && (s.slot r.owner).validating &&
      s.regions.all fun x => !(x.kind == .staging && x.owner == r.owner)
    if waits then s.checkManifest r.owner else s

/-- A revocation passes RevokeDrainTicks (R392, R431): the memory is held until the placements stop. -/
def revokeOverrun (index outstanding : Nat) (s : State) : State :=
  match s.regions.find? fun r => r.index == index && !r.overrun with
  | none => s
  | some r =>
    if (r.revoking.map fun t => decide (t + s.get Obj.revokeDrainTicks ≤ s.gtc)).getD false then
      let s := { s with regions := modifyWhere (fun (x : Region) => x.index == index) (fun (x : Region) => { x with overrun := true }) s.regions }
      s.raiseFault { cls := 10, reason := 0x7040, tile := 5, slot := if r.kind = .objectWindow then 0xFF else r.owner, detail0 := r.key, detail1 := outstanding }
    else s

/-- RECEIVE_READ_REQUEST (R377). -/
def execReceiveReadRequest (ctx : Nat) (p : Packet) (s : State) : Host.Outcome State Fault Refusal :=
  .next (receiveReadRequest regionContent ctx p s)

/-- REVOKE_DRAIN_COMPLETE (R392). -/
def execRevokeDrainComplete (index : Nat) (s : State) : Host.Outcome State Fault Refusal := .next (revokeDrained index s)

/-- REVOKE_DRAIN_OVERRUN (R392). -/
def execRevokeDrainOverrun (index outstanding : Nat) (s : State) : Host.Outcome State Fault Refusal :=
  .next (revokeOverrun index outstanding s)

/-- CONNECT (R383). -/
def execConnect (address : Nat) (datagrams : List Bytes) (s : State) : Host.Outcome State Fault Refusal :=
  .next (handshakeMessage 1 address datagrams recvConnect s)

/-- ACCEPT (R383). -/
def execAccept (address : Nat) (datagrams : List Bytes) (s : State) : Host.Outcome State Fault Refusal :=
  .next ((handshakeMessage 2 address datagrams recvAccept s).flow)

/-- CONFIRM (R385). -/
def execConfirm (address : Nat) (datagrams : List Bytes) (s : State) : Host.Outcome State Fault Refusal :=
  .next ((handshakeMessage 3 address datagrams recvConfirm s).flow)

/-- HANDSHAKE_READY (R385). -/
def execHandshakeReady (address : Nat) (datagrams : List Bytes) (s : State) : Host.Outcome State Fault Refusal :=
  .next ((handshakeMessage 4 address datagrams recvReady s).flow)

/-- HANDSHAKE_REJECT (R385). -/
def execHandshakeReject (address : Nat) (datagrams : List Bytes) (s : State) : Host.Outcome State Fault Refusal :=
  .next (handshakeMessage 5 address datagrams recvReject s)

/-- CLOSE (R385). -/
def execClose (address : Nat) (datagrams : List Bytes) (s : State) : Host.Outcome State Fault Refusal :=
  .next (handshakeMessage 6 address datagrams recvClose s)

/-- HANDSHAKE_RESEND (R380). -/
def execHandshakeResend (ctx : Nat) (s : State) : Host.Outcome State Fault Refusal := .next (handshakeResend ctx s)

/-- HANDSHAKE_BACKOFF_EXPIRY (R380). -/
def execHandshakeBackoffExpiry (ctx : Nat) (s : State) : Host.Outcome State Fault Refusal :=
  .next (handshakeBackoff ctx s)

/-- HANDSHAKE_TIMEOUT (R380). -/
def execHandshakeTimeout (ctx : Nat) (s : State) : Host.Outcome State Fault Refusal := .next (handshakeTimeout ctx s)

end Sys2Proof.Machine
end

