-- ==== Sys2Proof/Machine/Pipeline.lean ====
section
/-! DEFINITION. The commands of the item pipeline: sources, the cache, engines, peers, the census, batches and their consumers. Each
is the effect of its rule, followed by what the pipeline does of itself after any change (`State.flow`). -/

namespace Sys2Proof.Machine

/-! ## Sources -/

/-- ITEM_ISSUE (R103). -/
def execItemIssue (slot : Nat) (s : State) : Host.Outcome State Fault Refusal := .next ((itemIssue slot s).flow)

/-- SHARD_OPEN_COMPLETE (R72). -/
def execShardOpenComplete (slot shard node media : Nat) (remote : Option Bytes) (s : State) :
    Host.Outcome State Fault Refusal := .next ((shardOpenComplete slot shard node media remote s).flow)

/-- TAR_SCAN_COMPLETE (R83). -/
def execTarScanComplete (slot shard node media : Nat) (remote : Option Bytes) (s : State) :
    Host.Outcome State Fault Refusal := .next ((tarScanComplete slot shard node media remote s).flow)

/-- RECORD_READ_COMPLETE (R76). -/
def execRecordReadComplete (entry : Nat) (s : State) : Host.Outcome State Fault Refusal :=
  .next ((recordReadComplete entry s).flow)

/-- PEER_RECORD_READ_COMPLETE (R88). -/
def execPeerRecordReadComplete (entry : Nat) (data : Option Bytes) (s : State) : Host.Outcome State Fault Refusal :=
  .next ((peerRecordReadComplete entry data s).flow)

/-- PEER_FETCH_TIMEOUT (R88). -/
def execPeerFetchTimeout (entry : Nat) (s : State) : Host.Outcome State Fault Refusal :=
  .next ((peerFetchTimeout entry s).flow)

/-! ## The cache -/

/-- CACHE_HIT_COPY_COMPLETE (R186). -/
def execCacheHitCopyComplete (entry : Nat) (ok : Bool) (s : State) : Host.Outcome State Fault Refusal :=
  .next ((cacheHitCopyComplete entry ok s).flow)

/-- CACHE_FLASH_READ_COMPLETE (R189). -/
def execCacheFlashReadComplete (entry : Nat) (ok : Bool) (s : State) : Host.Outcome State Fault Refusal :=
  .next ((cacheFlashReadComplete entry ok s).flow)

/-- CACHE_FILL_COMPLETE (R187). -/
def execCacheFillComplete (place : Nat) (s : State) : Host.Outcome State Fault Refusal :=
  .next ((cacheFillComplete place s).flow)

/-- CACHE_COMPRESS_COMPLETE (R189). -/
def execCacheCompressComplete (place : Nat) (s : State) : Host.Outcome State Fault Refusal :=
  .next ((cacheCompressComplete place s).flow)

/-- CACHE_DROP_UNPINNED (R191). -/
def execCacheDropUnpinned (s : State) : Host.Outcome State Fault Refusal :=
  .next (writeCommand Obj.cacheCommand 1 (cacheCommandWrite 1) s)

/-- CACHE_DROP_ALL (R191). -/
def execCacheDropAll (s : State) : Host.Outcome State Fault Refusal :=
  .next (writeCommand Obj.cacheCommand 2 (cacheCommandWrite 2) s)

/-- CACHE_PURGE_DIGEST (R191). -/
def execCachePurgeDigest (s : State) : Host.Outcome State Fault Refusal :=
  .next (writeCommand Obj.cacheCommand 3 (cacheCommandWrite 3) s)

/-! ## Engines -/

/-- DECOMPRESS_COMPLETE (R126). -/
def execDecompressComplete (entry : Nat) (s : State) : Host.Outcome State Fault Refusal :=
  .next ((decompressComplete entry s).flow)

/-- DECODE_COMPLETE (R129). -/
def execDecodeComplete (entry : Nat) (s : State) : Host.Outcome State Fault Refusal :=
  .next ((decodeComplete entry s).flow)

/-- DECODE_BUDGET_EXPIRED (R147). -/
def execDecodeBudgetExpired (entry : Nat) (s : State) : Host.Outcome State Fault Refusal :=
  .next ((decodeBudgetExpired entry s).flow)

/-- SLOW_LANE_DECODE_COMPLETE (R142). -/
def execSlowLaneDecodeComplete (entry : Nat) (s : State) : Host.Outcome State Fault Refusal :=
  .next ((slowLaneDecodeComplete entry s).flow)

/-- WORK_LIMIT_EXCEEDED (R144). -/
def execWorkLimitExceeded (entry : Nat) (s : State) : Host.Outcome State Fault Refusal :=
  .next ((workLimitExceeded entry s).flow)

/-- TRANSFORM_COMPLETE (R157). -/
def execTransformComplete (entry check : Nat) (s : State) : Host.Outcome State Fault Refusal :=
  .next ((transformComplete entry check s).flow)

/-- TOKENIZE_COMPLETE (R219). -/
def execTokenizeComplete (entry : Nat) (s : State) : Host.Outcome State Fault Refusal :=
  .next ((tokenizeComplete entry s).flow)

/-! ## Peers -/

/-- PEER_READY (R104). -/
def execPeerReady (uid : Nat) (message : Bytes) (s : State) : Host.Outcome State Fault Refusal :=
  .next ((peerReady uid message s).flow)

/-- PREPARED_READ_COMPLETE (R104). -/
def execPreparedReadComplete (uid ref : Nat) (data : Bytes) (valid : Nat) (s : State) :
    Host.Outcome State Fault Refusal := .next ((preparedReadComplete uid ref data valid s).flow)

/-- PEER_PREPARE (R106). -/
def execPeerPrepare (uid : Nat) (message : Bytes) (s : State) : Host.Outcome State Fault Refusal :=
  .next ((peerPrepare uid message s).flow)

/-- PEER_RELEASE (R587). -/
def execPeerRelease (uid : Nat) (message : Bytes) (s : State) : Host.Outcome State Fault Refusal :=
  .next ((peerRelease uid message s).flow)

/-! ## The census -/

/-- CENSUS_OFFER_RECEIVED (R113). -/
def execCensusOfferReceived (uid : Nat) (message : Bytes) (s : State) : Host.Outcome State Fault Refusal :=
  .next ((censusOfferReceived uid message s).flow)

/-- CENSUS_CONTRIBUTION_READ_COMPLETE (R113). -/
def execCensusContributionReadComplete (slot epoch uid : Nat) (data : Option Bytes) (s : State) :
    Host.Outcome State Fault Refusal := .next ((censusContributionReadComplete slot epoch uid data s).flow)

/-- CENSUS_TIMEOUT (R112). -/
def execCensusTimeout (slot epoch : Nat) (s : State) : Host.Outcome State Fault Refusal :=
  .next ((censusTimeout slot epoch s).flow)

/-- CENSUS_REQUEST_RECEIVED (R113). -/
def execCensusRequestReceived (uid : Nat) (message : Bytes) (s : State) : Host.Outcome State Fault Refusal :=
  .next ((censusRequestReceived uid message s).flow)

/-- CENSUS_FULL_RECEIVED (R113). -/
def execCensusFullReceived (uid : Nat) (message : Bytes) (s : State) : Host.Outcome State Fault Refusal :=
  .next ((censusFullReceived uid message s).flow)

/-- CENSUS_FULL_READ_COMPLETE (R113). -/
def execCensusFullReadComplete (slot epoch : Nat) (data : Option Bytes) (s : State) :
    Host.Outcome State Fault Refusal := .next ((censusFullReadComplete slot epoch data s).flow)

/-! ## Batches -/

/-- BATCH_START (R196). -/
def execBatchStart (slot stream : Nat) (classes : List Nat) (s : State) : Host.Outcome State Fault Refusal :=
  .next ((batchStart slot stream classes s).flow)

/-- LATE_DECLARATION (R149). -/
def execLateDeclaration (slot stream position : Nat) (s : State) : Host.Outcome State Fault Refusal :=
  .next ((lateDeclaration slot stream position s).flow)

/-- PUSH_SLICE_ACKNOWLEDGED (R194). -/
def execPushSliceAcknowledged (slot stream epoch index slice : Nat) (s : State) : Host.Outcome State Fault Refusal :=
  .next ((pushSliceAcknowledged slot stream epoch index slice s).flow)

/-- CREDIT_RETURN (R204). -/
def execCreditReturn (slot consumer immediate : Nat) (sealedMessage : Bool) (s : State) :
    Host.Outcome State Fault Refusal := .next ((creditReturn slot consumer immediate sealedMessage s).flow)

/-- PULL_RELEASE (R206). -/
def execPullRelease (slot consumer immediate : Nat) (sealedMessage : Bool) (s : State) :
    Host.Outcome State Fault Refusal := .next ((pullRelease slot consumer immediate sealedMessage s).flow)

/-- CONSUMER_STALL (R207). -/
def execConsumerStall (slot stream consumer : Nat) (s : State) : Host.Outcome State Fault Refusal :=
  .next ((consumerStall slot stream consumer s).flow)

/-- BUFFER_GRANT (R325). -/
def execBufferGrant (s : State) : Host.Outcome State Fault Refusal := .next (s.flow)

end Sys2Proof.Machine
end

