-- ==== Sys2Proof/Machine/Selftest.lean ====
section
/-! DEFINITION. Self-test on request, and the ageing of the islands (R537 to R555). -/

namespace Sys2Proof.Machine

/-! ## Logic BIST -/

/-- The self-test's machinery changes. -/
def State.modTest (s : State) (f : Selftest → Selftest) : State := { s with selftest := f s.selftest }

/-- The islands of SelftestIslandMask, in ascending domain number (R538, R552). -/
def State.maskedIslands (s : State) : List Nat := testIslands.filter fun d => bit (s.get Obj.selftestIslandMask) (d - 1)

/-- Do the PLL, the rail, the sensors and the gate of an island suit a test (R539)? -/
def clockOk (r : IslandReading) : Bool := r.locked

def State.voltageOk (s : State) (r : IslandReading) : Bool :=
  let want : Int := s.get (inst Obj.railPlannedMv (islandRail r.domain)) + s.geti 32 Obj.lbistVoltageOffsetMv
  decide (((r.railMv : Int) - want).natAbs ≤ 10)

def temperatureOk (r : IslandReading) : Bool := decide (0 ≤ r.coldest ∧ r.hottest ≤ 420)

def State.holdUpOk (s : State) (r : IslandReading) : Bool := (r.domain != 15 && r.domain != 17) || s.get Obj.holdUpGate == 1

/-- The result of R539 for some islands, 0 where every condition holds; the conditions in the table's order. -/
def State.testConditions (s : State) (l : List IslandReading) : Nat :=
  if ¬ l.all clockOk then 3
  else if ¬ l.all s.voltageOk then 4
  else if ¬ l.all temperatureOk then 5
  else if ¬ l.all s.holdUpOk then 6
  else 0

/-- What is known of an island; one that nothing reports has no locked PLL. -/
def readingOf (l : List IslandReading) (d : Nat) : IslandReading :=
  (l.find? fun r => r.domain == d).getD { domain := d, locked := false, railMv := 0, coldest := 0, hottest := 0 }

/-- Is a self-test command in course? -/
def State.testing (s : State) : Bool := s.selftest.command != 0

/-- A command while a test runs is refused with 8 BUSY (R551). -/
def State.testBusy (s : State) : State := (s.set Obj.selftestLastResult 8).refused 0

/-- Waiting islands are isolated and tested, as many as LbistParallel allows (R538, R540). -/
def State.startIslands : Nat → State → State
  | 0, s => s
  | fuel + 1, s =>
    match s.selftest.queue with
    | [] => s
    | d :: rest =>
      if s.get Obj.lbistParallel ≤ s.selftest.testing.length then s
      else
        let s := s.modTest fun t => { t with queue := rest, testing := t.testing ++ [(d, s.gtc)] }
        State.startIslands fuel { s with isolated := s.isolated ++ [d] }

/-- The command in course ends with its result once nothing is left under test (R552); what waited for it goes on (R551). -/
def State.endTest (s : State) : State :=
  if s.selftest.queue ≠ [] ∨ s.selftest.testing ≠ [] ∨ s.selftest.arrays ≠ [] then s
  else
    let result := if s.selftest.stopping then 7 else s.selftest.result
    let s := (s.setAll [(Obj.selftestState, 0), (Obj.selftestLastResult, result)]).bump Obj.selftestRuns
    State.islandsOpen { s with selftest := {} }

/-- SelftestCommand 1 (R538, R539, R552). -/
def lbist (readings : List IslandReading) (s : State) : State :=
  if ¬ s.allEmpty then s.refused 0x801A
  else if s.testing then s.testBusy
  else
    let l := s.maskedIslands
    let result := s.testConditions (l.map (readingOf readings))
    if result ≠ 0 then (s.set Obj.selftestLastResult result).ok
    else
      let s := { s with selftest := { command := 1, queue := l } }
      ((s.set Obj.selftestState 1).startIslands 13).endTest.ok

/-- The ticks of an island's patterns (R538). -/
def State.lbistTicks (s : State) (d : Nat) : Nat := s.get Obj.lbistPatterns * (5 * islandChain d + 20)

/-- An island's patterns end (R540, R541): stopped, or failing its conditions, it is only re-initialised; a shared partition that fails
resets the device (R542). -/
def lbistIslandComplete (r : IslandReading) (failing : List Nat) (s : State) : State :=
  match s.selftest.testing.find? fun t => t.1 == r.domain with
  | none => s
  | some (d, since) =>
    let code := s.testConditions [r]
    let cut := s.selftest.stopping || code != 0
    if ¬ cut ∧ s.gtc < since + s.lbistTicks d then s
    else
      let s : State := { s with isolated := s.isolated.filter (· != d) }
      let s := s.modTest fun t => { t with testing := t.testing.filter fun x => x.1 != d }
      if cut then ((s.modTest fun t => { t with result := if code = 0 then t.result else code }).startIslands 13).endTest
      else
        let bad := (failing.filter (· < islandPartitions d)).eraseDups
        let s := s.setAll [(inst Obj.lbistFailedPartitions (d - 1), bad.length), (inst Obj.lbistLastTick (d - 1), s.gtc)]
        let s := s.failIsland d bad false
        if bad.contains (islandPartitions d - 1) then (s.noteDeviceFailure d).reboot
        else
          ((s.modTest fun t => { t with result := if bad = [] then t.result else 1 }).startIslands 13).endTest

/-! ## March tests -/

/-- The arrays of SelftestArrayMask (R552). -/
def State.maskedArrays (s : State) : List Nat :=
  let m := s.get Obj.selftestArrayMask
  (List.range 5).filter (bit m) ++ (if bit m 5 then List.range' 16 68 else [])

/-- SelftestCommand 2 (R543): content-preserving, until it is stopped. -/
def marchPreserve (s : State) : State :=
  if s.testing then s.testBusy
  else
    let t : Selftest := { command := 2, arrays := s.maskedArrays.map fun a => (a, 0, s.gtc) }
    ((State.set { s with selftest := t } Obj.selftestState 1).endTest).ok

/-- SelftestCommand 3 (R543, R552): destructive, of arrays that hold nothing of the machine's own. -/
def marchDestructive (s : State) : State :=
  if ¬ s.allEmpty then s.refused 0x801A
  else if s.testing then s.testBusy
  else if ¬ s.maskedArrays.all (fun a => a == 0 || decide (16 ≤ a)) then s.refused 0
  else
    let t : Selftest := { command := 3, arrays := s.maskedArrays.map fun a => (a, 0, s.gtc) }
    ((State.set { s with selftest := t } Obj.selftestState 1).endTest).ok

/-- The domain of an array's bank clock (R314). -/
def arrayDomain (a : Nat) : Nat :=
  match a with
  | 0 => 3
  | 1 => 5
  | 2 => 7
  | 3 => 13
  | 4 => 15
  | _ => 2

/-- Bad rows of an array are spared (R544); a device failure resets the device (R542). -/
def State.spareRows (s : State) (array : Nat) (rows : List (Nat × Nat)) : State :=
  let (failure, s) := badRows (rows.map fun r => (array, r.1, r.2)) s
  let s := if rows = [] then s else s.modTest fun t => { t with result := 1 }
  if failure = 0 then s else (s.noteDeviceFailure failure).reboot

/-- One word of every bank of an array is tested in place (R543). -/
def marchWordTest (array : Nat) (banks : List Nat) (s : State) : State :=
  match s.selftest.arrays.find? fun x => x.1 == array with
  | none => s
  | some (_, word, last) =>
    let (p, q) := domainRatio (arrayDomain array)
    if s.selftest.command ≠ 2 ∨ (s.gtc - last) * p < s.get Obj.marchPreserveCycles * q then s
    else
      let next := (word + 1) % arrayBankWords array
      let s := s.modTest fun t => { t with arrays := t.arrays.map fun x => if x.1 = array then (array, next, s.gtc) else x }
      let s := if next = 0 then s.set (inst Obj.marchLastTick array) s.gtc else s
      s.spareRows array (banks.map fun b => (b, word / 4))

/-- The destructive march of an array ends (R543, R544). -/
def marchComplete (array : Nat) (rows : List (Nat × Nat)) (s : State) : State :=
  if s.selftest.command ≠ 3 ∨ ¬ s.selftest.arrays.any (fun x => x.1 == array) then s
  else
    let s := s.modTest fun t => { t with arrays := t.arrays.filter fun x => x.1 != array }
    ((s.set (inst Obj.marchLastTick array) s.gtc).spareRows array rows).endTest

/-- SelftestCommand 4 (R551): the islands under test complete, nothing else is begun. -/
def selftestStop (s : State) : State :=
  if ¬ s.testing then s.ok
  else (s.modTest fun t => { t with stopping := true, queue := [], arrays := [] }).endTest.ok

/-- A self-test is abandoned, its islands re-initialised (R540, R551). -/
def State.abandonTest (s : State) : State :=
  if s.testing then State.set { s with selftest := {}, isolated := [] } Obj.selftestState 0 else s

/-! ## Ageing -/

/-- Is an island of a rail under logic BIST (R550)? -/
def State.railTested (s : State) (rail : Nat) : Bool := s.selftest.testing.any fun t => islandRail t.1 == rail

/-- The islands of a rail whose path delay has been sampled. -/
def State.sampledIslands (s : State) (rail : Nat) : List Nat :=
  testIslands.filter fun d => islandRail d == rail && 0 < s.get (inst Obj.pathDelayPs (d - 1))

/-- SlackPs of an island. -/
def State.slackOf (s : State) (d : Nat) : Int := s.geti 32 (inst Obj.slackPs (d - 1))

/-- The smallest slack among a rail's islands (R550). -/
def State.railSlack (s : State) (rail : Nat) : Option Int :=
  match (s.sampledIslands rail).map s.slackOf with
  | [] => none
  | h :: t => some (t.foldl min h)

/-- AgeingState follows the slacks and the plan (R550). -/
def State.showAgeing (s : State) : State :=
  let low := (List.range 5).filter fun r => (s.railSlack r).any fun x => decide (x < (s.get Obj.targetSlackPs : Int))
  let top := low.any fun r => decide (s.get (inst Obj.railMaxMv r) ≤ s.get (inst Obj.railPlannedMv r))
  s.set Obj.ageingState (if top then 2 else if low ≠ [] then 1 else 0)

/-- A rail is planned to stand at a voltage (R550, R555). -/
def State.planRail (s : State) (rail mv : Nat) : State :=
  let old := s.get (inst Obj.railPlannedMv rail)
  if mv = old then s
  else
    let s := (s.set (inst Obj.railPlannedMv rail) mv).recordWrite (inst Obj.railPlannedMv rail) (leBytes 2 mv)
    s.countW 32 (if old < mv then Obj.voltageRaises else Obj.voltageLowers) 1

/-- The monitors are sampled every 1,000,000 ticks (R549); below FloorSlackPs the island's rail is raised at once (R550). -/
def pathDelaySample (delays : List (Nat × Nat)) (s : State) : State :=
  if s.gtc % 1000000 ≠ 0 ∨ ¬ s.hubRuns then s
  else
    let l := delays.filter fun e => testIslands.contains e.1
    let s := l.foldl
      (fun (t : State) e =>
        let t := t.set (inst Obj.pathDelayPs (e.1 - 1)) e.2
        let t := t.seti 32 (inst Obj.slackPs (e.1 - 1)) ((islandPeriodPs e.1 : Int) - e.2)
        t.seti 32 (inst Obj.ageingPs (e.1 - 1)) ((e.2 : Int) - Config.baselineDelayPs e.1)) s
    let short := (l.filter fun e => decide (s.slackOf e.1 < (s.get Obj.floorSlackPs : Int))).map fun e => islandRail e.1
    (short.eraseDups.foldl
      (fun (t : State) r =>
        if t.railTested r then t
        else t.planRail r (min (t.get (inst Obj.railPlannedMv r) + 5) (t.get (inst Obj.railMaxMv r)))) s).showAgeing

/-- The plan of one rail (R550). -/
def State.planOne (s : State) (rail : Nat) : State :=
  match s.railSlack rail with
  | none => s
  | some x =>
    let target : Int := s.get Obj.targetSlackPs
    let now := s.get (inst Obj.railPlannedMv rail)
    if s.railTested rail then s
    else if x < target then s.planRail rail (min (now + 5 * ceilDiv (target - x).toNat 6) (s.get (inst Obj.railMaxMv rail)))
    else if target + 12 ≤ x then s.planRail rail (max (now - 5) (s.get (inst Obj.railMinMv rail)))
    else s

/-- The margin planner (R550). -/
def State.plan (s : State) : State :=
  let s : State := { s with power := { s.power with lastPlan := s.gtc } }
  ((List.range 5).foldl State.planOne s).showAgeing

/-- The planner runs every PlanIntervalTicks. -/
def marginPlan (s : State) : State :=
  if s.hubRuns ∧ s.power.lastPlan + s.get Obj.planIntervalTicks ≤ s.gtc then s.plan else s

/-- PlannerCommand 1. -/
def planNow (s : State) : State := s.plan.ok

/-- The voltage a core rail stands at: its regulator's start-up value until the first step (R560). -/
def State.railNow (s : State) (rail : Nat) : Nat :=
  (findKey rail s.power.rails).getD (if rail = 7 then 800 else s.get (inst Obj.railMinMv rail) + 50)

/-- A core rail is written over AVSBus. -/
def State.writeRail (s : State) (rail mv : Nat) : State :=
  let p : Power := { s.power with rails := putKey rail mv s.power.rails, stepTicks := putKey rail s.gtc s.power.stepTicks }
  State.send { s with power := p } (.board 1 rail mv)

/-- One AVSBus step toward the plan (R560): at most 5 mV, at most one every 10,000 ticks. -/
def avsStep (rail : Nat) (s : State) : State :=
  let now := s.railNow rail
  let want := max (s.get (inst Obj.railMinMv rail)) (min (s.get (inst Obj.railMaxMv rail)) (s.get (inst Obj.railPlannedMv rail)))
  if 8 ≤ rail ∨ now = want ∨ ¬ s.hubRuns ∨ s.railTested rail ∨ ¬ (findKey rail s.power.stepTicks).all (fun t => t + 10000 ≤ s.gtc) then s
  else s.writeRail rail (if now < want then min want (now + 5) else max want (now - 5))

end Sys2Proof.Machine
end

