-- ==== Sys2Proof/Machine/Power.lean ====
section
/-! DEFINITION. Power: the rails' telemetry, resets, the power-fail flush, RETAIN, SHUTDOWN and temperature (R556 to R582). -/

namespace Sys2Proof.Machine

/-- The power controller changes. -/
def State.modPower (s : State) (f : Power → Power) : State := { s with power := f s.power }

/-! ## Rails -/

/-- The rails of the device (R559). -/
def allRails : List Nat := List.range 15

/-- The rails are polled every PowerPollTicks (R561). -/
def pmbusPoll (rails : List RailReading) (s : State) : State :=
  if ¬ s.hubRuns ∨ s.gtc < s.power.lastPoll + s.get Obj.powerPollTicks then s
  else
    let s := s.modPower fun p => { p with lastPoll := s.gtc }
    let s := (allRails.zip rails).foldl
      (fun (t : State) e => t.setAll [(inst Obj.railVoutMv e.1, e.2.vout), (inst Obj.railIoutMa e.1, e.2.iout),
        (inst Obj.railPoutMw e.1, e.2.pout), (inst Obj.railStatusWord e.1, e.2.status)]) s
    let w := (allRails.map fun r => s.get (inst Obj.railPoutMw r)).sum / 1000
    s.setAll [(Obj.powerInputW, w), (Obj.powerPeakW, max w (s.get Obj.powerPeakW))]

/-- PMB_ALERT_N falls (R561): a rail whose STATUS_WORD is not zero reports a fault, which is cleared. -/
def pmbAlert (status : List Nat) (s : State) : State :=
  if ¬ s.hubRuns then s
  else
    (allRails.zip status).foldl
      (fun (t : State) e =>
        let t := t.set (inst Obj.railStatusWord e.1) e.2
        if e.2 = 0 then t
        else (t.countW 32 (inst Obj.railFaults e.1) 1).send (.board 2 (t.get (inst Obj.railPmbusAddress e.1)) 0)) s

/-! ## Resets and the power-fail flush -/

/-- RESET_N is asserted (R564, R573): a mounted store is flushed first, then every island is reset and every output is at its inactive
level. -/
def resetAssert (s : State) : State :=
  let s := s.stopMeasurement true
  let s := if s.mounted ∧ ¬ s.power.halted then s.powerFailFlush else s
  let s := s.restart 1
  (((s.drive .chainOut false).drive .retainReq false).drive .powerOffReqN true).drive .thermTripN true

/-- The objects of the bus controller, which stands on VDD_AON. -/
def busKey (k : Nat) : Bool := decide (0x1100 ≤ keyIndex k ∧ keyIndex k < 0x1200)

/-- PWRGD falls (R564): in RETAIN that is the board's removal of rails; otherwise everything off VDD_AON is reset without a flush. -/
def pwrgdFall (s : State) : State :=
  if s.get Obj.powerState = 2 ∧ s.power.retainReq then s.modPower fun p => { p with pwrgd := false }
  else
    let kept := s.dict.filter fun e => busKey e.1
    let t := s.storeLoss.restart (s.get Obj.bootCause)
    let t : State := { t with
      gtc := s.gtc
      bus := s.bus
      power := { pwrgd := false, failN := s.power.failN, offReqN := s.power.offReqN, thermTripN := s.power.thermTripN, halted := s.power.halted } }
    t.setAll kept

/-- The INF, PL and NET islands are held in reset (R566): what they held is gone. -/
def State.dataPathReset (s : State) : State :=
  let t : State := { s with
    items := [], offers := [], fills := [], batches := [], shoes := [], credits := [], kernels := [], generations := []
    conns := [], inbox := [], switches := [], ports := List.replicate 16 {} }
  ((List.range 16).foldl (fun (u : State) p => if u.get (inst Obj.portState p) = 0 then u else u.set (inst Obj.portState p) 1) t).countConns.countPorts

/-- PWR_OFF_REQ_N falls, and the device stays halted. -/
def State.powerOff (s : State) : State :=
  (s.modPower fun p => { p with offReqN := false, halted := true, selfRefresh := true, course := .none }).drive .powerOffReqN false

/-- PWR_FAIL_N falls (R540, R566, R569, R573). -/
def pwrFail (s : State) : State :=
  if ¬ s.power.failN ∨ s.power.halted then s
  else
    let s := s.modPower fun p => { p with failN := false }
    if s.get Obj.powerState = 2 then s.powerOff
    else
      let s := ((s.stopMeasurement false).abandonTest).dataPathReset
      s.modPower fun p => { p with course := .flush }

/-- THERMTRIP_N falls. -/
def State.trip (s : State) : State := (s.modPower fun p => { p with thermTripN := false, tripAfter := false }).drive .thermTripN false

/-- The flush ends (R359, R566). -/
def flushComplete (s : State) : State :=
  if s.power.course ≠ .flush then s
  else
    let s := (if s.mounted then s.powerFailFlush else s).powerOff
    if s.power.tripAfter then s.trip else s

/-! ## RETAIN and SHUTDOWN -/

/-- PowerCommand is turned away (R565). -/
def State.powerRefused (s : State) (result : Nat) : State := (s.set Obj.powerLastResult result).refused 0x801A

/-- May a power state be left in order: no firmware check or install and no self-test runs (R565, R568)? -/
def State.powerQuiet (s : State) : Bool := s.get Obj.fwState != 1 && s.get Obj.fwState != 3 && !s.testing

/-- Every connection is closed with 0x6060 and the ports go DOWN (R568). -/
def State.closeNetwork (s : State) : State :=
  let s := s.conns.foldl
    (fun (t : State) c =>
      let reason := leBytes 2 0x6060
      let t := t.leaveList c.ctx
      if c.st = 2 then t.sendHandshake c.address c.port 6 c.attempt (reason ++ zeros 2 ++ macC c.m reason) else t) s
  let s : State := { s with conns := [] }
  ((List.range 16).foldl (fun (t : State) p => if t.get (inst Obj.portState p) < 2 then t else portLinkDown p t) s).countConns.countPorts

/-- PowerCommand 1 (R568). -/
def retainCommand (s : State) : State :=
  if s.power.course ≠ .none then s.powerRefused 2
  else if ¬ (allSlots.all (fun i => s.jobState i == 0 || 6 ≤ s.jobState i) && s.store.objects.all (fun o => o.st == 2) && s.powerQuiet) then
    s.powerRefused 1
  else
    let s := s.closeNetwork.modPower fun p => { p with course := .entering }
    (s.set Obj.powerLastResult 0).ok

/-- RETAIN is reached once the campaign in hand has ended (R568). -/
def retainEntered (s : State) : State :=
  if s.power.course ≠ .entering ∨ s.store.campaign.isSome then s
  else
    let s := s.makeDurable.writeRail 7 (s.get Obj.retainSramMv)
    let s := s.modPower fun p => { p with course := .retained, selfRefresh := true, retainReq := true }
    let s := (s.drive .retainReq true).countW 32 Obj.retainEntries 1
    let s := if s.get Obj.syncSource = 1 then s.sourceLost else s
    s.set Obj.powerState 2

/-- A channel is retrained on leaving RETAIN (R309, R310, R569). -/
def State.retrainOnWake (s : State) (c : Nat) : State :=
  if s.channelState c = 3 then s
  else
    let t := s.geti 32 (inst Obj.channelTemperature c)
    let s := (s.countW 32 (inst Obj.channelRetrains c) 1).set (inst Obj.channelLastTrainTick c) s.gtc
    (s.modChannel c fun x => { x with trainTemperature := t, trainFails := 0, replays := [] }).repairFrames c

/-- PWRGD is high again: the islands, VDDS_SRAM, the channels and the store come back, and the ports may come up (R569). -/
def State.finishWake (s : State) : State :=
  let s := s.writeRail 7 (s.get (inst Obj.railPlannedMv 7))
  let s := s.modPower fun p => { p with course := .none, selfRefresh := false }
  let s := (List.range 96).foldl State.retrainOnWake s
  (s.set Obj.powerState 1).flushEvents

/-- RETAIN is left (R569). -/
def State.wake (s : State) : State :=
  let s := (s.modPower fun p => { p with course := .waking, retainReq := false }).drive .retainReq false
  if s.power.pwrgd then s.finishWake else s

/-- PowerCommand 2 and the falling edge of WAKE_N. -/
def wakeCommand (s : State) : State :=
  if s.power.course = .retained ∧ ¬ s.power.halted then (s.set Obj.powerLastResult 0).ok.wake
  else s.powerRefused (if s.power.course = .none then 1 else 2)

def wakeFall (s : State) : State := if s.power.course = .retained ∧ ¬ s.power.halted then s.wake else s

/-- PWRGD rises (R563, R569). -/
def pwrgdRise (s : State) : State :=
  let s := s.modPower fun p => { p with pwrgd := true }
  if s.power.course = .waking then s.finishWake else s

/-- PowerCommand 3 (R565). -/
def shutdownCommand (s : State) : State :=
  if s.power.course ≠ .none then s.powerRefused 2
  else if ¬ (s.allEmpty && s.powerQuiet) then s.powerRefused 1
  else ((s.modPower fun p => { p with course := .shutdown }).set Obj.powerLastResult 0).ok

/-- The clean shutdown ends: stripes, checkpoint and journal are on flash (R343, R565). -/
def shutdownComplete (s : State) : State :=
  if s.power.course ≠ .shutdown then s
  else (if s.mounted then s.finishStripes.writeCheckpoint.powerFailFlush else s).powerOff

/-! ## Temperature -/

/-- The sensors at or above their warning limit (R574). -/
def State.warmSensors (s : State) (dies : List (List Int)) (channels : List Int) : List Nat :=
  let die (t : Nat) : List Nat :=
    let l := (dies.getD t []).take (s.get (inst Obj.tileSensorCount t))
    ((List.range l.length).filter fun k => decide ((4 * s.get Obj.tempWarnC : Nat) ≤ l.getD k 0)).map (64 * t + ·)
  (List.range 8).flatMap die ++ ((List.range 96).filter fun c => decide (90 ≤ channels.getD c 0)).map (1024 + ·)

/-- A thermal shutdown (R551, R575). -/
def State.thermalShutdown (s : State) : State :=
  if ¬ s.power.thermTripN ∨ s.power.tripAfter then s
  else
    let s := s.abandonTest.nodeFault 3 0
    if s.power.course = .flush then s.modPower fun p => { p with tripAfter := true }
    else (if s.mounted ∧ ¬ s.power.halted then s.powerFailFlush else s).powerOff.trip

/-- The sensors are sampled every 100,000 ticks (R574, R581). -/
def thermalSample (dies : List (List Int)) (channels : List Int) (s : State) : State :=
  if s.gtc % 100000 ≠ 0 then s
  else
    let hottest (l : List Int) : Option Int := match l with
      | [] => none
      | h :: t => some (t.foldl max h)
    let ofTile (t : Nat) : Option Int := hottest ((dies.getD t []).take (s.get (inst Obj.tileSensorCount t)))
    let warm := s.warmSensors dies channels
    let s := s.countW 32 Obj.thermalWarnings (warm.filter fun k => !s.power.hot.contains k).length
    let s := s.modPower fun p => { p with hot := warm }
    let s := (List.range 8).foldl
      (fun (u : State) t => match ofTile t with
        | some v =>
          let u := u.seti 32 (inst Obj.tileTempC t) v
          u.seti 32 (inst Obj.tileTempMaxC t) (max v (u.geti 32 (inst Obj.tileTempMaxC t)))
        | none => u) s
    let s := (List.range 96).foldl
      (fun (u : State) c => match channels[c]? with
        | some v => u.channelTemperature c v
        | none => u) s
    let all := (List.range 8).filterMap ofTile
    let s := match hottest all with
      | some v => s.seti 32 Obj.tempMaxC (v / 4)
      | none => s
    if all.any (fun v => decide ((4 * s.get Obj.tempShutdownC : Nat) ≤ v)) ∨ channels.any (fun v => decide (100 ≤ v)) then s.thermalShutdown
    else s

/-- A die at 115 °C (R574, R575): no flush. -/
def hardwareTrip (s : State) : State := (s.modPower fun p => { p with halted := true }).trip

end Sys2Proof.Machine
end

