-- ==== Sys2Proof/Machine/PowerCommands.lean ====
section
/-! DEFINITION. The commands of self-test, ageing, power, hold-up and temperature. -/

namespace Sys2Proof.Machine

/-! ## Self-test -/

/-- LBIST (R538). -/
def execLbist (readings : List IslandReading) (s : State) : Host.Outcome State Fault Refusal :=
  .next (writeCommand Obj.selftestCommand 1 (lbist readings) s)

/-- LBIST_ISLAND_COMPLETE (R540). -/
def execLbistIslandComplete (reading : IslandReading) (failing : List Nat) (s : State) :
    Host.Outcome State Fault Refusal := .next (lbistIslandComplete reading failing s)

/-- MARCH_PRESERVE (R543). -/
def execMarchPreserve (s : State) : Host.Outcome State Fault Refusal :=
  .next (writeCommand Obj.selftestCommand 2 marchPreserve s)

/-- MARCH_DESTRUCTIVE (R543). -/
def execMarchDestructive (s : State) : Host.Outcome State Fault Refusal :=
  .next (writeCommand Obj.selftestCommand 3 marchDestructive s)

/-- MARCH_WORD_TEST (R543). -/
def execMarchWordTest (array : Nat) (banks : List Nat) (s : State) : Host.Outcome State Fault Refusal :=
  .next (marchWordTest array banks s)

/-- MARCH_COMPLETE (R544). -/
def execMarchComplete (array : Nat) (rows : List (Nat × Nat)) (s : State) : Host.Outcome State Fault Refusal :=
  .next (marchComplete array rows s)

/-- SELFTEST_STOP (R551). -/
def execSelftestStop (s : State) : Host.Outcome State Fault Refusal :=
  .next (writeCommand Obj.selftestCommand 4 selftestStop s)

/-! ## Ageing -/

/-- PATH_DELAY_SAMPLE (R549). -/
def execPathDelaySample (delays : List (Nat × Nat)) (s : State) : Host.Outcome State Fault Refusal :=
  .next (pathDelaySample delays s)

/-- MARGIN_PLAN (R550). -/
def execMarginPlan (s : State) : Host.Outcome State Fault Refusal := .next (marginPlan s)

/-- PLAN_NOW (R550). -/
def execPlanNow (s : State) : Host.Outcome State Fault Refusal := .next (writeCommand Obj.plannerCommand 1 planNow s)

/-- AVS_STEP (R560). -/
def execAvsStep (rail : Nat) (s : State) : Host.Outcome State Fault Refusal := .next (avsStep rail s)

/-! ## Power -/

/-- PMBUS_POLL (R561). -/
def execPmbusPoll (rails : List RailReading) (s : State) : Host.Outcome State Fault Refusal := .next (pmbusPoll rails s)

/-- PMB_ALERT (R561). -/
def execPmbAlert (status : List Nat) (s : State) : Host.Outcome State Fault Refusal := .next (pmbAlert status s)

/-- PWRGD_FALL (R564). -/
def execPwrgdFall (s : State) : Host.Outcome State Fault Refusal := .next (pwrgdFall s)

/-- RESET_N_ASSERT (R564). -/
def execResetNAssert (s : State) : Host.Outcome State Fault Refusal := .next (resetAssert s)

/-- PWR_FAIL_N_FALL (R566). -/
def execPwrFailNFall (s : State) : Host.Outcome State Fault Refusal := .next (pwrFail s)

/-- POWER_FAIL_FLUSH_COMPLETE (R566). -/
def execPowerFailFlushComplete (s : State) : Host.Outcome State Fault Refusal := .next (flushComplete s)

/-- RETAIN (R568). -/
def execRetain (s : State) : Host.Outcome State Fault Refusal := .next (writeCommand Obj.powerCommand 1 retainCommand s)

/-- RETAIN_ENTRY_COMPLETE (R568). -/
def execRetainEntryComplete (s : State) : Host.Outcome State Fault Refusal := .next (retainEntered s)

/-- WAKE (R569). -/
def execWake (s : State) : Host.Outcome State Fault Refusal := .next (writeCommand Obj.powerCommand 2 wakeCommand s)

/-- WAKE_N_FALL (R569). -/
def execWakeNFall (s : State) : Host.Outcome State Fault Refusal := .next (wakeFall s)

/-- PWRGD_RISE (R569). -/
def execPwrgdRise (s : State) : Host.Outcome State Fault Refusal := .next (pwrgdRise s)

/-- SHUTDOWN (R565). -/
def execShutdown (s : State) : Host.Outcome State Fault Refusal :=
  .next (writeCommand Obj.powerCommand 3 shutdownCommand s)

/-- SHUTDOWN_COMPLETE (R565). -/
def execShutdownComplete (s : State) : Host.Outcome State Fault Refusal := .next (shutdownComplete s)

/-! ## Hold-up -/

/-- HOLDUP_SENSE_SAMPLE (R570). -/
def execHoldupSenseSample (samples : List Nat) (s : State) : Host.Outcome State Fault Refusal :=
  .next (holdUpSample samples s)

/-- HOLDUP_MEASURE_DUE (R571). -/
def execHoldupMeasureDue (s : State) : Host.Outcome State Fault Refusal := .next (holdUpDue s)

/-- HOLDUP_COMMAND_MEASURE (R571). -/
def execHoldupCommandMeasure (s : State) : Host.Outcome State Fault Refusal :=
  .next (writeCommand Obj.holdUpCommand 1 holdUpCommand s)

/-- HOLDUP_MEASURE_PHASE (R571). -/
def execHoldupMeasurePhase (samples : List Nat) (s : State) : Host.Outcome State Fault Refusal :=
  .next (holdUpPhase samples s)

/-- HOLDUP_CHARGE_TIMEOUT (R571). -/
def execHoldupChargeTimeout (s : State) : Host.Outcome State Fault Refusal := .next (holdUpChargeTimeout s)

/-- ENERGY_CHECK (R572). -/
def execEnergyCheck (s : State) : Host.Outcome State Fault Refusal := .next (energyCheck s)

/-! ## Temperature -/

/-- THERMAL_SAMPLE (R574). -/
def execThermalSample (dies : List (List Int)) (channels : List Int) (s : State) : Host.Outcome State Fault Refusal :=
  .next (thermalSample dies channels s)

/-- HARDWARE_TRIP (R574). -/
def execHardwareTrip (s : State) : Host.Outcome State Fault Refusal := .next (hardwareTrip s)

end Sys2Proof.Machine
end

