-- ==== Sys2Proof/Machine/Loads.lean ====
section
/-! DEFINITION. Loading and unloading vocabularies, control sets, model bundles and kernel packages (R224 to R226, R232, R257, R258,
R296, R297). A load takes its copy when it is accepted; its checks end with the build. -/

namespace Sys2Proof.Machine

/-- The objects and codes of a kind of image: how many entries it has, the bytes of its TOTAL_LENGTH, its image, select and last-reason
objects, its codes for an unknown digest, want of space and an image in use, and its tag in M3 (R475). -/
structure ImageKind where
  num : Nat
  entries : Nat
  lengthBytes : Nat
  image : Nat
  select : Nat
  lastReason : Nat
  unknown : Nat
  space : Nat
  inUse : Nat
  tag : Nat

def vocabKind : ImageKind :=
  { num := 0, entries := 8, lengthBytes := 4, image := Obj.vocabImage, select := Obj.vocabSelect, lastReason := Obj.vocabLastReason
    unknown := 0x3820, space := 0x3822, inUse := 0x3823, tag := 2 }
def controlKind : ImageKind :=
  { num := 1, entries := 16, lengthBytes := 4, image := Obj.controlImage, select := Obj.controlSelect
    lastReason := Obj.controlLastReason, unknown := 0x3838, space := 0x3834, inUse := 0x3833, tag := 4 }
def bundleKind : ImageKind :=
  { num := 2, entries := 32, lengthBytes := 8, image := Obj.bundleImage, select := Obj.bundleSelect
    lastReason := Obj.bundleLastReason, unknown := 0x4009, space := 0x4007, inUse := 0x4008, tag := 1 }
def kernelKind : ImageKind :=
  { num := 3, entries := 16, lengthBytes := 4, image := Obj.kernelImage, select := Obj.kernelSelect
    lastReason := Obj.kernelLastReason, unknown := 0x4807, space := 0x4805, inUse := 0x4806, tag := 3 }

/-- The command is refused with its code (R226). -/
def State.refuseLoad (s : State) (c : ImageKind) (code : Nat) : State := (s.set c.lastReason code).refused code

/-- An image is loaded from a copy of its bytes: one already loaded, or being built, stays as it is, a damaged one being repaired; any
other takes the lowest EMPTY entry (R226, R258, R308). -/
def State.loadImage (s : State) (c : ImageKind) (written : Bytes) : State :=
  let b := written.take (field written 8 c.lengthBytes)
  let dig := digestNat b
  match s.images.find? fun l => l.kind == c.num && digestNat l.bytes == dig with
  | some l =>
    let s : State := { s with images := replaceFirst (fun x => x.kind == c.num && x.entry == l.entry) { l with damaged := false } s.images }
    (if l.building then s else s.set c.lastReason 0).ok
  | none =>
    let used := (s.images.filter fun l => l.kind == c.num).map Loaded.entry
    let e := leastFree c.entries used
    if e = c.entries then s.refuseLoad c c.space
    else State.ok { s with images := s.images ++ [({ kind := c.num, entry := e, bytes := b } : Loaded)] }

/-- The other images of a kind that hold space. -/
def State.otherImages (s : State) (l : Loaded) : List Loaded :=
  s.images.filter fun x => x.kind == l.kind && x.entry != l.entry && !x.building

/-- The bytes of the code and control area of the reserve memory (R306). -/
def reserveAreaBytes : Nat := 1008 * 2 ^ 20

/-- The reserve memory that an image holds: a kernel package its bytes, a control set its automaton, whose size the spec leaves open. -/
def reserveHeld (l : Loaded) : Nat :=
  if l.kind = 3 then l.bytes.length
  else if l.kind = 1 then Config.automatonBytes (((controlRecords l.bytes).map automatonStates).getD 0) else 0

/-- Does an image fit in the reserve memory beside those that hold it? -/
def State.reserveFits (s : State) (l : Loaded) : Bool :=
  let others := s.images.filter fun x => !x.building && !(x.kind == l.kind && x.entry == l.entry)
  decide ((others.map reserveHeld).sum + reserveHeld l ≤ reserveAreaBytes)

/-- The checks of a vocabulary image (R224): the first fault's code, 0 where there is none. -/
def State.vocabReason (s : State) (l : Loaded) : Nat :=
  if ¬ vocabImageOk l.bytes then 0x3821
  else if s.get Obj.vocabSramBytesPerTile < ((s.otherImages l).map fun x => vocabTableBytes x.bytes).sum + vocabTableBytes l.bytes then
    0x3822
  else if ¬ hashPlaces l.bytes then 0x3824
  else 0

/-- The checks of a control set (R232). -/
def State.controlReason (s : State) (l : Loaded) : Nat :=
  if ¬ controlImageOk l.bytes then 0x3830
  else match s.images.find? fun x => x.kind == 0 && !x.building && digestNat x.bytes % 2 ^ 64 == controlTag l.bytes with
    | none => 0x3832
    | some v =>
      if ¬ ((controlRecords l.bytes).map (controlLimitsOk (vocabSize v.bytes))).getD false then 0x3831
      else if ¬ s.reserveFits l then 0x3834
      else 0

/-- The checks of a bundle (R257). -/
def State.bundleLoadReason (s : State) (l : Loaded) : Nat :=
  let r := bundleReason l.bytes
  if r ≠ 0 then r
  else if s.get Obj.bundleAreaBytes < ((s.otherImages l).map fun x => x.bytes.length).sum + l.bytes.length then 0x4007
  else 0

/-- The ranges of a package header (R295). -/
def kernelBoundsOk (b : Bytes) : Bool :=
  let total := field b 8 4
  let code := field b 0x1C 4
  let data := field b 0x24 4
  let spad := field b 0x28 4
  total == 64 + code + data && decide (total ≤ 1310784 ∧ total ≤ b.length) && decide (1 ≤ byteAt b 0x0E ∧ byteAt b 0x0E ≤ 7) &&
    decide (byteAt b 0x0F ≤ 3) && decide (field b 0x10 4 ≤ 3) && decide (field b 0x14 4 < code) && field b 0x14 4 % 2 == 0 &&
    field b 0x18 4 == 64 && decide (4 ≤ code ∧ code ≤ 1048576) && code % 4 == 0 && field b 0x20 4 == 64 + code &&
    decide (data ≤ 262144) && decide (4096 ≤ spad ∧ spad ≤ 983040 ∧ data ≤ spad) && spad % 4096 == 0 && field b 0x2C 4 != 0 &&
    decide (field b 0x30 2 ≤ 512) && allZero (slice 0x32 6 b)

/-- The checks of a kernel package (R296). -/
def State.kernelReason (s : State) (l : Loaded) : Nat :=
  let b := l.bytes
  if b.take 4 ≠ bytesOf [0x4B, 0x50, 0x4B, 0x31] ∨ field b 4 2 ≠ 1 ∨ b.length < 64 ∨ field b 0x3C 4 ≠ crc32c (b.take 0x3C) then 0x4801
  else if ¬ kernelBoundsOk b then 0x4802
  else if field b 0x38 4 ≠ crc32c (b.drop 0x40) then 0x4803
  else if field b 0x0C 2 ≠ 1 then 0x4804
  else if ¬ s.reserveFits l then 0x4805
  else 0

/-- A build ends: the entry becomes LOADED and its digest joins M3, or it returns to EMPTY with the reason (R226, R258, R297, R475). -/
def State.buildImage (s : State) (c : ImageKind) (entry : Nat) (reason : State → Loaded → Nat) : State :=
  match s.images.find? fun l => l.kind == c.num && l.entry == entry && l.building with
  | some l =>
    let code := reason s l
    let at_ (x : Loaded) : Bool := x.kind == c.num && x.entry == entry
    let s := s.set c.lastReason code
    if code = 0 then
      State.extend { s with images := replaceFirst at_ { l with building := false } s.images } 3 c.tag (digest l.bytes)
    else { s with images := s.images.filter fun x => !at_ x }
  | none => s

/-- The slots between VALIDATE and EMPTY (R20, R226). -/
def State.jobSlots (s : State) : List Nat := allSlots.filter fun i => (s.slot i).job.isSome

/-- The slots that reference an image: through TOKENIZE a vocabulary, through CURATE a control set, through BUNDLES a bundle or package. -/
def State.usersOf (s : State) (kind dig : Nat) : List Nat :=
  s.jobSlots.filter fun i =>
    let j := s.job i
    match kind with
    | 0 => j.stages.any fun st => st.kind == 0x0A && field st.param 0 32 == dig
    | 1 => j.stages.any fun st => st.kind == 0x06 && field st.param 0x30 32 == dig
    | 2 => j.bundles.any fun b => b.refKind == 1 && b.digest == dig
    | _ => j.bundles.any fun b => b.refKind == 2 && b.digest == dig

/-- The loaded control sets that name a vocabulary (R226). -/
def State.controlsOf (s : State) (dig : Nat) : List Loaded :=
  s.images.filter fun l => l.kind == 1 && !l.building && controlTag l.bytes == dig % 2 ^ 64

/-- The image a select object names is unloaded, unless something references it (R226, R232, R258, R297). -/
def State.unloadImage (s : State) (c : ImageKind) : State :=
  let dig := s.get c.select
  match s.loadedImage c.num dig with
  | none => s.refuseLoad c c.unknown
  | some l =>
    if s.usersOf c.num dig ≠ [] ∨ (c.num = 0 ∧ s.controlsOf dig ≠ []) then s.refuseLoad c c.inUse
    else (State.set { s with images := s.images.filter fun x => !(x.kind == c.num && x.entry == l.entry) } c.lastReason 0).ok

/-- A bundle is loaded from the store object that BundleSourceObject names (R258). -/
def State.loadObject (s : State) : State :=
  match s.sealedObject (s.get Obj.bundleSourceObject) with
  | some b => s.loadImage bundleKind b
  | none => s.refuseLoad bundleKind 0x4009

end Sys2Proof.Machine
end

