-- ==== Sys2Proof/Machine/Work.lean ====
section
/-! DEFINITION. The commands of images, of curation, of Pier kernels, of internal faults and of the sliced classes. -/

namespace Sys2Proof.Machine

/-! ## Images -/

/-- VOCAB_LOAD (R226). -/
def execVocabLoad (s : State) : Host.Outcome State Fault Refusal :=
  .next (writeCommand Obj.vocabCommand 1 (fun t => t.loadImage vocabKind (t.blob Obj.vocabImage)) s)

/-- VOCAB_BUILD_COMPLETE (R225). -/
def execVocabBuildComplete (entry : Nat) (s : State) : Host.Outcome State Fault Refusal :=
  .next (s.buildImage vocabKind entry State.vocabReason)

/-- VOCAB_UNLOAD (R226). -/
def execVocabUnload (s : State) : Host.Outcome State Fault Refusal :=
  .next (writeCommand Obj.vocabCommand 2 (fun t => t.unloadImage vocabKind) s)

/-- CONTROL_LOAD (R232). -/
def execControlLoad (s : State) : Host.Outcome State Fault Refusal :=
  .next (writeCommand Obj.controlCommand 1 (fun t => t.loadImage controlKind (t.blob Obj.controlImage)) s)

/-- CONTROL_BUILD_COMPLETE (R233). -/
def execControlBuildComplete (entry : Nat) (s : State) : Host.Outcome State Fault Refusal :=
  .next (s.buildImage controlKind entry State.controlReason)

/-- CONTROL_UNLOAD (R232). -/
def execControlUnload (s : State) : Host.Outcome State Fault Refusal :=
  .next (writeCommand Obj.controlCommand 2 (fun t => t.unloadImage controlKind) s)

/-- BUNDLE_LOAD_IMAGE (R258). -/
def execBundleLoadImage (s : State) : Host.Outcome State Fault Refusal :=
  .next (writeCommand Obj.bundleCommand 1 (fun t => t.loadImage bundleKind (t.blob Obj.bundleImage)) s)

/-- BUNDLE_LOAD_OBJECT (R258). -/
def execBundleLoadObject (s : State) : Host.Outcome State Fault Refusal :=
  .next (writeCommand Obj.bundleCommand 2 State.loadObject s)

/-- BUNDLE_LOAD_COMPLETE (R257). -/
def execBundleLoadComplete (entry : Nat) (s : State) : Host.Outcome State Fault Refusal :=
  .next (s.buildImage bundleKind entry State.bundleLoadReason)

/-- BUNDLE_UNLOAD (R258). -/
def execBundleUnload (s : State) : Host.Outcome State Fault Refusal :=
  .next (writeCommand Obj.bundleCommand 3 (fun t => t.unloadImage bundleKind) s)

/-- KERNEL_LOAD (R297). -/
def execKernelLoad (s : State) : Host.Outcome State Fault Refusal :=
  .next (writeCommand Obj.kernelCommand 1 (fun t => t.loadImage kernelKind (t.blob Obj.kernelImage)) s)

/-- KERNEL_BUILD_COMPLETE (R296). -/
def execKernelBuildComplete (entry : Nat) (s : State) : Host.Outcome State Fault Refusal :=
  .next (s.buildImage kernelKind entry State.kernelReason)

/-- KERNEL_UNLOAD (R297). -/
def execKernelUnload (s : State) : Host.Outcome State Fault Refusal :=
  .next (writeCommand Obj.kernelCommand 2 (fun t => t.unloadImage kernelKind) s)

/-! ## Curation -/

/-- PREFILL_PASS_COMPLETE (R268). -/
def execPrefillPassComplete (entries : List Nat) (s : State) : Host.Outcome State Fault Refusal :=
  .next ((prefillPassComplete entries s).flow)

/-- STEP_PASS_COMPLETE (R268). -/
def execStepPassComplete (entries : List Nat) (s : State) : Host.Outcome State Fault Refusal :=
  .next ((stepPassComplete entries s).flow)

/-- TRESTLE_OPERATOR_FAULT (R248). -/
def execTrestleOperatorFault (entries : List Nat) (column : Bool) (line : Nat) (permanent : Bool) (s : State) :
    Host.Outcome State Fault Refusal := .next ((trestleOperatorFault entries column line permanent s).flow)

/-- CURATION_LOG_RELEASE (R265). -/
def execCurationLogRelease (slot value : Nat) (s : State) : Host.Outcome State Fault Refusal :=
  .next ((writeCommand (inst Obj.curationLogRelease slot) value (curationLogRelease slot value) s).flow)

/-! ## Kernels -/

/-- KERNEL_ITEM_START (R277). -/
def execKernelItemStart (s : State) : Host.Outcome State Fault Refusal := .next ((kernelItemStart s).flow)

/-- CHAIN_ALLOC (R286). -/
def execChainAlloc (entry : Nat) (work : KernelStep) (s : State) : Host.Outcome State Fault Refusal :=
  .next ((chainAlloc entry work s).flow)

/-- CHAIN_LENGTH (R286). -/
def execChainLength (entry : Nat) (work : KernelStep) (s : State) : Host.Outcome State Fault Refusal :=
  .next ((chainLength entry work s).flow)

/-- REF_ADD (R286). -/
def execRefAdd (entry : Nat) (work : KernelStep) (s : State) : Host.Outcome State Fault Refusal :=
  .next ((kernelRefAdd entry work s).flow)

/-- REF_DROP (R286). -/
def execRefDrop (entry : Nat) (work : KernelStep) (s : State) : Host.Outcome State Fault Refusal :=
  .next ((kernelRefDrop entry work s).flow)

/-- DMA_SUBMIT (R289). -/
def execDmaSubmit (entry : Nat) (work : KernelStep) (s : State) : Host.Outcome State Fault Refusal :=
  .next ((dmaSubmit entry work s).flow)

/-- DMA_WAIT (R286). -/
def execDmaWait (entry : Nat) (work : KernelStep) (s : State) : Host.Outcome State Fault Refusal :=
  .next ((dmaWait entry work s).flow)

/-- DMA_COMPLETE (R288). -/
def execDmaComplete (entry tag : Nat) (s : State) : Host.Outcome State Fault Refusal :=
  .next ((dmaComplete entry tag s).flow)

/-- DMA_TIMEOUT (R278). -/
def execDmaTimeout (entry tag : Nat) (s : State) : Host.Outcome State Fault Refusal :=
  .next ((dmaTimeout entry tag s).flow)

/-- RNG (R287). -/
def execRng (entry : Nat) (work : KernelStep) (s : State) : Host.Outcome State Fault Refusal :=
  .next ((rng entry work s).flow)

/-- EMIT (R291). -/
def execEmit (entry : Nat) (work : KernelStep) (s : State) : Host.Outcome State Fault Refusal :=
  .next ((emit entry work s).flow)

/-- PASS (R290). -/
def execPass (entry : Nat) (work : KernelStep) (s : State) : Host.Outcome State Fault Refusal :=
  .next ((pass entry work s).flow)

/-- FAIL (R290). -/
def execFail (entry : Nat) (work : KernelStep) (s : State) : Host.Outcome State Fault Refusal :=
  .next ((fail entry work s).flow)

/-- REJECT (R290). -/
def execReject (entry : Nat) (work : KernelStep) (s : State) : Host.Outcome State Fault Refusal :=
  .next ((reject entry work s).flow)

/-- SERVICE_UNKNOWN (R286). -/
def execServiceUnknown (entry : Nat) (work : KernelStep) (s : State) : Host.Outcome State Fault Refusal :=
  .next ((serviceUnknown entry work s).flow)

/-- KERNEL_TRAP (R293). -/
def execKernelTrap (entry : Nat) (work : KernelStep) (code : Nat) (s : State) : Host.Outcome State Fault Refusal :=
  .next ((kernelTrap entry work code s).flow)

/-- INSTRUCTION_LIMIT (R292). -/
def execInstructionLimit (entry : Nat) (work : KernelStep) (s : State) : Host.Outcome State Fault Refusal :=
  .next ((kernelLimit entry work s).flow)

/-- NO_ENDING (R290). -/
def execNoEnding (entry : Nat) (work : KernelStep) (s : State) : Host.Outcome State Fault Refusal :=
  .next ((noEnding entry work s).flow)

/-! ## Internal faults -/

/-- ENGINE_FAULT (R432). -/
def execEngineFault (entry : Nat) (permanent : Bool) (s : State) : Host.Outcome State Fault Refusal :=
  .next ((itemEngineFault entry permanent s).flow)

/-- SRAM_UNCORRECTABLE (R308). -/
def execSramUncorrectable (tile address bank : Nat) (entry : Option Nat) (damaged firmware : Bool) (s : State) :
    Host.Outcome State Fault Refusal := .next ((sramUncorrectable tile address bank entry damaged firmware s).flow)

/-- VIADUCT_LANE_FAILURE (R431). -/
def execViaductLaneFailure (tile link lane : Nat) (s : State) : Host.Outcome State Fault Refusal :=
  .next ((viaductLaneFailure tile link lane s).flow)

/-- NODE_FAULT (R431). -/
def execNodeFault (s : State) : Host.Outcome State Fault Refusal := .next ((s.nodeFault 1 0).flow)

/-! ## Sliced classes -/

/-- INFERENCE_SWITCH_START (R39). -/
def execInferenceSwitchStart (s : State) : Host.Outcome State Fault Refusal := .next ((inferenceSwitchStart s).flow)

/-- SLICE_SWITCH_COMPLETE (R39). -/
def execSliceSwitchComplete (cls : Nat) (s : State) : Host.Outcome State Fault Refusal :=
  .next ((sliceSwitchComplete (sliceClassOf cls) s).flow)

end Sys2Proof.Machine
end

