-- ==== Sys2Proof/Machine/Writes.lean ====
section
/-! DEFINITION. A write to any object of the dictionary (R499, R500, R514): the checks in order, then the effect of the chapter that owns
the object. A command object's value has the effect of the command's own row. -/

namespace Sys2Proof.Machine

/-! ## Instances -/

/-- The instance of a block of `count` instances that a key names, where it names an object of the block. -/
def instOf (base count k : Nat) : Option Nat :=
  if keySub k = keySub base ∧ keyIndex base ≤ keyIndex k ∧ keyIndex k < keyIndex base + count then
    some (keyIndex k - keyIndex base)
  else none

/-! ## Command objects -/

/-- JobCommand (R33). -/
def jobCommandWrite (o : Outside) (slot v : Nat) (s : State) : State :=
  match v with
  | 1 => validate slot o.readable o.draining s
  | 2 => arm slot s
  | 3 => afterLaunch slot (disarm slot) s
  | 4 => (afterLaunch slot (stop slot) s).flow
  | 5 => (afterLaunch slot (abort slot) s).flow
  | _ => (jobRelease slot s).flow

/-- StepCommand (R457). -/
def stepCommandWrite (slot v : Nat) (s : State) : State :=
  match v with
  | 1 => (stepAbort slot s).flow
  | 2 => resume slot s
  | 3 => join slot s
  | _ => cancel slot s

/-- MemberCommand (R458). -/
def memberCommandWrite (slot v : Nat) (s : State) : State :=
  match v with
  | 1 => replaceMember slot s
  | 2 => removeDomain slot s
  | _ => memberClear slot s

/-- The commands that load and unload an image (R226, R232, R258, R297). -/
def imageCommandWrite (c : ImageKind) (v : Nat) (s : State) : State :=
  if v = 1 then s.loadImage c (s.blob c.image)
  else if c.num = 2 ∧ v = 2 then s.loadObject
  else s.unloadImage c

/-- FlashCommand (R363, R364). -/
def flashCommandWrite (o : Outside) (v : Nat) (s : State) : State :=
  match v with
  | 1 => formatStore o.found s
  | 2 => patrolFull s
  | _ => patrolStop s

/-- FwCommand (R477). -/
def fwCommandWrite (o : Outside) (v : Nat) (s : State) : State :=
  match v with
  | 1 => stageImage s
  | 2 => stageObject s
  | 3 => install s
  | 4 => rebootCommand s
  | _ => commitSvn o.burned s

/-- RevokeCommand (R485). -/
def revokeCommandWrite (v : Nat) (s : State) : State :=
  match v with
  | 1 => revokeAdd s
  | 2 => revokeRemove s
  | _ => revokeClear s

/-- SelftestCommand (R538, R543). -/
def selftestCommandWrite (o : Outside) (v : Nat) (s : State) : State :=
  match v with
  | 1 => lbist o.readings s
  | 2 => marchPreserve s
  | 3 => marchDestructive s
  | _ => selftestStop s

/-- PowerCommand (R566, R569). -/
def powerCommandWrite (v : Nat) (s : State) : State :=
  match v with
  | 1 => retainCommand s
  | 2 => wakeCommand s
  | _ => shutdownCommand s

/-! ## Objects that their chapters restrict -/

/-- A write that is legal only in some state of the object's owner; any other is refused with 0x801A (R500). -/
def State.acceptWhen (s : State) (legal : Bool) (k v : Nat) : State := if legal then s.accept k v else s.refused 0x801A

/-- KernelPiers and SlowLanePiers together stay within 48 Piers (R277). -/
def pierCountWrite (k v : Nat) (s : State) : State :=
  let other := if k = Obj.kernelPiers then Obj.slowLanePiers else Obj.kernelPiers
  if 48 < v + s.get other then s.refused 0x800A else s.accept k v

/-- BufferPoolBytes: the pool is built anew at the new size (R307, R320). It is refused while a buffer is allocated, since nothing says
where that would go. -/
def poolBytesWrite (v : Nat) (s : State) : State :=
  if s.pool.held ≠ [] ∨ s.pool.waiting ≠ [] then s.refused 0x801A else (s.accept Obj.bufferPoolBytes v).layMemory.ok

/-- CacheGddrBytes: what no longer fits is dropped (R188, R307). -/
def cacheBytesWrite (v : Nat) (s : State) : State :=
  let s := (s.accept Obj.cacheGddrBytes v).layHeap
  (shrinkCache (s.cache.entries.length + 1) s).ok

/-- The owner's effect of a write by the base object and count of its block; every other object takes the value. -/
def owners (o : Outside) : List (Nat × Nat × (Nat → Nat → State → State)) :=
  [ (Obj.jobCommand, 64, jobCommandWrite o),
    (Obj.stagingOpen, 64, fun i _ s => stagingOpen i s),
    (Obj.launchTick, 64, fun i v s => s.acceptWhen (s.jobState i == 2) (inst Obj.launchTick i) v),
    (Obj.expectedDigest, 64, fun i v s => s.acceptWhen (s.jobState i == 2) (inst Obj.expectedDigest i) v),
    (Obj.jobAdmissionKey, 64, fun i v s =>
      s.acceptWhen (s.jobState i == 1 || s.jobState i == 2) (inst Obj.jobAdmissionKey i) v),
    (Obj.slotShaperProfile, 64, fun i v s => slotSelectorWrite i (inst Obj.slotShaperProfile i) v s),
    (Obj.slotQuantumBytes, 64, fun i v s => slotSelectorWrite i (inst Obj.slotQuantumBytes i) v s),
    (Obj.slotPolicerProfile, 64, fun i v s => slotSelectorWrite i (inst Obj.slotPolicerProfile i) v s),
    (Obj.curationLogRelease, 64, fun i v s => (curationLogRelease i v s).flow),
    (Obj.stepCommand, 64, stepCommandWrite),
    (Obj.memberCommand, 64, memberCommandWrite),
    (Obj.syncSource, 1, fun _ v s => syncSourceWrite v s),
    (Obj.ppsSecondsNext, 1, fun _ v s => ppsSecondsWrite v s),
    (Obj.slowLanePiers, 1, fun _ v s => pierCountWrite Obj.slowLanePiers v s),
    (Obj.kernelPiers, 1, fun _ v s => pierCountWrite Obj.kernelPiers v s),
    (Obj.cacheGddrBytes, 1, fun _ v s => cacheBytesWrite v s),
    (Obj.cacheCommand, 1, fun _ v s => cacheCommandWrite v s),
    (Obj.vocabCommand, 1, fun _ v s => imageCommandWrite vocabKind v s),
    (Obj.controlCommand, 1, fun _ v s => imageCommandWrite controlKind v s),
    (Obj.bundleCommand, 1, fun _ v s => imageCommandWrite bundleKind v s),
    (Obj.kernelCommand, 1, fun _ v s => imageCommandWrite kernelKind v s),
    (Obj.bundleAreaBytes, 1, fun _ v s => ((s.accept Obj.bundleAreaBytes v).layHeap).ok),
    (Obj.bufferPoolBytes, 1, fun _ v s => poolBytesWrite v s),
    (Obj.retireChannel, 1, fun _ v s => retireChannel v s),
    (Obj.flashCommand, 1, fun _ v s => flashCommandWrite o v s),
    (Obj.objectCommand, 1, fun _ v s => objectCommand v s),
    (Obj.portBreakout, 8, fun i v s => ((s.accept (inst Obj.portBreakout i) v).layPorts).ok),
    (Obj.controlDscp, 1, fun _ v s => dscpWrite Obj.controlDscp v s),
    (Obj.peerDscp, 1, fun _ v s => dscpWrite Obj.peerDscp v s),
    (Obj.peerShaperProfile, 1, fun _ v s => profileSelectorWrite Obj.peerShaperProfile v false s),
    (Obj.serviceShaperProfile, 1, fun _ v s => profileSelectorWrite Obj.serviceShaperProfile v false s),
    (Obj.peerPolicerProfile, 1, fun _ v s => profileSelectorWrite Obj.peerPolicerProfile v true s),
    (Obj.servicePolicerProfile, 1, fun _ v s => profileSelectorWrite Obj.servicePolicerProfile v true s),
    (Obj.shapeRateMbps, 32, fun i v s => shaperProfileWrite i 1 v s),
    (Obj.shapeBurstBytes, 32, fun i v s => shaperProfileWrite i 2 v s),
    (Obj.policerKind, 32, fun i v s => policerProfileWrite i 1 v s),
    (Obj.policerCirMbps, 32, fun i v s => policerProfileWrite i 2 v s),
    (Obj.policerCbsBytes, 32, fun i v s => policerProfileWrite i 3 v s),
    (Obj.policerEbsBytes, 32, fun i v s => policerProfileWrite i 4 v s),
    (Obj.policerPirMbps, 32, fun i v s => policerProfileWrite i 5 v s),
    (Obj.policerPbsBytes, 32, fun i v s => policerProfileWrite i 6 v s),
    (Obj.fwCommand, 1, fun _ v s => fwCommandWrite o v s),
    (Obj.securityCommand, 1, fun _ _ s => bindBootFlash o.counters o.advanced s),
    (Obj.quoteCommand, 1, fun _ _ s => quoteCommand s),
    (Obj.measureCommand, 1, fun _ _ s => measureCommand s),
    (Obj.revokeCommand, 1, fun _ v s => revokeCommandWrite v s),
    (Obj.persistCommand, 1, fun _ _ s => restoreDefaults s),
    (Obj.counterControl, 256, fun i v s => counterControlWrite (i / 32) (i % 32) v s),
    (Obj.counterValue, 256, fun i v s => counterValueWrite (i / 32) (i % 32) v s),
    (Obj.counterCommand, 1, fun _ v s => counterCommandWrite v s),
    (Obj.selftestCommand, 1, fun _ v s => selftestCommandWrite o v s),
    (Obj.plannerCommand, 1, fun _ _ s => planNow s),
    (Obj.powerCommand, 1, fun _ v s => powerCommandWrite v s),
    (Obj.holdUpCommand, 1, fun _ _ s => holdUpCommand s) ]

/-- The objects of a slot that its step state restricts (R457, R458). -/
def stepRestricted (k : Nat) : Option Nat :=
  let i := keyIndex k
  let u := keySub k
  if 0x7100 ≤ i ∧ i < 0x7140 ∧ u ≠ keySub Obj.stepCommand then some (i - 0x7100)
  else if 0x7140 ≤ i ∧ i < 0x7180 ∧ u ≠ keySub Obj.memberCommand then some (i - 0x7140)
  else none

/-- Step 7 of R514 and the effect, for a value of fixed size. -/
def ownerWrite (o : Outside) (k v : Nat) (s : State) : State :=
  match (owners o).findSome? fun e => (instOf e.1 e.2.1 k).map fun i => e.2.2 i v with
  | some f => f s
  | none =>
    match stepRestricted k with
    | some slot => s.acceptWhen (s.stepOpen slot) k v
    | none => s.accept k v

/-! ## Domains -/

/-- Bytes written to the staging window of a slot (R26, R47): refused unless the slot is STAGED with its window open. -/
def stagingWrite (slot offset : Nat) (b : Bytes) (s : State) : State :=
  if s.jobState slot = 1 ∧ (s.slot slot).windowOpen then
    (s.modSlot slot fun sl =>
      { sl with
        window := Memory.write sl.window offset b
        windowTop := if b = [] then sl.windowTop else max sl.windowTop (offset + b.length) }).ok
  else s.refused 0x801A

/-- Bytes written to the window of the selected OPEN object (R341, R368); with no window the write is not legal in the object's
state. -/
def objectDataWrite (offset : Nat) (b : Bytes) (s : State) : State :=
  let id := s.get Obj.objectSelect
  if s.objectWindows.any fun w => w.object == id then
    State.ok { s with objectWindows := s.objectWindows.map fun w =>
      if w.object = id then
        { w with cells := Memory.write w.cells offset b, top := if b = [] then w.top else max w.top (offset + b.length) }
      else w }
  else s.refused 0x5012

/-- NandProfile takes a profile whole (R335, R364). -/
def nandProfileWrite (offset : Nat) (b : Bytes) (s : State) : State :=
  if offset = 0 ∧ b.length = 256 then ((s.setBlob Obj.nandProfile b).recordWrite Obj.nandProfile b).ok
  else s.refuse 0x0014 0

/-- A range of a DOMAIN is written. -/
def domainWrite (k offset : Nat) (b : Bytes) (s : State) : State :=
  match instOf Obj.manifestImage 64 k with
  | some slot => stagingWrite slot offset b s
  | none =>
    if k = Obj.objectData then objectDataWrite offset b s
    else if k = Obj.nandProfile then nandProfileWrite offset b s
    else (s.setBlob k (overwrite (s.blob k) offset b)).ok

/-- A STR is written: well-formed UTF-8 without a zero byte, within its limit (R512). -/
def stringWrite (k limit : Nat) (b : Bytes) (s : State) : State :=
  if b.length ≤ limit ∧ ¬ b.contains 0 ∧ wellFormed b then ((s.setBlob k b).recordWrite k b).ok else s.refuse 0x0014 0

/-! ## The write -/

/-- The services of R496. -/
inductive WriteService where
  | expedited | segmented | staged
deriving DecidableEq, Repr

/-- The limits of a service on the length of a value (R496). -/
def serviceAbort (sv : WriteService) (ty : ObjType) (len : Nat) : Option (Nat × Nat) :=
  match sv with
  | .expedited => if len ≤ 48 then none else some (0x0013, 0)
  | .segmented => if 1 ≤ len ∧ len ≤ 65536 then none else some (0x0013, 0)
  | .staged => if ty.isDomain && decide (1 ≤ len) then none else some (0x0013, 0)

/-- Steps 1 to 5 of R514 with the first failure: what the request itself shows. -/
def requestAbort (s : State) (sv : Option WriteService) (k offset len : Nat) : Option (Nat × Nat) :=
  match accessWrite s k with
  | some a => some a
  | none =>
    match findRow k with
    | none => some (0x0010, 0)
    | some r =>
      match sv.bind fun v => serviceAbort v r.ty len with
      | some a => some a
      | none => lengthAbort r.ty offset len

/-- A write of a value to an object (R514); the answer says how it went. -/
def writeObject (o : Outside) (sv : Option WriteService) (k offset : Nat) (value : Bytes) (s : State) : State :=
  match requestAbort s sv k offset value.length with
  | some (a, r) => s.refuse a r
  | none =>
    match findRow k with
    | none => s.refuse 0x0010 0
    | some row =>
      match row.ty with
      | .domain _ => if persistFull s k then s.refuse 0x0018 0 else domainWrite k offset value s
      | .str limit => if persistFull s k then s.refuse 0x0018 0 else stringWrite k limit value s
      | _ =>
        match valueAbort s row k (leNat value) with
        | some (a, r) => s.refuse a r
        | none => if persistFull s k then s.refuse 0x0018 0 else ownerWrite o k (leNat value) s

/-- REGISTER_WRITE (R514): a write that is checked in order and takes effect at its acceptance tick. -/
def execRegisterWrite (key offset : Nat) (value : Bytes) (outside : Outside) (s : State) :
    Host.Outcome State Fault Refusal :=
  .next (writeObject outside none key offset value s)

end Sys2Proof.Machine
end

