-- ==== Sys2Proof/Machine/Read.lean ====
section
/-! DEFINITION. What a read of a dictionary object returns (R513, R514): most objects hold their value; those that show the standing of some
machinery are computed from it when they are read. -/

namespace Sys2Proof.Machine

/-! ## Objects computed from the machinery -/

/-- PowerState (R567): RETAIN while it is held, else ACTIVE while one of its conditions holds. -/
def State.powerStateNow (s : State) : Nat :=
  if s.get Obj.powerState = 2 then 2
  else if (allSlots.any fun i => decide (3 ≤ s.jobState i ∧ s.jobState i ≤ 5)) || s.selftest.command != 0 ||
      s.store.campaign.isSome || s.store.patrol.isSome then 0
  else 1

/-- The heap bytes that a slot's structures of a kind hold. -/
def State.heapOf (s : State) (slot : Nat) (kind : HeapKind) : Nat :=
  ((s.heap.filter fun e => e.1 == slot && e.2.1 == kind.num).map fun e => e.2.2).sum

/-- The stream record of stream `k` of a slot. -/
def State.streamRec (s : State) (slot k : Nat) : Option StreamRec := (s.job slot).streams[k]?

/-- The image of a kind in an entry. -/
def State.imageAt (s : State) (kind entry : Nat) : Option Loaded :=
  s.images.find? fun l => l.kind == kind && l.entry == entry

/-- The state of an entry: 0 EMPTY, 1 BUILDING, 2 LOADED. -/
def State.imageState (s : State) (kind entry : Nat) : Nat :=
  match s.imageAt kind entry with
  | some l => if l.building then 1 else 2
  | none => 0

/-- A field of a LOADED image, 0 of any other entry. -/
def State.imageField (s : State) (kind entry : Nat) (f : Bytes → Nat) : Nat :=
  match s.imageAt kind entry with
  | some l => if l.building then 0 else f l.bytes
  | none => 0

/-- The LOADED entries of a kind. -/
def State.loadedCount (s : State) (kind : Nat) : Nat := (s.images.filter fun l => l.kind == kind && !l.building).length

/-- The spares of a kind on both pipeline tiles not yet used. -/
def State.sparesLeft (s : State) (kind : Nat) : Nat :=
  let all := if kind = 6 ∨ kind = 7 then spareNumbers kind 0 else spareNumbers kind 0 ++ spareNumbers kind 64
  (all.filter fun n => (s.element kind n).isNone).length

/-- The connection that ConnSelect shows. -/
def State.shownConn (s : State) : Option Conn := s.conn (s.get Obj.connSelect)

/-- A field of that connection, or the object's default where the context is unused. -/
def State.connField (s : State) (k : Nat) (f : Conn → Nat) : Nat := (s.shownConn.map f).getD (defaultOf k)

/-- The object that ObjectSelect shows. -/
def State.shownObject (s : State) : Option StoreObject := s.object (s.get Obj.objectSelect)

/-- The region of the window of the object that ObjectSelect shows. -/
def State.shownWindow (s : State) : Option Region := s.regionOf .objectWindow (s.get Obj.objectSelect) 0

/-- The KERNEL stages of a slot whose package sets TIMING_READ (R282, R304). -/
def State.timingReadKernels (s : State) (slot : Nat) : Nat :=
  let j := s.job slot
  (j.stages.filter fun st => st.kind == 0x09 && bit (field (s.stageImage j st) 0x10 4) 0).length

/-- The vocabulary entry that a slot uses, 0xFF for none. -/
def State.slotVocab (s : State) (slot : Nat) : Nat :=
  match (s.job slot).stages.find? fun st => st.kind == 0x0A with
  | some st =>
    match s.images.find? fun l => l.kind == 0 && !l.building && digestNat l.bytes == field st.param 0 32 with
    | some l => l.entry
    | none => 0xFF
  | none => 0xFF

/-- The batches of a stream that are ready, or not yet. -/
def State.batchesReady (s : State) (slot stream : Nat) (ready : Bool) : Nat :=
  (s.batches.filter fun b => b.slot == slot && b.stream == stream && b.ready.isSome == ready).length

/-- The bytes that the batches of the Shoes hold (R195, R212). -/
def State.shoeUsed (s : State) : Nat :=
  let most := s.get Obj.maxDecodedBytes
  (s.shoes.map fun x =>
    match s.streamRec x.slot x.stream with
    | some st => (s.shoeBatches x).length * (shoeSpace most (s.job x.slot) st 1 - shoeSpace most (s.job x.slot) st 0)
    | none => 0).sum

/-- The consumers of a stream with an ESTABLISHED connection. -/
def State.consumersConnected (s : State) (slot stream : Nat) : Nat :=
  match s.streamRec slot stream with
  | some st =>
    (s.conns.filter fun c => c.kind == 0 && c.st == 2 && c.slot == slot &&
      decide (st.firstConsumer ≤ c.consumer ∧ c.consumer < st.firstConsumer + st.count)).length
  | none => 0

/-- riffle of the probe's position and epoch (R122). -/
def State.probeSample (s : State) (slot : Nat) : Nat :=
  match (s.slot slot).job with
  | some j =>
    let p := s.get (inst Obj.probePosition slot)
    if p < j.n then riffle j.seed j.n p (s.get (inst Obj.probeEpoch slot)) else allOnes64
  | none => allOnes64

/-- The number of entries by which two replacement lists differ: those of one with no equal in the other, by old UID. -/
def listChanges (a b : List Replacement) : Nat :=
  let olds := ((a ++ b).map Replacement.old).eraseDups
  (olds.filter fun u => a.find? (·.old == u) != b.find? (·.old == u)).length

/-- The newest history record of a SampleRef on this node (R439, R459). -/
def State.historyOf (s : State) (slot ref : Nat) : Option HistoryRec :=
  ((s.slot slot).history.filter fun r => r.ref == ref).getLast?

/-- The pool Piers now serving (R277, R303). -/
def State.kernelPiersNow (s : State) : Nat :=
  if allSlots.any fun i => s.running i && (s.job i).stages.any fun st => st.kind == 0x09 then s.pierRoles.2.1.length else 0

/-- A number about a slot's manifest, 0 while it holds none. -/
def State.ofJob (s : State) (slot : Nat) (f : Job → Nat) : Nat := ((s.slot slot).job.map f).getD 0

/-- The objects computed from the machinery: the base of the block, how many instances it has, and the value. -/
def computed : List (Nat × Nat × (State → Nat → Nat)) :=
  [ (Obj.residentJobCount, 1, fun s _ => (allSlots.filter fun i => s.jobState i != 0).length),
    (Obj.itemTableInUse, 1, fun s _ => (s.items.filter Item.own).length),
    (Obj.connectionsReserved, 1, fun s _ => ((allSlots.filter s.connecting).map fun i => s.ofJob i fun j => j.consumers.length).sum),
    (Obj.itemsInFlight, 64, fun s i => (s.itemsOf i).length),
    (Obj.stagedBytes, 64, fun s i => (s.slot i).windowTop),
    (Obj.gtcNow, 1, fun s _ => s.gtc),
    (Obj.streamActive, 1024, fun s i => ofBool (s.running (i / 16) && (s.streamRec (i / 16) (i % 16)).isSome)),
    (Obj.streamDelivery, 1024, fun s i => ((s.streamRec (i / 16) (i % 16)).map StreamRec.delivery).getD 0),
    (Obj.consumersConnected, 1024, fun s i => s.consumersConnected (i / 16) (i % 16)),
    (Obj.shardMapForm, 64, fun s i => s.ofJob i Job.mapForm),
    (Obj.shardMapNodes, 64, fun s i => s.ofJob i fun j => j.nodes.length),
    (Obj.shardMapBytes, 64, fun s i => s.ofJob i (fun j => 40 * j.shards.length) + s.heapOf i .tarIndices),
    (Obj.annotationBytes, 64, fun s i => s.heapOf i .annotations),
    (Obj.riffleWidth, 64, fun s i => s.ofJob i fun j => 2 * halfWidth j.n),
    (Obj.talonCount, 64, fun s i => s.ofJob i Job.t),
    (Obj.issuedPositions, 64, fun s i => s.ofJob i Job.issued),
    (Obj.fullBatches, 64, fun s i => s.ofJob i Job.fullBatches),
    (Obj.partialBatchPositions, 64, fun s i => s.ofJob i Job.shortPositions),
    (Obj.probeSample, 64, State.probeSample),
    (Obj.imageDealersInService, 1, fun s _ => (s.enginesOf 1).length),
    (Obj.signalDealersInService, 1, fun s _ => (s.enginesOf 2).length),
    (Obj.imageSparesLeft, 1, fun s _ => s.sparesLeft 1),
    (Obj.signalSparesLeft, 1, fun s _ => s.sparesLeft 2),
    (Obj.zstdEnginesInService, 1, fun s _ => (s.enginesOf 4).length),
    (Obj.warpEnginesInService, 1, fun s _ => (s.enginesOf 3).length),
    (Obj.shoeReservedBytes, 1, fun s _ => s.shoeReserved),
    (Obj.resampleTableDigest, 1, fun s _ => digestNat (resampleBytes (s.get Obj.resampleTableEntries))),
    (Obj.shoeUsedBytes, 1, fun s _ => s.shoeUsed),
    (Obj.tokenizerEnginesInService, 1, fun s _ => (s.enginesOf 5).length),
    (Obj.vocabSramUsedBytes, 1, fun s _ =>
      ((s.images.filter fun l => l.kind == 0 && !l.building).map fun l => vocabTableBytes l.bytes).sum),
    (Obj.vocabLoadedCount, 1, fun s _ => s.loadedCount 0),
    (Obj.vocabState, 8, fun s e => s.imageState 0 e),
    (Obj.vocabDigest, 8, fun s e => s.imageField 0 e digestNat),
    (Obj.vocabSize, 8, fun s e => s.imageField 0 e vocabSize),
    (Obj.vocabLongest, 8, fun s e => s.imageField 0 e vocabLongest),
    (Obj.vocabTableBytes, 8, fun s e => s.imageField 0 e vocabTableBytes),
    (Obj.vocabUsers, 8, fun s e => s.imageField 0 e fun b =>
      (s.usersOf 0 (digestNat b)).length + (s.controlsOf (digestNat b)).length),
    (Obj.slotVocabEntry, 64, State.slotVocab),
    (Obj.controlLoadedCount, 1, fun s _ => s.loadedCount 1),
    (Obj.controlState, 16, fun s e => s.imageState 1 e),
    (Obj.controlDigest, 16, fun s e => s.imageField 1 e digestNat),
    (Obj.controlVocabTag, 16, fun s e => s.imageField 1 e controlTag),
    (Obj.stopStringCount, 16, fun s e => s.imageField 1 e fun b => field b 0x0C 2),
    (Obj.bannedCount, 16, fun s e => s.imageField 1 e fun b => field b 0x10 4),
    (Obj.forcedCount, 16, fun s e => s.imageField 1 e fun b => field b 0x14 4),
    (Obj.automatonStates, 16, fun s e => s.imageField 1 e fun b => ((controlRecords b).map automatonStates).getD 0),
    (Obj.controlBytes, 16, fun s e => s.imageField 1 e fun b =>
      Config.automatonBytes (((controlRecords b).map automatonStates).getD 0)),
    (Obj.controlUsers, 16, fun s e => s.imageField 1 e fun b => (s.usersOf 1 (digestNat b)).length),
    (Obj.trestleSpareRowsLeft, 1, fun s _ => s.sparesLeft 6),
    (Obj.trestleSpareColsLeft, 1, fun s _ => s.sparesLeft 7),
    (Obj.bundleAreaUsedBytes, 1, fun s _ => ((s.images.filter fun l => l.kind == 2 && !l.building).map fun l => l.bytes.length).sum),
    (Obj.bundleLoadedCount, 1, fun s _ => s.loadedCount 2),
    (Obj.bundleState, 32, fun s e => s.imageState 2 e),
    (Obj.bundleDigest, 32, fun s e => s.imageField 2 e digestNat),
    (Obj.bundleRole, 32, fun s e => s.imageField 2 e fun b => byteAt b 0x10),
    (Obj.bundleBytes, 32, fun s e => s.imageField 2 e fun b => field b 8 8),
    (Obj.bundleWorksetKib, 32, fun s e => s.imageField 2 e fun b => field b 0x38 4),
    (Obj.bundleOpCount, 32, fun s e => s.imageField 2 e fun b => field b 0x14 4),
    (Obj.bundleUsers, 32, fun s e => s.imageField 2 e fun b => (s.usersOf 2 (digestNat b)).length),
    (Obj.kernelLoadedCount, 1, fun s _ => s.loadedCount 3),
    (Obj.kernelState, 16, fun s e => s.imageState 3 e),
    (Obj.kernelDigest, 16, fun s e => s.imageField 3 e digestNat),
    (Obj.kernelClassMask, 16, fun s e => s.imageField 3 e fun b => byteAt b 0x0E),
    (Obj.kernelOutputForm, 16, fun s e => s.imageField 3 e fun b => byteAt b 0x0F),
    (Obj.kernelFlags, 16, fun s e => s.imageField 3 e fun b => field b 0x10 4),
    (Obj.kernelCodeBytes, 16, fun s e => s.imageField 3 e fun b => field b 0x1C 4),
    (Obj.kernelSpadBytes, 16, fun s e => s.imageField 3 e fun b => field b 0x28 4),
    (Obj.kernelUsers, 16, fun s e => s.imageField 3 e fun b => (s.usersOf 3 (digestNat b)).length),
    (Obj.kernelPiersInService, 1, fun s _ => s.kernelPiersNow),
    (Obj.slotTimingReadKernels, 64, State.timingReadKernels),
    (Obj.damagedImages, 1, fun s _ => (s.images.filter Loaded.damaged).length),
    (Obj.reservesTotal, 1, fun s _ => ((List.range 64).map fun r => s.get (inst Obj.requesterReserve r)).sum),
    (Obj.storeTimeSeconds, 1, fun s _ => s.storeTime),
    (Obj.objectWindowAddress, 1, fun s _ => (s.shownWindow.map Region.base).getD 0),
    (Obj.objectWindowKey, 1, fun s _ => (s.shownWindow.map Region.key).getD 0),
    (Obj.objectState, 1, fun s _ => (s.shownObject.map StoreObject.st).getD 0),
    (Obj.objectLength, 1, fun s _ => (s.shownObject.map fun o => o.data.length).getD 0),
    (Obj.objectDigest, 1, fun s _ => (s.shownObject.map StoreObject.digest).getD 0),
    (Obj.openAdmission, 64, fun s i => ofBool (s.get (inst Obj.jobAdmissionKey i) == 0)),
    (Obj.connState, 1, fun s _ => s.connField Obj.connState Conn.st),
    (Obj.connKind, 1, fun s _ => s.connField Obj.connKind Conn.kind),
    (Obj.connSlot, 1, fun s _ => s.connField Obj.connSlot Conn.slot),
    (Obj.connPeerAddress, 1, fun s _ => s.connField Obj.connPeerAddress Conn.address),
    (Obj.connLocalQpn, 1, fun s _ => s.connField Obj.connLocalQpn Conn.localQpn),
    (Obj.connRemoteQpn, 1, fun s _ => s.connField Obj.connRemoteQpn Conn.remoteQpn),
    (Obj.connSealSpray, 1, fun s _ => s.connField Obj.connSealSpray fun c => ofBool c.sealMode + 2 * ofBool c.sprayMode),
    (Obj.connPort, 1, fun s _ => s.connField Obj.connPort fun c => if c.sprayMode then 0xFF else c.port),
    (Obj.connTxCounter, 1, fun s _ => s.connField Obj.connTxCounter Conn.txCounter),
    (Obj.connRetransmits, 1, fun s _ => s.connField Obj.connRetransmits Conn.retransmits),
    (Obj.connLastReason, 1, fun s _ => s.connField Obj.connLastReason Conn.lastReason),
    (Obj.faultRecord, 1, fun s _ =>
      ((s.faults.find? fun r => r.seq == s.get Obj.faultSelect).map fun r => leNat r.encode).getD 0),
    (Obj.membershipDigest, 64, State.membershipDigest),
    (Obj.membersInStep, 64, fun s i => if (s.slot i).job.isSome then (s.members i).length else 0),
    (Obj.pendingChanges, 64, fun s i => listChanges (s.slot i).inForce (s.slot i).pendingList),
    (Obj.replacedNodes, 64, fun s i => (s.slot i).inForce.length),
    (Obj.historyRecord, 64, fun s i =>
      ((s.historyOf i (s.get (inst Obj.historySelect i))).map fun r => leNat r.encode).getD 0),
    (Obj.counterValue64, 256, fun s i => s.counterValue64 (i / 32) (i % 32)),
    (Obj.persistPending, 1, fun s _ => s.persist.pending.length),
    (Obj.persistRecords, 1, fun s _ => (s.persist.records.filter PersistRecord.committed).length),
    (Obj.persistFreeBytes, 1, fun s _ => s.persist.freeBytes),
    (Obj.repairFusesUsed, 1, fun s _ => s.repair.fuses.length),
    (Obj.powerState, 1, fun s _ => s.powerStateNow) ]

/-! ## The Shoe's objects, and the description of the dictionary -/

/-- The Shoe objects of a stream, at sub-index 16k + f of 0x3510 + slot (R213). -/
def shoeObject (s : State) (slot stream f : Nat) : Option Nat :=
  let most := s.get Obj.maxDecodedBytes
  let sized (g : Nat → Job → StreamRec → Nat) : Nat := ((s.streamRec slot stream).map (g most (s.job slot))).getD 0
  match f with
  | 1 => some (s.batchesReady slot stream true)
  | 2 => some (s.batchesReady slot stream false)
  | 6 => some (sized sliceBytesMax)
  | 7 => some (sized shoeNeed)
  | 0x0B => some (sized pullSliceStride)
  | _ => none

/-- Writes to the object are restricted by state, beyond R513 (FLAGS[4] of R522). -/
def restricted (r : ObjRow) (k : Nat) : Bool :=
  r.acc == .rws || (stepRestricted k).isSome && (r.acc == .rw || r.acc == .wo) ||
    [Obj.manifestImage, Obj.launchTick, Obj.expectedDigest, Obj.jobAdmissionKey, Obj.slotShaperProfile, Obj.slotQuantumBytes,
      Obj.slotPolicerProfile].any fun b => (instOf b 64 k).isSome

/-- The description of an object (R522). -/
def descriptionOf (r : ObjRow) (k : Nat) : Bytes :=
  let flags := ofBool r.persist + 2 * ofBool (recoveryServes k) + 4 * ofBool (retainServes k) +
    8 * ofBool (slotOf k).isSome + 16 * ofBool (restricted r k)
  leBytes 2 (keyIndex k) ++ leBytes 1 (keySub k) ++ leBytes 1 r.ty.code ++ leBytes 1 r.acc.code ++ leBytes 1 flags ++ zeros 2 ++
    leBytes 4 r.ty.maxBytes ++ zeros 4

/-- The keys of a row's objects: its instances, its sub-indices and, for a Shoe object, the streams. -/
def ObjRow.keys (r : ObjRow) : List Nat :=
  let streams := if keyIndex r.key = 0x3510 then 16 else 1
  (List.range r.count).flatMap fun i => (List.range streams).flatMap fun j => (List.range r.subs).map fun u =>
    inst r.key i + 16 * j + u

/-- Insert a key into a rising list. -/
def insertNat (a : Nat) : List Nat → List Nat
  | [] => [a]
  | b :: t => if a ≤ b then a :: b :: t else b :: insertNat a t

/-- Every key of the dictionary, in ascending order of index and sub-index (R522). -/
def dictionaryKeys : List Nat :=
  ((catalogue.flatMap ObjRow.keys).filter fun k => (findRow k).isSome).foldr insertNat []

/-- DictionaryMap (R522). -/
def dictionaryMap : Bytes :=
  dictionaryKeys.flatMap fun k => ((findRow k).map fun r => descriptionOf r k).getD []

/-- The description that DescribeIndex and DescribeSub name, all zero where the object does not exist (R522). -/
def State.description (s : State) : Bytes :=
  let k := 256 * s.get Obj.describeIndex + s.get Obj.describeSub
  ((findRow k).map fun r => descriptionOf r k).getD (zeros 16)

/-! ## Values -/

/-- The value of an object of fixed size, as a number (R512). -/
def State.present (s : State) (k : Nat) : Nat :=
  if 0x3510 ≤ keyIndex k ∧ keyIndex k < 0x3550 then
    (shoeObject s (keyIndex k - 0x3510) (keySub k / 16) (keySub k % 16)).getD (s.get k)
  else if k = Obj.description then leNat s.description
  else if k = Obj.dictionaryMapDigest then (if s.get Obj.bootState = 3 then digestNat dictionaryMap else 0)
  else
    match computed.findSome? fun e => (instOf e.1 e.2.1 k).map fun i => e.2.2 s i with
    | some v => v
    | none => s.get k

/-- The bytes of a DOMAIN. -/
def State.domain (s : State) (k : Nat) : Bytes :=
  match instOf Obj.manifestImage 64 k, instOf Obj.historyRing 64 k with
  | some i, _ => Memory.bytes (s.slot i).window 0 (s.slot i).windowTop
  | none, some i => (s.slot i).history.flatMap HistoryRec.encode
  | none, none =>
    if k = Obj.objectData then
      match s.objectWindows.find? fun w => w.object == s.get Obj.objectSelect with
      | some w => Memory.bytes w.cells 0 w.top
      | none => []
    else if k = Obj.faultLog then s.faults.flatMap FaultRec.encode
    else if k = Obj.dictionaryMap then dictionaryMap
    else if k = Obj.snapshot then
      ((s.counters.ring.find? fun r => r.seq == s.get Obj.snapshotSelect).map SnapRec.bytes).getD []
    else if k = Obj.snapshotRing then s.counters.ring.flatMap SnapRec.bytes
    else if k = Obj.repairFuseMap then (s.repair.fuses.filter (·.2)).flatMap fun e => leBytes 4 e.1
    else if k = Obj.repairJournal then s.repair.journal.flatMap (leBytes 4)
    else s.blob k

/-- The whole value of an object in its encoding (R512). -/
def State.valueOf (s : State) (k : Nat) : Bytes :=
  match findRow k with
  | none => []
  | some r =>
    match r.ty with
    | .domain _ => s.domain k
    | .str _ => (constText k).getD (s.blob k)
    | t => leBytes t.maxBytes (s.present k)

/-- A read of FaultRecord or FaultLog marks the records it shows as read (R436). -/
def State.noteRead (s : State) (k : Nat) : State :=
  if k = Obj.faultRecord then
    { s with faults := modifyWhere (fun r => r.seq == s.get Obj.faultSelect) (fun r => { r with read := true }) s.faults }
  else if k = Obj.faultLog then { s with faults := s.faults.map fun r => { r with read := true } }
  else s

/-- A read (R512, R513, R514): the abort code and REASON of the first failure, or the bytes. A range of a DOMAIN gives the bytes that
exist from OFFSET. -/
def readObject (s : State) (k offset len : Nat) : Except (Nat × Nat) Bytes :=
  match accessRead s k with
  | some a => .error a
  | none =>
    match findRow k with
    | none => .error (0x0010, 0)
    | some r =>
      match r.ty with
      | .domain m =>
        if m < offset + len then .error (0x0019, 0) else .ok (slice offset len (s.domain k))
      | _ => if offset = 0 then .ok (s.valueOf k) else .error (0x0013, 0)

end Sys2Proof.Machine
end

