-- ==== Sys2Proof/Machine/Bus.lean ====
section
/-! DEFINITION. The Bilyen bus (R486 to R507): the frames a unit takes, the walk along the chain, the transfers of the dictionary protocol,
and the events' repeats. -/

namespace Sys2Proof.Machine

/-! ## Frames -/

/-- The functions of R490 by their sender. -/
def managerFunctions : List Nat := [0, 3, 4, 5, 6, 7]
def unitFunctions : List Nat := [1, 2, 4, 5, 6, 7, 8]

/-- Is a TAG legal for its function (R490)? -/
def tagOk (function tag : Nat) : Bool :=
  if function = 0 then tag == 0
  else if function = 3 ∨ function = 4 then decide (tag < 256)
  else if function = 7 then tag % 64 == 0
  else decide (tag < 2048)

/-- Does a frame keep R486 and the table of R489, and suit its direction? -/
def frameLegal (f : BusFrame) : Bool :=
  f.fd && f.extended && !f.remote && tagOk f.function f.tag && decide (f.tag < 2048) &&
    (if f.src = 0 then
      managerFunctions.contains f.function && (decide (1 ≤ f.dest ∧ f.dest ≤ 120) || f.dest == 127)
    else
      unitFunctions.contains f.function && (decide (f.src ≤ 120) || f.src == 125 && f.function == 2) &&
        (if f.function = 2 then f.dest == 127 else f.dest == 0))

/-- A frame arrives (R486, R489, R509): one that breaks its rules is discarded and counted, one for another unit is none of this unit's,
and any other is counted and taken. -/
def hear (f : BusFrame) (eff : State → State) (s : State) : State :=
  if s.bus.busOff then s
  else if ¬ frameLegal f then s.bump Obj.busFramesDiscarded
  else if f.dest ≠ 127 ∧ f.dest ≠ s.get Obj.busAddress then s
  else eff (s.bump Obj.busFramesReceived)

/-- The bus's machinery changes. -/
def State.modBus (s : State) (f : Bus → Bus) : State := { s with bus := f s.bus }

/-! ## The chain -/

/-- CHAIN_OUT takes a level (R493, R557). -/
def State.driveChain (s : State) (level : Bool) : State :=
  (s.modBus fun b => { b with chainOut := level }).drive .chainOut level

/-- The payload of a CLAIM (1) or HELLO (2) (R491). -/
def State.claimPayload (s : State) (kind : Nat) : Bytes :=
  let flags := ofBool s.bus.conflictSeen + 2 * s.get Obj.chainInLevel
  leBytes 1 kind ++ leBytes 1 (s.get Obj.bootState) ++ leBytes 1 flags ++ leBytes 1 (s.get Obj.stepping) ++ zeros 4 ++
    leBytes 16 myUid ++ zeros 8

/-- TAG of a CLAIM (R490). -/
def claimTag : Nat := crc32c (leBytes 16 myUid) % 2048

/-- An unaddressed unit sends HELLO (R494). -/
def State.sendHello (s : State) : State :=
  let s := s.modBus fun b => { b with lastHello := s.gtc }
  s.sendFrame 2 127 125 claimTag (s.claimPayload 2)

/-- Two units claimed one address, or one speaks under another's (R494). -/
def State.noteConflict (s : State) : State :=
  (s.modBus fun b => { b with conflictSeen := true }).countW 32 Obj.addressConflicts 1

/-- An abort code is sent or recorded, and its transfer counted (R503, R508, R509). -/
def State.noteAbort (s : State) (code : Nat) : State := (s.set Obj.bdpLastAbort code).bump Obj.transfersAborted

/-- The payload of a CONTROL frame with its OP, whose bytes outside the fields listed are zero (R492). -/
def controlOp (op : Nat) (fields : List (Nat × Nat)) (p : Bytes) : Bool :=
  p.length == 12 && byteAt p 0 == op &&
    (List.range' 1 11).all fun i => (fields.any fun f => decide (f.1 ≤ i ∧ i < f.1 + f.2)) || byteAt p i == 0

/-- A CONTROL frame of an operation arrives: one that is not to the addressee of R492 or has an illegal field is discarded. -/
def control (f : BusFrame) (op : Nat) (fields : List (Nat × Nat)) (legal : Bool) (eff : State → State) (s : State) : State :=
  hear f (fun t =>
    if f.function = 0 ∧ (f.dest = 127 ↔ op ≠ 4) ∧ controlOp op fields f.payload ∧ legal then eff t else t) s

/-- WALK (R493 steps 1 and 2, R507). -/
def busWalk (f : BusFrame) (s : State) : State :=
  let base := byteAt f.payload 1
  control f 1 [(1, 1)] (decide (1 ≤ base ∧ base ≤ 120)) (fun s =>
    let s := s.bus.transfers.foldl (fun (t : State) _ => t.noteAbort 0x0006) s
    let s := (s.setAll [(Obj.busAddress, 125), (Obj.busAddressState, 0), (Obj.chainPosition, 0)]).countW 32 Obj.walksSeen 1
    (s.modBus fun b => { b with
      next := base, base := base, walkTick := some s.gtc, claimTick := none, backoffUntil := none
      conflictSeen := false, transfers := [] }).driveChain false) s

/-- WALK_END (R492). -/
def walkEnd (f : BusFrame) (s : State) : State :=
  let count := byteAt f.payload 1
  control f 2 [(1, 1)] (decide (count ≤ 120)) (fun s => s.set Obj.chainLength count) s

/-- RATE_SWITCH (R488, R492). -/
def rateSwitch (f : BusFrame) (s : State) : State :=
  let rate := field f.payload 4 4
  control f 3 [(4, 4)] ([2000000, 4000000, 5000000].contains rate) (fun s =>
    s.modBus fun b => { b with rateSwitch := some (rate, s.gtc + 1000000) }) s

/-- The new data rate takes effect (R492); what waited to be sent goes out. -/
def rateSwitchApply (s : State) : State :=
  match s.bus.rateSwitch with
  | some (rate, due) =>
    if s.gtc < due then s else (s.modBus fun b => { b with rate := rate, rateSwitch := none }).flushEvents
  | none => s

/-- Is an event acknowledged by a sequence (R506): it lies within 32,767 behind it in the cycle of 65,535 values? -/
def ackedBy (n seq : Nat) : Bool := decide ((n + 65535 - seq) % 65535 ≤ 32767)

/-- EVENT_ACK (R506). -/
def eventAck (f : BusFrame) (s : State) : State :=
  let n := field f.payload 2 2
  control f 4 [(2, 2)] (n != 0) (fun s =>
    s.modBus fun b => { b with events := b.events.filter fun e => !ackedBy n e.seq }) s

/-- HELLO_QUERY (R494). -/
def helloQuery (f : BusFrame) (s : State) : State :=
  control f 5 [] true (fun s => if s.addressed then s else s.sendHello) s

/-- WalkSettleTicks and ClaimHoldTicks (R493). -/
def walkSettle : Nat := 1000000
def claimHold : Nat := 100000

/-- Is a walking unit eligible (R493 step 4)? -/
def State.claimEligible (s : State) : Bool :=
  match s.bus.walkTick, s.bus.chainHighSince with
  | some w, some h =>
    s.mayTransmit && s.bus.claimTick.isNone && s.bus.backoffUntil.isNone &&
      decide (w + walkSettle ≤ s.gtc) && (decide (h ≤ w + walkSettle) || decide (h + 10000 ≤ s.gtc))
  | _, _ => false

/-- An eligible unit claims NEXT (R493 step 5, R494): the outcome says how the sending ended. Beyond 120 the unit stays unaddressed. -/
def walkEligible (outcome : ClaimEnd) (contested : Bool) (s : State) : State :=
  if ¬ s.claimEligible then s
  else if 120 < s.bus.next then ((s.modBus fun b => { b with walkTick := none }).driveChain true).sendHello
  else match outcome with
    | .sent =>
      let s := s.sendFrame 2 127 s.bus.next claimTag (s.claimPayload 1)
      let s := s.modBus fun b => { b with claimTick := some s.gtc }
      if contested then s.noteConflict else s
    | .lost => s.noteConflict
    | .collided => (s.modBus fun b => { b with backoffUntil := some (s.gtc + s.free % 1000000) }).useFree

/-- A CLAIM of another unit under NEXT raises NEXT (R493 step 3); one heard while this unit's own is held opposes it (R494). -/
def claimReceived (f : BusFrame) (s : State) : State :=
  hear f (fun s =>
    if f.function = 2 ∧ byteAt f.payload 0 = 1 ∧ s.bus.walkTick.isSome ∧ f.src = s.bus.next then
      let opposed := s.bus.claimTick.isSome
      let s := s.modBus fun b => { b with next := b.next + 1, claimTick := none }
      if opposed then s.noteConflict else s
    else s) s

/-- ClaimHoldTicks after its claim the unit takes its address (R493 step 6), and its events go out (R506). -/
def claimHoldExpiry (s : State) : State :=
  match s.bus.claimTick with
  | some t =>
    if s.gtc < t + claimHold then s
    else
      let s := s.setAll [(Obj.busAddress, s.bus.next), (Obj.busAddressState, 1), (Obj.chainPosition, s.bus.next - s.bus.base + 1)]
      ((s.modBus fun b => { b with walkTick := none, claimTick := none }).driveChain true).flushEvents
  | none => s

/-- The random delay after a collision is over: the unit is eligible again (R494). -/
def claimBackoff (s : State) : State :=
  match s.bus.backoffUntil with
  | some t => if s.gtc < t then s else s.modBus fun b => { b with backoffUntil := none }
  | none => s

/-- CHAIN_IN falls (R494, R505). -/
def chainInFall (s : State) : State :=
  let s := (s.set Obj.chainInLevel 0).modBus fun b => { b with chainHighSince := none }
  if s.addressed ∧ s.get Obj.chainBroken = 0 then (s.set Obj.chainBroken 1).postBus 1 else s

/-- CHAIN_IN rises (R505). -/
def chainInRise (s : State) : State :=
  let now := s.gtc
  let s := (s.set Obj.chainInLevel 1).modBus fun b => { b with chainHighSince := some (b.chainHighSince.getD now) }
  if s.get Obj.chainBroken = 1 then (s.set Obj.chainBroken 0).postBus 2 else s

/-- A frame of another unit bears this unit's address (R494). -/
def addressConflict (f : BusFrame) (s : State) : State :=
  if s.bus.busOff ∨ ¬ s.addressed ∨ ¬ frameLegal f ∨ f.src ≠ s.get Obj.busAddress then s
  else ((s.setAll [(Obj.busAddress, 125), (Obj.busAddressState, 2), (Obj.chainPosition, 0)]).noteConflict).sendHello

/-- An unaddressed unit announces itself (R494). -/
def hello (s : State) : State :=
  if s.addressed ∨ ¬ s.mayTransmit ∨ s.gtc < s.bus.lastHello + giga then s else s.sendHello

/-! ## Responses -/

/-- A RESPONSE (R495): status 1 with an abort code, else 0. -/
def State.respond (s : State) (num key abort len reason : Nat) (data : Bytes) : State :=
  if s.addressed then
    s.sendBus 4 0 num (leBytes 1 (if abort = 0 then 0 else 1) ++ leBytes 1 num ++ leBytes 2 (keyIndex key) ++ leBytes 1 (keySub key) ++
      zeros 1 ++ leBytes 2 abort ++ leBytes 4 len ++ leBytes 2 reason ++ zeros 2 ++ data)
  else s

/-- A request or transfer ends with an abort (R503). -/
def State.abortTransfer (s : State) (num key abort reason : Nat) : State :=
  ((s.noteAbort abort).refuse abort reason).respond num key abort 0 reason []

/-- A write has been carried out: its answer goes out and is counted (R499, R500). -/
def State.answerWrite (s : State) (num key len : Nat) : State :=
  if s.answer.abort = 0 then (s.bump Obj.transfersCompleted).respond num key 0 len 0 []
  else (s.noteAbort s.answer.abort).respond num key s.answer.abort 0 s.answer.reason []

/-! ## Requests -/

/-- The fields of a REQUEST (R495). -/
structure BusRequest where
  command : Nat
  num : Nat
  key : Nat
  len : Nat
  data : Bytes
deriving DecidableEq, Repr

/-- The fields of a REQUEST frame. -/
def requestOf (p : Bytes) : BusRequest :=
  { command := byteAt p 0, num := byteAt p 1, key := 256 * field p 2 2 + byteAt p 4, len := field p 8 4, data := p.drop 16 }

/-- OFFSET and VALUE_CRC of a command from 3 to 6. -/
def BusRequest.offset (r : BusRequest) : Nat := field r.data 0 4
def BusRequest.crc (r : BusRequest) : Nat := field r.data 4 4

/-- Is a reserved field of a REQUEST non-zero (R495, R496)? -/
def reservedSet (p : Bytes) : Bool :=
  let r := requestOf p
  byteAt p 5 != 0 || field p 6 2 != 0 || field p 0x0C 4 != 0 || (r.command == 1 && !allZero r.data) ||
    ((r.command == 4 || r.command == 6) && r.crc != 0)

/-- The open transfer of a number. -/
def State.transfer (s : State) (num : Nat) : Option Transfer := s.bus.transfers.find? (·.num == num)

/-- Is a service staged? -/
def Service.staged : Service → Bool
  | .stageWrite => true
  | .stageRead => true
  | .segWrite => false
  | .segRead => false

/-- May a transfer be opened beside those open (R502)? -/
def State.transferRoom (s : State) (sv : Service) : Bool :=
  decide (s.bus.transfers.length < 4) && !(sv.staged && s.bus.transfers.any fun t => t.service.staged)

/-- A transfer takes its new standing. -/
def State.putTransfer (s : State) (t : Transfer) : State :=
  s.modBus fun b => { b with transfers := b.transfers.map fun x => if x.num = t.num then t else x }

/-- A transfer is discarded. -/
def State.dropTransfer (s : State) (num : Nat) : State :=
  s.modBus fun b => { b with transfers := b.transfers.filter fun x => x.num != num }

/-- A REQUEST frame arrives (R495, R502): one shorter than its command's fields, or whose TRANSFER is not its TAG, is discarded; an unknown
COMMAND or a reserved field set is answered with 0x0002, a TRANSFER already open with 0x0003. `commands` are those that the frame may
carry. -/
def request (f : BusFrame) (command : Nat) (eff : BusRequest → State → State) (s : State) : State :=
  hear f (fun s =>
    let r := requestOf f.payload
    let need := if 3 ≤ r.command ∧ r.command ≤ 6 then 24 else 16
    if f.function ≠ 3 ∨ ¬ s.addressed ∨ f.payload.length < need ∨ r.num ≠ f.tag then s
    else if r.command = 0 ∨ 7 < r.command ∨ reservedSet f.payload then s.abortTransfer r.num r.key 0x0002 0
    else if r.command ≠ command then s
    else if command ≠ 7 ∧ (s.transfer r.num).isSome then s.abortTransfer r.num r.key 0x0003 0
    else eff r s) s

/-- Expedited READ (R496, R512). -/
def bdpRead (f : BusFrame) (s : State) : State :=
  request f 1 (fun r s =>
    match readObject s r.key 0 0 with
    | .error (a, reason) => s.abortTransfer r.num r.key a reason
    | .ok _ =>
      let v := s.valueOf r.key
      if 48 < v.length then s.abortTransfer r.num r.key 0x0013 0
      else
        let s := (s.noteRead r.key).bump Obj.transfersCompleted
        State.respond { s with answer := { data := v } } r.num r.key 0 v.length 0 v) s

/-- Expedited WRITE (R496, R499). A LENGTH beyond the data that the frame carries does not suit the service. -/
def bdpWrite (f : BusFrame) (o : Outside) (s : State) : State :=
  request f 2 (fun r s =>
    let sv := if r.len ≤ r.data.length then r.len else 49
    match requestAbort s (some .expedited) r.key 0 sv with
    | some (a, reason) => s.abortTransfer r.num r.key a reason
    | none => (writeObject o (some .expedited) r.key 0 (r.data.take r.len) s).answerWrite r.num r.key r.len) s

/-- A transfer of a service opens. -/
def BusRequest.opens (r : BusRequest) (sv : Service) (data : Bytes) (len blockFrames now : Nat) : Transfer :=
  { num := r.num, service := sv, key := r.key, offset := r.offset, length := len, crc := r.crc, data := data
    next := 0, block := 0, blockFrames := blockFrames, last := now }

/-- A transfer joins those open. -/
def State.openTransfer (s : State) (t : Transfer) : State :=
  s.modBus fun b => { b with transfers := b.transfers ++ [t] }

/-- A SEG_WRITE or STAGE_WRITE opens (R497, R498): what its request alone shows is judged at once (R496). -/
def openWrite (f : BusFrame) (command : Nat) (sv : Service) (ws : WriteService) (s : State) : State :=
  request f command (fun r s =>
    match requestAbort s (some ws) r.key r.offset r.len with
    | some (a, reason) => s.abortTransfer r.num r.key a reason
    | none =>
      if ¬ s.transferRoom sv then s.abortTransfer r.num r.key 0x0003 0
      else s.openTransfer (r.opens sv [] r.len (s.get Obj.blockFrames) s.gtc)) s

/-- The SEGMENT of a SEG_READ that goes out next (R497). -/
def State.sendSegment (s : State) (t : Transfer) : State :=
  let part := slice (62 * t.next) 62 t.data
  let last := ofBool (decide (t.data.length ≤ 62 * (t.next + 1)))
  s.sendBus 5 0 (t.next % 2048) (leBytes 1 t.num ++ leBytes 1 last ++ part)

/-- The frames of the present block of a staged transfer (R498). -/
def Transfer.frames (t : Transfer) : Nat := min t.blockFrames (ceilDiv t.length 64 - t.block * t.blockFrames)

/-- The BLOCK frames of the present block of a STAGE_READ go out from a frame on (R498). -/
def State.sendBlock (s : State) (t : Transfer) : State :=
  (List.range' t.next (t.frames - t.next)).foldl (fun (u : State) i =>
    u.sendBus 6 0 (t.block % 32 * 64 + i) (slice (64 * (t.block * t.blockFrames + i)) 64 t.data)) s

/-- A SEG_READ or STAGE_READ opens with its OK response (R497, R498), and the first data follow; with none the transfer is complete. -/
def openRead (f : BusFrame) (command : Nat) (sv : Service) (s : State) : State :=
  request f command (fun r s =>
    match readObject s r.key r.offset r.len with
    | .error (a, reason) => s.abortTransfer r.num r.key a reason
    | .ok v =>
      let domain := ((findRow r.key).map fun x => x.ty.isDomain).getD false
      let bad := if sv.staged then !domain || r.len == 0 else decide (65536 < r.len) || (domain && r.len == 0)
      if bad then s.abortTransfer r.num r.key 0x0013 0
      else if ¬ s.transferRoom sv then s.abortTransfer r.num r.key 0x0003 0
      else
        let t := r.opens sv v v.length (s.get Obj.blockFrames) s.gtc
        let s := (s.noteRead r.key).respond r.num r.key 0 v.length 0 (leBytes 4 r.offset ++ zeros 4)
        let s : State := { s with answer := { data := v } }
        if v = [] then s.bump Obj.transfersCompleted
        else if sv.staged then (s.openTransfer t).sendBlock t
        else (s.openTransfer t).sendSegment t) s

/-- COMMAND 7 discards a transfer without a response (R501). -/
def bdpAbort (f : BusFrame) (s : State) : State :=
  request f 7 (fun r s =>
    if (s.transfer r.num).isSome then (s.dropTransfer r.num).bump Obj.transfersAborted else s) s

/-! ## Data of transfers -/

/-- The last data of a write have arrived (R499): the CRC is compared, the value is checked and applied, and the response reports it. -/
def State.completeWrite (s : State) (o : Outside) (ws : WriteService) (t : Transfer) : State :=
  let s := s.dropTransfer t.num
  if crc32c t.data ≠ t.crc then s.abortTransfer t.num t.key 0x0005 0
  else (writeObject o (some ws) t.key t.offset t.data s).answerWrite t.num t.key t.length

/-- A SEGMENT of a SEG_WRITE (R497). Its data reach to the end of the frame, those of the last to LENGTH. -/
def segment (f : BusFrame) (o : Outside) (s : State) : State :=
  hear f (fun s =>
    match s.transfer (byteAt f.payload 0) with
    | some t =>
      if f.function ≠ 5 ∨ t.service ≠ .segWrite ∨ f.payload.length < 3 then s
      else if f.tag ≠ t.next % 2048 then (s.dropTransfer t.num).abortTransfer t.num t.key 0x0004 0
      else
        let last := bit (byteAt f.payload 1) 0
        let data := t.data ++ (slice 2 62 f.payload).take (t.length - t.data.length)
        let t := { t with data := data, next := t.next + 1, last := s.gtc }
        if last ∧ data.length = t.length then s.completeWrite o .segmented t
        else if last ∨ data.length = t.length then (s.dropTransfer t.num).abortTransfer t.num t.key 0x0013 0
        else (s.putTransfer t).respond t.num t.key 0 data.length 0 []
    | none => s) s

/-- The manager answers a SEGMENT of a SEG_READ (R497). -/
def segReadResponse (f : BusFrame) (s : State) : State :=
  hear f (fun s =>
    match s.transfer (byteAt f.payload 1) with
    | some t =>
      if f.function ≠ 4 ∨ f.payload.length < 16 ∨ t.num ≠ f.tag ∨ t.service ≠ .segRead then s
      else if byteAt f.payload 0 ≠ 0 then (s.dropTransfer t.num).bump Obj.transfersAborted
      else
        let t := { t with next := t.next + 1, last := s.gtc }
        if t.data.length ≤ 62 * t.next then (s.dropTransfer t.num).bump Obj.transfersCompleted
        else (s.putTransfer t).sendSegment t
    | none => s) s

/-- The windows (R498): ManifestImage and ObjectData. -/
def isWindow (k : Nat) : Bool := (instOf Obj.manifestImage 64 k).isSome || k == Obj.objectData

/-- The open staged transfer of a service. -/
def State.stagedTransfer (s : State) (sv : Service) : Option Transfer := s.bus.transfers.find? (·.service == sv)

/-- The bytes before the present block. -/
def Transfer.blockStart (t : Transfer) : Nat := 64 * t.block * t.blockFrames

/-- BLOCK_ACK (R498). -/
def State.ackBlock (s : State) (t : Transfer) : State :=
  s.sendBus 7 0 (t.block % 32 * 64) (leBytes 1 t.next ++ zeros 7)

/-- A block of a STAGE_WRITE has arrived whole (R498, R499, R507): a window takes its bytes as it is acknowledged, the transfer goes on
with the next block, or ends with the last. -/
def State.takeBlock (s : State) (o : Outside) (t : Transfer) : State :=
  let window := isWindow t.key
  let s := if window then domainWrite t.key (t.offset + t.blockStart) (t.data.drop t.blockStart) s else s
  if window ∧ s.answer.abort ≠ 0 then (s.dropTransfer t.num).abortTransfer t.num t.key s.answer.abort s.answer.reason
  else
    let s := s.ackBlock t
    if t.data.length < t.length then s.putTransfer { t with block := t.block + 1, next := 0 }
    else if window then
      let s := s.dropTransfer t.num
      if crc32c t.data ≠ t.crc then s.abortTransfer t.num t.key 0x0005 0 else s.ok.answerWrite t.num t.key t.length
    else s.completeWrite o .staged t

/-- A BLOCK frame of a STAGE_WRITE (R498): taken in order, and after the last frame of its block acknowledged with the count taken. -/
def block (f : BusFrame) (o : Outside) (s : State) : State :=
  hear f (fun s =>
    match s.stagedTransfer .stageWrite with
    | some t =>
      if f.function ≠ 6 ∨ f.tag / 64 ≠ t.block % 32 then s
      else
        let i := f.tag % 64
        let data := if i = t.next then t.data ++ (padTo 64 f.payload).take (t.length - t.data.length) else t.data
        let t := { t with data := data, next := if i = t.next then t.next + 1 else t.next, last := s.gtc }
        if i + 1 < t.frames then s.putTransfer t
        else if t.next < t.frames then (s.putTransfer t).ackBlock t
        else s.takeBlock o t
    | none => s) s

/-- The manager acknowledges a block of a STAGE_READ (R498): the rest of it is sent again, or the next block follows. -/
def blockAck (f : BusFrame) (s : State) : State :=
  hear f (fun s =>
    match s.stagedTransfer .stageRead with
    | some t =>
      let n := byteAt f.payload 0
      if f.function ≠ 7 ∨ f.tag / 64 ≠ t.block % 32 ∨ f.payload.length < 8 ∨ t.frames < n then s
      else if n < t.frames then
        let t := { t with next := n, last := s.gtc }
        (s.putTransfer t).sendBlock t
      else
        let t := { t with block := t.block + 1, next := 0, last := s.gtc }
        if t.length ≤ t.blockStart then (s.dropTransfer t.num).bump Obj.transfersCompleted
        else (s.putTransfer t).sendBlock t
    | none => s) s

/-- An open transfer has been idle for BdpTimeoutTicks (R501). -/
def bdpTimeout (num : Nat) (s : State) : State :=
  match s.transfer num with
  | some t =>
    if s.gtc < t.last + s.get Obj.bdpTimeoutTicks then s else (s.dropTransfer num).abortTransfer num t.key 0x0001 0
  | none => s

/-! ## Events and the controller -/

/-- Has an event's repeat come due (R506)? -/
def State.repeatDue (s : State) (e : BusEvent) : Bool := e.sentAt.any fun t => decide (t + s.get Obj.eventRepeatTicks ≤ s.gtc)

/-- The unacknowledged events whose repeats are due are sent again, oldest first (R506). -/
def eventRepeat (s : State) : State :=
  if s.eventsFlow then
    let t := (s.bus.events.filter s.repeatDue).foldl (fun (u : State) e => u.sendEvent e) s
    t.modBus fun b => { b with events := b.events.map fun e => if s.repeatDue e then { e with sentAt := some s.gtc } else e }
  else s

/-- The controller is back on the bus (R486, R505); the address is kept and the error counters start again. -/
def busOffRecovery (s : State) : State :=
  if s.bus.busOff then
    ((s.modBus fun b => { b with busOff := false }).setAll [(Obj.transmitErrorCount, 0), (Obj.receiveErrorCount, 0)]).postBus 3
      |>.flushEvents
  else s

/-- An error frame is sent or seen (R486, R509): the error counters of ISO 11898-1 after it, and whether the controller goes bus-off. -/
def errorFrame (transmit receive : Nat) (off : Bool) (s : State) : State :=
  if s.bus.busOff then s
  else
    let s := (s.bump Obj.busErrorFrames).setAll [(Obj.transmitErrorCount, min transmit 255), (Obj.receiveErrorCount, min receive 255)]
    if off then (s.modBus fun b => { b with busOff := true }).countW 32 Obj.busOffCount 1 else s

end Sys2Proof.Machine
end

