-- ==== Sys2Proof/Machine/BusCommands.lean ====
section
/-! DEFINITION. The commands of the Bilyen bus (R486 to R507). -/

namespace Sys2Proof.Machine

/-! ## Control and the walk -/

/-- WALK (R493). -/
def execWalk (frame : BusFrame) (s : State) : Host.Outcome State Fault Refusal := .next (busWalk frame s)

/-- WALK_END (R492). -/
def execWalkEnd (frame : BusFrame) (s : State) : Host.Outcome State Fault Refusal := .next (walkEnd frame s)

/-- RATE_SWITCH (R492). -/
def execRateSwitch (frame : BusFrame) (s : State) : Host.Outcome State Fault Refusal := .next (rateSwitch frame s)

/-- RATE_SWITCH_APPLY (R492). -/
def execRateSwitchApply (s : State) : Host.Outcome State Fault Refusal := .next (rateSwitchApply s)

/-- EVENT_ACK (R506). -/
def execEventAck (frame : BusFrame) (s : State) : Host.Outcome State Fault Refusal := .next (eventAck frame s)

/-- HELLO_QUERY (R494). -/
def execHelloQuery (frame : BusFrame) (s : State) : Host.Outcome State Fault Refusal := .next (helloQuery frame s)

/-- WALK_ELIGIBLE (R493). -/
def execWalkEligible (outcome : ClaimEnd) (contested : Bool) (s : State) : Host.Outcome State Fault Refusal :=
  .next (walkEligible outcome contested s)

/-- CLAIM_RECEIVED (R493). -/
def execClaimReceived (frame : BusFrame) (s : State) : Host.Outcome State Fault Refusal := .next (claimReceived frame s)

/-- CLAIM_HOLD_EXPIRY (R493). -/
def execClaimHoldExpiry (s : State) : Host.Outcome State Fault Refusal := .next (claimHoldExpiry s)

/-- CLAIM_COLLISION_BACKOFF (R494). -/
def execClaimCollisionBackoff (s : State) : Host.Outcome State Fault Refusal := .next (claimBackoff s)

/-- CHAIN_IN_FALL (R494). -/
def execChainInFall (s : State) : Host.Outcome State Fault Refusal := .next (chainInFall s)

/-- CHAIN_IN_RISE (R505). -/
def execChainInRise (s : State) : Host.Outcome State Fault Refusal := .next (chainInRise s)

/-- ADDRESS_CONFLICT (R494). -/
def execAddressConflict (frame : BusFrame) (s : State) : Host.Outcome State Fault Refusal :=
  .next (addressConflict frame s)

/-- HELLO (R494). -/
def execHello (s : State) : Host.Outcome State Fault Refusal := .next (hello s)

/-! ## The dictionary protocol -/

/-- BDP_READ (R496). -/
def execBdpRead (frame : BusFrame) (s : State) : Host.Outcome State Fault Refusal := .next (bdpRead frame s)

/-- BDP_WRITE (R499). -/
def execBdpWrite (frame : BusFrame) (outside : Outside) (s : State) : Host.Outcome State Fault Refusal :=
  .next (bdpWrite frame outside s)

/-- SEG_WRITE (R497). -/
def execSegWrite (frame : BusFrame) (s : State) : Host.Outcome State Fault Refusal :=
  .next (openWrite frame 3 .segWrite .segmented s)

/-- SEG_READ (R497). -/
def execSegRead (frame : BusFrame) (s : State) : Host.Outcome State Fault Refusal := .next (openRead frame 4 .segRead s)

/-- STAGE_WRITE (R498). -/
def execStageWrite (frame : BusFrame) (s : State) : Host.Outcome State Fault Refusal :=
  .next (openWrite frame 5 .stageWrite .staged s)

/-- STAGE_READ (R498). -/
def execStageRead (frame : BusFrame) (s : State) : Host.Outcome State Fault Refusal :=
  .next (openRead frame 6 .stageRead s)

/-- BDP_ABORT (R501). -/
def execBdpAbort (frame : BusFrame) (s : State) : Host.Outcome State Fault Refusal := .next (bdpAbort frame s)

/-- SEGMENT (R497). -/
def execSegment (frame : BusFrame) (outside : Outside) (s : State) : Host.Outcome State Fault Refusal :=
  .next (segment frame outside s)

/-- SEG_READ_RESPONSE (R497). -/
def execSegReadResponse (frame : BusFrame) (s : State) : Host.Outcome State Fault Refusal :=
  .next (segReadResponse frame s)

/-- BLOCK (R498). -/
def execBlock (frame : BusFrame) (outside : Outside) (s : State) : Host.Outcome State Fault Refusal :=
  .next (block frame outside s)

/-- BLOCK_ACK (R498). -/
def execBlockAck (frame : BusFrame) (s : State) : Host.Outcome State Fault Refusal := .next (blockAck frame s)

/-- BDP_TIMEOUT (R501). -/
def execBdpTimeout (transfer : Nat) (s : State) : Host.Outcome State Fault Refusal := .next (bdpTimeout transfer s)

/-! ## Events and the controller -/

/-- EVENT_REPEAT (R506). -/
def execEventRepeat (s : State) : Host.Outcome State Fault Refusal := .next (eventRepeat s)

/-- BUS_OFF_RECOVERY (R486). -/
def execBusOffRecovery (s : State) : Host.Outcome State Fault Refusal := .next (busOffRecovery s)

/-- ERROR_FRAME (R486). -/
def execErrorFrame (transmit receive : Nat) (off : Bool) (s : State) : Host.Outcome State Fault Refusal :=
  .next (errorFrame transmit receive off s)

end Sys2Proof.Machine
end

