-- ==== Sys2Proof/Machine/Dispatch.lean ====
section
/-! DEFINITION. The meaning of every command: one arm per constructor of `Instr`. -/

namespace Sys2Proof.Machine

def exec (i : Instr) (s : State) : Host.Outcome State Fault Refusal :=
  match i with
  | .stagingOpen slot => Sys2Proof.Machine.execStagingOpen slot s
  | .validate slot readable draining => Sys2Proof.Machine.execValidate slot readable draining s
  | .arm slot => Sys2Proof.Machine.execArm slot s
  | .disarm slot => Sys2Proof.Machine.execDisarm slot s
  | .stop slot => Sys2Proof.Machine.execStop slot s
  | .abort slot => Sys2Proof.Machine.execAbort slot s
  | .jobRelease slot => Sys2Proof.Machine.execJobRelease slot s
  | .launch slot => Sys2Proof.Machine.execLaunch slot s
  | .sliceBoundary => Sys2Proof.Machine.execSliceBoundary s
  | .inferenceSwitchStart => Sys2Proof.Machine.execInferenceSwitchStart s
  | .sliceSwitchComplete cls => Sys2Proof.Machine.execSliceSwitchComplete cls s
  | .syncSourceWrite value => Sys2Proof.Machine.execSyncSourceWrite value s
  | .ptpSync m twoStep => Sys2Proof.Machine.execPtpSync m twoStep s
  | .ptpFollowUp m => Sys2Proof.Machine.execPtpFollowUp m s
  | .ptpDelayResp m => Sys2Proof.Machine.execPtpDelayResp m s
  | .ptpAnnounce d => Sys2Proof.Machine.execPtpAnnounce d s
  | .ppsInEdge refLocked => Sys2Proof.Machine.execPpsInEdge refLocked s
  | .islandRealign => Sys2Proof.Machine.execIslandRealign s
  | .sourceLost => Sys2Proof.Machine.execSourceLost s
  | .refInLockLoss => Sys2Proof.Machine.execRefInLockLoss s
  | .holdoverExpiry => Sys2Proof.Machine.execHoldoverExpiry s
  | .crossingWordLate tile crossing entered held => Sys2Proof.Machine.execCrossingWordLate tile crossing entered held s
  | .viaductFlitCrcError tile link entered held => Sys2Proof.Machine.execViaductFlitCrcError tile link entered held s
  | .viaductLaneFailure tile link lane => Sys2Proof.Machine.execViaductLaneFailure tile link lane s
  | .itemIssue slot => Sys2Proof.Machine.execItemIssue slot s
  | .cacheHitCopyComplete entry ok => Sys2Proof.Machine.execCacheHitCopyComplete entry ok s
  | .shardOpenComplete slot shard node media remote => Sys2Proof.Machine.execShardOpenComplete slot shard node media remote s
  | .tarScanComplete slot shard node media remote => Sys2Proof.Machine.execTarScanComplete slot shard node media remote s
  | .recordReadComplete entry => Sys2Proof.Machine.execRecordReadComplete entry s
  | .peerRecordReadComplete entry data => Sys2Proof.Machine.execPeerRecordReadComplete entry data s
  | .peerFetchTimeout entry => Sys2Proof.Machine.execPeerFetchTimeout entry s
  | .decompressComplete entry => Sys2Proof.Machine.execDecompressComplete entry s
  | .decodeComplete entry => Sys2Proof.Machine.execDecodeComplete entry s
  | .decodeBudgetExpired entry => Sys2Proof.Machine.execDecodeBudgetExpired entry s
  | .slowLaneDecodeComplete entry => Sys2Proof.Machine.execSlowLaneDecodeComplete entry s
  | .workLimitExceeded entry => Sys2Proof.Machine.execWorkLimitExceeded entry s
  | .cacheFillComplete place => Sys2Proof.Machine.execCacheFillComplete place s
  | .cacheCompressComplete place => Sys2Proof.Machine.execCacheCompressComplete place s
  | .cacheFlashReadComplete entry ok => Sys2Proof.Machine.execCacheFlashReadComplete entry ok s
  | .cacheDropUnpinned => Sys2Proof.Machine.execCacheDropUnpinned s
  | .cacheDropAll => Sys2Proof.Machine.execCacheDropAll s
  | .cachePurgeDigest => Sys2Proof.Machine.execCachePurgeDigest s
  | .transformComplete entry check => Sys2Proof.Machine.execTransformComplete entry check s
  | .prefillPassComplete entries => Sys2Proof.Machine.execPrefillPassComplete entries s
  | .stepPassComplete entries => Sys2Proof.Machine.execStepPassComplete entries s
  | .trestleOperatorFault entries column line permanent => Sys2Proof.Machine.execTrestleOperatorFault entries column line permanent s
  | .curationLogRelease slot value => Sys2Proof.Machine.execCurationLogRelease slot value s
  | .tokenizeComplete entry => Sys2Proof.Machine.execTokenizeComplete entry s
  | .peerReady uid message => Sys2Proof.Machine.execPeerReady uid message s
  | .preparedReadComplete uid ref data valid => Sys2Proof.Machine.execPreparedReadComplete uid ref data valid s
  | .peerPrepare uid message => Sys2Proof.Machine.execPeerPrepare uid message s
  | .peerRelease uid message => Sys2Proof.Machine.execPeerRelease uid message s
  | .batchStart slot stream classes => Sys2Proof.Machine.execBatchStart slot stream classes s
  | .pushSliceAcknowledged slot stream epoch index slice => Sys2Proof.Machine.execPushSliceAcknowledged slot stream epoch index slice s
  | .creditReturn slot consumer immediate sealedMessage => Sys2Proof.Machine.execCreditReturn slot consumer immediate sealedMessage s
  | .pullRelease slot consumer immediate sealedMessage => Sys2Proof.Machine.execPullRelease slot consumer immediate sealedMessage s
  | .consumerStall slot stream consumer => Sys2Proof.Machine.execConsumerStall slot stream consumer s
  | .lateDeclaration slot stream position => Sys2Proof.Machine.execLateDeclaration slot stream position s
  | .censusOfferReceived uid message => Sys2Proof.Machine.execCensusOfferReceived uid message s
  | .censusContributionReadComplete slot epoch uid data => Sys2Proof.Machine.execCensusContributionReadComplete slot epoch uid data s
  | .censusTimeout slot epoch => Sys2Proof.Machine.execCensusTimeout slot epoch s
  | .censusRequestReceived uid message => Sys2Proof.Machine.execCensusRequestReceived uid message s
  | .censusFullReceived uid message => Sys2Proof.Machine.execCensusFullReceived uid message s
  | .censusFullReadComplete slot epoch data => Sys2Proof.Machine.execCensusFullReadComplete slot epoch data s
  | .vocabLoad => Sys2Proof.Machine.execVocabLoad s
  | .vocabBuildComplete entry => Sys2Proof.Machine.execVocabBuildComplete entry s
  | .vocabUnload => Sys2Proof.Machine.execVocabUnload s
  | .controlLoad => Sys2Proof.Machine.execControlLoad s
  | .controlBuildComplete entry => Sys2Proof.Machine.execControlBuildComplete entry s
  | .controlUnload => Sys2Proof.Machine.execControlUnload s
  | .bundleLoadImage => Sys2Proof.Machine.execBundleLoadImage s
  | .bundleLoadObject => Sys2Proof.Machine.execBundleLoadObject s
  | .bundleLoadComplete entry => Sys2Proof.Machine.execBundleLoadComplete entry s
  | .bundleUnload => Sys2Proof.Machine.execBundleUnload s
  | .kernelLoad => Sys2Proof.Machine.execKernelLoad s
  | .kernelBuildComplete entry => Sys2Proof.Machine.execKernelBuildComplete entry s
  | .kernelUnload => Sys2Proof.Machine.execKernelUnload s
  | .kernelItemStart => Sys2Proof.Machine.execKernelItemStart s
  | .chainAlloc entry work => Sys2Proof.Machine.execChainAlloc entry work s
  | .chainLength entry work => Sys2Proof.Machine.execChainLength entry work s
  | .refAdd entry work => Sys2Proof.Machine.execRefAdd entry work s
  | .refDrop entry work => Sys2Proof.Machine.execRefDrop entry work s
  | .dmaSubmit entry work => Sys2Proof.Machine.execDmaSubmit entry work s
  | .dmaWait entry work => Sys2Proof.Machine.execDmaWait entry work s
  | .dmaComplete entry tag => Sys2Proof.Machine.execDmaComplete entry tag s
  | .dmaTimeout entry tag => Sys2Proof.Machine.execDmaTimeout entry tag s
  | .rng entry work => Sys2Proof.Machine.execRng entry work s
  | .emit entry work => Sys2Proof.Machine.execEmit entry work s
  | .pass entry work => Sys2Proof.Machine.execPass entry work s
  | .fail entry work => Sys2Proof.Machine.execFail entry work s
  | .reject entry work => Sys2Proof.Machine.execReject entry work s
  | .serviceUnknown entry work => Sys2Proof.Machine.execServiceUnknown entry work s
  | .kernelTrap entry work code => Sys2Proof.Machine.execKernelTrap entry work code s
  | .instructionLimit entry work => Sys2Proof.Machine.execInstructionLimit entry work s
  | .noEnding entry work => Sys2Proof.Machine.execNoEnding entry work s
  | .refreshStart channel => Sys2Proof.Machine.execRefreshStart channel s
  | .refreshEnd channel first held => Sys2Proof.Machine.execRefreshEnd channel first held s
  | .hotScheduleChange channel => Sys2Proof.Machine.execHotScheduleChange channel s
  | .retrainComplete channel ok first held frames lost => Sys2Proof.Machine.execRetrainComplete channel ok first held frames lost s
  | .gddrCorrectedError channel frame => Sys2Proof.Machine.execGddrCorrectedError channel frame s
  | .gddrUncorrectableRead channel frame data => Sys2Proof.Machine.execGddrUncorrectableRead channel frame data s
  | .gddrLinkCrcFailure channel ticks held => Sys2Proof.Machine.execGddrLinkCrcFailure channel ticks held s
  | .retireChannel channel => Sys2Proof.Machine.execRetireChannel channel s
  | .channelMigrationComplete channel frames homeless => Sys2Proof.Machine.execChannelMigrationComplete channel frames homeless s
  | .sramUncorrectable tile address bank entry damaged firmware => Sys2Proof.Machine.execSramUncorrectable tile address bank entry damaged firmware s
  | .bufferAllocate requester count => Sys2Proof.Machine.execBufferAllocate requester count s
  | .freeListRebuildComplete => Sys2Proof.Machine.execFreeListRebuildComplete s
  | .bufferGrant => Sys2Proof.Machine.execBufferGrant s
  | .bufferRefAdd handle requester entry => Sys2Proof.Machine.execBufferRefAdd handle requester entry s
  | .bufferRefDrop handle requester entry => Sys2Proof.Machine.execBufferRefDrop handle requester entry s
  | .format found => Sys2Proof.Machine.execFormat found s
  | .patrolFull => Sys2Proof.Machine.execPatrolFull s
  | .patrolStop => Sys2Proof.Machine.execPatrolStop s
  | .patrolRead results => Sys2Proof.Machine.execPatrolRead results s
  | .create => Sys2Proof.Machine.execCreate s
  | .append => Sys2Proof.Machine.execAppend s
  | .sealObject => Sys2Proof.Machine.execSealObject s
  | .delete => Sys2Proof.Machine.execDelete s
  | .secureDiscard => Sys2Proof.Machine.execSecureDiscard s
  | .unitReadRequest unit cls reader => Sys2Proof.Machine.execUnitReadRequest unit cls reader s
  | .unitReadComplete channel die background result => Sys2Proof.Machine.execUnitReadComplete channel die background result s
  | .programComplete channel die ok temperature => Sys2Proof.Machine.execProgramComplete channel die ok temperature s
  | .eraseComplete channel die ok => Sys2Proof.Machine.execEraseComplete channel die ok s
  | .gcCampaignStart => Sys2Proof.Machine.execGcCampaignStart s
  | .gcCopyComplete => Sys2Proof.Machine.execGcCopyComplete s
  | .bandErase => Sys2Proof.Machine.execBandErase s
  | .wearLevelStart die => Sys2Proof.Machine.execWearLevelStart die s
  | .journalFlush => Sys2Proof.Machine.execJournalFlush s
  | .checkpoint => Sys2Proof.Machine.execCheckpoint s
  | .flushEnergyUpdate => Sys2Proof.Machine.execFlushEnergyUpdate s
  | .holdupWaitTimeout => Sys2Proof.Machine.execHoldupWaitTimeout s
  | .mountComplete found readable => Sys2Proof.Machine.execMountComplete found readable s
  | .portLinkUp port => Sys2Proof.Machine.execPortLinkUp port s
  | .portLinkDown port => Sys2Proof.Machine.execPortLinkDown port s
  | .arpRequest port target reply => Sys2Proof.Machine.execArpRequest port target reply s
  | .neighborSolicitation port target reply => Sys2Proof.Machine.execNeighborSolicitation port target reply s
  | .echoRequest port target body => Sys2Proof.Machine.execEchoRequest port target body s
  | .frameDiscard port cnp => Sys2Proof.Machine.execFrameDiscard port cnp s
  | .pfcFrameReceived port priority quanta held => Sys2Proof.Machine.execPfcFrameReceived port priority quanta held s
  | .pfcRepeat port data fill => Sys2Proof.Machine.execPfcRepeat port data fill s
  | .pauseStormReceived port data => Sys2Proof.Machine.execPauseStormReceived port data s
  | .pauseStormSent port data => Sys2Proof.Machine.execPauseStormSent port data s
  | .stormRecoveryExpiry port data => Sys2Proof.Machine.execStormRecoveryExpiry port data s
  | .receiveSend ctx p => Sys2Proof.Machine.execReceiveSend ctx p s
  | .receiveWrite ctx p => Sys2Proof.Machine.execReceiveWrite ctx p s
  | .receiveReadRequest ctx p => Sys2Proof.Machine.execReceiveReadRequest ctx p s
  | .receiveReadResponse ctx p => Sys2Proof.Machine.execReceiveReadResponse ctx p s
  | .receiveAcknowledge ctx p => Sys2Proof.Machine.execReceiveAcknowledge ctx p s
  | .ackDelayExpiry ctx => Sys2Proof.Machine.execAckDelayExpiry ctx s
  | .retransmitTimeout ctx => Sys2Proof.Machine.execRetransmitTimeout ctx s
  | .rnrTimerExpiry ctx => Sys2Proof.Machine.execRnrTimerExpiry ctx s
  | .reorderTimeout ctx => Sys2Proof.Machine.execReorderTimeout ctx s
  | .revokeDrainComplete index => Sys2Proof.Machine.execRevokeDrainComplete index s
  | .revokeDrainOverrun index outstanding => Sys2Proof.Machine.execRevokeDrainOverrun index outstanding s
  | .connect address datagrams => Sys2Proof.Machine.execConnect address datagrams s
  | .accept address datagrams => Sys2Proof.Machine.execAccept address datagrams s
  | .confirm address datagrams => Sys2Proof.Machine.execConfirm address datagrams s
  | .handshakeReady address datagrams => Sys2Proof.Machine.execHandshakeReady address datagrams s
  | .handshakeReject address datagrams => Sys2Proof.Machine.execHandshakeReject address datagrams s
  | .close address datagrams => Sys2Proof.Machine.execClose address datagrams s
  | .handshakeResend ctx => Sys2Proof.Machine.execHandshakeResend ctx s
  | .handshakeBackoffExpiry ctx => Sys2Proof.Machine.execHandshakeBackoffExpiry ctx s
  | .handshakeTimeout ctx => Sys2Proof.Machine.execHandshakeTimeout ctx s
  | .portFrameSelect port => Sys2Proof.Machine.execPortFrameSelect port s
  | .queueRejoin ctx => Sys2Proof.Machine.execQueueRejoin ctx s
  | .shaperProfileWrite profile sub value => Sys2Proof.Machine.execShaperProfileWrite profile sub value s
  | .policerProfileWrite profile sub value => Sys2Proof.Machine.execPolicerProfileWrite profile sub value s
  | .keepalive ctx => Sys2Proof.Machine.execKeepalive ctx s
  | .memberTimeout slot uid => Sys2Proof.Machine.execMemberTimeout slot uid s
  | .engineFault entry permanent => Sys2Proof.Machine.execEngineFault entry permanent s
  | .nodeFault => Sys2Proof.Machine.execNodeFault s
  | .stepAbort slot => Sys2Proof.Machine.execStepAbort slot s
  | .abortMessage uid message => Sys2Proof.Machine.execAbortMessage uid message s
  | .abortAck uid message => Sys2Proof.Machine.execAbortAck uid message s
  | .abortProbe slot => Sys2Proof.Machine.execAbortProbe slot s
  | .resume slot => Sys2Proof.Machine.execResume slot s
  | .join slot => Sys2Proof.Machine.execJoin slot s
  | .cancel slot => Sys2Proof.Machine.execCancel slot s
  | .resumeTick slot => Sys2Proof.Machine.execResumeTick slot s
  | .replace slot => Sys2Proof.Machine.execReplace slot s
  | .removeDomain slot => Sys2Proof.Machine.execRemoveDomain slot s
  | .memberClear slot => Sys2Proof.Machine.execMemberClear slot s
  | .resetRelease flash => Sys2Proof.Machine.execResetRelease flash s
  | .bootBodyReadComplete => Sys2Proof.Machine.execBootBodyReadComplete s
  | .hubAlive start counter => Sys2Proof.Machine.execHubAlive start counter s
  | .bootWatchdogExpiry flash => Sys2Proof.Machine.execBootWatchdogExpiry flash s
  | .recoveryAttempt flash => Sys2Proof.Machine.execRecoveryAttempt flash s
  | .beacon => Sys2Proof.Machine.execBeacon s
  | .recoveryLinkTry => Sys2Proof.Machine.execRecoveryLinkTry s
  | .offer server length digest => Sys2Proof.Machine.execOffer server length digest s
  | .data server offset data => Sys2Proof.Machine.execData server offset data s
  | .recoveryAckTimer => Sys2Proof.Machine.execRecoveryAckTimer s
  | .recoveryTransferTimeout => Sys2Proof.Machine.execRecoveryTransferTimeout s
  | .stageImage => Sys2Proof.Machine.execStageImage s
  | .stageObject => Sys2Proof.Machine.execStageObject s
  | .fwCheckComplete => Sys2Proof.Machine.execFwCheckComplete s
  | .install => Sys2Proof.Machine.execInstall s
  | .installComplete ok programmed => Sys2Proof.Machine.execInstallComplete ok programmed s
  | .reboot => Sys2Proof.Machine.execReboot s
  | .commitSvn burned => Sys2Proof.Machine.execCommitSvn burned s
  | .bindBootFlash counters advanced => Sys2Proof.Machine.execBindBootFlash counters advanced s
  | .quote => Sys2Proof.Machine.execQuote s
  | .quoteComplete => Sys2Proof.Machine.execQuoteComplete s
  | .measure => Sys2Proof.Machine.execMeasure s
  | .revokeAdd => Sys2Proof.Machine.execRevokeAdd s
  | .revokeRemove => Sys2Proof.Machine.execRevokeRemove s
  | .revokeClear => Sys2Proof.Machine.execRevokeClear s
  | .walk frame => Sys2Proof.Machine.execWalk frame s
  | .walkEnd frame => Sys2Proof.Machine.execWalkEnd frame s
  | .rateSwitch frame => Sys2Proof.Machine.execRateSwitch frame s
  | .rateSwitchApply => Sys2Proof.Machine.execRateSwitchApply s
  | .eventAck frame => Sys2Proof.Machine.execEventAck frame s
  | .helloQuery frame => Sys2Proof.Machine.execHelloQuery frame s
  | .walkEligible outcome contested => Sys2Proof.Machine.execWalkEligible outcome contested s
  | .claimReceived frame => Sys2Proof.Machine.execClaimReceived frame s
  | .claimHoldExpiry => Sys2Proof.Machine.execClaimHoldExpiry s
  | .claimCollisionBackoff => Sys2Proof.Machine.execClaimCollisionBackoff s
  | .chainInFall => Sys2Proof.Machine.execChainInFall s
  | .addressConflict frame => Sys2Proof.Machine.execAddressConflict frame s
  | .hello => Sys2Proof.Machine.execHello s
  | .bdpRead frame => Sys2Proof.Machine.execBdpRead frame s
  | .bdpWrite frame outside => Sys2Proof.Machine.execBdpWrite frame outside s
  | .segWrite frame => Sys2Proof.Machine.execSegWrite frame s
  | .segRead frame => Sys2Proof.Machine.execSegRead frame s
  | .stageWrite frame => Sys2Proof.Machine.execStageWrite frame s
  | .stageRead frame => Sys2Proof.Machine.execStageRead frame s
  | .bdpAbort frame => Sys2Proof.Machine.execBdpAbort frame s
  | .segment frame outside => Sys2Proof.Machine.execSegment frame outside s
  | .block frame outside => Sys2Proof.Machine.execBlock frame outside s
  | .blockAck frame => Sys2Proof.Machine.execBlockAck frame s
  | .bdpTimeout transfer => Sys2Proof.Machine.execBdpTimeout transfer s
  | .eventRepeat => Sys2Proof.Machine.execEventRepeat s
  | .busOffRecovery => Sys2Proof.Machine.execBusOffRecovery s
  | .registerWrite key offset value outside => Sys2Proof.Machine.execRegisterWrite key offset value outside s
  | .persistCommit refusals => Sys2Proof.Machine.execPersistCommit refusals s
  | .persistCompaction refusals => Sys2Proof.Machine.execPersistCompaction refusals s
  | .restoreDefaults => Sys2Proof.Machine.execRestoreDefaults s
  | .snapshot => Sys2Proof.Machine.execSnapshot s
  | .clearAll => Sys2Proof.Machine.execClearAll s
  | .stopAll => Sys2Proof.Machine.execStopAll s
  | .counterControlWrite bank n value => Sys2Proof.Machine.execCounterControlWrite bank n value s
  | .counterValueWrite bank n value => Sys2Proof.Machine.execCounterValueWrite bank n value s
  | .lbist readings => Sys2Proof.Machine.execLbist readings s
  | .lbistIslandComplete reading failing => Sys2Proof.Machine.execLbistIslandComplete reading failing s
  | .marchPreserve => Sys2Proof.Machine.execMarchPreserve s
  | .marchDestructive => Sys2Proof.Machine.execMarchDestructive s
  | .marchWordTest array banks => Sys2Proof.Machine.execMarchWordTest array banks s
  | .marchComplete array rows => Sys2Proof.Machine.execMarchComplete array rows s
  | .selftestStop => Sys2Proof.Machine.execSelftestStop s
  | .pathDelaySample delays => Sys2Proof.Machine.execPathDelaySample delays s
  | .marginPlan => Sys2Proof.Machine.execMarginPlan s
  | .planNow => Sys2Proof.Machine.execPlanNow s
  | .avsStep rail => Sys2Proof.Machine.execAvsStep rail s
  | .pmbusPoll rails => Sys2Proof.Machine.execPmbusPoll rails s
  | .pmbAlert status => Sys2Proof.Machine.execPmbAlert status s
  | .pwrgdFall => Sys2Proof.Machine.execPwrgdFall s
  | .resetNAssert => Sys2Proof.Machine.execResetNAssert s
  | .pwrFailNFall => Sys2Proof.Machine.execPwrFailNFall s
  | .powerFailFlushComplete => Sys2Proof.Machine.execPowerFailFlushComplete s
  | .retain => Sys2Proof.Machine.execRetain s
  | .retainEntryComplete => Sys2Proof.Machine.execRetainEntryComplete s
  | .wake => Sys2Proof.Machine.execWake s
  | .wakeNFall => Sys2Proof.Machine.execWakeNFall s
  | .shutdown => Sys2Proof.Machine.execShutdown s
  | .shutdownComplete => Sys2Proof.Machine.execShutdownComplete s
  | .holdupSenseSample samples => Sys2Proof.Machine.execHoldupSenseSample samples s
  | .holdupMeasureDue => Sys2Proof.Machine.execHoldupMeasureDue s
  | .holdupCommandMeasure => Sys2Proof.Machine.execHoldupCommandMeasure s
  | .holdupMeasurePhase samples => Sys2Proof.Machine.execHoldupMeasurePhase samples s
  | .holdupChargeTimeout => Sys2Proof.Machine.execHoldupChargeTimeout s
  | .energyCheck => Sys2Proof.Machine.execEnergyCheck s
  | .thermalSample dies channels => Sys2Proof.Machine.execThermalSample dies channels s
  | .hardwareTrip => Sys2Proof.Machine.execHardwareTrip s
  | .chainInRise => Sys2Proof.Machine.execChainInRise s
  | .delayReqSend => Sys2Proof.Machine.execDelayReqSend s
  | .pfcPauseExpiry port data => Sys2Proof.Machine.execPfcPauseExpiry port data s
  | .pwrgdRise => Sys2Proof.Machine.execPwrgdRise s
  | .channelControllerFailure channel => Sys2Proof.Machine.execChannelControllerFailure channel s
  | .segReadResponse frame => Sys2Proof.Machine.execSegReadResponse frame s
  | .errorFrame transmit receive off => Sys2Proof.Machine.execErrorFrame transmit receive off s
  | .refillComplete nodeOk groupOk => Sys2Proof.Machine.execRefillComplete nodeOk groupOk s

end Sys2Proof.Machine
end

