-- ==== Sys2Proof/Machine/Tick.lean ====
section
/-! DEFINITION. What one GTC tick does of itself (R49, R528): the count, and the counters that count ticks. -/

namespace Sys2Proof.Machine

/-- Does a ready batch of a PUSH stream wait for credit (R204, R213)? -/
def State.pushStalled (s : State) (x : Shoe) : Bool :=
  s.delivers x.slot && ((s.job x.slot).streams[x.stream]?).any (fun st => st.delivery == 0) &&
    (s.shoeBatches x).any fun b => b.ready.isSome && b.slices.any fun y => y.stage == 0 &&
      s.credits.any fun c => c.slot == x.slot && c.stream == x.stream && c.consumer == y.consumer && c.credits == 0

/-- The counters of a Shoe that count ticks (R213). -/
def State.tickShoe (s : State) (x : Shoe) : State :=
  let s := if s.get (shoeKey Obj.lowWaterAlarm x.slot x.stream) = 1 then s.bump (shoeKey Obj.lowWaterTicks x.slot x.stream) else s
  if s.pushStalled x then s.bump (shoeKey Obj.pushStallTicks x.slot x.stream) else s

/-- The counters of a slot that count ticks (R265, R457). -/
def State.tickSlot (s : State) (slot : Nat) : State :=
  let s := if s.stepState slot = 1 then s.bump (inst Obj.haltedTicks slot) else s
  if s.items.any fun it => it.slot == slot && it.logWait.isSome then s.bump (inst Obj.curationLogFullTicks slot) else s

/-- One tick passes. -/
def State.tick (s : State) : State :=
  let s := s.shoes.foldl State.tickShoe (allSlots.foldl State.tickSlot s.countTick)
  let s := if s.kernels = [] then s else s.count Obj.kernelBusyTicks s.kernels.length
  let s := if s.get Obj.tdpWatts < s.get Obj.powerInputW then s.bump Obj.powerOverTdpTicks else s
  { s with gtc := (s.gtc + 1) % 2 ^ 64 }

end Sys2Proof.Machine
end

