-- ==== Sys2Proof/WellFormed.lean ====
section
/-! DEFINITION. Which commands are well formed: every operand within the width its field has in the rule that names it. The meanings
are defined for all operands; a sender that keeps to these sends nothing that a frame, a register or a pin cannot carry. -/

namespace Sys2Proof

/-- The fields of a PTP message in their widths (R54). -/
def PtpMessage.wf (m : PtpMessage) : Bool :=
  m.port < 16 && m.domain < 256 && m.sender < 2 ^ 80 && m.seq < 65536 && m.origin < 2 ^ 64

/-- The fields of a Delay_Resp in their widths (R54). -/
def PtpDelayResp.wf (m : PtpDelayResp) : Bool :=
  m.port < 16 && m.domain < 256 && m.sender < 2 ^ 80 && m.seq < 65536 && m.receipt < 2 ^ 64

/-- The fields of an Announce in their widths (R54). -/
def PtpDataSet.wf (d : PtpDataSet) : Bool :=
  d.port < 16 && d.domain < 256 && d.sender < 2 ^ 80 && d.grandmaster < 2 ^ 64 && d.priority1 < 256 && d.clockClass < 256 &&
    d.accuracy < 256 && d.variance < 65536 && d.priority2 < 256 && d.stepsRemoved < 65536

/-- The headers of a sealed packet in their widths (R394, R395). -/
def SealHeader.wf (h : SealHeader) : Bool :=
  h.counter < 2 ^ 64 && h.msgOffset < 2 ^ 64 && h.firstPsn < 2 ^ 24 && h.msgLength < 2 ^ 32 && h.key < 2 ^ 32 && h.addr < 2 ^ 64

/-- The headers of a packet in their widths (R377). -/
def Packet.wf (p : Packet) : Bool :=
  p.port < 16 && p.pkey < 65536 && p.opcode < 256 && p.psn < 2 ^ 24 && p.key < 2 ^ 32 && p.addr < 2 ^ 64 && p.length < 2 ^ 32 &&
    p.imm.all (fun i => i < 2 ^ 32) && p.syndrome < 256 && p.payload.length ≤ 4096 && p.sealed.all SealHeader.wf && p.dscp < 64 &&
    p.frameBytes < 65536

/-- A channel carries at most 64 dies (R332). -/
def Population.wf (p : Population) : Bool := p.diesPerChannel ≤ 64

/-- The registers a kernel sees, 32 of each kind (R279). -/
def PierRegs.wf (r : PierRegs) : Bool :=
  r.pc < 2 ^ 64 && r.x.length = 32 && r.x.all (fun v => v < 2 ^ 64) && r.f.length = 32 && r.f.all (fun v => v < 2 ^ 64) &&
    r.v.length = 32

/-- What a kernel did, its stores at addresses of 64 bits. -/
def KernelStep.wf (k : KernelStep) : Bool := k.regs.wf && k.stores.all fun w => w.1 < 2 ^ 64

/-- What a boot flash says of itself in its widths (R461). -/
def BootFlash.wf (f : BootFlash) : Bool := f.bytes < 2 ^ 64 && f.id < 2 ^ 24

/-- The arrays and channels that start-up names (R543, R303). -/
def StartUp.wf (f : StartUp) : Bool :=
  f.rows.all (fun r => r.1 < 84) && f.channels.all (fun c => c < 96)

/-- A monotonic counter has 32 bits (R461). -/
def CounterRun.wf (c : CounterRun) : Bool := c.value.all fun v => v < 2 ^ 32

/-- A STATUS_WORD has 16 bits (R561). -/
def RailReading.wf (r : RailReading) : Bool := r.status < 65536

/-- A clock domain is numbered in a byte (R58). -/
def IslandReading.wf (r : IslandReading) : Bool := r.domain < 128

/-- The identifier fields and the payload of a CAN frame in their widths (R486, R489). -/
def BusFrame.wf (f : BusFrame) : Bool :=
  f.function < 16 && f.dest < 128 && f.src < 128 && f.tag < 2048 && f.payload.length ≤ 64

/-- The answers of the devices around in their widths. -/
def Outside.wf (o : Outside) : Bool :=
  o.found.wf && o.counters.all (fun c => c < 2 ^ 32) && o.readings.all IslandReading.wf

/-- Item Table entries that a command names. -/
def entriesWf (l : List Nat) : Bool := l.all fun e => e < 2 ^ 16

/-- An Item Table entry that a command may name. -/
def optionEntryWf (e : Option Nat) : Bool := e.all fun e => e < 2 ^ 16

/-- The codes of R293 that name a trap. -/
def trapCodes : List Nat := [0x4810, 0x4811, 0x4812, 0x4813, 0x4814]

/-- Are the operands of a command within their widths? -/
def Instr.wf : Instr → Bool
  | .stagingOpen slot => slot < 64
  | .validate slot _ _ => slot < 64
  | .arm slot => slot < 64
  | .disarm slot => slot < 64
  | .stop slot => slot < 64
  | .abort slot => slot < 64
  | .jobRelease slot => slot < 64
  | .launch slot => slot < 64
  | .sliceSwitchComplete cls => cls < 4
  | .sliceBoundary => true
  | .inferenceSwitchStart => true
  | .syncSourceWrite value => value < 2 ^ 64
  | .ptpSync m _ => m.wf
  | .ptpFollowUp m => m.wf
  | .ptpDelayResp m => m.wf
  | .delayReqSend => true
  | .ptpAnnounce d => d.wf
  | .ppsInEdge _ => true
  | .islandRealign => true
  | .sourceLost => true
  | .refInLockLoss => true
  | .holdoverExpiry => true
  | .crossingWordLate tile crossing entered held => tile < 8 && crossing < 65536 && entered < 2 ^ 64 && entriesWf held
  | .viaductFlitCrcError tile link entered held => tile < 8 && link < 65536 && entered < 2 ^ 64 && entriesWf held
  | .viaductLaneFailure tile link lane => tile < 8 && link < 65536 && lane < 256
  | .shardOpenComplete slot shard node media _ => slot < 64 && shard < 2 ^ 24 && node < 2 ^ 128 && media < 65536
  | .tarScanComplete slot shard node media _ => slot < 64 && shard < 2 ^ 24 && node < 2 ^ 128 && media < 65536
  | .recordReadComplete entry => entry < 2 ^ 16
  | .peerRecordReadComplete entry _ => entry < 2 ^ 16
  | .peerFetchTimeout entry => entry < 2 ^ 16
  | .itemIssue slot => slot < 64
  | .peerReady uid message => uid < 2 ^ 128 && message.length = 32
  | .preparedReadComplete uid ref _ valid => uid < 2 ^ 128 && ref < 2 ^ 64 && valid < 2 ^ 32
  | .peerPrepare uid message => uid < 2 ^ 128 && message.length = 32
  | .peerRelease uid message => uid < 2 ^ 128 && message.length = 32
  | .batchStart slot stream classes => slot < 64 && stream < 16 && classes.all (fun c => c < 8)
  | .lateDeclaration slot stream position => slot < 64 && stream < 16 && position < 2 ^ 64
  | .censusOfferReceived uid message => uid < 2 ^ 128 && message.length = 80
  | .censusContributionReadComplete slot epoch uid _ => slot < 64 && epoch < 2 ^ 32 && uid < 2 ^ 128
  | .censusTimeout slot epoch => slot < 64 && epoch < 2 ^ 32
  | .censusRequestReceived uid message => uid < 2 ^ 128 && message.length = 80
  | .censusFullReceived uid message => uid < 2 ^ 128 && message.length = 80
  | .censusFullReadComplete slot epoch _ => slot < 64 && epoch < 2 ^ 32
  | .decompressComplete entry => entry < 2 ^ 16
  | .decodeComplete entry => entry < 2 ^ 16
  | .decodeBudgetExpired entry => entry < 2 ^ 16
  | .slowLaneDecodeComplete entry => entry < 2 ^ 16
  | .workLimitExceeded entry => entry < 2 ^ 16
  | .transformComplete entry check => entry < 2 ^ 16 && check ≤ 2
  | .tokenizeComplete entry => entry < 2 ^ 16
  | .cacheHitCopyComplete entry _ => entry < 2 ^ 16
  | .cacheFlashReadComplete entry _ => entry < 2 ^ 16
  | .cacheFillComplete _ => true
  | .cacheCompressComplete _ => true
  | .cacheDropUnpinned => true
  | .cacheDropAll => true
  | .cachePurgeDigest => true
  | .pushSliceAcknowledged slot stream epoch index slice => slot < 64 && stream < 16 && epoch < 2 ^ 32 && index < 2 ^ 32 && slice < 65536
  | .creditReturn slot consumer immediate _ => slot < 64 && consumer < 65536 && immediate < 2 ^ 32
  | .pullRelease slot consumer immediate _ => slot < 64 && consumer < 65536 && immediate < 2 ^ 32
  | .consumerStall slot stream consumer => slot < 64 && stream < 16 && consumer < 65536
  | .bufferGrant => true
  | .vocabLoad => true
  | .vocabBuildComplete entry => entry < 2 ^ 16
  | .vocabUnload => true
  | .controlLoad => true
  | .controlBuildComplete entry => entry < 2 ^ 16
  | .controlUnload => true
  | .bundleLoadImage => true
  | .bundleLoadObject => true
  | .bundleLoadComplete entry => entry < 2 ^ 16
  | .bundleUnload => true
  | .prefillPassComplete entries => entriesWf entries
  | .stepPassComplete entries => entriesWf entries
  | .trestleOperatorFault entries _ line _ => entriesWf entries && line < 65536
  | .curationLogRelease slot value => slot < 64 && value < 2 ^ 64
  | .kernelLoad => true
  | .kernelBuildComplete entry => entry < 2 ^ 16
  | .kernelUnload => true
  | .kernelItemStart => true
  | .chainAlloc entry work => entry < 2 ^ 16 && work.wf
  | .chainLength entry work => entry < 2 ^ 16 && work.wf
  | .refAdd entry work => entry < 2 ^ 16 && work.wf
  | .refDrop entry work => entry < 2 ^ 16 && work.wf
  | .dmaSubmit entry work => entry < 2 ^ 16 && work.wf
  | .dmaWait entry work => entry < 2 ^ 16 && work.wf
  | .dmaComplete entry tag => entry < 2 ^ 16 && tag < 256
  | .dmaTimeout entry tag => entry < 2 ^ 16 && tag < 256
  | .rng entry work => entry < 2 ^ 16 && work.wf
  | .emit entry work => entry < 2 ^ 16 && work.wf
  | .pass entry work => entry < 2 ^ 16 && work.wf
  | .fail entry work => entry < 2 ^ 16 && work.wf
  | .reject entry work => entry < 2 ^ 16 && work.wf
  | .serviceUnknown entry work => entry < 2 ^ 16 && work.wf
  | .kernelTrap entry work code => entry < 2 ^ 16 && work.wf && trapCodes.contains code
  | .instructionLimit entry work => entry < 2 ^ 16 && work.wf
  | .noEnding entry work => entry < 2 ^ 16 && work.wf
  | .sramUncorrectable tile address bank entry _ _ => tile < 8 && address < 2 ^ 32 && bank < 1024 && optionEntryWf entry
  | .refreshStart channel => channel < 96
  | .refreshEnd channel _ held => channel < 96 && entriesWf held
  | .hotScheduleChange channel => channel < 96
  | .retrainComplete channel _ _ held frames _ => channel < 96 && entriesWf held && frames < 2 ^ 32
  | .gddrCorrectedError channel frame => channel < 96 && frame < 2 ^ 32
  | .gddrUncorrectableRead channel frame _ => channel < 96 && frame < 2 ^ 32
  | .gddrLinkCrcFailure channel ticks held => channel < 96 && ticks < 2 ^ 64 && entriesWf held
  | .retireChannel channel => channel < 96
  | .channelMigrationComplete channel frames homeless => channel < 96 && frames < 2 ^ 32 && homeless.all (fun h => h < 2 ^ 32)
  | .bufferAllocate requester count => requester < 64 && count < 2 ^ 32
  | .freeListRebuildComplete => true
  | .bufferRefAdd handle requester entry => handle < 2 ^ 32 && requester < 64 && optionEntryWf entry
  | .bufferRefDrop handle requester entry => handle < 2 ^ 32 && requester < 64 && optionEntryWf entry
  | .refillComplete _ _ => true
  | .format found => found.wf
  | .patrolFull => true
  | .patrolStop => true
  | .patrolRead _ => true
  | .create => true
  | .append => true
  | .sealObject => true
  | .delete => true
  | .secureDiscard => true
  | .unitReadRequest unit cls _ => unit < 2 ^ 48 && cls < 4
  | .unitReadComplete channel die _ _ => channel < 32 && die < 64
  | .programComplete channel die _ _ => channel < 32 && die < 64
  | .eraseComplete channel die _ => channel < 32 && die < 64
  | .gcCampaignStart => true
  | .gcCopyComplete => true
  | .bandErase => true
  | .wearLevelStart die => die < 64
  | .journalFlush => true
  | .checkpoint => true
  | .flushEnergyUpdate => true
  | .holdupWaitTimeout => true
  | .mountComplete found _ => found.wf
  | .channelControllerFailure channel => channel < 32
  | .portLinkUp port => port < 16
  | .portLinkDown port => port < 16
  | .arpRequest port target reply => port < 16 && target < 2 ^ 128 && reply.length ≤ 64
  | .neighborSolicitation port target reply => port < 16 && target < 2 ^ 128 && reply.length ≤ 64
  | .echoRequest port target body => port < 16 && target < 2 ^ 128 && body.length ≤ 9216
  | .frameDiscard port _ => port < 16
  | .pfcFrameReceived port priority quanta held => port < 16 && priority < 8 && quanta < 65536 && entriesWf held
  | .pfcPauseExpiry port _ => port < 16
  | .pfcRepeat port _ _ => port < 16
  | .pauseStormReceived port _ => port < 16
  | .pauseStormSent port _ => port < 16
  | .stormRecoveryExpiry port _ => port < 16
  | .receiveSend ctx p => ctx < 17472 && p.wf
  | .receiveWrite ctx p => ctx < 17472 && p.wf
  | .receiveReadRequest ctx p => ctx < 17472 && p.wf
  | .receiveReadResponse ctx p => ctx < 17472 && p.wf
  | .receiveAcknowledge ctx p => ctx < 17472 && p.wf
  | .ackDelayExpiry ctx => ctx < 17472
  | .retransmitTimeout ctx => ctx < 17472
  | .rnrTimerExpiry ctx => ctx < 17472
  | .reorderTimeout ctx => ctx < 17472
  | .revokeDrainComplete index => index < 2 ^ 32
  | .revokeDrainOverrun index outstanding => index < 2 ^ 32 && outstanding < 2 ^ 64
  | .connect address datagrams => address < 2 ^ 128 && datagrams.all (fun g => g.length ≤ 9216)
  | .accept address datagrams => address < 2 ^ 128 && datagrams.all (fun g => g.length ≤ 9216)
  | .confirm address datagrams => address < 2 ^ 128 && datagrams.all (fun g => g.length ≤ 9216)
  | .handshakeReady address datagrams => address < 2 ^ 128 && datagrams.all (fun g => g.length ≤ 9216)
  | .handshakeReject address datagrams => address < 2 ^ 128 && datagrams.all (fun g => g.length ≤ 9216)
  | .close address datagrams => address < 2 ^ 128 && datagrams.all (fun g => g.length ≤ 9216)
  | .handshakeResend ctx => ctx < 17472
  | .handshakeBackoffExpiry ctx => ctx < 17472
  | .handshakeTimeout ctx => ctx < 17472
  | .portFrameSelect port => port < 16
  | .queueRejoin ctx => ctx < 17472
  | .shaperProfileWrite profile sub value => profile < 32 && sub < 256 && value < 2 ^ 64
  | .policerProfileWrite profile sub value => profile < 32 && sub < 256 && value < 2 ^ 64
  | .engineFault entry _ => entry < 2 ^ 16
  | .nodeFault => true
  | .stepAbort slot => slot < 64
  | .abortMessage uid _ => uid < 2 ^ 128
  | .abortAck uid _ => uid < 2 ^ 128
  | .abortProbe slot => slot < 64
  | .keepalive ctx => ctx < 17472
  | .memberTimeout slot uid => slot < 64 && uid < 2 ^ 128
  | .resume slot => slot < 64
  | .join slot => slot < 64
  | .cancel slot => slot < 64
  | .resumeTick slot => slot < 64
  | .replace slot => slot < 64
  | .removeDomain slot => slot < 64
  | .memberClear slot => slot < 64
  | .resetRelease flash => flash.wf
  | .bootBodyReadComplete => true
  | .hubAlive start counter => start.wf && counter.wf
  | .bootWatchdogExpiry flash => flash.wf
  | .recoveryAttempt flash => flash.wf
  | .beacon => true
  | .recoveryLinkTry => true
  | .offer server length digest => server < 2 ^ 128 && length < 2 ^ 32 && digest < 2 ^ 256
  | .data server offset image => server < 2 ^ 128 && offset < 2 ^ 32 && image.length ≤ 9216
  | .recoveryAckTimer => true
  | .recoveryTransferTimeout => true
  | .stageImage => true
  | .stageObject => true
  | .fwCheckComplete => true
  | .install => true
  | .installComplete _ programmed => programmed < 2 ^ 32
  | .reboot => true
  | .commitSvn burned => burned < 256
  | .bindBootFlash counters _ => counters.all (fun c => c < 2 ^ 32)
  | .quote => true
  | .quoteComplete => true
  | .measure => true
  | .revokeAdd => true
  | .revokeRemove => true
  | .revokeClear => true
  | .walk frame => frame.wf
  | .walkEnd frame => frame.wf
  | .rateSwitch frame => frame.wf
  | .rateSwitchApply => true
  | .eventAck frame => frame.wf
  | .helloQuery frame => frame.wf
  | .walkEligible _ _ => true
  | .claimReceived frame => frame.wf
  | .claimHoldExpiry => true
  | .claimCollisionBackoff => true
  | .chainInFall => true
  | .chainInRise => true
  | .addressConflict frame => frame.wf
  | .hello => true
  | .bdpRead frame => frame.wf
  | .bdpWrite frame outside => frame.wf && outside.wf
  | .segWrite frame => frame.wf
  | .segRead frame => frame.wf
  | .stageWrite frame => frame.wf
  | .stageRead frame => frame.wf
  | .bdpAbort frame => frame.wf
  | .segment frame outside => frame.wf && outside.wf
  | .segReadResponse frame => frame.wf
  | .block frame outside => frame.wf && outside.wf
  | .blockAck frame => frame.wf
  | .bdpTimeout transfer => transfer < 256
  | .eventRepeat => true
  | .busOffRecovery => true
  | .errorFrame transmit receive _ => transmit < 65536 && receive < 65536
  | .registerWrite key offset _ outside => key < 2 ^ 24 && offset < 2 ^ 32 && outside.wf
  | .persistCommit refusals => refusals < 256
  | .persistCompaction refusals => refusals < 256
  | .restoreDefaults => true
  | .counterControlWrite bank n value => bank < 8 && n < 32 && value < 2 ^ 64
  | .counterValueWrite bank n value => bank < 8 && n < 32 && value < 2 ^ 64
  | .snapshot => true
  | .clearAll => true
  | .stopAll => true
  | .lbist readings => readings.all (·.wf)
  | .lbistIslandComplete reading failing => reading.wf && failing.all (fun f => f < 65536)
  | .marchPreserve => true
  | .marchDestructive => true
  | .marchWordTest array banks => (array < 5 || (16 ≤ array && array < 84)) && banks.all (fun b => b < 256)
  | .marchComplete array _ => (array < 5 || (16 ≤ array && array < 84))
  | .selftestStop => true
  | .pathDelaySample _ => true
  | .marginPlan => true
  | .planNow => true
  | .avsStep rail => rail < 8
  | .pmbusPoll rails => rails.all (·.wf)
  | .pmbAlert status => status.all (fun w => w < 65536)
  | .pwrgdFall => true
  | .resetNAssert => true
  | .pwrFailNFall => true
  | .powerFailFlushComplete => true
  | .retain => true
  | .retainEntryComplete => true
  | .wake => true
  | .wakeNFall => true
  | .shutdown => true
  | .shutdownComplete => true
  | .holdupSenseSample samples => samples.all (fun v => v < 65536)
  | .holdupMeasureDue => true
  | .holdupCommandMeasure => true
  | .holdupMeasurePhase samples => samples.all (fun v => v < 65536)
  | .holdupChargeTimeout => true
  | .energyCheck => true
  | .thermalSample _ _ => true
  | .hardwareTrip => true
  | .pwrgdRise => true

end Sys2Proof
end

