-- ==== Sys2Proof/Safety.lean ====
section
/-! DEFINITION. What counts as a safe run, and the terms in which the statements speak: an accepted write, the canonical form of the
dictionary, and the objects that events and connections count in. -/

namespace Sys2Proof

/-- A step is safe when it answers a next state. -/
def Safe (s : Machine.State) : Prop := ∃ t, Machine.step s = .next t

namespace Machine

/-- A write of `v` to the object `k` passes the checks of R514 that come before its owner. -/
def Accepts (s : State) (k v : Nat) : Prop := writeAbort s k v = none

/-- The objects that the sending of frames and events counts in (R507). -/
def eventCounters : List Nat := [Obj.eventsSent, Obj.eventsLost, Obj.busFramesSent]

/-- The objects that show how many connections there are (R406, R408, R424). -/
def connCounters : List Nat :=
  [Obj.connectionsEstablished] ++ allSlots.map (inst Obj.slotConsumerConnections) ++ allSlots.map (inst Obj.slotPeerConnections) ++
    (List.range 16).map (inst Obj.portConnections) ++ (List.range 32).map (inst Obj.shapeUsers) ++
    (List.range 32).map (inst Obj.policerUsers)

/-- The objects that follow a change of a slot's state: the events it posts and the connections it needs. -/
def followCounters : List Nat := eventCounters ++ connCounters

/-- A list by key is in canonical form: its keys rise, and nothing listed is what an unlisted key reads as. -/
def Canonical {α : Type} (blank : Nat → α) (l : List (Nat × α)) : Prop :=
  (l.map Prod.fst).Pairwise (· < ·) ∧ ∀ e ∈ l, e.2 ≠ blank e.1

/-- The dictionary in canonical form: fixed-size values and contents alike. -/
def State.DictOk (s : State) : Prop := Canonical defaultOf s.dict ∧ Canonical (fun _ => []) s.blobs

/-- Every dictionary object outside a list keeps its value. -/
def SameObjects (s t : State) (but : List Nat) : Prop := ∀ k, k ∉ but → t.get k = s.get k

/-- The kernel of an item runs a stretch of its own instructions to its end (R289, R292, R293): it waits for nothing, its stores fall in
its scratchpad and meet no outstanding DMA, and it stays within its limit of instructions. -/
def RunsFree (s : State) (e : Nat) (it : Item) (k : KernelRun) (w : KernelStep) : Prop :=
  s.item e = some it ∧ s.kernel e = some k ∧ k.allocating = none ∧ k.waiting = none ∧ k.ending = none ∧
    (∀ x ∈ w.stores, k.meets x.1 x.2.length = false ∧ inSpad (s.kernelPackage it).2 x.1 x.2.length = true) ∧
    k.insns + w.insns ≤ instructionLimit (s.kernelPackage it).1 (s.kernelPackage it).2

/-- The stretch ends in the service call of a number, within the limit (R286, R292). -/
def CallsFree (s : State) (e : Nat) (it : Item) (k : KernelRun) (w : KernelStep) (call : Nat) : Prop :=
  RunsFree s e it k w ∧ w.regs.x.getD 17 0 = call ∧
    k.insns + w.insns + 64 ≤ instructionLimit (s.kernelPackage it).1 (s.kernelPackage it).2

/-- A kernel as a stretch leaves it. -/
def KernelRun.ranBy (k : KernelRun) (w : KernelStep) : KernelRun :=
  { k with regs := w.regs, insns := k.insns + w.insns, spad := w.stores.foldl (fun m x => Memory.write m x.1 x.2) k.spad }

/-- The machine as a stretch leaves it: its instructions have been counted. -/
def State.ranBy (s : State) (it : Item) (k : KernelRun) (w : KernelStep) : State :=
  (s.putKernel (k.ranBy w)).retired it (k.ranBy w) w.insns

/-- A kernel as it makes a service call, which is charged 64 instructions (R292). -/
def KernelRun.calledBy (k : KernelRun) (w : KernelStep) : KernelRun := { k.ranBy w with insns := k.insns + w.insns + 64 }

/-- The machine as a kernel makes a service call. -/
def State.calledBy (s : State) (it : Item) (k : KernelRun) (w : KernelStep) : State :=
  ((s.ranBy it k w).putKernel (k.calledBy w)).retired it (k.calledBy w) 64

end Machine

end Sys2Proof
end

