-- ==== Sys2Proof/Certificates/Slice0/Obligations.lean ====
section
/-! DEFINITION. The statements for the provers. -/

open Sys2Proof Sys2Proof.Machine


/-- For every command and state, a step of the state with that command at the front of its queue is exec of the command on the state
with the queue's rest. The queue is the model's own (log entry 3). -/
def Obligations.StepTakesFrontCommand : Prop :=
  ∀ (c : Instr) (rest : List Instr) (s : State), step { s with pending := c :: rest } = exec c { s with pending := rest }

/-- With an empty queue a step answers a next state whose GTC is one more, modulo 2^64, and leaves the queue empty; that one tick
passes on an empty queue is the model's choice (log entry 2). -/
def Obligations.IdleStepIsOneTick : Prop :=
  ∀ s : State, s.pending = [] → ∃ t, step s = .next t ∧ t.gtc = (s.gtc + 1) % 2 ^ 64 ∧ t.pending = []

/-- At reset no dictionary object differs from its default, every slot's JobState is 0 (EMPTY), the GTC is 0, no item, connection,
region, batch or image is held and no command waits. -/
def Obligations.ResetState : Prop :=
  State.reset.dict = [] ∧ State.reset.blobs = [] ∧ (∀ slot < 64, State.reset.jobState slot = 0) ∧ State.reset.gtc = 0 ∧
    State.reset.items = [] ∧ State.reset.conns = [] ∧ State.reset.regions = [] ∧ State.reset.batches = [] ∧
    State.reset.images = [] ∧ State.reset.pending = []

/-- For every state, a step answers a next state, whatever command stands at the front of the queue: no command of the table ends in
a fault or a refusal. -/
def Obligations.EveryStepSafe : Prop :=
  ∀ s : State, Safe s

/-- Each write of JobCommand or StagingOpen that R514 lets through, in a state where R33 makes it legal and with no launch due, has
its effect: StagingOpen on an EMPTY slot takes the window's memory, clears the slot, opens the window and enters STAGED; ARM
with the four conditions of R29 enters ARMED; DISARM returns to READY; STOP of an ARMED slot returns to READY and of a RUNNING
one ends issue and enters DRAINING; ABORT ends the slot with 0x8014; RELEASE frees the slot's regions, pins, heap and machinery
and enters EMPTY; and LAUNCH of an ARMED slot at or after its tick starts the job at EPOCH_FIRST. -/
def Obligations.SlotCommandsComplete : Prop :=
  ∀ (s : State) (slot : Nat), slot < 64 →
    (∀ t, Accepts s (inst Obj.stagingOpen slot) 1 → s.jobState slot = 0 → s.heapTake slot .staging stagingBytes = some t →
      exec (.stagingOpen slot) s = .next ((((t.clearSlot slot).setSlot slot {}).openStaging slot).enterState slot 1).ok) ∧
    (Accepts s (inst Obj.jobCommand slot) 2 → s.jobState slot = 2 → s.get (inst Obj.expectedDigest slot) = s.get (inst Obj.manifestDigest slot) →
      s.get (inst Obj.launchTick slot) % s.get Obj.sliceTicks = 0 →
      s.gtc + s.get Obj.launchLeadMin ≤ s.get (inst Obj.launchTick slot) → s.synced = true →
      exec (.arm slot) s = .next (((s.modSlot slot fun sl => { sl with joined := false }).enterState slot 3).ok)) ∧
    (Accepts s (inst Obj.jobCommand slot) 3 → s.jobState slot = 3 → s.launchDue slot = false →
      exec (.disarm slot) s = .next ((s.unjoin slot).enterState slot 2).ok) ∧
    (Accepts s (inst Obj.jobCommand slot) 4 → s.jobState slot = 3 → s.launchDue slot = false →
      exec (.stop slot) s = .next ((s.unjoin slot).enterState slot 2).ok.flow) ∧
    (Accepts s (inst Obj.jobCommand slot) 4 → s.jobState slot = 4 →
      exec (.stop slot) s = .next ((s.modSlot slot fun sl => { sl with issueDone := true }).enterState slot 5).ok.flow) ∧
    (Accepts s (inst Obj.jobCommand slot) 5 → s.jobState slot ∈ [3, 4, 5] → s.launchDue slot = false →
      exec (.abort slot) s = .next ((s.unjoin slot).abortSlot slot 0x8014 0x8014).ok.flow) ∧
    (Accepts s (inst Obj.jobCommand slot) 6 → s.jobState slot ∈ [1, 2, 6, 7] →
      exec (.jobRelease slot) s = .next
        (((((((s.revokeWhere fun r => r.owner == slot && r.kind != .objectWindow).unpin slot).heapFreeSlot slot).forgetManifest
          slot).setSlot slot {}).enterState slot 0).ok).flow) ∧
    (s.jobState slot = 3 → s.get (inst Obj.launchTick slot) ≤ s.gtc → (s.slot slot).joined = false →
      exec (.launch slot) s = .next (((s.startJob slot (s.job slot).epochFirst).issueFirst slot).flow))

/-- Each of the six JobCommand values, let through by R514 and written in a state where the table of R33 does not make it legal,
sets JobLastReason to 0x801A, answers the transfer with the abort code of a refused write, and changes no other object and
nothing else of the state; VALIDATE is also not legal while a check is under way. For STOP and ABORT what follows any change of
the pipeline (flow) then runs. -/
def Obligations.IllegalJobCommandsRefused : Prop :=
  ∀ (s : State) (slot : Nat) (r d : Bool), slot < 64 →
    let t : State := { s with dict := (s.set (inst Obj.jobLastReason slot) 0x801A).dict, answer := { abort := 0x0015, reason := 0x801A } }
    (Accepts s (inst Obj.jobCommand slot) 1 → s.jobState slot ≠ 1 → exec (.validate slot r d) s = .next t) ∧
    (Accepts s (inst Obj.jobCommand slot) 2 → s.jobState slot ≠ 2 → exec (.arm slot) s = .next t) ∧
    (Accepts s (inst Obj.jobCommand slot) 3 → s.jobState slot ≠ 3 → exec (.disarm slot) s = .next t) ∧
    (Accepts s (inst Obj.jobCommand slot) 4 → s.jobState slot ∉ [3, 4] → exec (.stop slot) s = .next t.flow) ∧
    (Accepts s (inst Obj.jobCommand slot) 5 → s.jobState slot ∉ [3, 4, 5] → exec (.abort slot) s = .next t.flow) ∧
    (Accepts s (inst Obj.jobCommand slot) 6 → s.jobState slot ∉ [1, 2, 6, 7] → exec (.jobRelease slot) s = .next t.flow) ∧
    t.get (inst Obj.jobLastReason slot) = 0x801A ∧ (∀ k, k ≠ inst Obj.jobLastReason slot → t.get k = s.get k)

/-- When a slot below 64 enters a state, its JobState reads the new value, every object outside the counters of events and
connections and its own JobState keeps its value, and the machinery of every slot, the items, the batches, the regions, the
store and the GTC are as they were. -/
def Obligations.EnteringShowsState : Prop :=
  ∀ (s : State) (slot new : Nat), slot < 64 →
    let t := s.enterState slot new
    t.jobState slot = new ∧ (∀ k, k ∉ followCounters → k ≠ inst Obj.jobState slot → t.get k = s.get k) ∧
    t.slots = s.slots ∧ t.items = s.items ∧ t.batches = s.batches ∧ t.regions = s.regions ∧ t.store = s.store ∧ t.gtc = s.gtc

/-- VALIDATE let through in STAGED with no check under way closes the staging window and answers OK. While accepted writes still
drain nothing else happens. Otherwise the window's region is retired and the bytes are checked: where the checks of R16 find
nothing, the manifest is accepted; where they find a fault, the window is reopened with its contents unchanged and
JobLastReason, RejectSection and RejectOffset show the fault. -/
def Obligations.ValidateOutcomes : Prop :=
  (∀ (s : State) (slot : Nat) (r : Bool), Accepts s (inst Obj.jobCommand slot) 1 → s.jobState slot = 1 → (s.slot slot).validating = false →
    let closed := ((s.closeStaging slot).modSlot slot fun sl => { sl with validating := true, mapReadable := r }).ok
    exec (.validate slot r true) s = .next closed ∧
    (∀ g, closed.regionOf .staging slot 0 = some g → exec (.validate slot r false) s = .next ((closed.retireRegion g.index).checkManifest slot)) ∧
    (closed.regionOf .staging slot 0 = none → exec (.validate slot r false) s = .next (closed.checkManifest slot))) ∧
  (∀ (s : State) (slot : Nat), let raw := Memory.bytes (s.slot slot).window 0 (s.slot slot).windowTop
    manifestReject s raw (s.slot slot).windowTop slot (s.slot slot).mapReadable = none →
    s.checkManifest slot = (s.set (inst Obj.placementCollisions slot) (s.readJob raw).collisions.length).acceptManifest slot raw) ∧
  (∀ (s : State) (slot : Nat) (f : Reject), (f.code < 0x6C00 ∨ 0x7000 ≤ f.code) →
    s.rejectManifest slot f = (s.openStaging slot).setAll [(inst Obj.jobLastReason slot, f.code), (inst Obj.rejectSection slot, f.section_),
      (inst Obj.rejectOffset slot, f.offset)])

/-- Away from a multiple of SliceTicks SLICE_BOUNDARY changes nothing; at one, the Item Table shares follow SliceWeight, each of the
four classes is sliced in its order INFERENCE, DEALER, SHOE, TOKEN, and every slot that was picked counts one in SlicesHeld,
after which channels due for training start it (R310). INFERENCE_SWITCH_START marks the switch of INFERENCE in course as saving
and takes the class from the running slots that lose it, with their working sets taken from the heap. SLICE_SWITCH_COMPLETE of a
class whose switch is over counts its ticks in SliceOverrunTicks and gives the class to its new holders. -/
def Obligations.SliceCommands : Prop :=
  (∀ s : State, s.gtc % s.get Obj.sliceTicks ≠ 0 → exec .sliceBoundary s = .next s.flow) ∧
  (∀ s : State, s.gtc % s.get Obj.sliceTicks = 0 →
    let r1 := s.shareTable.sliceClass .inference
    let r2 := r1.2.sliceClass .dealer
    let r3 := r2.2.sliceClass .shoe
    let r4 := r3.2.sliceClass .token
    exec .sliceBoundary s = .next (([r1.1, r2.1, r3.1, r4.1].filterMap id).eraseDups.foldl
      (fun (t : State) i => t.bump (inst Obj.slicesHeld i)) r4.2).startTrainings.flow) ∧
  (∀ (s : State) (w : Switch), s.switchOf .inference = some w → w.saving = false →
    exec .inferenceSwitchStart s = .next
      ((allSlots.filter fun i => s.running i && s.hasHold .inference i && !w.holders.contains i).foldl (fun (t : State) i =>
        let t := t.setHold .inference i false
        if (t.job i).minSram = 0 then t else t.heapOrAbort i .workingSet ((t.job i).minSram * 1024))
        { s with switches := replaceFirst (fun x => x.cls == SliceClass.inference) { w with saving := true } s.switches }).flow) ∧
  (∀ (s : State) (n : Nat) (w : Switch), n = 1 ∨ n = 2 ∨ n = 3 → s.switchOf (sliceClassOf n) = some w → s.switchOver w = true →
    exec (.sliceSwitchComplete n) s = .next
      ((((({ s with switches := s.switches.filter fun x => x.cls != sliceClassOf n }).count Obj.sliceOverrunTicks (s.gtc - w.since)).event
        7 0x105 (s.gtc - w.since) none w.holders.head?).giveClass (sliceClassOf n) w.holders).flow))

/-- At each measurement the loop's new F is clamp(F - (o * 10^9) / (16 * D), -L, L) and its new C is clamp(F - (o * 10^9) / (4 * D),
-L, L) with the new F, the divisions rounding towards zero; and D is 2^PtpSyncIntervalLog seconds in ticks under PTP with a
negative PtpSyncIntervalLog and 10^9 under REF_PPS. -/
def Obligations.SlewLoopComputesCorrection : Prop :=
  (∀ (f o l : Int) (d : Nat),
    let f' := max (-l) (min l (f - Int.tdiv (o * 10 ^ 9) (16 * d)))
    slewLoop f o d l = (f', max (-l) (min l (f' - Int.tdiv (o * 10 ^ 9) (4 * d))))) ∧
  (∀ (s : State) (n : Nat), s.get Obj.syncSource = 1 → s.geti 32 Obj.ptpSyncIntervalLog = -(n : Int) → s.interval = 10 ^ 9 / 2 ^ n) ∧
  (∀ s : State, s.get Obj.syncSource = 2 → s.interval = 10 ^ 9)

/-- For every state and measured offset o that an I32 holds: where |o| exceeds StepThresholdTicks and no slot is ARMED, RUNNING or
DRAINING, the GTC becomes GTC - o modulo 2^64, F stays and C becomes F; otherwise the GTC does not change and F and C are those
of the slewing loop for o. OffsetTicks shows o either way. -/
def Obligations.MeasurementStepsOrSlews : Prop :=
  ∀ (s : State) (o : Int), -(2 ^ 31) ≤ o → o < 2 ^ 31 →
    (s.measure o).geti 32 Obj.offsetTicks = o ∧
    (s.get Obj.stepThresholdTicks < o.natAbs → s.jobsActive = false →
      (s.measure o).gtc = (((s.gtc : Int) - o) % (2 ^ 64 : Int)).toNat ∧ (s.measure o).time.freq = s.time.freq ∧
      (s.measure o).time.corr = s.time.freq) ∧
    (o.natAbs ≤ s.get Obj.stepThresholdTicks ∨ s.jobsActive = true →
      (s.measure o).gtc = s.gtc ∧
      ((s.measure o).time.freq, (s.measure o).time.corr) =
        slewLoop s.time.freq o s.interval (s.get Obj.slewLimitPpm * 1000))

/-- A measurement while FREE enters ACQUIRING; the sixteenth consecutive measurement in the window while ACQUIRING enters SYNCED;
the fourth consecutive one outside it while SYNCED enters ACQUIRING; one in HOLDOVER enters SYNCED inside the window and
ACQUIRING outside it. The source lost while SYNCED enters HOLDOVER and while ACQUIRING enters FREE. HOLDOVER_EXPIRY in HOLDOVER
with an error above 20 ticks enters FREE and otherwise changes nothing. A write of SyncSource that R514 lets through enters FREE
with F and C 0. REF_IN_LOCK_LOSS of a REF_PPS source that is seen, and SOURCE_LOST past the time for the next edge, lose the
source. -/
def Obligations.SyncStateTransitions : Prop :=
  (∀ (s : State) (b : Bool), s.get Obj.syncState = 0 → (s.judge b).get Obj.syncState = 1) ∧
  (∀ s : State, s.get Obj.syncState = 1 → s.time.inside + 1 = 16 → (s.judge true).get Obj.syncState = 2) ∧
  (∀ s : State, s.get Obj.syncState = 1 → s.time.inside + 1 < 16 → (s.judge true).get Obj.syncState = 1) ∧
  (∀ s : State, s.get Obj.syncState = 2 → s.time.outside + 1 = 4 → (s.judge false).get Obj.syncState = 1) ∧
  (∀ s : State, s.get Obj.syncState = 2 → s.time.outside + 1 < 4 → (s.judge false).get Obj.syncState = 2) ∧
  (∀ (s : State) (b : Bool), s.get Obj.syncState = 3 → (s.judge b).get Obj.syncState = if b then 2 else 1) ∧
  (∀ s : State, s.get Obj.syncState = 2 → s.sourceLost.get Obj.syncState = 3) ∧
  (∀ s : State, s.get Obj.syncState = 1 → s.sourceLost.get Obj.syncState = 0) ∧
  (∀ s : State, s.get Obj.syncState = 3 →
    20 * 10 ^ 9 < s.time.lossOffset * 10 ^ 9 + (s.gtc - s.time.lossTick) * s.get Obj.holdoverDriftPpb →
    ∃ t : State, exec .holdoverExpiry s = .next t ∧ t.get Obj.syncState = 0 ∧ t.gtc = s.gtc) ∧
  (∀ (s : State) (v : Nat), Accepts s Obj.syncSource v → ∃ t : State, exec (.syncSourceWrite v) s = .next t ∧
    t.get Obj.syncState = 0 ∧ t.get Obj.syncSource = v ∧ t.time.freq = 0 ∧ t.time.corr = 0 ∧ t.gtc = s.gtc) ∧
  (∀ s : State, s.get Obj.syncSource = 2 → s.time.seen = true →
    exec .refInLockLoss s = .next ({ s with time := { s.time with refLocked := false } }.sourceLost)) ∧
  (∀ s : State, s.get Obj.syncSource = 2 → s.time.seen = true → 10 ^ 9 + 1000 < s.gtc - s.time.lastSeen →
    ∃ t : State, exec .sourceLost s = .next t ∧ t = s.sourceLost ∧ t.gtc = s.gtc ∧ t.time.freq = s.time.freq)

/-- A message that PTP takes from the chosen transmitter is measured: a one-step Sync at its arrival t2 = GTC with the offset (t2 -
t1) - (PtpMeanPathDelay + PtpAsymmetryTicks), a two-step Sync waiting for the Follow_Up of its sequence number, which measures
the same with the Sync's t2. DELAY_REQ_SEND sends a request and keeps its sequence number and t3. The Delay_Resp that answers it
makes PtpMeanPathDelay ((t2 - t1) + (t4 - t3)) / 2. An Announce enters its transmitter among those heard, the best of which is
chosen. A PPS_IN edge in time and in lock measures the GTC against its second. ISLAND_REALIGN ends the wait of a step. -/
def Obligations.PtpMessagesComplete : Prop :=
  (∀ (s : State) (m : PtpMessage), s.ptpTakes m.port m.transport m.domain = true → s.ptpChosen m.sender = true →
    let d := (s.gtc : Int) - s.sourceTicks (m.origin + m.correction)
    exec (.ptpSync m false) s = .next
      ({ s with time := { s.time with lastSeen := s.gtc, seen := true, t2mt1 := d, twoStep := none } }.measure
        (d - (s.get Obj.ptpMeanPathDelay + s.geti 32 Obj.ptpAsymmetryTicks))) ∧
    exec (.ptpSync m true) s = .next
      { s with time := { s.time with lastSeen := s.gtc, seen := true, twoStep := some { m := m, t2 := s.gtc } } }) ∧
  (∀ (s : State) (m : PtpMessage) (p : PtpPending), s.time.twoStep = some p → p.m.sender = m.sender → p.m.seq = m.seq →
    s.ptpTakes m.port m.transport m.domain = true → s.ptpChosen m.sender = true →
    let d := (p.t2 : Int) - s.sourceTicks (m.origin + m.correction + p.m.correction)
    exec (.ptpFollowUp m) s = .next
      ({ s with time := { s.time with t2mt1 := d, twoStep := none } }.measure
        (d - (s.get Obj.ptpMeanPathDelay + s.geti 32 Obj.ptpAsymmetryTicks)))) ∧
  (∀ s : State, s.get Obj.syncSource = 1 → 2 ≤ s.get (inst Obj.portState (s.get Obj.ptpPort)) → s.time.masters ≠ [] →
    ∃ t : State, exec .delayReqSend s = .next t ∧ t.time.t3 = some s.gtc ∧ t.time.delaySeq = (s.time.delaySeq + 1) % 65536 ∧
      t.sent = s.sent ++ [.frame (s.get Obj.ptpPort) 5 (leBytes 2 t.time.delaySeq)] ∧ t.dict = s.dict) ∧
  (∀ (s : State) (m : PtpDelayResp) (t3 : Nat), s.time.t3 = some t3 → m.forUs = true → m.seq = s.time.delaySeq →
    s.ptpTakes m.port m.transport m.domain = true → s.ptpChosen m.sender = true →
    let mean := Int.tdiv (s.time.t2mt1 + (s.sourceTicks (m.receipt - m.correction) - t3)) 2
    0 ≤ mean → mean < 2 ^ 32 →
    exec (.ptpDelayResp m) s = .next ({ s with time := { s.time with t3 := none } }.set Obj.ptpMeanPathDelay mean.toNat)) ∧
  (∀ (s : State) (d : PtpDataSet), s.ptpTakes d.port d.transport d.domain = true →
    ∃ t : State, exec (.ptpAnnounce d) s = .next t ∧ d ∈ t.time.masters ∧
      ∀ b, bestMaster t.time.masters = some b → t.get Obj.ptpParentIdentity = b.sender) ∧
  (∀ (s : State) (v : Nat), s.get Obj.syncSource = 2 → s.time.seen = true → s.time.ppsPending = none → s.time.ppsSecond = some v →
    10 ^ 9 - 1000 ≤ s.gtc - s.time.lastSeen → s.gtc - s.time.lastSeen ≤ 10 ^ 9 + 1000 →
    ∃ t : State, exec (.ppsInEdge true) s = .next { t with time := { t.time with lastSeen := t.gtc, seen := true } } ∧
      t = { s with time := { s.time with refLocked := true, ppsSecond := some (v + 1) } }.measure
        ((s.gtc : Int) - s.sourceTicks (((v + 1 : Nat) : Int) * 10 ^ 9))) ∧
  (∀ s : State, exec .islandRealign s = .next { s with time := { s.time with awaitRealign := false } })

/-- A word of an intra-tile crossing that arrives past its release tick 4 * ceil((t + 8) / 4) counts one in ReleaseLateCount, marks
the items it held and raises the release-violation fault with the ticks to the next multiple of 4. A resent Viaduct flit counts
one retry and the ticks from its release tick to the first multiple of 8 at or after its arrival, nothing where it comes in
time. A failing lane of a link with a spare left takes the spare and raises 0x7011 with the spares then left; with none left it
raises 0x7012 and class NODE. -/
def Obligations.LateWordsCounted : Prop :=
  (∀ (s : State) (tile crossing entered : Nat) (held : List Nat), s.get Obj.releaseQuantumTile = 4 →
    4 * ceilDiv (entered + 8) 4 < s.gtc →
    ∃ t : State, t.get Obj.releaseLateCount = satAdd counterMax (s.get Obj.releaseLateCount) 1 ∧ t.faults = s.faults ∧ t.gtc = s.gtc ∧
      exec (.crossingWordLate tile crossing entered held) s = .next ((((t.event tile 0x007 1 (some crossing)).markPerturb held 7)).raiseFault
        { cls := 3, tile := tile, reason := 0x7010, unit := crossing, detail0 := crossing,
          detail1 := 4 * ceilDiv s.gtc 4 - 4 * ceilDiv (entered + 8) 4 })) ∧
  (∀ (s : State) (tile link entered : Nat) (held : List Nat), s.get Obj.releaseQuantumViaduct = 8 →
    s.gtc ≤ 8 * ceilDiv (entered + 32) 8 →
    ∃ t : State, t.get Obj.viaductRetryCount = satAdd counterMax (s.get Obj.viaductRetryCount) 1 ∧
      t.get Obj.viaductRetryTicks = satAdd counterMax (s.get Obj.viaductRetryTicks) 0 ∧
      exec (.viaductFlitCrcError tile link entered held) s = .next ((t.event tile 0x004 1 (some link)).event tile 0x005 0 (some link))) ∧
  (∀ (s : State) (tile link lane : Nat),
    let used := (findKey (tile * 65536 + link) s.lanesUsed).getD 0
    let spares := Config.viaductSpares tile link
    exec (.viaductLaneFailure tile link lane) s = .next (State.flow (
      if spares ≤ used then
        (s.raiseFault { cls := 4, tile := tile, reason := 0x7012, unit := link, action := 3, detail0 := link }).nodeFault 2 link
      else
        ({ s with lanesUsed := putKey (tile * 65536 + link) (used + 1) s.lanesUsed }.raiseFault
          { cls := 4, tile := tile, reason := 0x7011, unit := link, action := 2, detail0 := link,
            detail1 := spares - used - 1 }).journalRepair (elementEntry 9 lane))))

/-- For an item that reads its record locally and whose copy is open, RECORD_READ_COMPLETE without a media failure checks the
RECORD_BYTES at RECORD_OFFSET and takes the record; a media failure, like a peer read that fails or exceeds
PeerFetchTimeoutTicks, tries the next copy; a peer's bytes are taken as a local record is. SHARD_OPEN_COMPLETE of a Folien copy
whose bytes are at hand indexes it, counts it and lets its waiting items go on, or records the shard fault it met;
TAR_SCAN_COMPLETE counts the scan and the members it met. ITEM_ISSUE with room evaluates the positions in ascending order. What
follows any change (flow) then runs. -/
def Obligations.RecordReadsComplete : Prop :=
  (∀ (s : State) (e : Nat) (it : Item) (o : ShardOpen) (sh : ShardRec) (b : Bytes) (x : IndexEntry), s.item e = some it →
    it.reading = true → (s.mediaCode e).2.readingFrom it myUid = some (o, sh) → (s.mediaCode e).1 = 0 →
    (s.mediaCode e).2.sealedObject sh.objectId = some b → o.entryAt (it.sample - sh.first) = .ok x →
    exec (.recordReadComplete e) s =
      .next ((s.mediaCode e).2.takeRecord it o sh.first sh.format (slice x.offset x.recordBytes b)).flow) ∧
  (∀ (s : State) (e : Nat) (it : Item) (o : ShardOpen × ShardRec), s.item e = some it → it.reading = true →
    (s.mediaCode e).2.readingFrom it myUid = some o → (s.mediaCode e).1 ≠ 0 →
    exec (.recordReadComplete e) s = .next ((s.mediaCode e).2.nextCopy it (s.mediaCode e).1).flow) ∧
  (∀ (s : State) (e : Nat) (it : Item) (o : ShardOpen) (sh : ShardRec) (p : Nat × Nat) (r : Bytes), s.item e = some it →
    it.peerRead = some p → s.readingFrom it p.1 = some (o, sh) →
    exec (.peerRecordReadComplete e (some r)) s = .next (s.takeRecord it o sh.first sh.format r).flow ∧
    exec (.peerRecordReadComplete e none) s = .next (s.nextCopy it 0).flow) ∧
  (∀ (s : State) (e : Nat) (it : Item) (p : Nat × Nat), s.item e = some it → it.peerRead = some p →
    exec (.peerFetchTimeout e) s =
      .next (State.flow (if p.2 + s.get Obj.peerFetchTimeoutTicks < s.gtc then s.nextCopy it 0 else s))) ∧
  (∀ (s : State) (slot shard node : Nat) (r : Option Bytes) (o : ShardOpen) (sh : ShardRec) (b : Bytes),
    s.opening slot shard node = some (o, sh) → sh.format = 0 → s.copyBytes node sh.objectId r = some b →
    exec (.shardOpenComplete slot shard node 0 r) s = .next (State.flow (
      match openFolien (s.job slot) shard sh (s.get Obj.maxRecordBytes) b with
      | .error code => (eachItem o.waiters (fun t it => t.nextCopy it code) (s.shardFault slot o code)).wakeOpens
      | .ok (l, tagged) => (eachItem o.waiters (fun t it => tryCopies it.copies it t)
          ((s.putShard slot { o with opening := false, entries := l, tagged := tagged, endAt := sh.count, waiters := [] }).bump
            (inst Obj.shardsOpened slot))).wakeOpens))) ∧
  (∀ (s : State) (slot shard node : Nat) (r : Option Bytes) (o : ShardOpen) (sh : ShardRec) (b : Bytes),
    s.opening slot shard node = some (o, sh) → sh.format = 1 → s.copyBytes node sh.objectId r = some b →
    let f := scanTar sh.count (s.get Obj.maxRecordBytes) b
    ∃ t : State, t.get Obj.tarScans = satAdd counterMax (s.get Obj.tarScans) 1 ∧
      t.get Obj.tarMembersExcess = satAdd counterMax (s.get Obj.tarMembersExcess) f.excess ∧
      t.get Obj.tarMembersSkipped = satAdd counterMax (s.get Obj.tarMembersSkipped) f.skipped ∧
      exec (.tarScanComplete slot shard node 0 r) s = .next (State.flow
        (eachItem o.waiters (fun t it => tryCopies it.copies it t) (((t.putShard slot
          { o with opening := false, entries := f.entries, endAt := f.entries.length, waiters := []
                   endCode := if f.code = 0 then 0x1044 else f.code }).bump (inst Obj.shardsOpened slot)).heapOrAbort slot
            .tarIndices (32 * f.entries.length))).wakeOpens)) ∧
  (∀ (s : State) (slot : Nat), s.mayIssue slot = true →
    exec (.itemIssue slot) s = .next (issueScan (((s.job slot).issued + 1) * (s.job slot).epochCount + 1) slot s).flow)

/-- A Zstandard engine that ends a frame gives the bytes it decompressed as the item's output, unframed, and counts them, or the
item fails with the code of the check it missed; OUTPUT_LIMIT and MAX_RATIO are the stage's, or where 0 or absent MaxRecordBytes
and DefaultMaxRatio. A Dealer that ends, the slow lane, which counts its items and ticks besides, and a decoder past its work
limit give the output or the code of the decode, and an output raises LongestDecodeTicks of the slot to at least the ticks that
the attempts took. On a Dealer past its budget while its slot holds the class, with a slow lane, the item is escalated: it
leaves its engine for the slow lane's queue with FLAGS bit 1. What follows any change (flow) then runs. -/
def Obligations.DecodersComplete : Prop :=
  (∀ (s : State) (e : Nat) (it : Item), s.item e = some it → it.runsOn [4] = true →
    let t := (s.attemptDone it).engineEvent it 0x105 it.data.length
    exec (.decompressComplete e) s = .next (State.flow (
      match decompressFrame it.framing (if it.uncompressed = 0 then none else some it.uncompressed)
        (if it.stage ≠ 255 ∧ (s.job it.slot).outputLimit ≠ 0 then (s.job it.slot).outputLimit else s.get Obj.maxRecordBytes)
        (if it.stage ≠ 255 ∧ (s.job it.slot).maxRatio ≠ 0 then (s.job it.slot).maxRatio else s.get Obj.defaultMaxRatio) it.data with
      | .error code => (t.countLimit code).failItem it code
      | .ok out => ((t.count Obj.bytesDecompressed out.length).engineEvent it 0x106 out.length).output
          { it with framing := 0, uncompressed := out.length } out ((s.job it.slot).requesterOf it.stage)))) ∧
  (∀ (s : State) (e : Nat) (it : Item), s.item e = some it → s.atDecode it = true →
    (it.runsOn [1, 2] = true → exec (.decodeComplete e) s = .next (s.decodeDone it).flow) ∧
    (it.runsOn [8] = true → exec (.slowLaneDecodeComplete e) s = .next (State.flow (State.decodeDone
      (((s.bump Obj.slowLaneItems).bump (inst Obj.slotSlowLaneItems it.slot)).count Obj.slowLaneBusyTicks (s.elapsed it)) it))) ∧
    (it.runsOn [1, 2, 8] = true →
      decodePayload (s.decodeSettings (s.job it.slot)) it.kind it.sample it.data = .error 0x2051 →
      exec (.workLimitExceeded e) s = .next (s.decodeDone it).flow)) ∧
  (∀ (s : State) (it : Item) (code : Nat),
    decodePayload ((s.attemptDone it).decodeSettings (s.job it.slot)) it.kind it.sample it.data = .error code →
    s.decodeDone it = ((s.attemptDone it).countLimit code).failItem it code) ∧
  (∀ (s : State) (it : Item) (d : Decoded),
    decodePayload ((s.attemptDone it).decodeSettings (s.job it.slot)) it.kind it.sample it.data = .ok d →
    let u := s.attemptDone it
    let k := inst Obj.longestDecodeTicks it.slot
    let v := u.set k (max (u.get k) (it.measured + u.elapsed it))
    let w := if d.pixels = 0 then v else v.engineEvent it 0x102 d.pixels
    s.decodeDone it = State.output (if it.kind = 0x21 ∨ it.kind = 0x22 ∨ it.kind = 0x23 then w.bump Obj.utf16Conversions else w)
      { it with measured := if it.slow then it.measured else u.elapsed it } d.bytes ((s.job it.slot).requesterOf it.stage)) ∧
  (∀ (s : State) (e : Nat) (it : Item), s.item e = some it → it.runsOn [1, 2] = true → s.atDecode it = true →
    s.holdsFor 1 it.slot = true → s.budget it ≤ s.elapsed it → 0 < s.get Obj.slowLanePiers →
    let x := { it with engine := none, slow := true, flags := it.flags ||| 2, measured := s.elapsed it }
    let t := (((s.engineEvent it 0x100 (s.elapsed it)).bump Obj.escalations).bump (inst Obj.slotEscalations it.slot)).putItem x
    exec (.decodeBudgetExpired e) s = .next (State.flow (if t.enginesOf 8 = [] then t.failItem x 0x7050 else t)))

/-- A warp engine that ends gives its pixels as the item's output and counts pixels, vertices, edge taps, halvings and a crop that
fell back; a signal Dealer gives the frames and counts them; a code ends the item. An input that fails its MAGIC or CRC check is
counted and recorded with class and reason 0x7003 and the attempt is made again the first time, and the second time the item
ends with 0x3012. A tokenizer engine that ends gives the tokenized sample; a TOKEN_COUNT claimed that no stage between may have
made untrue and that the text does not meet ends the item with 0x1028. What follows any change (flow) then runs. -/
def Obligations.TransformAndTokenizeComplete : Prop :=
  (∀ (s : State) (e : Nat) (it : Item) (st : StageRec), s.item e = some it → s.stageRec it = some st → it.runsOn [2, 3] = true →
    st.kind = 8 → it.cls = 0 → exec (.transformComplete e 0) s = .next (State.flow (
      match warp (s.job it.slot) (s.get Obj.maxDecodedBytes) it.stage it.epoch it.position ((s.job it.slot).layoutOf 0) st.param
        it.data with
      | .error code => (s.attemptDone it).failItem { it with checks := 0 } code
      | .ok w =>
        let t := (((((s.attemptDone it).count Obj.warpPixelsOut w.pixels).count Obj.meshVerticesComputed w.vertices).count
          Obj.edgeTaps w.edge).engineEvent it 0x103 w.pixels)
        ((if w.fallback then t.bump (inst Obj.cropFallbacks it.slot) else t).count (inst Obj.autoReduceLevels it.slot) w.auto).output
          { it with checks := 0 } w.bytes st.requester))) ∧
  (∀ (s : State) (e : Nat) (it : Item) (st : StageRec), s.item e = some it → s.stageRec it = some st → it.runsOn [2, 3] = true →
    st.kind = 8 → it.cls ≠ 0 → exec (.transformComplete e 0) s = .next (State.flow (
      match transformSignal (s.job it.slot) (s.get Obj.maxDecodedBytes) it.stage it.epoch it.position st.param it.data with
      | .error code => (s.attemptDone it).failItem { it with checks := 0 } code
      | .ok o => (((s.attemptDone it).count Obj.signalFramesOut o.frames).count Obj.melFramesOut o.mel).output
          { it with checks := 0, valid := o.valid } o.bytes st.requester))) ∧
  (∀ (s : State) (e check : Nat) (it : Item) (st : StageRec), s.item e = some it → s.stageRec it = some st →
    it.runsOn [2, 3] = true → st.kind = 8 → check ≠ 0 → 
      let f : Fault64 :=
        { cls := 2, reason := 0x7003, tile := (it.engine.map fun e => 1 + e.2 / 64).getD 0xFF, unit := (it.engine.map Prod.snd).getD 0
          action := if it.checks = 0 then 1 else 4, slot := it.slot, requester := (s.job it.slot).requesterOf it.stage, ref := it.ref
          detail0 := (it.chain.map Chain.name).getD 0, detail1 := check }
      exec (.transformComplete e check) s = .next (State.flow (
        let t := (s.bump Obj.transformInputErrors).raiseFault f
        if it.checks = 0 then t.retryItem { it with checks := 1 } true false
        else t.failItem { it with faultSeq := t.lastFaultSeq } 0x3012))) ∧
  (∀ (s : State) (e code : Nat) (it : Item), s.item e = some it → it.runsOn [5] = true →
    (s.attemptDone it).tokenizeText (s.job it.slot) it.sample ((s.job it.slot).textOf it.data) = .error code →
    exec (.tokenizeComplete e) s = .next ((s.attemptDone it).failItem it code).flow) ∧
  (∀ (s : State) (e : Nat) (it : Item) (o : TokenOut), s.item e = some it → it.runsOn [5] = true →
    (s.attemptDone it).tokenizeText (s.job it.slot) it.sample ((s.job it.slot).textOf it.data) = .ok o →
    let u := ((((s.attemptDone it).engineEvent it 0x104 o.cleaned).count Obj.textBytesTokenized o.cleaned).count
      Obj.illFormedSubparts o.subs).count (inst Obj.slotIllFormedSubparts it.slot) o.subs
    let t := u.annotate it.slot it.sample fun (a : Annotation) => { a with tokens := o.tokens.length }
    let v := (((t.bump Obj.textItemsTokenized).bump (inst Obj.slotTextItems it.slot)).count Obj.tokensProduced o.tokens.length).count
      (inst Obj.slotTokens it.slot) o.tokens.length
    let w := if o.cut then (v.bump Obj.truncatedItems).bump (inst Obj.slotTruncatedItems it.slot) else v
    exec (.tokenizeComplete e) s = .next (State.flow (
      if it.claim ≠ 0 ∧ it.claim ≠ o.tokens.length ∧ ¬ (s.job it.slot).textMayChange then t.failItem it 0x1028
      else w.output it o.bytes ((s.job it.slot).requesterOf it.stage))))

/-- A READY whose fields are legal for a position that waits for it here is kept as the sender's only offer of that sample; a READY,
PREPARE or RELEASE with an illegal field, like a PREPARE of a Talon position outside the corpus, changes nothing but
PeerMessagesIgnored. A PREPARE that names a Talon position prepares that sample under the position's SampleRef for the asker. A
RELEASE takes effect at the owner. A prepared sample that was read whole and with its DATA_CRC is placed and released; a
mismatch is counted and read again twice, then prepared again, and at the fourth recorded with reason 0x7003 and the position
needs a substitute. -/
def Obligations.PeerMessagesComplete : Prop :=
  (∀ (s : State) (uid : Nat) (b : Bytes), s.itemMessageOk 1 b = true → s.positionAhead (refSlot (field b 0 8)) (refEpoch (field b 0 8))
      (refPosition (field b 0 8)) = true → s.fill (refSlot (field b 0 8)) (refEpoch (field b 0 8)) (refPosition (field b 0 8)) = none →
    let o : Offer := { uid := uid, ref := field b 0 8, flags := byteAt b 9, status := field b 0x0A 2, key := field b 0x0C 4
                       addr := field b 0x10 8, length := field b 0x18 4, crc := field b 0x1C 4 }
    exec (.peerReady uid b) s = .next (State.flow { s with offers := (s.offers.filter fun x => !(x.ref == o.ref && x.uid == uid)) ++ [o] })) ∧
  (∀ (s : State) (uid : Nat) (b : Bytes), s.itemMessageOk 2 b = true → field b 0x10 8 < (s.job (refSlot (field b 0 8))).n →
    field b 0x10 8 ≠ 2 ^ 64 - 1 → exec (.peerPrepare uid b) s = .next (s.prepare (refSlot (field b 0 8)) (refEpoch (field b 0 8))
      (refPosition (field b 0 8)) (some (field b 0x10 8, field b 0x18 4)) uid).flow) ∧
  (∀ (s : State) (uid : Nat) (b : Bytes), s.itemMessageOk 3 b = true →
    exec (.peerRelease uid b) s = .next (s.released' uid (field b 0 8)).flow) ∧
  (∀ (s : State) (uid : Nat) (b : Bytes),
    (s.itemMessageOk 1 b = false → exec (.peerReady uid b) s = .next (s.bump Obj.peerMessagesIgnored).flow) ∧
    (s.itemMessageOk 2 b = false → exec (.peerPrepare uid b) s = .next (s.bump Obj.peerMessagesIgnored).flow) ∧
    (s.itemMessageOk 3 b = false → exec (.peerRelease uid b) s = .next (s.bump Obj.peerMessagesIgnored).flow)) ∧
  (∀ (s : State) (uid ref valid : Nat) (data : Bytes) (f : Fill) (o : Offer),
    s.fill (refSlot ref) (refEpoch ref) (refPosition ref) = some f → f.reading = some o → o.uid = uid → o.ref = ref →
    exec (.preparedReadComplete uid ref data valid) s = .next (State.flow (
      let t := s.bump Obj.preparedCrcErrors
      let g := { f with crcErrors := f.crcErrors + 1 }
      if data.length = o.length ∧ crc32c data = o.crc then (s.place f data valid).sendRelease uid ref
      else if f.crcErrors < 2 then (t.putFill g).peerRead o.uid o.key o.addr o.length
      else if f.crcErrors = 2 then (t.putFill { g with reading := none }).sendPrepare uid ref (if f.st = 3 then f.talon else none)
      else
        let u := t.raiseFault { cls := 2, reason := 0x7003, action := 4, slot := f.slot, ref := ref, detail1 := 2 }
        let h := { g with faultSeq := u.lastFaultSeq }
        if f.st = 3 then (u.sendRelease uid ref).tryFailed h true else (u.sendRelease uid ref).needFill h 0x8805 false)))

/-- For a census that a slot which runs holds: an OFFER of the same build replaces the sender's contribution and reads it, and one
of an older build or for a FAILED census changes nothing. A contribution read whole with its digest joins the build, and the
build is merged when every member's is there; one that does not check restarts the build. A build that still lacks a
contribution CensusTimeoutTicks after its start restarts. A restart is counted and builds anew; one that would raise the count
to 3 instead, uncounted, ends the census FAILED and raises a collective abort with cause 0x7821 and reason 0x8804. A REQUEST is
answered at once with FULL while READY and remembered while building. The first FULL at a joining node is read, and every FULL
remembered. A message with an illegal field changes nothing but PeerMessagesIgnored. -/
def Obligations.CensusMessagesComplete : Prop :=
  (∀ (s : State) (uid : Nat) (b : Bytes) (slot : Nat) (c : Census), censusLegal 1 b = true → s.namedCensus b = some (slot, c) →
    s.census slot c.epoch = some c →
    (c.state = 1 → c.contributions ≠ [] → field b 8 4 = c.restarts → exec (.censusOfferReceived uid b) s = .next (State.flow
      ((s.putCensus slot { c with contributions := (c.contributions.filter fun y => y.uid != uid) ++ [contributionOf uid b] }).readContribution
        (contributionOf uid b)))) ∧
    (field b 8 4 < c.restarts ∨ c.state = 3 → exec (.censusOfferReceived uid b) s = .next s.flow)) ∧
  (∀ (s : State) (slot epoch uid : Nat) (c : Census) (x : Contribution) (b : Bytes), s.census slot epoch = some c → c.state = 1 → uid ≠ myUid →
    c.contributions.find? (fun x => x.uid == uid && x.text.isNone) = some x →
    exec (.censusContributionReadComplete slot epoch uid none) s = .next (s.readContribution x).flow ∧
    exec (.censusContributionReadComplete slot epoch uid (some b)) s = .next (State.flow (
      match readRecs (s.job slot) x.textRecords x.dirRecords b with
      | some (text, dir) =>
        if digestNat b = x.digest then
          let d := { c with contributions := c.contributions.map fun (y : Contribution) =>
            if y.uid = uid then { y with text := some text, dir := dir } else y }
          (s.putCensus slot d).mergeCensus slot d
        else s.restartCensus slot c 1
      | none => s.restartCensus slot c 1))) ∧
  (∀ (s : State) (slot epoch : Nat) (c : Census), s.census slot epoch = some c → c.state = 1 → c.contributions ≠ [] →
    exec (.censusTimeout slot epoch) s = .next (State.flow (
      if s.censusMissing slot c ≠ [] ∧ c.started + s.get Obj.censusTimeoutTicks ≤ s.gtc then s.restartCensus slot c 1 else s))) ∧
  (∀ (s : State) (slot : Nat) (c : Census), c.restarts < 2 → s.restartCensus slot c 1 =
    (s.countW 32 (inst Obj.censusRestarts slot) 1).buildCensus slot c.epoch (c.restarts + 1) (if c.dirOnly = true then some c.text else none)) ∧
  (∀ (s : State) (slot : Nat) (c : Census), c.restarts = 2 → s.restartCensus slot c 1 =
    ((s.putCensus slot { c with state := 3 }).showCensus slot { c with state := 3 }).raiseAbort slot 0x7821 c.epoch 0xFF noRef 0x8804 0) ∧
  (∀ (s : State) (uid : Nat) (b : Bytes) (slot : Nat) (c : Census), censusLegal 3 b = true → s.namedCensus b = some (slot, c) →
    (c.state = 2 → exec (.censusRequestReceived uid b) s = .next (s.sendFull slot c uid).flow) ∧
    (c.state = 1 → exec (.censusRequestReceived uid b) s =
      .next (s.putCensus slot { c with requests := c.requests.filter (· != uid) ++ [uid] }).flow)) ∧
  (∀ (s : State) (uid : Nat) (b : Bytes) (slot : Nat) (c : Census), censusLegal 2 b = true → s.namedCensus b = some (slot, c) → c.state = 1 →
    c.contributions = [] → exec (.censusFullReceived uid b) s = .next (State.flow (
      let t := s.putCensus slot { c with fulls := c.fulls ++ [contributionOf uid b] }
      if c.fulls = [] then t.readContribution (contributionOf uid b) else t))) ∧
  (∀ (s : State) (slot epoch : Nat) (c : Census) (x : Contribution) (rest : List Contribution) (data : Option Bytes),
    s.census slot epoch = some c → c.state = 1 → c.fulls = x :: rest →
    exec (.censusFullReadComplete slot epoch data) s = .next (State.flow (
      match data.bind fun b => if digestNat b = x.digest ∧ (rest.all fun y => y.digest == x.digest) = true then
          readRecs (s.job slot) x.textRecords x.dirRecords b else none with
      | some (text, dir) => s.finishCensus slot { c with fulls := [] } text dir
      | none => (s.putCensus slot { c with fulls := rest ++ [x] }).readContribution (rest.headD x)))) ∧
  (∀ (s : State) (uid : Nat) (b : Bytes),
    (censusLegal 1 b = false → exec (.censusOfferReceived uid b) s = .next (s.bump Obj.peerMessagesIgnored).flow) ∧
    (censusLegal 3 b = false → exec (.censusRequestReceived uid b) s = .next (s.bump Obj.peerMessagesIgnored).flow) ∧
    (censusLegal 2 b = false → exec (.censusFullReceived uid b) s = .next (s.bump Obj.peerMessagesIgnored).flow))

/-- A PUSH slice written and then acknowledged is done, and with the last slice the batch leaves its Shoe. A credit of an
ESTABLISHED consumer whose fields suit a stream it belongs to and an entry that this node serves adds to its account at most the
slots that are written and not yet freed; every other is an error. A release of a slice shown under PULL is taken the same way.
A consumer that has owed a credit or release for ConsumerStallTicks is counted, reported, and its time starts again. BATCH_START
of an unpacked stream whose Shoe takes it puts the next own batch of its classes' positions in the least free Shoe slot, with
the slot's next generation. A position declared late is counted, released at its owner and needs a substitute. -/
def Obligations.DeliveryStepsComplete : Prop :=
  (∀ (s : State) (slot stream epoch index i : Nat) (b : Batch) (x : SliceState),
    s.batches.find? (fun b => b.slot == slot && b.stream == stream && b.epoch == epoch && b.index == index) = some b →
    b.slices[i]? = some x → x.stage = 1 → s.deliveryOf b = 0 →
    let d := { b with slices := b.slices.set i { x with stage := 2, since := s.gtc } }
    exec (.pushSliceAcknowledged slot stream epoch index i) s = .next (State.flow (
      if (d.slices.all fun y => y.stage == 2) = true then (s.putBatch d).leaveShoe d else s.putBatch d))) ∧
  (∀ (s : State) (slot consumer imm : Nat) (sealedOk : Bool), s.running slot = true →
    ((s.job slot).sealedStream (bits imm 28 4) = false ∨ sealedOk = true) →
    exec (.creditReturn slot consumer imm sealedOk) s = .next (State.flow (
      if bits imm 26 2 ≠ 0 ∨ bits imm 0 16 = 0 ∨ (s.job slot).consumes consumer (bits imm 28 4) = false ∨
          s.assemblerOf slot (bits imm 16 10) ≠ myUid ∨ (s.job slot).assemblers.length ≤ bits imm 16 10 then s.bump Obj.creditErrors
      else
        let c := s.credit slot (bits imm 28 4) (bits imm 16 10) consumer
        let n := min (bits imm 0 16) (c.written - c.freed)
        (if n < bits imm 0 16 then s.bump Obj.creditErrors else s).putCredit
          { c with credits := c.credits + n, freed := c.freed + n, lastReturn := s.gtc }))) ∧
  (∀ (s : State) (slot consumer imm : Nat) (sealedOk : Bool) (b : Batch) (i : Nat) (x : SliceState), s.running slot = true →
    ((s.job slot).sealedStream (bits imm 28 4) = false ∨ sealedOk = true) →
    s.batches.find? (fun b => b.slot == slot && b.stream == bits imm 28 4 && b.ready.isSome && b.index % 2 ^ 28 == bits imm 0 28 &&
      s.deliveryOf b == 1) = some b → b.slices.findIdx? (fun x => x.consumer == consumer) = some i → b.slices[i]? = some x →
    x.stage ≠ 2 → b.opened = true →
    let d := { b with slices := b.slices.set i { x with stage := 2, since := s.gtc } }
    exec (.pullRelease slot consumer imm sealedOk) s = .next (State.flow (
      if (d.slices.all fun y => y.stage == 2) = true then (s.putBatch d).leaveShoe d else s.putBatch d))) ∧
  (∀ (s : State) (slot stream consumer t0 : Nat), s.owing slot stream consumer = some t0 → t0 + s.get Obj.consumerStallTicks ≤ s.gtc →
    s.running slot = true →
    let t := (s.bump Obj.consumerStalls).postShoe 2 slot stream
      (s.batches.filter fun b => b.slot == slot && b.stream == stream && b.ready.isSome).length consumer
    exec (.consumerStall slot stream consumer) s = .next (State.flow { t with
      credits := t.credits.map fun (c : Credit) =>
        if c.slot = slot ∧ c.stream = stream ∧ c.consumer = consumer then { c with lastReturn := t.gtc } else c
      batches := t.batches.map fun (b : Batch) =>
        if b.slot = slot ∧ b.stream = stream then
          { b with slices := b.slices.map fun (x : SliceState) => if x.consumer = consumer then { x with since := t.gtc } else x }
        else b })) ∧
  (∀ (s : State) (slot stream epoch index : Nat) (classes : List Nat) (x : Shoe) (st : StreamRec), s.shoe slot stream = some x →
    (s.job slot).streams[stream]? = some st → s.nextBatchOf x = some (epoch, index) → (s.job slot).packedStream st = false →
    s.jobState slot = 4 → classes.length = ((s.job slot).batchPositions index).length → s.shoeTakes x st = true →
    let places := (List.zip ((s.job slot).batchPositions index) classes).filter fun e => bit st.classMask e.2
    let k := leastFree st.depth ((s.shoeBatches x).map Batch.shoeSlot)
    let gen := (findKey k x.uses).getD 0 + 1
    let fresh := places.filter fun e => (s.fill slot epoch e.1).isNone
    exec (.batchStart slot stream classes) s = .next (State.flow (State.count
      { s with
        fills := s.fills ++ fresh.map fun (e : Nat × Nat) => s.newFill slot epoch e.1 e.2
        batches := s.batches ++ [{ slot := slot, stream := stream, epoch := epoch, index := index, positions := places.map Prod.fst
                                   shoeSlot := k, generation := gen }]
        shoes := modifyWhere (fun (y : Shoe) => y.slot == slot && y.stream == stream)
          (fun (y : Shoe) => { y with epoch := epoch, next := index + 1, uses := putKey k gen y.uses }) s.shoes }
      (inst Obj.replayUnrecorded slot)
      (fresh.filter fun e => decide (s.get (inst Obj.replayGeneration slot) ≠ 0 ∧ (s.job slot).orderMode = 1) &&
        (s.job slot).assemblerAt (s.slot slot).oldForce index != myUid &&
        (s.recorded slot (sampleRef slot epoch e.1)).isNone).length))) ∧
  (∀ (s : State) (slot stream position t0 : Nat) (b : Batch) (f : Fill),
    s.batches.find? (fun b => b.slot == slot && b.stream == stream && b.positions.contains position && s.mayBeLate b) = some b →
    s.fill slot b.epoch position = some f → b.lateSince = some t0 → t0 + s.get Obj.relaxedGraceTicks ≤ s.gtc → f.st = 0 →
    s.logFull slot = false →
    let u := s.bump (inst Obj.lateDeclared slot)
    let owner := u.ownerOf slot f.sample
    let ref := sampleRef slot b.epoch position
    exec (.lateDeclaration slot stream position) s =
      .next (((if owner = myUid then u.released' myUid ref else u.sendRelease owner ref).needFill f 0 true)).flow) ∧
  (∀ s : State, exec .bufferGrant s = .next s.flow)

/-- CacheCommand 1 accepted while no slot that uses the cache is RUNNING or DRAINING leaves in the GDDR7 tier's index exactly the
pinned entries and the flash tier as it was; 2 leaves none in either tier; 3 leaves exactly those of another digest than
CachePurgeDigest, in both tiers; each answers OK. While such a slot is RUNNING or DRAINING each is refused with 0x801A and
nothing else changes. -/
def Obligations.CacheDropsKeepTheRest : Prop :=
  (∀ s : State, Accepts s Obj.cacheCommand 1 → s.cacheBusy = false → ∃ t : State, exec .cacheDropUnpinned s = .next t ∧ t.answer = {} ∧
    t.cache.segments = s.cache.segments ∧
    ∀ e : CacheEntry, e.visible = true → (e ∈ t.cache.entries ↔ e ∈ s.cache.entries ∧ e.pinnedBy ≠ none)) ∧
  (∀ s : State, Accepts s Obj.cacheCommand 2 → s.cacheBusy = false → ∃ t : State, exec .cacheDropAll s = .next t ∧ t.answer = {} ∧
    (∀ g ∈ t.cache.segments, g.entries = []) ∧ ∀ e ∈ t.cache.entries, e.visible = false) ∧
  (∀ s : State, Accepts s Obj.cacheCommand 3 → s.cacheBusy = false → ∃ t : State, exec .cachePurgeDigest s = .next t ∧ t.answer = {} ∧
    (∀ g ∈ t.cache.segments, ∀ e ∈ g.entries, e.digest ≠ s.get Obj.cachePurgeDigest) ∧
    ∀ e : CacheEntry, e.visible = true →
      (e ∈ t.cache.entries ↔ e ∈ s.cache.entries ∧ e.digest ≠ s.get Obj.cachePurgeDigest)) ∧
  (∀ s : State, s.cacheBusy = true →
    (Accepts s Obj.cacheCommand 1 → exec .cacheDropUnpinned s = .next { s with answer := { abort := 0x0015, reason := 0x801A } }) ∧
    (Accepts s Obj.cacheCommand 2 → exec .cacheDropAll s = .next { s with answer := { abort := 0x0015, reason := 0x801A } }) ∧
    (Accepts s Obj.cacheCommand 3 → exec .cachePurgeDigest s = .next { s with answer := { abort := 0x0015, reason := 0x801A } }))

/-- A hit whose entry is still held and whose copied bytes are sound is output with the CACHE stage's requester, and the entry has
one reader less; otherwise the key's entries go from both tiers and the item goes to SOURCE. A flash hit whose stored bytes are
sound is output likewise, and promoted where CachePromote is 1 and the GDDR7 tier has none. A fill that ends inserts its entry,
pinned where the job pins and room for it is left, and counts it, or is skipped where an entry for its key came first. A
compression that ends stores the entry compressed where that saves bytes and raw otherwise, or is held back where the store may
not be written. -/
def Obligations.CacheWorkCompletes : Prop :=
  (∀ (s : State) (n : Nat) (it : Item) (e : CacheEntry) (ok : Bool), s.item n = some it → it.hit = 1 → it.waitOut = none →
    s.cache.entries.find? (fun e => e.hasKey it.sample (s.slotDigest it.slot) && e.readers != 0) = some e →
    exec (.cacheHitCopyComplete n ok) s = .next (State.flow (
      if ok = true ∧ copiedOk it.sample e.data = true then
        (s.endRead it.sample (s.slotDigest it.slot)).output it e.data (s.job it.slot).cacheStage.2
      else (s.endRead it.sample (s.slotDigest it.slot)).corruptEntry it))) ∧
  (∀ (s : State) (n : Nat) (it : Item) (e : FlashEntry), s.item n = some it → it.hit = 2 → it.waitOut = none →
    s.flashEntry it.sample (s.slotDigest it.slot) = some e → e.compressed = false → e.crcOk = true →
    copiedOk it.sample e.stored = true →
    let u := if s.get Obj.cachePromote = 1 ∧ (s.gddrEntry it.sample e.digest).isNone = true then s.promote it e e.stored else s
    exec (.cacheFlashReadComplete n true) s = .next (State.flow (
      if (u.job it.slot).looksUp (descriptorOf e.stored).cls = true then u.output
        { it with cls := (descriptorOf e.stored).cls, kind := (descriptorOf e.stored).kind } e.stored (u.job it.slot).cacheStage.2
      else u.fetch { it with hit := 0 })) ∧
    exec (.cacheFlashReadComplete n false) s = .next (s.corruptEntry it).flow) ∧
  (∀ (s : State) (n : Nat) (f : CacheFill), s.cache.fills[n]? = some f →
    let u : State := { s with cache := { s.cache with fills := s.cache.fills.eraseIdx n } }
    let v : State := ((f.chain.map u.dropChain).getD u).cacheStatus
    exec (.cacheFillComplete n) s = .next (State.flow (
      if (v.gddrEntry f.entry.sample f.entry.digest).isSome = true then v.bump Obj.cacheFillsSkipped
      else
        let w : State := { v with cache := { v.cache with
          entries := v.cache.entries ++ [{ f.entry with pinnedBy := v.pinFor f.slot f.entry.blocks }] } }
        ((w.bump Obj.cacheFills).bump (inst Obj.slotCacheFills f.slot)).cacheStatus))) ∧
  (∀ (s : State) (n : Nat) (e : CacheEntry), s.cache.compressing[n]? = some e →
    let u : State := { s with cache := { s.cache with compressing := s.cache.compressing.eraseIdx n } }
    let out := Config.zstdCompress (u.get Obj.cacheCompressLevel) e.data
    exec (.cacheCompressComplete n) s = .next (State.flow (
      if u.flashWritable = false then u.bump Obj.cacheFlashWritesHeld
      else if out.length + 1 ≤ e.data.length then
        if u.get Obj.cacheSegmentBytes < 64 + out.length ∨ u.get Obj.cacheFlashBytes = 0 then u
        else u.appendEntry { sample := e.sample, digest := e.digest, objectId := e.objectId, compressed := true, stored := out }
      else if u.get Obj.cacheSegmentBytes < 64 + e.data.length ∨ u.get Obj.cacheFlashBytes = 0 then u
        else (u.bump Obj.cacheStoredRaw).appendEntry
          { sample := e.sample, digest := e.digest, objectId := e.objectId, compressed := false, stored := e.data })))

/-- A pass completes over items that stand at one stage of one slot that holds INFERENCE: it is counted, the Trestle's faults of the
pass start again at 0, and each item has its prefill, or its step. A fault of the Trestle during a matrix operator of such
items, while the Trestle works, faults the row or column, records it, perturbs every item of the pass, counts the retry, and at
the third of the pass or with no spare left puts the operator on the Piers. An accepted CurationLogRelease moves the release
point and lets records that wait for room in the log go on; one outside [the present release, CurationLogHead] is refused with
0x0014 and 0x800A. -/
def Obligations.InferencePassesComplete : Prop :=
  (∀ (s : State) (l : List Nat), s.onePass l = true →
    let u : State := { s.bump Obj.passesRun with trestleFaults := 0 }
    exec (.prefillPassComplete l) s = .next (eachItem l State.prefill u).flow ∧
    exec (.stepPassComplete l) s = .next (eachItem l State.stepPass u).flow) ∧
  (∀ (s : State) (l : List Nat) (it : Item) (rest : List Item) (column permanent : Bool) (line : Nat), l.filterMap s.item = it :: rest →
    s.get Obj.trestleState ≠ 1 → s.onePass l = true → line < 264 →
    let kind := if column then 7 else 6
    let f := s.elementFault kind line permanent
    let u := f.2.raiseFault
      { cls := 1, tile := 0, reason := 0x7001, unit := line, action := if f.1 = 0 then 1 else f.1, slot := it.slot
        requester := (f.2.job it.slot).requesterOf it.stage, ref := it.ref, detail0 := elementDetail kind line, detail1 := it.stage }
    let v := (it :: rest).foldl
      (fun (t : State) x => t.putItem { x with perturb := x.perturb ||| 128, faultSeq := u.lastFaultSeq }) u
    let w : State := { (v.bump Obj.trestleRetries).bump Obj.faultRecoveryCount with trestleFaults := v.trestleFaults + 1 }
    exec (.trestleOperatorFault l column line permanent) s = .next (State.flow (
      if v.trestleFaults + 1 = 3 ∨ w.get Obj.trestleState = 1 then w.bump Obj.pierMatrixOperators else w))) ∧
  (∀ (s : State) (slot v : Nat), Accepts s (inst Obj.curationLogRelease slot) v →
    s.get (inst Obj.curationLogRelease slot) ≤ v → v ≤ s.get (inst Obj.curationLogHead slot) →
    exec (.curationLogRelease slot v) s = .next (State.flow (eachItem
      (((s.accept (inst Obj.curationLogRelease slot) v).items.filter fun it => it.slot == slot && it.logWait.isSome).map Item.entry)
      (fun t it => match it.logWait with
        | some (r, text) => t.logResult it r text
        | none => t) (s.accept (inst Obj.curationLogRelease slot) v)))) ∧
  (∀ (s : State) (slot v : Nat), writeAbort s (inst Obj.curationLogRelease slot) v = some (0x0014, 0x800A) →
    exec (.curationLogRelease slot v) s = .next (s.refuse 0x0014 0x800A).flow)

/-- An accepted load of a vocabulary, control set, bundle or kernel package copies TOTAL_LENGTH bytes of its image object, or a
bundle's source object, to the lowest EMPTY entry of its kind, which is BUILDING; with no entry EMPTY it is refused with the
code for want of space, and an image of the same digest that is LOADED stays as it is, repaired. When the build of an entry
ends, its first failed check is shown as the last reason; with none the entry is LOADED and its digest extends measurement M3
under its kind's tag, otherwise the entry is EMPTY again. Images of other entries and kinds stay. -/
def Obligations.ImagesLoad : Prop :=
  (∀ s : State,
    (Accepts s Obj.vocabCommand 1 → exec .vocabLoad s = .next (s.loadImage vocabKind (s.blob Obj.vocabImage))) ∧
    (Accepts s Obj.controlCommand 1 → exec .controlLoad s = .next (s.loadImage controlKind (s.blob Obj.controlImage))) ∧
    (Accepts s Obj.bundleCommand 1 → exec .bundleLoadImage s = .next (s.loadImage bundleKind (s.blob Obj.bundleImage))) ∧
    (Accepts s Obj.kernelCommand 1 → exec .kernelLoad s = .next (s.loadImage kernelKind (s.blob Obj.kernelImage))) ∧
    (∀ b : Bytes, Accepts s Obj.bundleCommand 2 → s.sealedObject (s.get Obj.bundleSourceObject) = some b →
      exec .bundleLoadObject s = .next (s.loadImage bundleKind b)) ∧
    (Accepts s Obj.bundleCommand 2 → s.sealedObject (s.get Obj.bundleSourceObject) = none →
      exec .bundleLoadObject s = .next ((s.set Obj.bundleLastReason 0x4009).refused 0x4009))) ∧
  (∀ (s : State) (c : ImageKind) (written : Bytes), (∀ l ∈ s.images, l.kind = c.num → digestNat l.bytes ≠
      digestNat (written.take (field written 8 c.lengthBytes))) →
    let used := (s.images.filter fun l => l.kind == c.num).map Loaded.entry
    let b := written.take (field written 8 c.lengthBytes)
    (leastFree c.entries used < c.entries → s.loadImage c written =
      { s with images := s.images ++ [({ kind := c.num, entry := leastFree c.entries used, bytes := b } : Loaded)], answer := {} }) ∧
    (leastFree c.entries used = c.entries → s.loadImage c written = (s.set c.lastReason c.space).refused c.space)) ∧
  (∀ (n : Nat) (l : List Nat), leastFree n l ≤ n ∧ (leastFree n l < n → leastFree n l ∉ l) ∧ ∀ m, m < leastFree n l → m ∈ l) ∧
  (∀ (s : State) (e : Nat) (l : Loaded) (c : ImageKind) (i : Instr) (code : Nat),
    s.images.find? (fun x => x.kind == c.num && x.entry == e && x.building) = some l →
    (i = .vocabBuildComplete e ∧ c = vocabKind ∧ code = s.vocabReason l ∨ i = .controlBuildComplete e ∧ c = controlKind ∧ code = s.controlReason l ∨
      i = .bundleLoadComplete e ∧ c = bundleKind ∧ code = s.bundleLoadReason l ∨
      i = .kernelBuildComplete e ∧ c = kernelKind ∧ code = s.kernelReason l) →
    ∃ t : State, exec i s = .next t ∧ t.get c.lastReason = code ∧
      (∀ x : Loaded, ¬ (x.kind = c.num ∧ x.entry = e) → (x ∈ t.images ↔ x ∈ s.images)) ∧
      (code ≠ 0 → ∀ x ∈ t.images, ¬ (x.kind = c.num ∧ x.entry = e)) ∧
      (code = 0 → { l with building := false } ∈ t.images ∧ t.get (Obj.measurement + 3) =
        digestNat (leBytes 32 (s.get (Obj.measurement + 3)) ++ leBytes 1 c.tag ++ digest l.bytes)))

/-- An accepted unload whose select object holds the digest of a LOADED image that no resident slot references, and for a vocabulary
that no loaded control set names, empties its entry, answers OK and shows 0 as the last reason; an unknown digest is refused
with the kind's code for it, and an image in use with the code for that; each code is shown as the last reason too. -/
def Obligations.ImagesUnload : Prop :=
  (∀ s : State,
    (Accepts s Obj.vocabCommand 2 → exec .vocabUnload s = .next (s.unloadImage vocabKind)) ∧
    (Accepts s Obj.controlCommand 2 → exec .controlUnload s = .next (s.unloadImage controlKind)) ∧
    (Accepts s Obj.bundleCommand 3 → exec .bundleUnload s = .next (s.unloadImage bundleKind)) ∧
    (Accepts s Obj.kernelCommand 2 → exec .kernelUnload s = .next (s.unloadImage kernelKind))) ∧
  (∀ (s : State) (c : ImageKind) (l : Loaded), s.loadedImage c.num (s.get c.select) = some l → s.usersOf c.num (s.get c.select) = [] →
    (c.num = 0 → s.controlsOf (s.get c.select) = []) → ∃ t : State, s.unloadImage c = t ∧ t.answer = {} ∧ t.get c.lastReason = 0 ∧
      ∀ x : Loaded, x ∈ t.images ↔ x ∈ s.images ∧ ¬ (x.kind = c.num ∧ x.entry = l.entry)) ∧
  (∀ (s : State) (c : ImageKind), s.loadedImage c.num (s.get c.select) = none →
    s.unloadImage c = (s.set c.lastReason c.unknown).refused c.unknown) ∧
  (∀ (s : State) (c : ImageKind) (l : Loaded), s.loadedImage c.num (s.get c.select) = some l →
    s.usersOf c.num (s.get c.select) ≠ [] ∨ (c.num = 0 ∧ s.controlsOf (s.get c.select) ≠ []) →
    s.unloadImage c = (s.set c.lastReason c.inUse).refused c.inUse)

/-- A free pool Pier takes the earliest waiting item: it starts at the package's entry with its registers and data and the item's
descriptor, alone on that Pier. A call made within the limit, charged 64 instructions, then acts: CHAIN_ALLOC of a length from 1
to MaxDecodedBytes with a handle free asks for the chain's buffers and waits; CHAIN_LENGTH, REF_ADD and REF_DROP of a handle
held give its bytes, a new handle on the same chain, and the handle back; RNG of a legal range writes the draws of the position.
Each answers 0 in a0, and its result in a1. A call on a handle that is not held fails the item with 0x4811. -/
def Obligations.KernelServicesComplete : Prop :=
  (∀ (s : State) (it : Item) (n : Nat) (rest : List Nat), s.nextKernelItem = some it →
    (if s.pierRoles.2.1.length ≤ 1 then s.freePiers else s.freePiers.filter fun n => it.avoid != some (8, n)) = n :: rest →
    s.imageWhole (s.job it.slot) (s.kernelPackage it).1 = true →
    let p := s.kernelPackage it
    let t := (match it.faultAt with
      | some f => s.count Obj.faultRecoveryTicks (s.gtc - f)
      | none => s).putItem { it with engine := some (8, n), engineSince := s.gtc, faultAt := none }
    exec .kernelItemStart s = .next (State.flow { t with kernels := t.kernels ++
      [{ entry := it.entry, pier := n, since := s.gtc, regs := entryRegs p.1 p.2, descriptor := s.itemDescriptor it p.1 p.2
         spad := Memory.write [] spadBase (slice (field p.2 0x20 4) (field p.2 0x24 4) p.2) }] })) ∧
  (∀ (s : State) (e : Nat) (it : Item) (k : KernelRun) (w : KernelStep), CallsFree s e it k w 1 → k.freeHandle.isSome = true →
    0 < regArg w.regs 0 → regArg w.regs 0 ≤ s.get Obj.maxDecodedBytes →
    let t := s.calledBy it k w
    exec (.chainAlloc e w) s = .next ((t.putKernel { k.calledBy w with allocating := some (regArg w.regs 0, t.gtc) }).requestBuffers
      ((t.job it.slot).requesterOf it.stage) (chainBuffers (regArg w.regs 0)) e).flow) ∧
  (∀ (s : State) (e : Nat) (it : Item) (k : KernelRun) (w : KernelStep), CallsFree s e it k w 2 →
    exec (.chainLength e w) s = .next (State.flow (match targetOf it k (regArg w.regs 0) with
      | some x => (s.calledBy it k w).putKernel ((k.calledBy w).answer (some (targetBytes it k x).length))
      | none => (s.calledBy it k w).kernelFail it (k.calledBy w) 0x4811))) ∧
  (∀ (s : State) (e : Nat) (it : Item) (k : KernelRun) (w : KernelStep) (x h : Nat), CallsFree s e it k w 3 →
    targetOf it k (regArg w.regs 0) = some x → k.freeHandle = some h →
    let t := s.calledBy it k w
    exec (.refAdd e w) s = .next (State.flow (
      if ((targetChain it k x).map fun c => c.all.any fun h => (t.pool.find h).any (·.count == 255)).getD false then
        t.kernelFail it (k.calledBy w) 0x4817
      else (((targetChain it k x).map t.addChain).getD t).putKernel
        (KernelRun.answer { k.calledBy w with handles := k.handles ++ [({ num := h, target := x } : KernelHandle)] } (some h))))) ∧
  (∀ (s : State) (e : Nat) (it : Item) (k : KernelRun) (w : KernelStep) (x : KernelHandle), CallsFree s e it k w 4 →
    k.handles.find? (fun x => x.num == regArg w.regs 0) = some x → (k.dmas.any fun d => d.handle == regArg w.regs 0) = false →
    let left := k.handles.filter fun y => y.num != regArg w.regs 0
    exec (.refDrop e w) s = .next (((s.calledBy it k w).dropTarget it (k.calledBy w) x.target).putKernel (KernelRun.answer
      { k.calledBy w with handles := left, chains := k.chains.filter fun c => c.id != x.target || left.any fun y => y.target == x.target }
      none)).flow) ∧
  (∀ (s : State) (e : Nat) (it : Item) (k : KernelRun) (w : KernelStep), CallsFree s e it k w 7 →
    k.meets (regArg w.regs 2) (4 * regArg w.regs 1) = false → 0 < regArg w.regs 1 → regArg w.regs 1 ≤ 4096 →
    regArg w.regs 0 + regArg w.regs 1 ≤ 2 ^ 36 → regArg w.regs 2 % 4 = 0 →
    inSpad (s.kernelPackage it).2 (regArg w.regs 2) (4 * regArg w.regs 1) = true →
    let t := s.calledBy it k w
    exec (.rng e w) s = .next (t.putKernel (KernelRun.answer { k.calledBy w with
      spad := Memory.write (k.calledBy w).spad (regArg w.regs 2) ((List.range (regArg w.regs 1)).flatMap fun i =>
        leBytes 4 (draw (t.job it.slot).seed it.epoch it.position it.stage (regArg w.regs 0 + i))) } none)).flow)

/-- DMA_SUBMIT of a legal descriptor on a handle held, within its data, and for a WRITE on a chain of the kernel's own with one
reference, adds a DMA with its tag; a descriptor out of place or illegal fails the item with 0x4811. A completed DMA that none
before it holds back moves its rows between the scratchpad and its handle's bytes, counts them, leaves the outstanding ones and
lets a wait or an ending that named it take effect. DMA_WAIT on a legal tag returns at once where none of the DMAs it names is
outstanding and waits otherwise. A DMA outstanding for 1,000,000 ticks restarts the item. -/
def Obligations.KernelDmaCompletes : Prop :=
  (∀ (s : State) (e : Nat) (it : Item) (k : KernelRun) (w : KernelStep) (x : Nat), CallsFree s e it k w 5 →
    k.meets (regArg w.regs 0) 32 = false → regArg w.regs 0 % 8 = 0 → inSpad (s.kernelPackage it).2 (regArg w.regs 0) 32 = true →
    let b := Memory.bytes (k.calledBy w).spad (regArg w.regs 0) 32
    let t := s.calledBy it k w
    let d := dmaOf b x t.gtc
    targetOf it k (field b 4 4) = some x → dmaIllegal (k.calledBy w) (s.kernelPackage it).2 b = false →
    (9 ≤ x ∨ d.write = false → d.offset + (d.rows - 1) * d.stride + d.length ≤ (targetBytes it k x).length) →
    (d.write = true → 9 ≤ x ∧ t.targetRefs it (k.calledBy w) x ≤ 1) →
    exec (.dmaSubmit e w) s = .next (t.putKernel (KernelRun.answer { k.calledBy w with dmas := k.dmas ++ [d] } none)).flow) ∧
  (∀ (s : State) (e : Nat) (it : Item) (k : KernelRun) (w : KernelStep), CallsFree s e it k w 6 →
    regArg w.regs 0 ≤ 15 ∨ regArg w.regs 0 = 0xFF → exec (.dmaWait e w) s = .next (State.flow (
      if (k.dmas.any fun d => d.named (regArg w.regs 0)) = true then
        (s.calledBy it k w).putKernel { k.calledBy w with waiting := some (regArg w.regs 0) }
      else (s.calledBy it k w).putKernel ((k.calledBy w).answer none)))) ∧
  (∀ (s : State) (e tag : Nat) (it : Item) (k : KernelRun) (d : KernelDma), s.item e = some it → s.kernel e = some k →
    k.dmas.find? (fun d => d.tag == tag) = some d → ((k.dmas.takeWhile fun d => d.tag != tag).any fun x =>
      x.handle == d.handle || decide (x.spad < d.spad + d.rows * d.length ∧ d.spad < x.spad + x.rows * x.length)) = false →
    let left := k.dmas.filter fun x => x.tag != tag
    let t := s.count Obj.kernelDmaBytes (d.rows * d.length)
    exec (.dmaComplete e tag) s = .next (State.flow (
      if d.write then t.dmaEnded it { k with
        dmas := left, chains := modifyWhere (fun (c : KernelChain) => c.id == d.target)
          (fun c => { c with data := d.intoChain k.spad c.data }) k.chains }
      else t.dmaEnded it { k with dmas := left, spad := d.intoSpad (targetBytes it k d.target) k.spad }))) ∧
  (∀ (s : State) (it : Item) (k : KernelRun),
    (∀ (c : Nat) (l : List Nat), k.ending = some (c, l) → k.dmas = [] → s.dmaEnded it k = s.endKernel it k c l) ∧
    (∀ tag : Nat, k.ending = none → k.waiting = some tag → (k.dmas.any fun d => d.named tag) = false →
      s.dmaEnded it k = s.putKernel (KernelRun.answer { k with waiting := none } none))) ∧
  (∀ (s : State) (e tag : Nat) (it : Item) (k : KernelRun), s.item e = some it → s.kernel e = some k →
    exec (.dmaTimeout e tag) s = .next (State.flow (
      if (k.dmas.any fun d => d.tag == tag && decide (d.since + 1000000 ≤ s.gtc)) = true then s.restartKernel it k else s)))

/-- An ending call with no DMA outstanding takes effect at once, and otherwise when the last is complete. PASS leaves the stage with
the item's input unchanged; FAIL with a code from 0x4C00 to 0x4CFF fails the item with it, and with any other with 0x4811;
REJECT of a number up to 15 by a package that may filter is counted and ends the item with 0x4880 plus the number, and otherwise
fails it with 0x4819; EMIT of a handle that is not held fails it with 0x4811. An ECALL with a number outside 1 to 11 fails the
item with 0x4810, a trap with its code, an instruction past the limit with 0x4820, and a return without an ending with 0x4821; a
failure counts in SlotKernelFailures and its record holds the pc. -/
def Obligations.KernelEndingsComplete : Prop :=
  (∀ (s : State) (e call : Nat) (it : Item) (k : KernelRun) (w : KernelStep) (i : Instr), CallsFree s e it k w call →
    (i = .emit e w ∧ call = 8 ∨ i = .pass e w ∧ call = 9 ∨ i = .fail e w ∧ call = 10 ∨ i = .reject e w ∧ call = 11) →
    exec i s = .next (State.flow (
      if k.dmas = [] then (s.calledBy it k w).endKernel it (k.calledBy w) call ((List.range 4).map (regArg w.regs))
      else (s.calledBy it k w).putKernel { k.calledBy w with ending := some (call, (List.range 4).map (regArg w.regs)) }))) ∧
  (∀ (s : State) (it : Item) (k : KernelRun) (a : Nat) (l : List Nat),
    s.endKernel it k 9 (a :: l) = (k.handles.foldl (fun (t : State) h => t.dropTarget it k h.target) s).leaveKernel it k ∧
    s.endKernel it k 10 (a :: l) = s.kernelFail it k (if 0x4C00 ≤ a ∧ a ≤ 0x4CFF then a else 0x4811) ∧
    s.endKernel it k 11 (a :: l) =
      (if bit (field (s.kernelPackage it).2 0x10 4) 1 = true ∧ a ≤ 15 then
        ((s.bump (inst Obj.slotKernelRejects it.slot)).pierDone it k).failItem it (0x4880 + a)
      else s.kernelFail it k 0x4819) ∧
    (targetOf it k a = none → s.endKernel it k 8 (a :: l) = s.kernelFail it k 0x4811)) ∧
  (∀ (s : State) (e : Nat) (it : Item) (k : KernelRun) (w : KernelStep), CallsFree s e it k w (w.regs.x.getD 17 0) →
    (w.regs.x.getD 17 0 = 0 ∨ 11 < w.regs.x.getD 17 0) →
    exec (.serviceUnknown e w) s = .next ((s.calledBy it k w).kernelFail it (k.calledBy w) 0x4810).flow) ∧
  (∀ (s : State) (e : Nat) (it : Item) (k : KernelRun) (w : KernelStep), RunsFree s e it k w →
    (∀ code : Nat, 0x4812 ≤ code → code ≤ 0x4814 →
      exec (.kernelTrap e w code) s = .next ((s.ranBy it k w).kernelFail it (k.ranBy w) code).flow) ∧
    (k.insns + w.insns = instructionLimit (s.kernelPackage it).1 (s.kernelPackage it).2 →
      exec (.instructionLimit e w) s = .next ((s.ranBy it k w).kernelFail it (k.ranBy w) 0x4820).flow) ∧
    (w.regs.pc = 0xFF0 → exec (.noEnding e w) s = .next ((s.ranBy it k w).kernelFail it (k.ranBy w) 0x4821).flow)) ∧
  (∀ (s : State) (it : Item) (k : KernelRun) (code : Nat), 0x4810 ≤ code → code ≤ 0x4819 →
    s.kernelFail it k code = (((s.bump Obj.kernelTraps).bump (inst Obj.slotKernelFailures it.slot)).pierDone it k).failItem
      { it with faultPc := k.regs.pc } code)

/-- At a channel's refresh tick a channel in service begins a refresh hold, counted; where link replays stand at four times their
limit a due retraining begins with it. A hold that has lasted RefreshHoldTicks ends, and what it delayed is counted under R64. A
pending crossing of the hot schedule takes effect at a multiple of 3,900. A training that succeeds is counted, sets the
channel's last training and temperature and carries out its pending repairs; one that fails is counted towards three, and the
third retires the channel as unreadable. A corrected error counts on its channel and frame and at RowRepairThreshold makes the
frame due for repair; an uncorrectable read counts, has its consumer recover, and makes the frame due for repair, or the channel
RETIRING after more than 16 in 10^10 ticks or with no repair frame left; a link CRC failure is counted as a replay with the
ticks it held; a write of RetireChannel makes a readable channel RETIRING; and a retiring channel whose last frame has moved is
RETIRED, or the memory DEGRADED where frames find no home. -/
def Obligations.ChannelCommandsComplete : Prop :=
  (∀ (s : State) (c : Nat), c < 96 → s.refreshTick c = true → s.channelState c ≠ 3 → s.power.selfRefresh = false →
    (s.channel c).refreshing = none →
    let t := ((s.modChannel c fun x => { x with refreshing := some s.gtc }).bump Obj.gddrRefreshCount).event (memBank c) 0x102 1 (some c)
    exec (.refreshStart c) s = .next
      (if 4 * t.get Obj.retrainErrorLimit ≤ t.linkReplays c ∧ (t.channel c).training = none ∧ t.mayTrain c = true then t.startTraining c
        else t)) ∧
  (∀ (s : State) (c : Nat) (since : Nat), (s.channel c).refreshing = some since → since + s.get Obj.refreshHoldTicks ≤ s.gtc →
    let t := s.modChannel c fun x => { x with refreshing := none }
    exec (.refreshEnd c none []) s = .next t ∧
    ∀ (first : Nat) (held : List Nat), exec (.refreshEnd c (some first) held) s =
      .next (((t.count Obj.gddrRefreshStallTicks (s.gtc - first)).event (memBank c) 0x103 (s.gtc - first) (some c)).markPerturb held 0)) ∧
  (∀ (s : State) (c : Nat) (hot : Bool), (s.channel c).hotPending = some hot → s.gtc % 3900 = 0 →
    exec (.hotScheduleChange c) s = .next ((s.set (inst Obj.channelHot c) (ofBool hot)).modChannel c fun x => { x with hotPending := none })) ∧
  (∀ (s : State) (c since frames : Nat) (lost : List MemoryUse), (s.channel c).training = some since → s.channelState c ≠ 1 →
    let t := s.modChannel c fun x => { x with training := none }
    exec (.retrainComplete c true none [] frames lost) s = .next ((((((t.countW 32 (inst Obj.channelRetrains c) 1).set
      (inst Obj.channelLastTrainTick c) s.gtc).modChannel c fun x =>
        { x with trainTemperature := t.geti 32 (inst Obj.channelTemperature c), trainFails := 0, replays := [] }).repairFrames c)).flow) ∧
    ((t.channel c).trainFails < 2 → exec (.retrainComplete c false none [] frames lost) s =
      .next ((t.modChannel c fun x => { x with trainFails := x.trainFails + 1 }).flow)) ∧
    (2 ≤ (t.channel c).trainFails → exec (.retrainComplete c false none [] frames lost) s =
      .next ((lost.foldl (fun (u : State) d => u.dataLost c 0 d) (((t.findHomes frames).2.retired' c).count Obj.lostFrames frames)).flow))) ∧
  (∀ (s : State) (c frame : Nat), c < 96 →
    let n := (findKey frame (s.channel c).corrected).getD 0 + 1
    let t := ((s.bump Obj.gddrCorrectedErrors).bump (inst Obj.channelCorrected c)).modChannel c fun x =>
      { x with corrected := putKey frame n x.corrected }
    (n < s.get Obj.rowRepairThreshold → exec (.gddrCorrectedError c frame) s = .next t) ∧
    (s.get Obj.rowRepairThreshold ≤ n → exec (.gddrCorrectedError c frame) s = .next (t.repairDue c frame))) ∧
  (∀ (s : State) (c frame : Nat) (u : MemoryUse), c < 96 →
    let recent := ((s.channel c).uncorrectable.filter fun t => s.gtc ≤ t + 10 ^ 10) ++ [s.gtc]
    let t := (((s.bump Obj.gddrUncorrectedErrors).bump (inst Obj.channelUncorrected c)).modChannel c fun x =>
      { x with uncorrectable := recent }).dataLost c frame u
    exec (.gddrUncorrectableRead c frame u) s = .next (State.flow
      (if 16 < recent.length ∨ t.get Obj.rowRepairFramesLeft = 0 then t.retireReadable c else t.repairDue c frame))) ∧
  (∀ (s : State) (c ticks : Nat) (held : List Nat), c < 96 → exec (.gddrLinkCrcFailure c ticks held) s =
    .next ((((((s.bump Obj.gddrLinkReplays).bump Obj.gddrLinkReplayCount).count Obj.gddrLinkReplayTicks ticks).event (memBank c) 0x106 1
      (some c)).markPerturb held 6).modChannel c fun x => { x with replays := (x.replays.filter fun t => s.gtc ≤ t + 10 ^ 9) ++ [s.gtc] })) ∧
  (∀ (s : State) (c : Nat), Accepts s Obj.retireChannel c →
    (s.channelState c < 2 → exec (.retireChannel c) s = .next { s.set (inst Obj.channelState c) 2 with answer := {} }) ∧
    (2 ≤ s.channelState c → exec (.retireChannel c) s = .next { s with answer := {} })) ∧
  (∀ (s : State) (c frames : Nat) (homeless : List Nat), s.channelState c = 2 →
    let found := s.findHomes (min frames 129706)
    (found.1 = 0 → exec (.channelMigrationComplete c frames homeless) s = .next (found.2.retired' c)) ∧
    (found.1 ≠ 0 → exec (.channelMigrationComplete c frames homeless) s = .next
      { found.2.set Obj.memoryState 1 with pool := { found.2.pool with homeless := found.2.pool.homeless ++ homeless.take found.1 } }))

/-- A request for buffers joins the waiting list, marked and counted as waiting when it cannot be granted at once or stands behind
an ungranted one of its requester. A REF_ADD on an allocated buffer raises its count by one, refused and counted at 255; a
REF_DROP lowers it, and at 0 frees the buffer; on a buffer that is not allocated either is a double free, with its record. A
refill that passes its checks pushes the last group of the head node, or the node itself; a check that fails stops granting and
raises the pool fault. The end of a rebuild makes the node stack from every buffer neither allocated nor cached, counts the
rebuild and its ticks of waiting, and granting resumes. An uncorrectable SRAM word is a node fault where firmware held it, else
a record and, for an item in an engine, the retry of its attempt. -/
def Obligations.BufferPoolCommandsComplete : Prop :=
  (∀ (s : State) (r n : Nat), r < 64 → 0 < n →
    let waits := (s.pool.waiting.any fun x => x.requester == r && !x.granted) || !mayGrant s r n
    let t : State := { s with pool := { s.pool with waiting := s.pool.waiting ++
      [({ requester := r, count := n, holder := commandHolder, since := s.gtc, waited := waits } : BufferWait)] } }
    exec (.bufferAllocate r n) s = .next (if waits then t.bump (inst Obj.requesterWaits r) else t).flow) ∧
  (∀ (s : State) (h r : Nat) (e : Option Nat) (x : Held), h < s.get Obj.poolBuffers → r < 64 → s.pool.find h = some x →
    let t := s.bump Obj.refOperations
    (x.count = 255 → exec (.bufferRefAdd h r e) s = .next (t.bump Obj.refSaturations).flow) ∧
    (x.count ≠ 255 → exec (.bufferRefAdd h r e) s = .next (State.flow { t with pool := { t.pool with
      held := modifyWhere (fun y => y.handle == h) (fun y => { y with count := y.count + 1 }) t.pool.held } })) ∧
    (1 < x.count → exec (.bufferRefDrop h r e) s = .next (State.flow { t with pool := { t.pool with
      held := modifyWhere (fun y => y.handle == h) (fun y => { y with count := y.count - 1 }) t.pool.held } })) ∧
    (x.count ≤ 1 → exec (.bufferRefDrop h r e) s = .next (t.freeBuffer x).flow)) ∧
  (∀ (s : State) (h r : Nat) (e : Option Nat), h < s.get Obj.poolBuffers → r < 64 → s.allocated h = false →
    exec (.bufferRefAdd h r e) s = .next (s.doubleFree h r 1 e).flow ∧ exec (.bufferRefDrop h r e) s = .next (s.doubleFree h r 2 e).flow ∧
    s.doubleFree h r 1 none = (((s.bump Obj.doubleFrees).bump (inst Obj.requesterDoubleFrees r)).setAll
      [(Obj.lastDoubleFreeHandle, h), (Obj.lastDoubleFreeRequester, r)]).raiseFault
        { cls := 8, tile := 3, reason := 0x7031, unit := r, requester := r, operation := 1, detail0 := h }) ∧
  (∀ (s : State) (n : FreeNode) (rest : List FreeNode), s.pool.cache.length < 256 → s.pool.rebuilding = false →
    s.pool.expose.nodes = n :: rest →
    let p := s.pool.expose
    exec (.refillComplete true true) s = .next (State.flow (match n.groups.getLast? with
      | some g => State.set { s with pool := { p with nodes := { n with groups := n.groups.dropLast } :: rest, cache := g.reverse ++ p.cache } }
          Obj.prefetchCacheFill (g.length + p.cache.length)
      | none => State.set { s with pool := { p with nodes := rest, cache := n.self :: p.cache } }
          Obj.prefetchCacheFill (p.cache.length + 1))) ∧
    (∀ groupOk : Bool, exec (.refillComplete false groupOk) s = .next (s.poolFault n.self 1).flow) ∧
    (n.groups ≠ [] → exec (.refillComplete true false) s = .next (s.poolFault n.self 2).flow)) ∧
  (∀ s : State, s.pool.rebuilding = true →
    let t := ((s.bump Obj.freeListRebuilds).bump Obj.faultRecoveryCount).count Obj.faultRecoveryTicks
      (if s.pool.waiting = [] then 0 else s.gtc - s.pool.rebuildSince)
    let t := t.markPerturb ((s.pool.waiting.filter fun w => decide (w.holder < 65536)).map BufferWait.holder) 7
    exec .freeListRebuildComplete s = .next (State.flow { t with pool := { s.pool with
      nodes := [], rebuilding := false, rest := gaps (t.get Obj.poolBuffers) 0
        (sortUp (s.pool.cache ++ s.pool.held.map Held.handle ++ s.pool.waiting.flatMap BufferWait.got)) } })) ∧
  (∀ (s : State) (tile address bank : Nat) (damaged : Bool),
    (∀ e : Option Nat, exec (.sramUncorrectable tile address bank e damaged true) s =
      .next ((s.sramRecord tile address bank 5 none).nodeFault 1 0).flow) ∧
    exec (.sramUncorrectable tile address bank none damaged false) s = .next (s.sramRecord tile address bank 0 none).flow ∧
    ∀ (e : Nat) (it : Item), s.item e = some it → it.engine ≠ none → it.waitOut = none → it.prepared = false → s.kernels = [] →
      (s.sramRecord tile address bank (s.retryAction it) (some it)).kernel it.entry = none →
      exec (.sramUncorrectable tile address bank (some e) damaged false) s =
        .next ((s.sramRecord tile address bank (s.retryAction it) (some it)).retryItem it damaged false).flow)

/-- An accepted object command is checked in the order of R341: a store not mounted (0x5001), a reserved identifier (0x5010), a
CREATE of an object there is (0x5011), another command on an object in the wrong state (0x5012), an APPEND length out of range
(0x5015); the first failure is shown and refused and changes nothing else. Past them it waits, counted, while the hold-up gate
is shut, else it acts: CREATE takes the heap and a region of a window and adds the object OPEN and empty; APPEND adds the
window's first bytes at the object's end; SEAL makes it SEALED with its SHAKE digest and closes its window, refused with 0x5016
where an expected digest differs; DELETE unmaps its units and the object is gone; SECURE_DISCARD leaves it without data until
its bands are erased, and closes and marks the bands that may hold it. A command that ends well answers OK, shows 0 and leaves
the store as its action left it. -/
def Obligations.ObjectCommandsComplete : Prop :=
  (∀ (s : State) (n : Nat) (c : Instr), (c, n) ∈ [(Instr.create, 1), (.append, 2), (.sealObject, 3), (.delete, 4), (.secureDiscard, 5)] →
    Accepts s Obj.objectCommand n →
    let id := s.get Obj.objectSelect
    let len := s.get Obj.objectAppendLength
    let known := (s.object id).isSome
    let legal := (s.object id).any fun o => o.st == 1 || (o.st == 2 && decide (4 ≤ n))
    (s.storeReady = false → exec c s = .next ((s.set Obj.objectLastReason 0x5001).refused 0x5001)) ∧
    (s.storeReady = true → reservedObject id = true → exec c s = .next ((s.set Obj.objectLastReason 0x5010).refused 0x5010)) ∧
    (s.storeReady = true → reservedObject id = false → n = 1 → known = true →
      exec c s = .next ((s.set Obj.objectLastReason 0x5011).refused 0x5011)) ∧
    (s.storeReady = true → reservedObject id = false → n ≠ 1 → legal = false →
      exec c s = .next ((s.set Obj.objectLastReason 0x5012).refused 0x5012)) ∧
    (s.storeReady = true → reservedObject id = false → n = 2 → legal = true → (len = 0 ∨ 67108864 < len) →
      exec c s = .next ((s.set Obj.objectLastReason 0x5015).refused 0x5015)) ∧
    (s.storeReady = true → reservedObject id = false → (if n = 1 then known = false else legal = true) →
      (n = 2 → 1 ≤ len ∧ len ≤ 67108864) →
      let bytes := match s.objectWindows.find? fun w => w.object == id with
        | some w => if n = 2 then Memory.bytes w.cells 0 len else []
        | none => []
      let w : StoreWait := { command := n, object := id, bytes := bytes, expected := s.get Obj.objectExpectedDigest, since := s.gtc }
      exec c s = .next (if s.gateOpen = true then runObjectCommand w s
        else State.bump { s with store := { s.store with waiting := s.store.waiting ++ [w] } } Obj.holdUpWaits))) ∧
  (∀ (s t : State) (w : StoreWait) (r : Region), w.command = 1 → s.object w.object = none → s.get Obj.objectsOpen < 16 →
    s.get Obj.storeState ≠ 3 → s.get Obj.objectCount < 67108864 → s.heapTake 64 .objectWindow 67108864 = some t →
    ∀ u : State, t.register .objectWindow none 67108864 w.object 0 [] = some (r, u) →
      runObjectCommand w s = State.objectResult { u with
        objectWindows := u.objectWindows ++ [{ object := w.object }]
        store := { u.store with objects := u.store.objects ++ [{ object := w.object, st := 1 }] } } 0) ∧
  (∀ (s : State) (w : StoreWait) (o : StoreObject), s.object w.object = some o → o.st = 1 →
    (w.command = 2 → s.get Obj.storeState ≠ 3 → o.data.length + w.bytes.length ≤ 2 ^ 44 →
      s.store.mappedUnits + (unitsFor (o.data.length + w.bytes.length) - o.units.length) ≤ s.userUnits →
      runObjectCommand w s = (s.appendObject o w.bytes).objectResult 0) ∧
    (w.command = 3 → w.expected = 0 ∨ w.expected = digestNat o.data →
      runObjectCommand w s = ((((s.putObject { o with digest := digestNat o.data, st := 2 }).closeWindow w.object).freeWindow).objectResult 0)) ∧
    (w.command = 3 → w.expected ≠ 0 → w.expected ≠ digestNat o.data →
      runObjectCommand w s = ((s.putObject { o with digest := digestNat o.data }).set Obj.objectLastReason 0x5016).refused 0x5016)) ∧
  (∀ (s : State) (w : StoreWait) (o : StoreObject), s.object w.object = some o → o.st ≠ 3 →
    (w.command = 4 → let t := ((s.unmapObject o).dropWindow o).forgetObject w.object
      runObjectCommand w s = State.objectResult { t with store := { t.store with
        objects := t.store.objects.filter fun x => x.object != w.object } } 0) ∧
    (w.command = 5 → let t := (((s.unmapObject o).rewriteSegments w.object).dropWindow o).forgetObject w.object
      let t := (t.store.bands.filter fun b => b.st == 0 && b.mayHold w.object).foldl (fun (u : State) b => u.closeBand b) t
      runObjectCommand w s = State.objectResult
      (State.putObject { t with store := { t.store with bands := t.store.bands.map fun b =>
        { b with marked := b.marked || b.mayHold w.object } } } { o with st := 3, data := [], units := [] }) 0)) ∧
  (∀ s : State, (s.objectResult 0).store = s.store ∧ (s.objectResult 0).answer = {} ∧ (s.objectResult 0).get Obj.objectLastReason = 0)

/-- A unit read of a mounted store looks up the map: one in a stripe buffer is served there, another joins its die's queue and, in
classes 0 to 2, may suspend the die's operation. A read that completes leaves the queue, is counted and charged to its reader,
and its code, if any, is kept for the reader. A program that ends well is counted, and the first of a page group keeps the store
time and temperature; one that fails retires its block. An erase that ends well is counted with its block's erase count, and the
band is FREE with its last block; one that fails retires its block, and on a marked band is tried again up to twice more. A
patrol starts at stripe 0, reads one stripe at its pace, ends after the last and at its stop. A failing channel controller
retires every die of its channel. -/
def Obligations.FlashOperationsComplete : Prop :=
  (∀ (s : State) (x cls : Nat) (reader : Option Nat), s.storeReady = true →
    let t := s.mapLookup x
    (t.store.unitAt x = none → exec (.unitReadRequest x cls reader) s = .next t) ∧
    (∀ u : PhysUnit, t.store.unitAt x = some u →
      (t.store.inBuffer u = true → exec (.unitReadRequest x cls reader) s = .next t) ∧
      (t.store.inBuffer u = false →
        let q : QueuedRead := { channel := u.column, die := t.store.dieOf u.band, cls := cls, seq := u.seq, logical := x, reader := reader }
        let v : State := { t with store := { t.store with reads := t.store.reads ++ [q] } }
        exec (.unitReadRequest x cls reader) s = .next (if cls ≤ 2 then v.suspendFor u.column (t.store.dieOf u.band) else v)))) ∧
  (∀ (s : State) (c d : Nat) (bg : Bool) (r : UnitResult) (q : QueuedRead) (u : PhysUnit), s.store.nextRead c d bg = some q →
    let left := dropRead q s.store.reads
    let more := left.any fun x => x.channel == c && x.die == d && decide (x.cls ≤ 2)
    let ops := modifyWhere (fun o => o.channel == c && o.die == d && o.suspended && !more)
      (fun o => { o with suspended := false, since := s.gtc }) s.store.ops
    let t : State := { s with store := { s.store with reads := left, ops := ops } }
    (s.store.units.find? fun u => u.seq == q.seq) = some u → (t.countRead u r false).readCode u r = 0 → q.reader = none →
    exec (.unitReadComplete c d bg r) s = .next (t.countRead u r false)) ∧
  (∀ (s : State) (c d : Nat) (bg : Bool) (r : UnitResult) (q : QueuedRead) (u : PhysUnit) (e code : Nat), s.store.nextRead c d bg = some q →
    let left := dropRead q s.store.reads
    let more := left.any fun x => x.channel == c && x.die == d && decide (x.cls ≤ 2)
    let ops := modifyWhere (fun o => o.channel == c && o.die == d && o.suspended && !more)
      (fun o => { o with suspended := false, since := s.gtc }) s.store.ops
    let t := State.countRead { s with store := { s.store with reads := left, ops := ops } } u r false
    (s.store.units.find? fun u => u.seq == q.seq) = some u → t.readCode u r = code → code = 0x5020 ∨ code = 0x5021 → q.reader = some e →
    0 < r.levels ∨ 3 ≤ r.step ∨ 0 < r.mismatches →
    let v := t.markPerturb [e] 5
    exec (.unitReadComplete c d bg r) s = .next { v with store := { v.store with failed := v.store.failed ++ [(e, code)] } }) ∧
  (∀ (s : State) (c d : Nat) (temp : Int) (o : DieOp) (b : Band), s.store.runningOp c d false = some o →
    let t : State := { s with store := { s.store with ops := dropOp o s.store.ops } }
    let u := ((t.bump Obj.flashPrograms).bump (inst Obj.channelPrograms c)).event 6 0x101 1 (some c)
    (u.store.bands.find? fun b => b.num == o.band) = some b →
    exec (.programComplete c d true temp) s = .next (State.storeStatus (if (b.groups.any fun x => x.1 == o.page / 256) = true then u
        else u.putBand { b with groups := b.groups ++ [(o.page / 256, u.storeTime, temp)] }))) ∧
  (∀ (s : State) (c d : Nat) (temp : Int) (o : DieOp) (b : Band), s.store.runningOp c d false = some o →
    (s.store.bands.find? fun b => b.num == o.band) = some b →
    let t := State.bump { s with store := { s.store with ops := dropOp o s.store.ops } } Obj.programFailures
    let u := (t.retireBlock c d (((b.blocks.find? fun x => x.1 == c).map Prod.snd).getD 0)).judgeDie c d
    let again := u.store.units.filter fun x => x.band == b.num && x.page == o.page && u.store.valid x
    (b.use = 1 → exec (.programComplete c d false temp) s = .next (State.storeStatus (again.foldl
      (fun v x => (v.placeUnit 1 x.kind x.logical x.object).getD v) (u.putBand { b with st := 1, relocate := true })))) ∧
    (b.use ≠ 1 → exec (.programComplete c d false temp) s = .next (State.storeStatus (again.foldl
      (fun v x => (v.placeUnit 0 x.kind x.logical x.object).getD v) u)))) ∧
  (∀ (s : State) (c d : Nat) (o : DieOp) (b : Band), s.store.runningOp c d true = some o →
    (s.store.bands.find? fun b => b.num == o.band) = some b →
    let t : State := { s with store := { s.store with ops := dropOp o s.store.ops } }
    let block := ((b.blocks.find? fun x => x.1 == c).map Prod.snd).getD 0
    let tries := ((b.erasing.find? fun e => e.1 == c).map Prod.snd).getD 0
    let w := { b with erasing := b.erasing.filter fun e => e.1 != c }
    let v := (((t.bump Obj.flashErases).bump (inst Obj.channelErases c)).event 6 0x102 1 (some c)).countErase c d block
    exec (.eraseComplete c d true) s = .next (((if w.erasing.isEmpty = true then v.freeBand w else v.putBand w).judgeDie c d).endDiscards) ∧
    (b.marked = true → tries < 2 →
      let u := ((t.bump Obj.eraseFailures).retireBlock c d block).putBand
        { b with erasing := b.erasing.map fun e => if e.1 = c then (e.1, tries + 1) else e }
      exec (.eraseComplete c d false) s = .next { u with store := { u.store with ops := u.store.ops ++ [{ o with since := u.gtc, suspends := 0 }] } })) ∧
  (∀ s : State, (Accepts s Obj.flashCommand 2 → s.storeReady = true → exec .patrolFull s =
      .next { State.set { s with store := { s.store with patrol := some 0, lastPatrol := s.gtc } } Obj.flashLastReason 0 with answer := {} }) ∧
    (Accepts s Obj.flashCommand 2 → s.storeReady = false → exec .patrolFull s = .next ((s.set Obj.flashLastReason 0x5001).refused 0x5001)) ∧
    (Accepts s Obj.flashCommand 3 → exec .patrolStop s =
      .next { State.set { s with store := { s.store with patrol := none } } Obj.flashLastReason 0 with answer := {} })) ∧
  (∀ (s : State) (n : Nat) (results : List UnitResult), s.store.patrol = some n →
    s.store.lastPatrol + giga / s.get Obj.patrolPagesPerSecond ≤ s.gtc →
    (s.store.stripes[n]? = none → exec (.patrolRead results) s = .next { s with store := { s.store with patrol := none } }) ∧
    ∀ b p : Nat, s.store.stripes[n]? = some (b, p) →
      let t : State := { s with store := { s.store with patrol := some (n + 1), lastPatrol := s.gtc } }
      exec (.patrolRead results) s =
        .next (patrolUnits ((t.store.validOf b).filter fun u => u.page == p) results (t.bump Obj.patrolStripes))) ∧
  (∀ (s : State) (c : Nat), c < 32 → s.get (inst Obj.channelControllerState c) ≠ 1 → exec (.channelControllerFailure c) s =
    .next (s.dieIndices.foldl (fun (t : State) d => t.retireDie c d) (s.set (inst Obj.channelControllerState c) 1)))

/-- FORMAT is refused while slots are not EMPTY or an object is not SEALED, or with the code of its population; else it waits for
the gate or leaves an empty store that keeps the erase counts and bad blocks. A campaign starts, while none runs, on the victim
where free bands run short, else on a marked band, else on one to be relocated; each copy goes to the relocation band where the
map still holds its unit; the reclaimed band is erased once its commits are durable and nothing reads it; wear levelling takes a
band with the lowest count where the spread passes its limit. The journal is durable at 1 MiB or at its age; a checkpoint due
writes the dirty segments; both wait for no one but the gate. FlushEnergyMicroJoules takes the controller's own value. Commands
that waited too long are refused with 0x5018. A mount that succeeds makes the store READY, one without a readable copy FAULT. -/
def Obligations.StoreUpkeepComplete : Prop :=
  (∀ (s : State) (p : Population), Accepts s Obj.flashCommand 1 →
    ((s.allEmpty = false ∨ ∃ o ∈ s.store.objects, o.st ≠ 2) → exec (.format p) s = .next ((s.set Obj.flashLastReason 0x5004).refused 0x5004)) ∧
    (s.allEmpty = true → (∀ o ∈ s.store.objects, o.st = 2) → s.populationReason p ≠ 0 →
      exec (.format p) s = .next ((s.set Obj.flashLastReason (s.populationReason p)).refused (s.populationReason p))) ∧
    (s.allEmpty = true → (∀ o ∈ s.store.objects, o.st = 2) → s.populationReason p = 0 → s.gateOpen = false →
      exec (.format p) s = .next (State.bump { s with store := { s.store with
        waiting := s.store.waiting ++ [({ command := 6, found := some p, since := s.gtc } : StoreWait)] } } Obj.holdUpWaits)) ∧
    (s.allEmpty = true → (∀ o ∈ s.store.objects, o.st = 2) → s.populationReason p = 0 → s.gateOpen = true →
      let g := s.setGeometry p
      let t : State := { g with
        store := { formatted := true, erases := g.store.erases, bad := g.store.bad, retryLevels := g.store.retryLevels,
                   suspend := g.store.suspend, gateTick := g.store.gateTick, savedTime := g.storeTime, savedTick := g.gtc },
        cache := { g.cache with segments := [] } }
      let t := (List.range 32).foldl (fun (u : State) c => u.set (inst Obj.channelDiesInService c) (g.get Obj.diesPerChannel)) t
      let t := t.setAll [(Obj.diesInService, 32 * g.get Obj.diesPerChannel), (Obj.rebuildUnitsLeft, 0), (Obj.storeState, 2)]
      let user := 65536 * (t.dataUnits * (1000 - t.get Obj.overProvisionPermille) / 1000)
      exec (.format p) s = .next { ((((t.set Obj.userBytes user).modStore fun st => { st with userBytes := user }).storeStatus).makeDurable).set
        Obj.flashLastReason 0 with answer := {} })) ∧
  (∀ s : State, s.power.course = .none → s.store.campaign = none → s.storeReady = true →
    (s.get Obj.freeBands < s.get Obj.gcStartFreeBands → exec .gcCampaignStart s = .next (match s.store.victim with
      | some b => s.startCampaign b (if b.marked = true then 3 else 0)
      | none => s)) ∧
    (s.get Obj.gcStartFreeBands ≤ s.get Obj.freeBands → exec .gcCampaignStart s =
      .next (match s.store.bands.find? (fun b => b.st == 1 && b.marked), s.store.bands.find? (fun b => b.st == 1 && b.relocate) with
        | some b, _ => s.startCampaign b 3
        | none, some b => s.startCampaign b 2
        | none, none => s))) ∧
  (∀ (s : State) (b : Band) (purpose : Nat), s.gateOpen = true → (s.startCampaign b purpose).store.campaign =
    some { band := b.num, purpose := purpose, left := (s.store.validOf b.num).map PhysUnit.seq, lastCommit := s.store.journal }) ∧
  (∀ (s : State) (c : Campaign) (q : Nat) (rest : List Nat) (u : PhysUnit), s.store.campaign = some c → c.left = q :: rest →
    (s.store.units.find? fun x => x.seq == q) = some u →
    let t := s.bump Obj.gcUnitsCopied
    let left (v : State) : State := { v with store := { v.store with campaign := some { c with left := rest, lastCommit := v.store.journal } } }
    (s.store.valid u = false → exec .gcCopyComplete s = .next (left t).storeStatus) ∧
    (s.store.valid u = true → let v := (t.placeUnit 1 u.kind u.logical u.object).getD t
      exec .gcCopyComplete s = .next (left (if (v.store.retiredAt (v.store.dieOf u.band)).contains u.column = true then
        v.set Obj.rebuildUnitsLeft (v.get Obj.rebuildUnitsLeft - 1) else v)).storeStatus)) ∧
  (∀ (s : State) (c : Campaign) (b : Band), s.store.campaign = some c → (s.store.bands.find? fun x => x.num == c.band) = some b →
    b.st = 2 → c.left = [] → c.lastCommit ≤ s.store.durable →
    (s.store.reads.any fun q => s.store.units.any fun u => u.seq == q.seq && u.band == b.num) = false →
    let blocks := b.blocks.filter fun x => !s.store.retired.contains (x.1, b.die)
    let t := s.putBand { b with st := 3, erasing := blocks.map fun x => (x.1, 0) }
    let ops := blocks.map fun x => ({ channel := x.1, die := b.die, band := b.num, page := 0, erase := true, since := s.gtc } : DieOp)
    exec .bandErase s = .next (State.bump { t with store := { t.store with ops := t.store.ops ++ ops, campaign := none } }
      (if c.purpose = 1 then Obj.wearLevelBands else if c.purpose = 0 then Obj.gcBandsReclaimed else Obj.relocatedBands))) ∧
  (∀ (s : State) (die : Nat) (b : Band),
    let counts := (List.range 32).flatMap fun c => (List.range (s.get Obj.blocksPerPlane)).map fun k => s.store.eraseCount c die k
    let hi := counts.foldl max 0
    let lo := counts.foldl min hi
    s.power.course = .none → s.store.campaign = none → s.storeReady = true → s.get Obj.wearSpreadLimit < hi - lo →
    (s.store.bands.find? fun x => x.st == 1 && x.die == die && x.blocks.any fun c => s.store.eraseCount c.1 die c.2 == lo) = some b →
    exec (.wearLevelStart die) s = .next (s.startCampaign b 1)) ∧
  (∀ s : State, s.store.durable < s.store.journal →
    (1048576 ≤ (s.store.journal - s.store.durable) * 32 ∨ s.store.journalSince + s.get Obj.journalFlushTicks ≤ s.gtc) →
    exec .journalFlush s = .next { s with
      store := { s.store with durable := s.store.journal }
      durableStore := { s.store with durable := s.store.journal } }) ∧
  (∀ s : State, 4294967296 ≤ s.store.checkpoint * 32 → s.storeReady = true →
    (s.gateOpen = false → exec .checkpoint s = .next (s.bump Obj.holdUpWaits)) ∧
    (s.gateOpen = true → let t := placeUnits 0 1 0 ((s.store.segments.filter fun e => e.2.2).map Prod.fst) s
      exec .checkpoint s = .next (State.makeDurable { t with store := { t.store with
        segments := t.store.segments.map fun e => (e.1, e.2.1, false), checkpoint := 0 } }))) ∧
  (∀ s : State, s.storeReady = true → s.gtc % 100000 = 0 → exec .flushEnergyUpdate s =
    .next ((s.set Obj.flushEnergyMicroJoules (s.free % 2 ^ 32)).useFree)) ∧
  (∀ s : State,
    let late := fun w : StoreWait => decide (w.since + s.get Obj.holdUpWaitLimitTicks ≤ s.gtc)
    exec .holdupWaitTimeout s = .next ((s.store.waiting.filter late).foldl
      (fun (t : State) w => if w.found.isSome = true then (t.set Obj.flashLastReason 0x5018).refused 0x5018
        else (t.set Obj.objectLastReason 0x5018).refused 0x5018)
      { s with store := { s.store with waiting := s.store.waiting.filter fun w => !late w } })) ∧
  (∀ (s : State) (p : Population), s.get Obj.storeState = 1 →
    (s.populationReason p ≠ 0 → ∀ r : Bool, exec (.mountComplete p r) s =
      .next ((s.set Obj.storeState 4).set Obj.flashLastReason (s.populationReason p))) ∧
    (s.populationReason p = 0 → exec (.mountComplete p false) s = .next (s.set Obj.storeState 4)) ∧
    (s.populationReason p = 0 → s.store.bands = [] →
      let t := (s.setGeometry p).modStore fun st => { st with ops := [], reads := [], failed := [], campaign := none, patrol := none }
      let t := (if t.store.unclean = true then t.bump Obj.uncleanMounts else t).modStore fun st => { st with unclean := false, bands := [] }
      let dies (c : Nat) : Nat := (t.dieIndices.filter fun d => !t.store.retired.contains (c, d)).length
      let u := (List.range 32).foldl (fun (v : State) c => v.set (inst Obj.channelDiesInService c) (dies c)) t
      exec (.mountComplete p true) s = .next (u.setAll [(Obj.diesInService, ((List.range 32).map dies).sum), (Obj.storeState, 2),
        (Obj.flashLastReason, 0), (Obj.userBytes, u.store.userBytes)]).eraseExtremes.storeStatus.endDiscards.cacheStatus))

/-- A link that comes up makes its port UP at its rate, one that drops makes it DOWN and takes it out of every choice; each event is
posted and what was bound to a port no longer fit moves on. A request to one of the device's own addresses is answered on its
port where the port is up, and any other is discarded and counted, as is a frame of no accepted kind, a CNP by itself. A pause
with quanta on a class not STORMED is counted and holds it; quanta 0, or its time running out, resumes it with the ticks it held
counted; on a STORMED class a pause starts the recovery period again and nothing else; on another priority the frame is
discarded. Above the XOFF level PFC is sent and repeated every 20,000 ticks, below XON it is lifted. A class held for
PfcWatchdogTicks is STORMED, or in the other direction silenced; the recovery time over, it is not STORMED. -/
def Obligations.PortCommandsComplete : Prop :=
  (∀ (s : State) (p : Nat), s.portRuns p = true → s.portExists p = true → s.get (inst Obj.portState p) < 2 → exec (.portLinkUp p) s =
    .next (((((s.set (inst Obj.portState p) 2).set (inst Obj.portRateGbps p) (s.portRate p)).setPort p {}).rehome).postNetwork 4 p 0)) ∧
  (∀ (s : State) (p : Nat), 2 ≤ s.get (inst Obj.portState p) → exec (.portLinkDown p) s =
    .next ((((s.set (inst Obj.portState p) 1).setPort p {}).rehome).postNetwork 3 p 0)) ∧
  (∀ (s : State) (p target : Nat) (b : Bytes), 2 ≤ s.get (inst Obj.portState p) →
    (target ≠ 0 → s.get Obj.deviceAddressV4 = target → exec (.arpRequest p target b) s = .next { s with sent := s.sent ++ [.frame p 1 b] }) ∧
    (target ≠ 0 → s.ownAddress = target → exec (.neighborSolicitation p target b) s = .next { s with sent := s.sent ++ [.frame p 2 b] }) ∧
    (target ≠ 0 → s.ownAddress = target ∨ s.get Obj.deviceAddressV4 = target →
      exec (.echoRequest p target b) s = .next { s with sent := s.sent ++ [.frame p 3 b] }) ∧
    (s.get Obj.deviceAddressV4 ≠ target → exec (.arpRequest p target b) s = .next (s.bump Obj.framesDiscarded)) ∧
    (s.ownAddress ≠ target → exec (.neighborSolicitation p target b) s = .next (s.bump Obj.framesDiscarded)) ∧
    (s.ownAddress ≠ target → s.get Obj.deviceAddressV4 ≠ target → exec (.echoRequest p target b) s = .next (s.bump Obj.framesDiscarded))) ∧
  (∀ (s : State) (p : Nat), exec (.frameDiscard p false) s = .next ((s.addTotals p 2 0).bump Obj.framesDiscarded) ∧
    exec (.frameDiscard p true) s = .next ((s.addTotals p 2 0).bump Obj.cnpDiscarded)) ∧
  (∀ (s : State) (p priority quanta : Nat) (held : List Nat),
    (s.classOf priority = none → exec (.pfcFrameReceived p priority quanta held) s = .next (s.bump Obj.framesDiscarded)) ∧
    ∀ k : Bool, s.classOf priority = some k →
      let c := (s.portAt p).cls k
      (c.stormedUntil ≠ none → quanta ≠ 0 → exec (.pfcFrameReceived p priority quanta held) s =
        .next (s.modClass p k fun c => { c with stormedUntil := some (s.gtc + s.get Obj.pfcRecoveryTicks) })) ∧
      (c.stormedUntil ≠ none → quanta = 0 → exec (.pfcFrameReceived p priority quanta held) s = .next s) ∧
      (let t := s.bump (inst Obj.portPauseReceived p);
        (c.stormedUntil = none → quanta = 0 → exec (.pfcFrameReceived p priority quanta held) s = .next (t.resume p k)) ∧
        (c.stormedUntil = none → quanta ≠ 0 → c.pausedUntil ≠ none → exec (.pfcFrameReceived p priority quanta held) s =
          .next (t.modClass p k fun c => { c with pausedUntil := some (t.gtc + t.pauseTicks p quanta) })) ∧
        (c.stormedUntil = none → quanta ≠ 0 → c.pausedUntil = none →
          let u := ((t.bump Obj.netPauseCount).event 5 0x106 1 (some p)).markPerturb held 3
          exec (.pfcFrameReceived p priority quanta held) s =
            .next (u.modClass p k fun c => { c with pausedUntil := some (u.gtc + u.pauseTicks p quanta), pausedSince := u.gtc })))) ∧
  (∀ (s : State) (p : Nat) (k : Bool) (t : Nat), ((s.portAt p).cls (!k)).pausedUntil = some t → t ≤ s.gtc →
    let ticks := s.gtc - ((s.portAt p).cls (!k)).pausedSince
    exec (.pfcPauseExpiry p k) s = .next ((((s.count Obj.netPauseTicks ticks).event 5 0x107 ticks (some p)).modClass p (!k) fun c =>
      { c with pausedUntil := none }).rehome)) ∧
  (∀ (s : State) (p fill : Nat) (k : Bool),
    let c := (s.portAt p).cls (!k)
    (fill ≤ (s.pfcLevels p (!k)).1 → (s.pfcLevels p (!k)).2 ≤ fill → exec (.pfcRepeat p k fill) s = .next s) ∧
    ((s.pfcLevels p (!k)).1 < fill → c.silenced = false → (c.xoffSince = none ∨ c.pfcSent + 20000 ≤ s.gtc) →
      exec (.pfcRepeat p k fill) s = .next ((s.modClass p (!k) fun c =>
        { c with xoffSince := some (c.xoffSince.getD s.gtc), pfcSent := s.gtc }).sendPfc p (!k) 0xFFFF)) ∧
    (fill ≤ (s.pfcLevels p (!k)).1 → fill < (s.pfcLevels p (!k)).2 → c.xoffSince ≠ none → c.silenced = false →
      exec (.pfcRepeat p k fill) s =
        .next ((s.modClass p (!k) fun c => { c with xoffSince := none, silenced := false }).sendPfc p (!k) 0))) ∧
  (∀ (s : State) (p : Nat) (k : Bool), ((s.portAt p).cls (!k)).pausedUntil ≠ none →
    ((s.portAt p).cls (!k)).pausedSince + s.get Obj.pfcWatchdogTicks ≤ s.gtc →
    let t := s.loseQueued p (!k)
    let u := t.modClass p (!k) fun c => { c with pausedUntil := none, stormedUntil := some (t.gtc + t.get Obj.pfcRecoveryTicks) }
    let v := ((u.set (inst Obj.portState p) 3).bump Obj.pfcStorms).rehome
    exec (.pauseStormReceived p k) s = .next (v.postNetwork 1 p (u.priorityOf (!k)))) ∧
  (∀ (s : State) (p : Nat) (k : Bool) (t : Nat), ((s.portAt p).cls (!k)).xoffSince = some t → t + s.get Obj.pfcWatchdogTicks ≤ s.gtc →
    ((s.portAt p).cls (!k)).silenced = false →
    let v := (s.modClass p (!k) fun c => { c with silenced := true }).bump Obj.pfcStorms
    exec (.pauseStormSent p k) s = .next (v.postNetwork 2 p (s.priorityOf (!k)))) ∧
  (∀ (s : State) (p : Nat) (k : Bool) (t : Nat), ((s.portAt p).cls (!k)).stormedUntil = some t → t ≤ s.gtc →
    let u := s.modClass p (!k) fun c => { c with stormedUntil := none }
    exec (.stormRecoveryExpiry p k) s = .next (if ((u.portAt p).data.stormedUntil.isSome || (u.portAt p).control.stormedUntil.isSome) = true
      then u else (u.set (inst Obj.portState p) 2).rehome))

/-- An unsealed RC packet of the default partition on an established connection is counted and admitted. An admitted SEND in order
is metered where it carries data, marked, delivered and acknowledged when due; a duplicate is answered with an ACK, and a gap
with one sequence NAK. A WRITE in order that its region admits places its bytes at its offset and goes on likewise; one that it
does not admit is counted and ends the connection by a fatal NAK with the code. A READ request is answered with the bytes of its
region, and a READ response is placed at the destination of its request, completing it with its last packet. An Acknowledge
releases what it covers, and closes a connection that no slot needs and that owes no message; an RNR NAK holds sending for its
timer, and a sequence NAK sends again from its PSN, each until its limit of retries. -/
def Obligations.PacketsComplete : Prop :=
  (∀ (s : State) (ctx : Nat) (p : Packet) (c : Conn), s.netTested = false → s.conn ctx = some c → c.st = 2 → p.icrcOk = true → p.rc = true →
    p.pkey = 0xFFFF → c.sealMode = false → p.sealed = none →
    admitPacket ctx p s = .go { c with carried := (countFrame p c s).gtc }
      ((countFrame p c s).putConn { c with carried := (countFrame p c s).gtc })) ∧
  (∀ (s t : State) (ctx : Nat) (p : Packet) (c : Conn), admitPacket ctx p s = .go c t → c.red = none → c.sprayMode = false →
    (p.opcode = 4 ∨ p.opcode = 5) → lengthsOk p = true →
    let accept (u : State) : State := u.onConn ctx fun d =>
      let m : InMessage := { firstPsn := p.psn, lastPsn := p.psn, isSend := true, imm := p.imm, body := p.payload }
      let d := if (d.inbound.any fun x => x.firstPsn == p.psn) = true then d else { d with inbound := d.inbound ++ [m] }
      ((u.putConn (d.mark p.psn 1 u.gtc)).deliver ctx).ackIfDue ctx p.ackReq
    (psnDist p.psn c.ePsn = 0 → p.payload = [] → exec (.receiveSend ctx p) s = .next (accept t)) ∧
    (psnDist p.psn c.ePsn = 0 → p.payload ≠ [] → exec (.receiveSend ctx p) s = .next (match t.meter c p with
      | some u => accept u
      | none => t.redFrame ctx p.psn)) ∧
    (psnDist p.psn c.ePsn ≠ 0 → psnAhead p.psn c.ePsn = false → exec (.receiveSend ctx p) s = .next (t.acknowledge ctx)) ∧
    (psnAhead p.psn c.ePsn = true → exec (.receiveSend ctx p) s = .next (if c.nakSent = true then t else t.sequenceNak ctx))) ∧
  (∀ (s t u : State) (ctx : Nat) (p : Packet) (c : Conn), admitPacket ctx p s = .go c t → c.red = none → c.sprayMode = false →
    p.opcode = 0x0A → p.sealed = none → lengthsOk p = true → psnDist p.psn c.ePsn = 0 → t.meter c p = some u →
    (∀ r : Region, 0 < p.length → u.checkAccess c true p.key p.addr p.length = .ok r →
      let v := u.regionWrite r (p.addr - r.base) p.payload
      exec (.receiveWrite ctx p) s = .next (v.onConn ctx fun d =>
        let last := psnAdd p.psn (packetCount p.length - 1)
        let m : InMessage := { firstPsn := p.psn, lastPsn := last, isSend := false, key := p.key, addr := p.addr, length := p.length }
        let inbound := if (d.inbound.any fun m => m.firstPsn == p.psn && !m.isSend) = true then d.inbound else d.inbound ++ [m]
        let inbound := inbound.map fun m => if m.firstPsn = p.psn ∧ ¬ m.isSend ∧ p.imm.isSome then { m with imm := p.imm } else m
        ((v.putConn (Conn.mark { d with inbound := inbound } p.psn 1 v.gtc)).deliver ctx).ackIfDue ctx p.ackReq)) ∧
    (∀ code : Nat, 0 < p.length → u.checkAccess c true p.key p.addr p.length = .error code →
      exec (.receiveWrite ctx p) s = .next ((u.bump Obj.remoteAccessErrors).fatalNak ctx synAccess p.psn code))) ∧
  (∀ (s t : State) (ctx : Nat) (p : Packet) (c : Conn), admitPacket ctx p s = .go c t → c.red = none → c.sprayMode = false →
    p.opcode = 0x0C → lengthsOk p = true → psnDist p.psn c.ePsn = 0 → c.readsAnswering < t.get Obj.readDepth →
    (∀ (r : Region) (data : Bytes), t.checkAccess c false p.key p.addr p.length = .ok r →
      regionContent t r (p.addr - r.base) p.length = some data →
      let u := (t.onConn ctx fun d => t.putConn { d with
        dataQ := d.dataQ ++ readResponses p.psn data t.gtc d.msn (creditCode (t.freeEntries d)) }).joinQueue ctx
      exec (.receiveReadRequest ctx p) s = .next ((u.onConn ctx fun d =>
        u.putConn (Conn.mark { d with msn := d.msn + 1 } p.psn (packetCount p.length) u.gtc)).deliver ctx)) ∧
    (∀ code : Nat, t.checkAccess c false p.key p.addr p.length = .error code →
      exec (.receiveReadRequest ctx p) s = .next ((t.bump Obj.remoteAccessErrors).fatalNak ctx synAccess p.psn code))) ∧
  (∀ (s t u : State) (ctx : Nat) (p : Packet) (c : Conn) (r : ReadOut), admitPacket ctx p s = .go c t → 0x0D ≤ p.opcode → p.opcode ≤ 0x10 →
    lengthsOk p = true → p.sealed = none → (c.readsOut.find? fun r => decide (psnDist p.psn r.firstPsn < packetCount r.length)) = some r →
    (c.readsOut.find? fun x => x.firstPsn == r.firstPsn) = some r → t.meter c p = some u →
    exec (.receiveReadResponse ctx p) s = .next (u.onConn ctx fun d =>
      let r' := { r with data := overwrite r.data (mtu * psnDist p.psn r.firstPsn) p.payload }
      let d := { d with readsOut := replaceFirst (fun x => x.firstPsn == r.firstPsn) r' d.readsOut }
      let last := psnAdd r.firstPsn (packetCount r.length - 1)
      if p.psn = last then
        let d := d.acked last (creditCode d.credits) u.gtc
        u.putConn { d with messages := d.messages.filter fun m => m.firstPsn != r.firstPsn }
      else u.putConn { d with progress := u.gtc })) ∧
  (∀ (s t : State) (ctx : Nat) (p : Packet) (c d : Conn), admitPacket ctx p s = .go c t → p.opcode = 0x11 → t.conn ctx = some d →
    (p.syndrome < 32 → exec (.receiveAcknowledge ctx p) s = .next (((t.putConn (d.acked p.psn p.syndrome t.gtc)).joinQueue ctx).closeIdle ctx)) ∧
    (32 ≤ p.syndrome → p.syndrome < 64 → let u := t.bump Obj.rnrNaksReceived
      (u.get Obj.rnrRetryLimit < 7 → u.get Obj.rnrRetryLimit < d.rnrRetries + 1 →
        exec (.receiveAcknowledge ctx p) s = .next (u.loseConn ctx 0x6021 3 false)) ∧
      (7 ≤ u.get Obj.rnrRetryLimit ∨ d.rnrRetries + 1 ≤ u.get Obj.rnrRetryLimit →
        exec (.receiveAcknowledge ctx p) s = .next (u.putConn { d.acked (psnAdd p.psn (psnMod - 1)) (creditCode d.credits) u.gtc with
          rnrRetries := d.rnrRetries + 1, rnrUntil := some (p.psn, u.gtc + rnrTicks (p.syndrome % 32)) }))) ∧
    (p.syndrome = 96 → t.get Obj.retryLimit ≤ d.retries → exec (.receiveAcknowledge ctx p) s = .next (t.loseConn ctx 0x6020 3 false)) ∧
    (p.syndrome = 96 → d.retries < t.get Obj.retryLimit →
      let moved := d.unacked.any fun q => !(q.psn == p.psn || psnAhead q.psn p.psn)
      exec (.receiveAcknowledge ctx p) s = .next ((t.putConn { d.acked (psnAdd p.psn (psnMod - 1)) (creditCode d.credits) t.gtc with
        retries := if moved = true then 1 else d.retries + 1 }).resendFrom ctx p.psn)))

/-- When AckDelayTicks have passed since the oldest unacknowledged arrival it is acknowledged. Without progress for
RetransmitTimeoutTicks the connection sends again from its first unacknowledged PSN, and at RetryLimit it is lost with 0x6020;
an RNR wait that runs out sends again from its PSN; a sprayed connection's gap that stood for ReorderTimeoutTicks is answered
with a sequence NAK. A handshake attempt sends its last message again and fails with 0x6030 after 8 sends; after its delay a
connection still needed starts a new attempt; a responder drops an attempt not completed in time. The last placement accepted
before a revocation retires the key, and a VALIDATE that waited for the last key of a staging window checks the window; a
revocation past RevokeDrainTicks raises its fault once. -/
def Obligations.TransportTimersComplete : Prop :=
  (∀ (s : State) (ctx : Nat) (c : Conn), s.conn ctx = some c →
    (∀ t : Nat, c.oldest = some t → t + s.get Obj.ackDelayTicks ≤ s.gtc → exec (.ackDelayExpiry ctx) s =
      .next ((State.putConn s { c with arrivals := 0, oldest := none }).pushAck ctx (synAck (creditCode (s.freeEntries c))) (psnAdd c.ePsn (psnMod - 1)))) ∧
    (∀ (p : OutPacket) (rest : List OutPacket), c.unacked = p :: rest → c.st = 2 → c.progress + s.get Obj.retransmitTimeoutTicks ≤ s.gtc →
      (c.retries < s.get Obj.retryLimit → exec (.retransmitTimeout ctx) s =
        .next ((s.putConn { c with retries := c.retries + 1 }).resendFrom ctx p.psn)) ∧
      (s.get Obj.retryLimit ≤ c.retries → exec (.retransmitTimeout ctx) s = .next (s.loseConn ctx 0x6020 3 false))) ∧
    (∀ psn t : Nat, c.rnrUntil = some (psn, t) → t ≤ s.gtc → exec (.rnrTimerExpiry ctx) s =
      .next ((s.putConn { c with rnrUntil := none }).resendFrom ctx psn)) ∧
    (∀ t : Nat, c.gapSince = some t → c.sprayMode = true → t + s.get Obj.reorderTimeoutTicks ≤ s.gtc → exec (.reorderTimeout ctx) s =
      .next ((s.putConn { c with gapSince := some s.gtc }).sequenceNak ctx)) ∧
    (∀ (t : Nat) (body : Bytes), c.lastMessage = some (t, body) → c.lastSend + s.get Obj.handshakeRetryTicks ≤ s.gtc →
      (c.sends < 8 → exec (.handshakeResend ctx) s = .next ((s.putConn { c with sends := c.sends + 1, lastSend := s.gtc }).sendHandshake
        c.address c.port t c.attempt body)) ∧
      (8 ≤ c.sends → exec (.handshakeResend ctx) s = .next (s.loseConn ctx 0x6030 3 true))) ∧
    (∀ t : Nat, c.retryAt = some t → t ≤ s.gtc → s.connNeeded c = true →
      exec (.handshakeBackoffExpiry ctx) s = .next (s.startAttempt ctx)) ∧
    (c.st = 1 → c.initiator = false → c.started + s.get Obj.handshakeTimeoutTicks ≤ s.gtc →
      (s.connNeeded c = true → exec (.handshakeTimeout ctx) s = .next (s.putConn { c.strip with st := 0, attempt := 0, lastMessage := none })) ∧
      (s.connNeeded c = false → exec (.handshakeTimeout ctx) s = .next { s with conns := s.conns.filter fun x => x.ctx != ctx }))) ∧
  (∀ (s : State) (index : Nat) (r : Region), (s.regions.find? fun r => r.index == index && r.revoking.isSome) = some r →
    let left := s.regions.filter fun r => r.index != index
    let t : State := State.set { s with regions := left } Obj.regionsRegistered left.length
    exec (.revokeDrainComplete index) s = .next (if (r.kind == .staging && t.jobState r.owner == 1 && (t.slot r.owner).validating &&
      left.all fun x => !(x.kind == .staging && x.owner == r.owner)) = true then t.checkManifest r.owner else t)) ∧
  (∀ (s : State) (index n since : Nat) (r : Region), (s.regions.find? fun r => r.index == index && !r.overrun) = some r →
    r.revoking = some since → since + s.get Obj.revokeDrainTicks ≤ s.gtc → exec (.revokeDrainOverrun index n) s = .next (State.raiseFault
      { s with regions := modifyWhere (fun x => x.index == index) (fun x => { x with overrun := true }) s.regions }
      { cls := 10, reason := 0x7040, tile := 5, slot := if r.kind = .objectWindow then 0xFF else r.owner, detail0 := r.key, detail1 := n }))

/-- A message whose datagrams agree reaches the handshake while the network runs; a set that does not agree, or of another type,
does nothing. CONNECT is refused with 0x6034 where its parameters are illegal, with 0x6031 where a service is not admitted,
answered again where its attempt is known, and else answered with ACCEPT on a free context with drawn queue pair, PSN and nonce,
MACed under M0; with no context it is refused with 0x6035. ACCEPT is refused where its parameters disagree with the CONNECT, its
digest is another job's or its MAC is wrong, else answered with CONFIRM. CONFIRM with the right MAC is answered with READY and
the connection stands, READY with the right MAC makes it stand; a wrong MAC is refused with 0x6031 and ends the attempt. REJECT
ends the attempt it names with its code. CLOSE with the right MAC ends the connection with 0x6060. -/
def Obligations.HandshakeMessagesComplete : Prop :=
  (∀ (s : State) (a t attempt : Nat) (l : List Bytes) (body : Bytes), reassemble l = some (t, attempt, body) → s.netRuns = true →
    (t = 1 → exec (.connect a l) s = .next (recvConnect a attempt body s)) ∧
    (t = 2 → exec (.accept a l) s = .next (recvAccept a attempt body s).flow) ∧
    (t = 3 → exec (.confirm a l) s = .next (recvConfirm a attempt body s).flow) ∧
    (t = 4 → exec (.handshakeReady a l) s = .next (recvReady a attempt body s).flow) ∧
    (t = 5 → exec (.handshakeReject a l) s = .next (recvReject a attempt body s)) ∧
    (t = 6 → exec (.close a l) s = .next (recvClose a attempt body s))) ∧
  (∀ (s : State) (a : Nat) (l : List Bytes), reassemble l = none → exec (.connect a l) s = .next s ∧ exec (.handshakeReject a l) s = .next s ∧
    exec (.close a l) s = .next s ∧ exec (.accept a l) s = .next s.flow ∧ exec (.confirm a l) s = .next s.flow ∧
    exec (.handshakeReady a l) s = .next s.flow) ∧
  (∀ (s : State) (a attempt : Nat) (b : Bytes),
    let refused (code : Nat) := (s.bump Obj.handshakeFailures).sendHandshake a 0xFF 5 attempt (leBytes 2 code ++ zeros 2)
    (s.conns.find? fun c => !c.initiator && c.attempt == attempt && c.address == a && c.st == 1) = none → pSeal b ≠ 1 →
    (paramsLegal b = false ∨ pKind b ≠ 2 → recvConnect a attempt b s = refused 0x6034) ∧
    (paramsLegal b = true → pKind b = 2 → s.get Obj.serviceAdmissionKey = 0 → recvConnect a attempt b s = refused 0x6031) ∧
    (paramsLegal b = true → pKind b = 2 → s.get Obj.serviceAdmissionKey ≠ 0 →
      (s.freeContext 2 = none → recvConnect a attempt b s = refused 0x6035) ∧
      ∀ ctx : Nat, s.freeContext 2 = some ctx → s.conn ctx = none →
        let t := s.addConn { ctx := ctx, kind := 2 }
        let u := t.useFree.useFree.useFree.useFree
        let c : Conn := { ctx := ctx, kind := 2, st := 1, initiator := false, attempt := attempt, address := a, sprayMode := pSpray b = 1
                          localQpn := t.free % 2 ^ 24, remoteQpn := pQpn b, ePsn := pPsn b, nextPsn := t.useFree.free % 2 ^ 24
                          readDepth := pDepth b, started := s.gtc, connectBody := b }
        let body := paramBlock u c (t.useFree.free % 2 ^ 24) t.useFree.useFree.freeBytes ++ leBytes 4 0
        let m0 := sealM0 [] [] (u.admissionKey c) b body
        recvConnect a attempt b s = u.sendAttempt { c with m0 := m0, acceptBody := body ++ macR m0 } 2 (body ++ macR m0))) ∧
  (∀ (s : State) (a attempt : Nat) (b : Bytes) (c : Conn),
    (s.conns.find? fun c => !c.initiator && c.attempt == attempt && c.address == a && c.st == 1) = some c →
    (∀ (t : Nat) (body : Bytes), c.lastMessage = some (t, body) → recvConnect a attempt b s = s.sendHandshake c.address c.port t c.attempt body) ∧
    (c.sealMode = false → let m := sealM c.m0 [] []
      (b.take 32 = macI m → recvConfirm a attempt b s =
        ((s.putConn { c with m := m }).sendHandshake c.address c.port 4 c.attempt (macF m)).establish c.ctx) ∧
      (b.take 32 ≠ macI m → recvConfirm a attempt b s = (s.reject a attempt 0x6031).loseConn c.ctx 0x6031 3 true))) ∧
  (∀ (s : State) (a attempt : Nat) (b : Bytes) (c : Conn),
    (s.conns.find? fun c => c.initiator && c.attempt == attempt && c.address == a && c.st == 1) = some c →
    (b.take 32 = macF c.m → recvReady a attempt b s = s.establish c.ctx) ∧
    (b.take 32 ≠ macF c.m → recvReady a attempt b s = (s.reject a attempt 0x6031).loseConn c.ctx 0x6031 3 true) ∧
    (paramsLegal b = false → recvAccept a attempt b s = (s.reject a attempt 0x6034).loseConn c.ctx 0x6034 3 true)) ∧
  (∀ (s : State) (a attempt : Nat) (b : Bytes) (c : Conn),
    ((s.bump Obj.handshakeFailures).conns.find? fun c => c.attempt == attempt && c.address == a && c.st == 1) = some c →
    recvReject a attempt b s = (s.bump Obj.handshakeFailures).loseConn c.ctx (field b 0 2) 3 true) ∧
  (∀ (s : State) (a attempt : Nat) (b : Bytes) (c : Conn),
    (s.conns.find? fun c => c.attempt == attempt && c.address == a && c.st == 2) = some c →
    (slice 4 32 b = macC c.m (b.take 2) → recvClose a attempt b s = s.loseConn c.ctx 0x6060 4 false) ∧
    (slice 4 32 b ≠ macC c.m (b.take 2) → recvClose a attempt b s = s.bump Obj.handshakeFailures))

/-- A port that can begin a frame sends a CONTROL frame where one is eligible, counting its run while DATA waits; once the run
reaches ControlGuardFrames it grants a DATA frame, counted; with no CONTROL frame it visits its list of DATA queues; with
neither nothing changes. A DATA queue on no list joins its port's list at the tail when its head is eligible, its ticks held
counted. An accepted write of a shaper profile takes effect and resets the bucket of each connection that uses it, counted; a
rate of 0 while in use is refused with 0x6C02. A write of a policer profile takes effect and fills the meters of its users; a
committed rate of 0 while in use, or a peak rate below the committed one of a two-rate profile, is refused with 0x6C02. (A burst
below its floor is out of the object's Range and refused before.) A peer connection silent for KeepaliveTicks sends a probe. -/
def Obligations.TrafficCommandsComplete : Prop :=
  (∀ (s : State) (p : Nat),
    let x := s.portAt p
    let run (t : State) (n : Nat) : State := t.setPort p { t.portAt p with controlRun := n }
    (∀ t : State, s.sendControl p = some t → s.dataWaits p = false → exec (.portFrameSelect p) s = .next (run t 0)) ∧
    (∀ t : State, s.sendControl p = some t → s.dataWaits p = true → x.controlRun < s.get Obj.controlGuardFrames →
      exec (.portFrameSelect p) s = .next (run t (x.controlRun + 1))) ∧
    (∀ t : State, s.dataWaits p = true → s.get Obj.controlGuardFrames ≤ x.controlRun →
      State.visit p (x.active.length + 1) (s.bump (inst Obj.portGuardGrants p)) = some t → exec (.portFrameSelect p) s = .next (run t 0)) ∧
    (∀ t : State, s.sendControl p = none → (s.dataWaits p = false ∨ x.controlRun < s.get Obj.controlGuardFrames) →
      State.visit p (x.active.length + 1) s = some t → exec (.portFrameSelect p) s = .next (run t 0)) ∧
    (s.sendControl p = none → (s.dataWaits p = false ∨ x.controlRun < s.get Obj.controlGuardFrames) →
      State.visit p (x.active.length + 1) s = none → exec (.portFrameSelect p) s = .next s)) ∧
  (∀ (s : State) (ctx port : Nat) (c : Conn) (p : OutPacket) (rest : List OutPacket), s.conn ctx = some c → c.onList = none →
    c.dataQ = p :: rest → s.nextPort c = some port →
    (s.eligible c p port = true →
      let t := match c.heldSince with
        | some since => s.count Obj.shaperHoldTicks (s.gtc - since)
        | none => s
      let x := t.portAt port
      exec (.queueRejoin ctx) s = .next (((t.putConn { c with onList := some port, heldSince := none }).setPort port
        { x with active := x.active ++ [c.ctx] }).showList port)) ∧
    (s.eligible c p port = false → s.released c p = true → s.classOpen port false = true → c.heldSince = none →
      exec (.queueRejoin ctx) s = .next (s.putConn { c with heldSince := some s.gtc }))) ∧
  (∀ (s : State) (n sub v : Nat), Accepts s (shaperKey sub n) v →
    let used := s.conns.filter fun c => s.shaperOf c == n
    ((sub = 1 ∧ v = 0 ∧ used ≠ []) → exec (.shaperProfileWrite n sub v) s = .next (s.refused 0x6C02)) ∧
    (¬ (sub = 1 ∧ v = 0 ∧ used ≠ []) → ¬ (sub = 2 ∧ v < 4278) →
      exec (.shaperProfileWrite n sub v) s =
        .next ((used.foldl (fun (t : State) c => t.putConn (t.fillShaper c)) (s.accept (shaperKey sub n) v)).count Obj.shaperResets used.length))) ∧
  (∀ (s : State) (n sub v : Nat), Accepts s (policerKey sub n) v →
    let used := s.conns.filter fun c => s.policerOf c == n
    let bad := (sub = 2 ∧ v = 0 ∧ used ≠ []) ∨ (sub = 5 ∧ s.get (policerKey 1 n) = 1 ∧ v < s.get (policerKey 2 n))
    (bad → exec (.policerProfileWrite n sub v) s = .next (s.refused 0x6C02)) ∧
    (¬ bad → ¬ ((sub = 3 ∨ sub = 6) ∧ v < 4258) → ¬ (sub = 4 ∧ 0 < v ∧ v < 4258) → exec (.policerProfileWrite n sub v) s =
      .next (used.foldl (fun (t : State) c => t.putConn (t.fillMeter c)) (s.accept (policerKey sub n) v)))) ∧
  (∀ (s : State) (ctx : Nat) (c : Conn), s.conn ctx = some c → c.kind = 1 → c.st = 2 →
    max c.carried c.progress + s.get Obj.keepaliveTicks ≤ s.gtc →
    exec (.keepalive ctx) s = .next ((s.putConn { c with carried := s.gtc }).peerProbe c.uid))

/-- A member raises an abort by StepCommand 1 (cause 0x7824), or for a member unreachable for MemberTimeoutTicks (cause 0x7822 with
its UID), while its slot is RUNNING or DRAINING and not HALTED: it counts it, halts, keeps the abort as raised with its sequence
number, and sends ABORT to every other member; StepCommand 1 is refused with 0x801A otherwise. A member that receives a legal
ABORT for a slot it runs counts it, late where it was raised over 10^6 ticks ago, halts and answers ACK with its halt tick; any
other is ignored and counted. An ACK of the abort raised ends the probes of its sender; every AbortRepeatTicks each member that
has not acknowledged is probed. A self-check fault of the engine that an item runs on records the fault and retries the item. A
fault of firmware raises NODE, aborts every step and ends every slot from ARMED on. -/
def Obligations.CollectiveAbortCommandsComplete : Prop :=
  (∀ (s : State) (slot : Nat),
    let raise (s : State) (cause subject : Nat) : State :=
      let m : AbortMsg :=
        { cause := cause, raiseTick := s.gtc, raiser := myUid, raiseSeq := (s.slot slot).raiseSeq + 1, epoch := 0, stream := 0xFF
          batch := noRef, reason := 0, subject := subject }
      let t := (s.bump Obj.abortsRaised).halt slot m
      (t.others slot).foldl (fun (t : State) uid => t.peerSendFirst uid (some abortImmediate) (m.encode slot none))
        (t.modSlot slot fun x => { x with raiseSeq := m.raiseSeq, raised := some m, unacked := t.others slot, lastProbe := t.gtc })
    (Accepts s (inst Obj.stepCommand slot) 1 → s.running slot = true → s.stepState slot ≠ 1 →
      exec (.stepAbort slot) s = .next ((raise s 0x7824 0).ok).flow) ∧
    (Accepts s (inst Obj.stepCommand slot) 1 → s.running slot = false ∨ s.stepState slot = 1 →
      exec (.stepAbort slot) s = .next (s.refused 0x801A).flow) ∧
    (∀ uid since : Nat, uid ∈ s.others slot → s.silentSince slot uid = some since → since + s.get Obj.memberTimeoutTicks ≤ s.gtc →
      s.running slot = true → s.stepState slot ≠ 1 → exec (.memberTimeout slot uid) s = .next (raise s 0x7822 uid).flow)) ∧
  (∀ (s : State) (uid : Nat) (b : Bytes),
    let slot := byteAt b 5
    let m := abortOf b
    let late (t : State) : State := if m.raiseTick + 1000000 < s.gtc then t.bump Obj.abortsLate else t
    let t := (late (s.bump Obj.abortsReceived)).halt slot m
    (abortLegal b = true → byteAt b 4 = 1 → s.running slot = true →
      exec (.abortMessage uid b) s = .next (t.peerSend uid (some abortImmediate) (m.encode slot (some (t.slot slot).haltTick))).flow) ∧
    (abortLegal b = false ∨ byteAt b 4 ≠ 1 ∨ s.running slot = false →
      exec (.abortMessage uid b) s = .next (s.bump Obj.abortsIgnored).flow) ∧
    (abortLegal b = false ∨ byteAt b 4 ≠ 2 ∨ s.running slot = false → exec (.abortAck uid b) s = .next (s.bump Obj.abortsIgnored)) ∧
    (∀ r : AbortMsg, abortLegal b = true → byteAt b 4 = 2 → s.running slot = true → (s.slot slot).raised = some r →
      r.raiseSeq = m.raiseSeq → m.raiser = myUid →
      exec (.abortAck uid b) s = .next (s.modSlot slot fun x => { x with unacked := x.unacked.filter (· != uid) }))) ∧
  (∀ (s : State) (slot : Nat) (r : AbortMsg), s.running slot = true → s.stepState slot = 1 → (s.slot slot).raised = some r →
    (s.slot slot).unacked ≠ [] → (s.slot slot).lastProbe + s.get Obj.abortRepeatTicks ≤ s.gtc →
    exec (.abortProbe slot) s =
      .next ((s.slot slot).unacked.foldl State.peerProbe (s.modSlot slot fun x => { x with lastProbe := s.gtc }))) ∧
  (∀ (s : State) (e kind n : Nat) (it : Item) (permanent : Bool), s.item e = some it → s.kernel e = none → it.engine = some (kind, n) →
    it.waitOut = none → it.prepared = false →
    exec (.engineFault e permanent) s = .next (s.engineFault it kind n permanent).flow) ∧
  (∀ (s : State) (e : Nat) (it : Item) (k : KernelRun) (permanent : Bool), s.item e = some it → s.kernel e = some k →
    exec (.engineFault e permanent) s = .next (s.pierFault it k permanent).flow) ∧
  (∀ s : State,
    let t := s.raiseFault { cls := 12, tile := 7, reason := 0x7060, action := 5, detail0 := 1, detail1 := 0 }
    let t := allSlots.foldl (fun (t : State) i => t.raiseAbort i 0x7823 0 0xFF noRef 0 myUid) t
    exec .nodeFault s = .next (State.flow (allSlots.foldl (fun (t : State) i =>
      if t.jobState i = 3 ∨ t.jobState i = 4 ∨ t.jobState i = 5 then t.abortSlot i 0x7060 0x7060 else t) t)))

/-- RESUME of a HALTED slot, and JOIN of a slot that is READY with the digest expected, are accepted when every shard keeps a
member, the membership digest is the one expected, the replay epoch and the unpacked replay batches lie within the job,
ResumeTick is a multiple of SliceTicks and at least LaunchLeadMin ahead, the time is synchronised and SUBSTITUTE has a Talon
directory; RESUME then makes StepState RESUMING, JOIN also sets LaunchTick to ResumeTick and JobState to ARMED. A condition that
fails is the reason of the refusal and becomes StepLastReason. CANCEL before ResumeTick makes a member HALTED and a spare READY,
and is refused with 0x801A otherwise. At ResumeTick a member carries out the replay and a spare starts. While the slot is HALTED
or READY, REPLACE puts an entry into the pending list, REMOVE_DOMAIN one removal for each node that carries the tag, and CLEAR
makes the pending list the list in force; otherwise they are refused with 0x801A and StepLastReason becomes 0x7814. -/
def Obligations.ReplayAndMembershipComplete : Prop :=
  (∀ (s : State) (slot : Nat),
    let j := s.job slot
    let at_ (k : Nat) : Nat := s.get (inst k slot)
    let ready : Prop :=
      (∀ sh ∈ j.shards, ∃ n ∈ sh.primary :: sh.alternates, ∃ x, j.nodes[n]? = some x ∧ standIn (s.slot slot).pendingList x.uid ≠ 0) ∧
      s.membershipDigest slot = at_ Obj.expectedMembershipDigest ∧
      (j.epochFirst ≤ at_ Obj.replayEpoch ∧ at_ Obj.replayEpoch < j.epochFirst + j.epochCount) ∧
      (∀ e ∈ List.zip j.streams (s.replayPoints slot), j.packedStream e.1 = true ∨ e.2 < j.batchCount) ∧
      at_ Obj.resumeTick % s.get Obj.sliceTicks = 0 ∧ s.gtc + s.get Obj.launchLeadMin ≤ at_ Obj.resumeTick ∧ s.synced = true ∧
      (at_ Obj.resumeCorruptPolicy ≠ 2 ∨ j.t ≠ 0)
    (Accepts s (inst Obj.stepCommand slot) 2 → s.running slot = true → s.stepState slot = 1 → ready →
      exec (.resume slot) s = .next (s.setStepState slot 2).ok) ∧
    (Accepts s (inst Obj.stepCommand slot) 2 → ¬ (s.running slot = true ∧ s.stepState slot = 1) →
      exec (.resume slot) s = .next ((s.set (inst Obj.stepLastReason slot) 0x7813).refused 0x7813)) ∧
    (Accepts s (inst Obj.stepCommand slot) 2 → s.resumeFault slot false ≠ 0 →
      exec (.resume slot) s =
        .next ((s.set (inst Obj.stepLastReason slot) (s.resumeFault slot false)).refused (s.resumeFault slot false))) ∧
    (Accepts s (inst Obj.stepCommand slot) 3 → s.jobState slot = 2 → at_ Obj.expectedDigest = at_ Obj.manifestDigest → ready →
      let t := s.set (inst Obj.launchTick slot) (at_ Obj.resumeTick)
      exec (.join slot) s =
        .next (((t.modSlot slot fun x => { x with joined := true }).setStepState slot 2).enterState slot 3).ok) ∧
    (Accepts s (inst Obj.stepCommand slot) 3 → s.resumeFault slot true ≠ 0 →
      exec (.join slot) s =
        .next ((s.set (inst Obj.stepLastReason slot) (s.resumeFault slot true)).refused (s.resumeFault slot true))) ∧
    (Accepts s (inst Obj.stepCommand slot) 4 → s.stepState slot = 2 → s.gtc < at_ Obj.resumeTick →
      exec (.cancel slot) s =
        .next (State.ok (if (s.slot slot).joined = true then (s.unjoin slot).enterState slot 2 else s.setStepState slot 1))) ∧
    (Accepts s (inst Obj.stepCommand slot) 4 → s.stepState slot ≠ 2 ∨ at_ Obj.resumeTick ≤ s.gtc →
      exec (.cancel slot) s = .next (s.refused 0x801A)) ∧
    (s.stepState slot = 2 → at_ Obj.resumeTick ≤ s.gtc → s.running slot = true → exec (.resumeTick slot) s = .next (s.replay slot).flow) ∧
    (s.stepState slot = 2 → at_ Obj.resumeTick ≤ s.gtc → s.jobState slot = 3 → (s.slot slot).joined = true →
      exec (.resumeTick slot) s = .next (s.startSpare slot).flow)) ∧
  (∀ (s : State) (slot : Nat),
    let open_ : Prop := s.stepState slot = 1 ∨ s.jobState slot = 2
    let at_ (k : Nat) : Nat := s.get (inst k slot)
    let l := (s.slot slot).pendingList
    let put (l : List Replacement) : State := ((s.modSlot slot fun x => { x with pendingList := l }).syncConns).ok
    let shut : State := (s.set (inst Obj.stepLastReason slot) 0x7814).refused 0x801A
    (Accepts s (inst Obj.memberCommand slot) 1 → open_ →
      let r : Replacement :=
        { old := at_ Obj.memberOldUid, new := at_ Obj.memberNewUid, address := if at_ Obj.memberNewUid = 0 then 0 else at_ Obj.memberNewAddress };
      (r.old ∈ (s.job slot).uids →
        (r.new = 0 ∨ (r.new ∉ s.members slot ∧ ∀ x ∈ l, x.old = r.old ∨ x.new ≠ r.new)) →
        s.peersFit slot ((l.filter fun x => x.old != r.old) ++ [r]) = true →
        exec (.replace slot) s = .next (put ((l.filter fun x => x.old != r.old) ++ [r]))) ∧
      (r.old ∉ (s.job slot).uids → exec (.replace slot) s = .next ((s.set (inst Obj.stepLastReason slot) 0x7814).refused 0x7814))) ∧
    (Accepts s (inst Obj.memberCommand slot) 2 → open_ → 0 < at_ Obj.memberDomainValue →
      let gone := (List.zip (s.job slot).nodes (s.job slot).tags).filter fun e =>
        e.2.tag (at_ Obj.memberDomainKind) == at_ Obj.memberDomainValue
      exec (.removeDomain slot) s =
        .next (put (gone.foldl (fun l e => (l.filter fun x => x.old != e.1.uid) ++ [{ old := e.1.uid, new := 0, address := 0 }]) l))) ∧
    (Accepts s (inst Obj.memberCommand slot) 3 → open_ → exec (.memberClear slot) s = .next (put (s.slot slot).inForce)) ∧
    (Accepts s (inst Obj.memberCommand slot) 1 → ¬ open_ → exec (.replace slot) s = .next shut) ∧
    (Accepts s (inst Obj.memberCommand slot) 2 → ¬ open_ → exec (.removeDomain slot) s = .next shut) ∧
    (Accepts s (inst Obj.memberCommand slot) 3 → ¬ open_ → exec (.memberClear slot) s = .next shut))

/-- With power good and the unit off, the release of reset records the boot flash and boots from it: a flash not fit for use enters
recovery with result 11, a header that fails a check with that check's number, and otherwise BootState is VERIFYING. When the
body has been read, a wrong digest enters recovery with result 2; a right one shows the image's version and digest, sets M0 to
M2, restores what persists, lays out memory, releases the HUB and begins the first capacitance measurement. The HUB reports
itself alive after its start-up tests, unless one is a device failure: the identity steps, the mount and the ports follow,
BootFailStreak is 0 and BootState RUNNING. 60 x 10^9 ticks after its release without that, the device resets with BootFailStreak
one higher, up to 3, where it enters recovery with result 12. -/
def Obligations.BootSequenceComplete : Prop :=
  (∀ (s : State) (f : BootFlash), s.get Obj.bootState = 0 → s.power.pwrgd = true → s.power.failN = true → s.power.halted = false →
    let t := (if f.sfdp = true then s.set Obj.bootFlashBytes f.bytes else s).set Obj.bootFlashId (f.id % 2 ^ 24)
    ((f.sfdp = false ∨ f.bytes < 67108864 ∨ f.fourByte = false ∨ f.counters = 0) →
      exec (.resetRelease f) s = .next (t.enterRecovery 11)) ∧
    (f.sfdp = true → 67108864 ≤ f.bytes → f.fourByte = true → 0 < f.counters →
      exec (.resetRelease f) s =
        .next (if t.headerResult t.slotImage = 0 then t.setBootState 2 else t.enterRecovery (t.headerResult t.slotImage)))) ∧
  (∀ s : State, s.get Obj.bootState = 2 → s.boot.released = none →
    let b := s.slotImage
    (imageDigestOk b = false → exec .bootBodyReadComplete s = .next (s.enterRecovery 2)) ∧
    (imageDigestOk b = true →
      let t := s.setAll [(Obj.fwVersionMajor, field b 8 2), (Obj.fwVersionMinor, field b 0x0A 2), (Obj.fwVersionPatch, field b 0x0C 2),
        (Obj.fwSecurityVersion, field b 0x0E 2), (Obj.fwImageDigest, digestNat (padTo 16384 b ++ imageBody b)), (Obj.rootKeySlot, byteAt b 6)]
      let t := t.setAll [(Obj.measurement, Config.bootRomDigest), (Obj.measurement + 1, digestNat (padTo 16384 b ++ imageBody b)),
        (Obj.measurement + 2, digestNat (leBytes 1 (t.get Obj.fuseSecurityVersion) ++ leBytes 1 (t.get Obj.rootKeyRevoked) ++
          leBytes 1 (t.get Obj.bindingCount))), (Obj.measurement + 3, 0), (Obj.measurement + 4, 0), (Obj.measurement + 5, 0),
        (Obj.measurement + 6, 0), (Obj.measurement + 7, 0)]
      let t := (restorePersistent t).takeBusRate.layMemory
      exec .bootBodyReadComplete s = .next (t.modBoot fun x => { x with released := some t.gtc }).startMeasurement)) ∧
  (∀ (s : State) (u : StartUp) (r : CounterRun) (t0 : Nat), s.get Obj.bootState = 2 → s.boot.released = some t0 → s.boot.dead = false →
    s.power.measuring = none →
    ((s.startUp u).boot.dead = true → exec (.hubAlive u r) s = .next (s.startUp u)) ∧
    ((s.startUp u).boot.dead = false →
      let t := (((s.startUp u).identitySteps r).beginMount).layPorts
      exec (.hubAlive u r) s =
        .next (((t.modBoot fun b => { b with released := none }).set Obj.bootFailStreak 0).setBootState 3))) ∧
  (∀ (s : State) (f : BootFlash) (t0 : Nat), s.boot.released = some t0 → t0 + 60000000000 ≤ s.gtc →
    let streak := min 3 (s.get Obj.bootFailStreak + 1)
    let t := ((s.stopMeasurement true).restart 3).set Obj.bootFailStreak streak
    exec (.bootWatchdogExpiry f) s = .next (if 3 ≤ streak then t.enterRecovery 12 else t.bootFrom f))

/-- In recovery with no transfer, check or write under way: an attempt begins when the wait of the last is over, counts itself,
records the boot flash, boots a usable image, and otherwise shows the result and starts its BEACONs; ten BEACONs follow at 10^9
ticks, each with the device, the fault and the security version; an OFFER of 20,480 to 50,331,648 bytes on port 0 that is up
opens a transfer. Port 0 without a link tries the next PHY type after 5 x 10^9 ticks. DATA from the server within the transfer
is kept; every sixteenth is acknowledged with the contiguous count, and the bytes that complete the image have it judged.
2,000,000 ticks after the last DATA one more ACK goes out; 5 x 10^9 ticks after it the transfer is abandoned. -/
def Obligations.RecoveryComplete : Prop :=
  (∀ (s : State) (f : BootFlash), s.get Obj.bootState = 1 → s.recoveryBusy = false →
    (∀ t, s.boot.attemptSince = some t →
      t + attemptTicks (min (s.get Obj.recoveryAttempts) 7) ≤ s.gtc) →
    let u := s.countW 32 Obj.recoveryAttempts 1
    let u := (if f.sfdp = true then u.set Obj.bootFlashBytes f.bytes else u).set Obj.bootFlashId (f.id % 2 ^ 24)
    let result := if flashUsable f = true then u.imageResult u.slotImage else 11
    exec (.recoveryAttempt f) s = .next (if result = 0 then u.bootFrom f
      else (u.set Obj.recoveryFault result).modBoot fun b => { b with attemptSince := some u.gtc, beacons := 0 })) ∧
  (∀ n : Nat, attemptTicks n = 10 * 1000000000 + min (2 ^ (n - 1)) 64 * 1000000000) ∧
  (∀ (s : State) (t : Nat), s.get Obj.bootState = 1 → s.recoveryBusy = false → s.boot.attemptSince = some t → s.boot.beacons < 10 →
    t + s.boot.beacons * 1000000000 ≤ s.gtc →
    exec .beacon s = .next ((s.sendRecovery allNodes 1 0 (leBytes 16 myUid ++ leBytes 1 (s.get Obj.recoveryFault) ++
      leBytes 1 (s.get Obj.fuseSecurityVersion) ++ leBytes 1 (s.get Obj.stepping) ++ zeros 1)).modBoot
        fun b => { b with beacons := b.beacons + 1 })) ∧
  (∀ s : State, s.get Obj.bootState = 1 → s.get (inst Obj.portState 0) < 2 → s.boot.phySince + 5000000000 ≤ s.gtc →
    exec .recoveryLinkTry s = .next (s.modBoot fun b => { b with phy := (b.phy + 1) % 3, phySince := s.gtc })) ∧
  (∀ (s : State) (server n digest : Nat), s.get Obj.bootState = 1 → 2 ≤ s.get (inst Obj.portState 0) → s.recoveryBusy = false →
    20480 ≤ n → n ≤ 50331648 → exec (.offer server n digest) s =
      .next (s.modBoot fun b => { b with transfer := some { server := server, length := n, digest := digest, last := s.gtc } })) ∧
  (∀ (s : State) (server off : Nat) (data : Bytes) (t : RecoveryTransfer), s.get Obj.bootState = 1 → s.boot.transfer = some t →
    server = t.server → 0 < data.length → data.length ≤ 4096 → off + data.length ≤ t.length →
    let u : RecoveryTransfer := { t with pieces := t.pieces ++ [(off, data)], unacked := t.unacked + 1, last := s.gtc, acked := false }
    (u.unacked < 16 → u.count ≠ u.length → exec (.data server off data) s = .next (s.modBoot fun b => { b with transfer := some u })) ∧
    (16 ≤ u.unacked → u.count ≠ u.length → exec (.data server off data) s =
      .next ((s.sendRecovery t.server 4 u.count []).modBoot fun b => { b with transfer := some { u with unacked := 0 } })) ∧
    (u.unacked < 16 → u.count = u.length →
      exec (.data server off data) s = .next (s.recoveredImage u)) ∧
    (16 ≤ u.unacked → u.count = u.length →
      exec (.data server off data) s = .next ((s.sendRecovery t.server 4 u.count []).recoveredImage { u with unacked := 0 }))) ∧
  (∀ (s : State) (t : RecoveryTransfer), s.boot.transfer = some t →
    let result := if imageDigest t.image = t.digest then s.imageResult t.image else 2
    let r := (s.sendRecovery t.server 5 0 (leBytes 1 result ++ zeros 3)).modBoot fun x => { x with transfer := none }
    s.recoveredImage t = if result = 0 then
        (r.modBoot fun x => { x with staged := some (fwWhole t.image), slot := some [] }).setAll [(Obj.fwState, 3), (Obj.fwInstallProgress, 0)]
      else r.set Obj.recoveryFault result) ∧
  (∀ (s : State) (t : RecoveryTransfer), s.boot.transfer = some t → t.acked = false → t.last + 2000000 ≤ s.gtc →
    exec .recoveryAckTimer s =
      .next ((s.sendRecovery t.server 4 t.count []).modBoot fun b => { b with transfer := some { t with acked := true } })) ∧
  (∀ (s : State) (t : RecoveryTransfer), s.boot.transfer = some t → t.last + 5000000000 ≤ s.gtc →
    exec .recoveryTransferTimeout s = .next (s.modBoot fun b => { b with transfer := none }))

/-- STAGE takes the image written, or that of a sealed store object, for checking unless one is being checked or installed; an
object that is absent ends with result 9. The check that passes stages header and body with digest and version, FwState STAGED;
one that fails shows its number. INSTALL, with an image staged or an install failed and every slot EMPTY, erases the slot's
header and begins, or waits while an island is under test; it ends with the image in the slot, FwState INSTALLED (in recovery
the image boots), or FAILED with result 8. REBOOT with every slot EMPTY in RUNNING flushes a mounted store and resets with cause
2. COMMIT_SVN raises the fuses to FwSecurityVersion as far as they burn; result 10 where they do not. A command out of place
leaves result 7 and is refused. -/
def Obligations.FirmwareCommandsComplete : Prop :=
  (∀ s : State, s.get Obj.fwState ≠ 1 → s.get Obj.fwState ≠ 3 →
    let check (b : Bytes) : State := ((s.modBoot fun x => { x with checking := some b, staged := none }).setAll
      [(Obj.fwState, 1), (Obj.fwStagedDigest, 0), (Obj.fwStagedVersion, 0)]).ok
    (Accepts s Obj.fwCommand 1 → exec .stageImage s = .next (check (s.blob Obj.fwImage))) ∧
    (∀ b : Bytes, Accepts s Obj.fwCommand 2 → s.get Obj.bootState ≠ 1 → s.sealedObject (s.get Obj.fwSourceObject) = some b →
      exec .stageObject s = .next (check b)) ∧
    (Accepts s Obj.fwCommand 2 → s.get Obj.bootState ≠ 1 → s.sealedObject (s.get Obj.fwSourceObject) = none →
      exec .stageObject s = .next ((s.modBoot fun x => { x with staged := none }).setAll
        [(Obj.fwState, 0), (Obj.fwLastResult, 9), (Obj.fwStagedDigest, 0), (Obj.fwStagedVersion, 0)]).ok)) ∧
  (∀ (s : State) (b : Bytes), s.boot.checking = some b →
    let t := (s.modBoot fun x => { x with checking := none }).set Obj.fwLastResult (s.imageResult b)
    exec .fwCheckComplete s = .next (
      if s.imageResult b = 0 then
        (t.modBoot fun x => { x with staged := some (padTo 16384 b ++ imageBody b) }).setAll [(Obj.fwState, 2), (Obj.fwStagedDigest, imageDigest b),
          (Obj.fwStagedVersion, field b 8 2 * 2 ^ 48 + field b 0x0A 2 * 2 ^ 32 + field b 0x0C 2 * 2 ^ 16 + field b 0x0E 2)]
      else if (t.set Obj.fwState 0).get Obj.bootState = 1 then (t.set Obj.fwState 0).set Obj.recoveryFault (s.imageResult b)
      else t.set Obj.fwState 0)) ∧
  (∀ s : State, Accepts s Obj.fwCommand 3 → (s.get Obj.fwState = 2 ∨ s.get Obj.fwState = 5) → s.boot.staged.isSome = true →
    s.allEmpty = true →
    (s.isolated = [] → exec .install s =
      .next ((s.modBoot fun x => { x with slot := some [] }).setAll [(Obj.fwState, 3), (Obj.fwInstallProgress, 0)]).ok) ∧
    (s.isolated ≠ [] → exec .install s = .next (s.modBoot fun x => { x with waiting := some 3 }).ok)) ∧
  (∀ (s : State) (n : Nat) (b : Bytes), s.boot.staged = some b → s.get Obj.fwState = 3 → s.get Obj.bootState ≠ 1 →
    exec (.installComplete true n) s = .next ((s.modBoot fun x => { x with slot := some b }).setAll
      [(Obj.fwState, 4), (Obj.fwLastResult, 0), (Obj.fwInstallProgress, b.length)]) ∧
    exec (.installComplete false n) s =
      .next (s.setAll [(Obj.fwState, 5), (Obj.fwLastResult, 8), (Obj.fwInstallProgress, min n b.length)])) ∧
  (∀ (s : State) (n : Nat) (b : Bytes), s.boot.staged = some b → s.get Obj.fwState = 3 → s.get Obj.bootState = 1 →
    (∃ t : State, exec (.installComplete true n) s = .next t ∧ t.boot.slot = some b ∧ t.get Obj.fwState = 4 ∧ t.get Obj.bootCause = 4 ∧
      t.get Obj.bootState = 2 ∧ t.get (inst Obj.portState 0) = 0) ∧
    (∃ t : State, exec (.installComplete false n) s = .next t ∧ t.boot = s.boot ∧ t.get Obj.fwState = 5 ∧ t.get Obj.fwLastResult = 8 ∧
      t.get Obj.recoveryFault = 8)) ∧
  (∀ s : State, Accepts s Obj.fwCommand 4 → s.get Obj.fwState ≠ 1 → s.get Obj.fwState ≠ 3 → s.allEmpty = true → s.get Obj.bootState = 3 →
    (s.isolated = [] → exec .reboot s =
      .next (((if s.ok.mounted = true then s.ok.powerFailFlush else s.ok).switchBank true false).restart 2)) ∧
    (s.isolated ≠ [] → exec .reboot s = .next (s.modBoot fun x => { x with waiting := some 4 }).ok)) ∧
  (∀ (s : State) (burned : Nat), Accepts s Obj.fwCommand 5 → s.get Obj.bootState = 3 →
    let need := s.get Obj.fwSecurityVersion - s.get Obj.fuseSecurityVersion
    exec (.commitSvn burned) s = .next ((s.set Obj.fuseSecurityVersion (s.get Obj.fuseSecurityVersion + min need burned)).set
      Obj.fwLastResult (if need ≤ burned then 0 else 10)).ok) ∧
  (∀ (s : State) (burned : Nat),
    let late : State := (s.set Obj.fwLastResult 7).refused 0
    ((s.get Obj.fwState = 1 ∨ s.get Obj.fwState = 3) →
      (Accepts s Obj.fwCommand 1 → exec .stageImage s = .next late) ∧ (Accepts s Obj.fwCommand 2 → exec .stageObject s = .next late) ∧
      (Accepts s Obj.fwCommand 3 → exec .install s = .next late) ∧ (Accepts s Obj.fwCommand 4 → exec .reboot s = .next late)) ∧
    (s.allEmpty = false →
      (Accepts s Obj.fwCommand 3 → exec .install s = .next late) ∧ (Accepts s Obj.fwCommand 4 → exec .reboot s = .next late)) ∧
    (s.get Obj.bootState ≠ 3 → Accepts s Obj.fwCommand 5 → exec (.commitSvn burned) s = .next late))

/-- BIND_BOOT_FLASH, with IdentityState UNBOUND or REBIND_NEEDED and a binding left, takes the first counter below 2^32 - 1, burns a
binding and runs the identity steps again: with the counter advanced, the identity index is (binding number) x 2^32 + c and
IdentityState READY, otherwise COUNTER_FAILED. In any other case it is refused. A quote takes the registers and the nonce at its
acceptance with the next per-boot index, and its completion signs them; it is refused with result 3, 1 or 2 while one is being
made, without identity, or after index 65,535. MEASURE extends M7 with tag 0. ADD appends an absent UID while fewer than 256 are
listed, extends M5 with tag 1 and closes its connections; REMOVE takes a listed one out with tag 2; CLEAR empties the list with
tag 3; ADD to a full list and REMOVE of an absent UID are refused. -/
def Obligations.IdentityCommandsComplete : Prop :=
  bindingIndexes = 2 ^ 32 - 1 ∧
  (∀ (s : State) (l : List Nat) (a : Bool), Accepts s Obj.securityCommand 1 → (s.get Obj.identityState = 2 ∨ s.get Obj.identityState = 5) →
    s.get Obj.bindingCount < 16 →
    let t := s.set Obj.bindingCount (s.get Obj.bindingCount + 1)
    (∀ c, l.find? (fun c => decide (c < bindingIndexes)) = some c →
      exec (.bindBootFlash l a) s = .next (t.identitySteps { value := some c, advanced := a }).syncConns.ok ∧
      (a = true → (t.identitySteps { value := some c, advanced := a }).get Obj.identityState = 1 ∧
        (t.identitySteps { value := some c, advanced := a }).get Obj.identityIndex = s.get Obj.bindingCount * 2 ^ 32 + c) ∧
      (a = false → (t.identitySteps { value := some c, advanced := a }).get Obj.identityState = 3)) ∧
    (l.find? (fun c => decide (c < bindingIndexes)) = none → exec (.bindBootFlash l a) s = .next (s.refused 0))) ∧
  (∀ (s : State) (l : List Nat) (a : Bool), Accepts s Obj.securityCommand 1 →
    (s.get Obj.identityState ≠ 2 ∧ s.get Obj.identityState ≠ 5 ∨ 16 ≤ s.get Obj.bindingCount) →
    exec (.bindBootFlash l a) s = .next (s.refused 0)) ∧
  (∀ s : State, Accepts s Obj.quoteCommand 1 →
    let no (r : Nat) : State := (s.set Obj.quoteLastResult r).refused 0
    (s.boot.quoting.isSome = true → exec .quote s = .next (no 3)) ∧
    (s.boot.quoting = none → s.get Obj.identityState ≠ 1 → exec .quote s = .next (no 1)) ∧
    (s.boot.quoting = none → s.get Obj.identityState = 1 → 65535 < s.boot.nextIndex → exec .quote s = .next (no 2)) ∧
    (s.boot.quoting = none → s.get Obj.identityState = 1 → s.boot.nextIndex ≤ 65535 →
      exec .quote s = .next ((s.modBoot fun b => { b with
        quoting := some (s.quoteBody, s.boot.nextIndex)
        nextIndex := s.boot.nextIndex + 1 }).set Obj.bootKeyIndexesLeft (65535 - s.boot.nextIndex)).ok)) ∧
  (∀ (s : State) (body : Bytes) (i : Nat), s.boot.quoting = some (body, i) →
    ∃ t : State, exec .quoteComplete s = .next t ∧ t.boot = { s.boot with quoting := none } ∧ t.get Obj.quoteLastResult = 0 ∧
      t.blob Obj.quote =
        body ++ padTo 2692 (Config.bootSign s.boot.keyDraw i body) ++ s.blob Obj.bootCertificate ++ identityCertificate ∧
      ∀ k, k ≠ Obj.quoteLastResult → k ≠ Obj.quotesIssued → t.get k = s.get k) ∧
  (∀ s : State, Accepts s Obj.measureCommand 1 → exec .measure s = .next (s.set (Obj.measurement + 7)
    (digestNat (leBytes 32 (s.get (Obj.measurement + 7)) ++ leBytes 1 0 ++ leBytes 32 (s.get Obj.measureValue)))).ok) ∧
  (∀ s : State,
    let uid := s.get Obj.revokeUid
    let change (l : List Nat) (tag : Nat) : State :=
      let b := l.flatMap (leBytes 16)
      let t := ((s.setBlob Obj.revokedUids b).set Obj.revokedUidCount l.length).recordWrite Obj.revokedUids b
      t.set (Obj.measurement + 5) (digestNat (leBytes 32 (t.get (Obj.measurement + 5)) ++ leBytes 1 tag ++ leBytes 16 uid))
    (Accepts s Obj.revokeCommand 1 → uid ∉ s.revokedList → s.revokedList.length < 256 →
      exec .revokeAdd s = .next ((change (s.revokedList ++ [uid]) 1).closeRevoked uid).ok) ∧
    (Accepts s Obj.revokeCommand 1 → uid ∈ s.revokedList → exec .revokeAdd s = .next s.ok) ∧
    (Accepts s Obj.revokeCommand 1 → uid ∉ s.revokedList → 256 ≤ s.revokedList.length → exec .revokeAdd s = .next (s.refused 0)) ∧
    (Accepts s Obj.revokeCommand 2 → uid ∈ s.revokedList →
      exec .revokeRemove s = .next (change (s.revokedList.filter (· != uid)) 2).ok) ∧
    (Accepts s Obj.revokeCommand 2 → uid ∉ s.revokedList → exec .revokeRemove s = .next (s.refused 0)) ∧
    (Accepts s Obj.revokeCommand 3 → exec .revokeClear s = .next (change [] 3).ok))

/-- A controller that is bus-off hears nothing; a frame that breaks its rules is discarded and counted, and one for another address
is none of the unit's. A CONTROL frame that is legal and addressed as its table says is counted as received and acts: WALK
counts itself, ends every open transfer with 0x0006, leaves the unit unaddressed with NEXT and BASE set and CHAIN_OUT low;
WALK_END sets ChainLength; RATE_SWITCH takes effect 1,000,000 ticks later, and then what waited goes out; EVENT_ACK removes the
events up to its sequence; HELLO_QUERY has an unaddressed unit say HELLO. A CLAIM of another unit under NEXT raises NEXT, and
one heard while this unit's own is held is a conflict. -/
def Obligations.BusControlComplete : Prop :=
  (∀ (s : State) (f : BusFrame) (o : Outside) (c : Instr),
    c ∈ [.walk f, .walkEnd f, .rateSwitch f, .eventAck f, .helloQuery f, .claimReceived f, .bdpRead f, .bdpWrite f o, .segWrite f, .segRead f,
      .stageWrite f, .stageRead f, .bdpAbort f, .segment f o, .segReadResponse f, .block f o, .blockAck f] →
    (s.bus.busOff = true → exec c s = .next s) ∧
    (s.bus.busOff = false → frameLegal f = false → exec c s = .next (s.bump Obj.busFramesDiscarded)) ∧
    (frameLegal f = true → f.dest ≠ 127 → f.dest ≠ s.get Obj.busAddress → exec c s = .next s)) ∧
  (∀ (s : State) (f : BusFrame), s.bus.busOff = false → frameLegal f = true → f.function = 0 →
    let t := s.bump Obj.busFramesReceived
    (f.dest = 127 →
      (controlOp 1 [(1, 1)] f.payload = true → 1 ≤ byteAt f.payload 1 → byteAt f.payload 1 ≤ 120 →
        let base := byteAt f.payload 1
        let u := t.bus.transfers.foldl (fun (t : State) _ => (t.set Obj.bdpLastAbort 0x0006).bump Obj.transfersAborted) t
        let u := (u.setAll [(Obj.busAddress, 125), (Obj.busAddressState, 0), (Obj.chainPosition, 0)]).countW 32 Obj.walksSeen 1
        exec (.walk f) s = .next ((u.modBus fun b => { b with
          next := base
          base := base
          walkTick := some u.gtc
          claimTick := none
          backoffUntil := none
          conflictSeen := false
          transfers := [] }).driveChain false)) ∧
      (controlOp 2 [(1, 1)] f.payload = true → byteAt f.payload 1 ≤ 120 →
        exec (.walkEnd f) s = .next (t.set Obj.chainLength (byteAt f.payload 1))) ∧
      (controlOp 3 [(4, 4)] f.payload = true → field f.payload 4 4 ∈ [2000000, 4000000, 5000000] →
        exec (.rateSwitch f) s = .next (t.modBus fun b => { b with rateSwitch := some (field f.payload 4 4, s.gtc + 1000000) })) ∧
      (controlOp 5 [] f.payload = true →
        exec (.helloQuery f) s = .next (if t.get Obj.busAddressState = 1 then t
          else (t.modBus fun b => { b with lastHello := s.gtc }).sendFrame 2 127 125 claimTag (s.claimPayload 2)))) ∧
    (f.dest = s.get Obj.busAddress → f.dest ≠ 127 → controlOp 4 [(2, 2)] f.payload = true → field f.payload 2 2 ≠ 0 →
      exec (.eventAck f) s = .next (t.modBus fun b =>
        { b with events := b.events.filter fun e => decide (32767 < (field f.payload 2 2 + 65535 - e.seq) % 65535) }))) ∧
  (∀ (s : State) (f : BusFrame), s.bus.busOff = false → frameLegal f = true → f.function = 2 → byteAt f.payload 0 = 1 →
    s.bus.walkTick.isSome = true → f.src = s.bus.next →
    let t := (s.bump Obj.busFramesReceived).modBus fun b => { b with next := s.bus.next + 1, claimTick := none }
    (s.bus.claimTick = none → exec (.claimReceived f) s = .next t) ∧
    (s.bus.claimTick.isSome = true → exec (.claimReceived f) s =
      .next ((t.modBus fun b => { b with conflictSeen := true }).countW 32 Obj.addressConflicts 1))) ∧
  (∀ (s : State) (rate due : Nat), s.bus.rateSwitch = some (rate, due) → due ≤ s.gtc →
    exec .rateSwitchApply s = .next (s.modBus fun b => { b with rate := rate, rateSwitch := none }).flushEvents) ∧
  (∀ f : BusFrame, frameLegal f = true → f.src = 0 ∨ f.src ≤ 120 ∨ f.src = 125 ∧ f.function = 2)

/-- A REQUEST to an addressed unit whose TRANSFER is its TAG and that is as long as its command needs is answered 0x0002 where its
command is unknown or a reserved field is set, and 0x0003 where the transfer is open already. READ answers the value of up to 48
bytes, or the code of the check that failed, 0x0013 where the value is longer. WRITE carries out the write and answers with its
outcome, or at once with what the request alone shows. SEG_WRITE and STAGE_WRITE open a transfer where there is room, SEG_READ
and STAGE_READ answer with the length, open it and send the first data; without room they are answered 0x0003. ABORT discards an
open transfer without a response and counts it. An open transfer idle for BdpTimeoutTicks ends with 0x0001. -/
def Obligations.DictionaryProtocolComplete : Prop :=
  (∀ (s : State) (f : BusFrame) (o : Outside),
    let r := requestOf f.payload
    let t := s.bump Obj.busFramesReceived
    let comes (need : Nat) : Prop := s.bus.busOff = false ∧ frameLegal f = true ∧ (f.dest = 127 ∨ f.dest = s.get Obj.busAddress) ∧
      f.function = 3 ∧ s.get Obj.busAddressState = 1 ∧ need ≤ f.payload.length ∧ r.num = f.tag
    let asks (c : Nat) : Prop := comes (if 3 ≤ c ∧ c ≤ 6 then 24 else 16) ∧ r.command = c ∧ reservedSet f.payload = false
    (∀ c : Instr, c ∈ [.bdpRead f, .bdpWrite f o, .segWrite f, .segRead f, .stageWrite f, .stageRead f, .bdpAbort f] →
      comes 24 → (r.command = 0 ∨ 7 < r.command ∨ reservedSet f.payload = true) →
        exec c s = .next (t.abortTransfer r.num r.key 0x0002 0)) ∧
    (∀ (c : Instr) (n : Nat), (c, n) ∈ [(.bdpRead f, 1), (.bdpWrite f o, 2), (.segWrite f, 3), (.segRead f, 4), (.stageWrite f, 5),
        (.stageRead f, 6)] → asks n → (s.transfer r.num).isSome = true →
      exec c s = .next (t.abortTransfer r.num r.key 0x0003 0)) ∧
    (asks 1 → s.transfer r.num = none →
      (∀ v, readObject t r.key 0 0 = .ok v → (t.valueOf r.key).length ≤ 48 →
        exec (.bdpRead f) s = .next (State.respond { ((t.noteRead r.key).bump Obj.transfersCompleted) with answer := { data := t.valueOf r.key } }
          r.num r.key 0 (t.valueOf r.key).length 0 (t.valueOf r.key))) ∧
      (∀ v, readObject t r.key 0 0 = .ok v → 48 < (t.valueOf r.key).length →
        exec (.bdpRead f) s = .next (t.abortTransfer r.num r.key 0x0013 0)) ∧
      (∀ e, readObject t r.key 0 0 = .error e → exec (.bdpRead f) s = .next (t.abortTransfer r.num r.key e.1 e.2))) ∧
    (asks 2 → s.transfer r.num = none → r.len ≤ r.data.length →
      (∀ e, requestAbort t (some .expedited) r.key 0 r.len = some e →
        exec (.bdpWrite f o) s = .next (t.abortTransfer r.num r.key e.1 e.2)) ∧
      (requestAbort t (some .expedited) r.key 0 r.len = none → exec (.bdpWrite f o) s =
        .next ((writeObject o (some .expedited) r.key 0 (r.data.take r.len) t).answerWrite r.num r.key r.len))) ∧
    (∀ (c : Instr) (n : Nat) (sv : Service) (ws : WriteService),
      (c, n, sv, ws) ∈ [(.segWrite f, 3, .segWrite, .segmented), (.stageWrite f, 5, .stageWrite, .staged)] →
      asks n → s.transfer r.num = none →
      (∀ e, requestAbort t (some ws) r.key r.offset r.len = some e → exec c s = .next (t.abortTransfer r.num r.key e.1 e.2)) ∧
      (requestAbort t (some ws) r.key r.offset r.len = none → s.transferRoom sv = false →
        exec c s = .next (t.abortTransfer r.num r.key 0x0003 0)) ∧
      (requestAbort t (some ws) r.key r.offset r.len = none → s.transferRoom sv = true →
        exec c s = .next (t.openTransfer { num := r.num, service := sv, key := r.key, offset := r.offset, length := r.len, crc := r.crc
                                           data := [], next := 0, block := 0, blockFrames := t.get Obj.blockFrames, last := s.gtc }))) ∧
    (∀ (c : Instr) (n : Nat) (sv : Service) (v : Bytes), (c, n, sv) ∈ [(.segRead f, 4, .segRead), (.stageRead f, 6, .stageRead)] →
      asks n → s.transfer r.num = none → readObject t r.key r.offset r.len = .ok v → 0 < r.len → r.len ≤ 65536 →
      (n = 6 → ((findRow r.key).map fun x => x.ty.isDomain).getD false = true) → s.transferRoom sv = true →
      let x : Transfer :=
        { num := r.num, service := sv, key := r.key, offset := r.offset, length := v.length, crc := r.crc, data := v, next := 0, block := 0
          blockFrames := t.get Obj.blockFrames, last := s.gtc };
      let u : State := { ((t.noteRead r.key).respond r.num r.key 0 v.length 0 (leBytes 4 r.offset ++ zeros 4)) with answer := { data := v } }
      exec c s = .next (if v = [] then u.bump Obj.transfersCompleted
        else if n = 6 then (u.openTransfer x).sendBlock x else (u.openTransfer x).sendSegment x)) ∧
    (∀ (c : Instr) (n : Nat) (sv : Service) (e : Nat × Nat), (c, n, sv) ∈ [(.segRead f, 4, .segRead), (.stageRead f, 6, .stageRead)] →
      asks n → s.transfer r.num = none → readObject t r.key r.offset r.len = .error e →
      exec c s = .next (t.abortTransfer r.num r.key e.1 e.2)) ∧
    (asks 7 → (s.transfer r.num).isSome = true → exec (.bdpAbort f) s = .next ((t.dropTransfer r.num).bump Obj.transfersAborted)) ∧
    (asks 7 → s.transfer r.num = none → exec (.bdpAbort f) s = .next t)) ∧
  (∀ (s : State) (n : Nat) (x : Transfer), s.transfer n = some x → x.last + s.get Obj.bdpTimeoutTicks ≤ s.gtc →
    exec (.bdpTimeout n) s = .next ((s.dropTransfer n).abortTransfer n x.key 0x0001 0))

/-- A SEGMENT in order joins its data to an open SEG_WRITE: the last that completes LENGTH completes the write, whose CRC is
compared first, one that ends early or late is answered 0x0013, any other is answered with the length so far; out of order ends
the transfer with 0x0004. A BLOCK in order joins a STAGE_WRITE; after the last frame of a block it is acknowledged with the
count taken, and a block taken whole goes on with the next or ends the transfer. The manager's answer to a SEGMENT sends the
next or completes the SEG_READ, and a code in it discards it; its BLOCK_ACK sends the rest of a block again, the next block, or
completes the STAGE_READ. -/
def Obligations.TransferDataComplete : Prop :=
  (∀ (s : State) (f : BusFrame) (o : Outside) (x : Transfer), s.bus.busOff = false → frameLegal f = true →
    (f.dest = 127 ∨ f.dest = s.get Obj.busAddress) →
    let t := s.bump Obj.busFramesReceived
    (f.function = 5 → s.transfer (byteAt f.payload 0) = some x → x.service = .segWrite → 3 ≤ f.payload.length →
      let y : Transfer :=
        { x with data := x.data ++ ((f.payload.drop 2).take 62).take (x.length - x.data.length), next := x.next + 1, last := s.gtc }
      let last := bit (byteAt f.payload 1) 0
      (f.tag ≠ x.next % 2048 → exec (.segment f o) s = .next ((t.dropTransfer x.num).abortTransfer x.num x.key 0x0004 0)) ∧
      (f.tag = x.next % 2048 → last = true → y.data.length = x.length →
        exec (.segment f o) s = .next (t.completeWrite o .segmented y)) ∧
      (f.tag = x.next % 2048 → last = (decide (y.data.length ≠ x.length)) →
        exec (.segment f o) s = .next ((t.dropTransfer x.num).abortTransfer x.num x.key 0x0013 0)) ∧
      (f.tag = x.next % 2048 → last = false → y.data.length ≠ x.length →
        exec (.segment f o) s = .next ((t.putTransfer y).respond x.num x.key 0 y.data.length 0 []))) ∧
    (f.function = 4 → s.transfer (byteAt f.payload 1) = some x → 16 ≤ f.payload.length → x.num = f.tag → x.service = .segRead →
      (byteAt f.payload 0 ≠ 0 → exec (.segReadResponse f) s = .next ((t.dropTransfer x.num).bump Obj.transfersAborted)) ∧
      (byteAt f.payload 0 = 0 → x.data.length ≤ 62 * (x.next + 1) →
        exec (.segReadResponse f) s = .next ((t.dropTransfer x.num).bump Obj.transfersCompleted)) ∧
      (byteAt f.payload 0 = 0 → 62 * (x.next + 1) < x.data.length →
        let y : Transfer := { x with next := x.next + 1, last := s.gtc };
        exec (.segReadResponse f) s = .next ((t.putTransfer y).sendSegment y))) ∧
    (f.function = 6 → s.stagedTransfer .stageWrite = some x → f.tag / 64 = x.block % 32 →
      let i := f.tag % 64
      let y : Transfer :=
        { x with
          data := if i = x.next then x.data ++ (padTo 64 f.payload).take (x.length - x.data.length) else x.data
          next := if i = x.next then x.next + 1 else x.next
          last := s.gtc }
      (i + 1 < y.frames → exec (.block f o) s = .next (t.putTransfer y)) ∧
      (y.frames ≤ i + 1 → y.next < y.frames → exec (.block f o) s = .next ((t.putTransfer y).ackBlock y)) ∧
      (y.frames ≤ i + 1 → y.frames ≤ y.next → exec (.block f o) s = .next (t.takeBlock o y))) ∧
    (f.function = 7 → s.stagedTransfer .stageRead = some x → f.tag / 64 = x.block % 32 → 8 ≤ f.payload.length →
      let n := byteAt f.payload 0
      (n < x.frames → let y : Transfer := { x with next := n, last := s.gtc };
        exec (.blockAck f) s = .next ((t.putTransfer y).sendBlock y)) ∧
      (n = x.frames → x.length ≤ 64 * (x.block + 1) * x.blockFrames →
        exec (.blockAck f) s = .next ((t.dropTransfer x.num).bump Obj.transfersCompleted)) ∧
      (n = x.frames → 64 * (x.block + 1) * x.blockFrames < x.length →
        let y : Transfer := { x with block := x.block + 1, next := 0, last := s.gtc };
        exec (.blockAck f) s = .next ((t.putTransfer y).sendBlock y)))) ∧
  (∀ (s : State) (o : Outside) (ws : WriteService) (x : Transfer),
    (crc32c x.data ≠ x.crc → s.completeWrite o ws x = (s.dropTransfer x.num).abortTransfer x.num x.key 0x0005 0) ∧
    (crc32c x.data = x.crc → s.completeWrite o ws x =
      (writeObject o (some ws) x.key x.offset x.data (s.dropTransfer x.num)).answerWrite x.num x.key x.length))

/-- A walking unit that is eligible claims NEXT: a CLAIM sent is held, one lost or opposed is a conflict, one that collided waits a
random delay below 1,000,000 ticks; beyond 120 it stays unaddressed, CHAIN_OUT rises and it says HELLO. 100,000 ticks after its
claim it takes its address and position, CHAIN_OUT rises and its events go out. A fall of CHAIN_IN at an addressed unit sets
ChainBroken with an event, and a rise clears it with one. A frame under the unit's own address counts a conflict, leaves it
unaddressed and says HELLO, which an unaddressed unit repeats every 10^9 ticks. Events not acknowledged for EventRepeatTicks are
sent again. An error frame counts and sets the error counters, and may put the controller off the bus, from which it recovers
with both at 0. -/
def Obligations.ChainAndControllerComplete : Prop :=
  (∀ (s : State) (e : ClaimEnd) (contested : Bool) (w h : Nat), s.bus.walkTick = some w → s.bus.chainHighSince = some h → s.bus.busOff = false →
    s.bus.rateSwitch = none → s.bus.claimTick = none → s.bus.backoffUntil = none → w + 1000000 ≤ s.gtc →
    (h ≤ w + 1000000 ∨ h + 10000 ≤ s.gtc) →
    (120 < s.bus.next → exec (.walkEligible e contested) s =
      .next ((s.modBus fun b => { b with walkTick := none }).driveChain true).sendHello) ∧
    (s.bus.next ≤ 120 →
      let t := (s.sendFrame 2 127 s.bus.next claimTag (s.claimPayload 1)).modBus fun b => { b with claimTick := some s.gtc }
      exec (.walkEligible .sent false) s = .next t ∧ exec (.walkEligible .sent true) s = .next t.noteConflict ∧
      exec (.walkEligible .lost contested) s = .next s.noteConflict ∧
      exec (.walkEligible .collided contested) s =
        .next (s.modBus fun b => { b with backoffUntil := some (s.gtc + s.free % 1000000) }).useFree)) ∧
  (∀ s : State, s.noteConflict = (s.modBus fun b => { b with conflictSeen := true }).countW 32 Obj.addressConflicts 1) ∧
  (∀ (s : State) (t : Nat), s.bus.claimTick = some t → t + 100000 ≤ s.gtc →
    let u := s.setAll [(Obj.busAddress, s.bus.next), (Obj.busAddressState, 1), (Obj.chainPosition, s.bus.next - s.bus.base + 1)]
    exec .claimHoldExpiry s =
      .next ((u.modBus fun b => { b with walkTick := none, claimTick := none }).driveChain true).flushEvents) ∧
  (∀ (s : State) (t : Nat), s.bus.backoffUntil = some t → t ≤ s.gtc →
    exec .claimCollisionBackoff s = .next (s.modBus fun b => { b with backoffUntil := none })) ∧
  (∀ s : State,
    let fall := (s.set Obj.chainInLevel 0).modBus fun b => { b with chainHighSince := none }
    let rise := (s.set Obj.chainInLevel 1).modBus fun b => { b with chainHighSince := some (b.chainHighSince.getD s.gtc) }
    (s.get Obj.busAddressState = 1 → s.get Obj.chainBroken = 0 → exec .chainInFall s = .next ((fall.set Obj.chainBroken 1).postBus 1)) ∧
    ((s.get Obj.busAddressState ≠ 1 ∨ s.get Obj.chainBroken ≠ 0) → exec .chainInFall s = .next fall) ∧
    (s.get Obj.chainBroken = 1 → exec .chainInRise s = .next ((rise.set Obj.chainBroken 0).postBus 2)) ∧
    (s.get Obj.chainBroken ≠ 1 → exec .chainInRise s = .next rise)) ∧
  (∀ (s : State) (f : BusFrame), s.bus.busOff = false → s.get Obj.busAddressState = 1 → frameLegal f = true → f.src = s.get Obj.busAddress →
    exec (.addressConflict f) s =
      .next (((s.setAll [(Obj.busAddress, 125), (Obj.busAddressState, 2), (Obj.chainPosition, 0)]).noteConflict).sendHello)) ∧
  (∀ s : State, s.get Obj.busAddressState ≠ 1 → s.bus.busOff = false → s.bus.rateSwitch = none → s.bus.lastHello + 1000000000 ≤ s.gtc →
    exec .hello s = .next s.sendHello) ∧
  (∀ s : State, s.eventsFlow = true →
    let due (e : BusEvent) : Bool := e.sentAt.any fun t => decide (t + s.get Obj.eventRepeatTicks ≤ s.gtc)
    exec .eventRepeat s = .next (((s.bus.events.filter due).foldl (fun (u : State) e => u.sendEvent e) s).modBus fun b =>
      { b with events := b.events.map fun e => if due e = true then { e with sentAt := some s.gtc } else e })) ∧
  (∀ s : State, s.eventsFlow = false → exec .eventRepeat s = .next s) ∧
  (∀ s : State, s.bus.busOff = true → exec .busOffRecovery s = .next (State.flushEvents
    (((s.modBus fun b => { b with busOff := false }).setAll [(Obj.transmitErrorCount, 0), (Obj.receiveErrorCount, 0)]).postBus 3))) ∧
  (∀ (s : State) (tec rec_ : Nat), s.bus.busOff = false →
    let t := (s.bump Obj.busErrorFrames).setAll [(Obj.transmitErrorCount, min tec 255), (Obj.receiveErrorCount, min rec_ 255)]
    exec (.errorFrame tec rec_ false) s = .next t ∧
    exec (.errorFrame tec rec_ true) s = .next ((t.modBus fun b => { b with busOff := true }).countW 32 Obj.busOffCount 1))

/-- A write that fails a step of the checks is answered with that step's code and changes nothing else. A DOMAIN takes its bytes at
OFFSET: the window of a slot only while the slot is STAGED with its window open, else 0x801A, and ObjectData only with an open
object's window, else 0x5012. A STR takes well-formed UTF-8 without a zero byte within its limit, else 0x0014. A value of fixed
size outside its range is answered 0x0014; one for a persistent object while 256 records wait 0x0018; any other goes to the
object's owner, and an object of no owner, or a step object while it may be written, holds the value and, where it persists,
waits for its record. -/
def Obligations.RegisterWriteComplete : Prop :=
  (∀ (s : State) (o : Outside) (k off : Nat) (v : Bytes) (e : Nat × Nat), requestAbort s none k off v.length = some e →
    exec (.registerWrite k off v o) s = .next (s.refuse e.1 e.2)) ∧
  (∀ (s : State) (o : Outside) (k off : Nat) (v : Bytes) (r : ObjRow), accessWrite s k = none → findRow k = some r →
    (∀ m, r.ty = .domain m → (m < off + v.length → exec (.registerWrite k off v o) s = .next (s.refuse 0x0019 0)) ∧
      (off + v.length ≤ m → persistFull s k = true → exec (.registerWrite k off v o) s = .next (s.refuse 0x0018 0)) ∧
      (off + v.length ≤ m → persistFull s k = false → exec (.registerWrite k off v o) s = .next (domainWrite k off v s))) ∧
    (∀ m, r.ty = .str m → (off ≠ 0 → exec (.registerWrite k off v o) s = .next (s.refuse 0x0013 0)) ∧
      (off = 0 → persistFull s k = false → exec (.registerWrite k off v o) s =
        .next (if v.length ≤ m ∧ (0 : Byte) ∉ v ∧ wellFormed v = true then ((s.setBlob k v).recordWrite k v).ok else s.refuse 0x0014 0))) ∧
    (∀ n, r.ty.size = some n →
      (off ≠ 0 ∨ n ≠ v.length → exec (.registerWrite k off v o) s = .next (s.refuse 0x0013 0)) ∧
      (off = 0 → n = v.length → (r.inRange (leNat v) = false ∨ relationOk s k (leNat v) = false) →
        exec (.registerWrite k off v o) s = .next (s.refuse 0x0014 (rangeReason k))) ∧
      (off = 0 → n = v.length → r.inRange (leNat v) = true → relationOk s k (leNat v) = true → persistFull s k = true →
        exec (.registerWrite k off v o) s = .next (s.refuse 0x0018 0)) ∧
      (off = 0 → n = v.length → r.inRange (leNat v) = true → relationOk s k (leNat v) = true → persistFull s k = false →
        exec (.registerWrite k off v o) s = .next (ownerWrite o k (leNat v) s)))) ∧
  (∀ (s : State) (o : Outside) (k v : Nat), (owners o).findSome? (fun e => (instOf e.1 e.2.1 k).map fun i => e.2.2 i v) = none →
    (stepRestricted k = none → ownerWrite o k v s = s.accept k v) ∧
    (∀ slot, stepRestricted k = some slot → s.stepState slot = 1 ∨ s.jobState slot = 2 → ownerWrite o k v s = s.accept k v) ∧
    (∀ slot, stepRestricted k = some slot → s.stepState slot ≠ 1 → s.jobState slot ≠ 2 → ownerWrite o k v s = s.refused 0x801A)) ∧
  (∀ (s : State) (k v : Nat), (s.accept k v).get k = v ∧ (∀ j, j ≠ k → (s.accept k v).get j = s.get j) ∧ (s.accept k v).answer = {} ∧
    (s.accept k v).blobs = s.blobs ∧ (s.accept k v).slots = s.slots) ∧
  (∀ (s : State) (slot off k : Nat) (v : Bytes), instOf Obj.manifestImage 64 k = some slot →
    (s.jobState slot = 1 → (s.slot slot).windowOpen = true → domainWrite k off v s = (s.modSlot slot fun x =>
      { x with window := Memory.write x.window off v, windowTop := if v = [] then x.windowTop else max x.windowTop (off + v.length) }).ok) ∧
    ((s.jobState slot ≠ 1 ∨ (s.slot slot).windowOpen = false) → domainWrite k off v s = s.refused 0x801A)) ∧
  (∀ (s : State) (off : Nat) (v : Bytes), (∀ w ∈ s.objectWindows, w.object ≠ s.get Obj.objectSelect) →
    domainWrite Obj.objectData off v s = s.refused 0x5012)

/-- While no image is being installed, the oldest pending record is committed under the next SEQ where it fits, its 32 bytes and its
padded value never across a block; a program refused three times is counted and the record given up. With less than 131,072
erased bytes compaction copies the committed record of each object whose value differs from its default under a new SEQ into
erased blocks, and counts; an erase refused three times counts an error instead. RESTORE_DEFAULTS with every slot EMPTY erases
all records but those of RevokedUids and leaves every value in force; it is refused with 0x801A otherwise and in RETAIN. -/
def Obligations.PersistenceComplete : Prop :=
  (∀ (s : State) (n k tick : Nat) (v : Bytes) (rest : List (Nat × Bytes × Nat)), s.get Obj.fwState ≠ 3 →
    s.persist.pending = (k, v, tick) :: rest →
    let size := 32 + roundUp v.length 16
    ((s.persist.fill + size ≤ 65536 ∨ 0 < s.persist.erased) → n < 3 →
      exec (.persistCommit n) s = .next { s with
        persist := { s.persist with
          pending := rest
          records := s.persist.records ++ [{ seq := s.persist.nextSeq, key := k, value := v, committed := true }]
          nextSeq := s.persist.nextSeq + 1
          erased := if s.persist.fill + size ≤ 65536 then s.persist.erased else s.persist.erased - 1
          fill := if s.persist.fill + size ≤ 65536 then s.persist.fill + size else size } }) ∧
    ((s.persist.fill + size ≤ 65536 ∨ 0 < s.persist.erased) → 3 ≤ n →
      exec (.persistCommit n) s =
        .next (State.countW { s with persist := { s.persist with pending := rest } } 32 Obj.persistErrors 1)) ∧
    (65536 < s.persist.fill + size → s.persist.erased = 0 → exec (.persistCommit n) s = .next s)) ∧
  (∀ (s : State) (n : Nat), (s.get Obj.fwState = 3 ∨ s.persist.pending = []) → exec (.persistCommit n) s = .next s) ∧
  (∀ (s : State) (n : Nat), s.get Obj.fwState ≠ 3 → s.persist.erased * 65536 + (65536 - s.persist.fill) < 131072 →
    (3 ≤ n → exec (.persistCompaction n) s = .next (s.countW 32 Obj.persistErrors 1)) ∧
    (n < 3 → ∃ t : State, exec (.persistCompaction n) s = .next t ∧ t.persist.pending = s.persist.pending ∧
      t.get Obj.persistCompactions = satAdd (2 ^ 32 - 1) (s.get Obj.persistCompactions) 1 ∧
      (∀ r ∈ t.persist.records, r.committed = true ∧ s.persist.nextSeq ≤ r.seq ∧ committedValue s.persist r.key = some r.value ∧
        r.value ≠ defaultBytes r.key) ∧
      (∀ k v, (findRow k).isSome = true → committedValue s.persist k = some v → v ≠ defaultBytes k →
        ∃ r ∈ t.persist.records, r.key = k ∧ r.value = v))) ∧
  (∀ s : State, Accepts s Obj.persistCommand 1 → s.get Obj.powerState ≠ 2 →
    (s.allEmpty = true → ∃ t : State, exec .restoreDefaults s = .next t ∧ t.dict = s.dict ∧ t.blobs = s.blobs ∧ t.answer = {} ∧
      t.persist.records = s.persist.records.filter (fun r => r.key == Obj.revokedUids) ∧
      t.persist.pending = s.persist.pending.filter (fun e => e.1 == Obj.revokedUids)) ∧
    (s.allEmpty = false → exec .restoreDefaults s = .next (s.refused 0x801A))) ∧
  (∀ s : State, Accepts s Obj.persistCommand 1 → s.get Obj.powerState = 2 → exec .restoreDefaults s = .next (s.refused 0))

/-- A control word that sets no reserved bit, names an event of the bank, chains only an odd counter and filters as the event allows
is taken; any other is refused as out of range. A written value replaces the counter's and clears its overflow. CLEAR_ALL zeroes
every control word, value and overflow; STOP_ALL clears every ENABLE bit. Each marks the next record. At a multiple of
SnapshotTicks with SnapshotEnable 1 a record of the next number joins the ring of SnapshotRingEntries, newest last, and the port
objects are derived again from the window; with it 0 the snapshot is missed and counted. -/
def Obligations.CounterCommandsComplete : Prop :=
  (∀ (s : State) (b n w : Nat), Accepts s (ctrKey Obj.counterControl b n) w →
    let chainBad : Prop := bit w 30 = true ∧ n % 2 = 0
    let filterOk : Prop := ∃ units slot, eventFilter b (bits w 0 12) = some (units, slot) ∧
      (bits w 24 4 = 0 ∨ (bits w 24 4 = 1 ∧ slot = true ∧ bits w 16 8 < 64) ∨ (bits w 24 4 = 2 ∧ ∃ u, units = some u ∧ bits w 16 8 < u))
    (bits w 28 2 = 0 → bits w 12 4 = 0 → ¬ chainBad → filterOk → exec (.counterControlWrite b n w) s =
      .next (State.set { s with counters := { s.counters with reprogrammed := true } } (ctrKey Obj.counterControl b n) w).ok) ∧
    ((bits w 28 2 ≠ 0 ∨ bits w 12 4 ≠ 0 ∨ chainBad ∨ eventFilter b (bits w 0 12) = none) →
      exec (.counterControlWrite b n w) s = .next (s.refuse 0x0014 0))) ∧
  (∀ (s : State) (b n v : Nat), Accepts s (ctrKey Obj.counterValue b n) v → exec (.counterValueWrite b n v) s =
    .next ((State.set { s with counters := { s.counters with reprogrammed := true } } (ctrKey Obj.counterValue b n) v).set
      (ctrKey Obj.counterOverflowed b n) 0).ok) ∧
  (∀ s : State, Accepts s Obj.counterCommand 1 → ∃ t : State, exec .clearAll s = .next t ∧ t.answer = {} ∧
    t.counters = { s.counters with reprogrammed := true } ∧ (∀ b n, b < 8 → n < bankCounterCount b →
      t.get (ctrKey Obj.counterControl b n) = 0 ∧ t.get (ctrKey Obj.counterValue b n) = 0 ∧ t.get (ctrKey Obj.counterOverflowed b n) = 0) ∧
    ∀ k, (∀ b n, b < 8 → n < bankCounterCount b → k ≠ ctrKey Obj.counterControl b n ∧ k ≠ ctrKey Obj.counterValue b n ∧
      k ≠ ctrKey Obj.counterOverflowed b n) → t.get k = s.get k) ∧
  (∀ s : State, Accepts s Obj.counterCommand 2 → ∃ t : State, exec .stopAll s = .next t ∧ t.answer = {} ∧
    t.counters = { s.counters with reprogrammed := true } ∧ (∀ b n, b < 8 → n < bankCounterCount b →
      t.get (ctrKey Obj.counterControl b n) = s.get (ctrKey Obj.counterControl b n) % 2 ^ 31) ∧
    ∀ k, (∀ b n, b < 8 → n < bankCounterCount b → k ≠ ctrKey Obj.counterControl b n) → t.get k = s.get k) ∧
  (∀ s : State, s.gtc % s.get Obj.snapshotTicks = 0 →
    (s.get Obj.snapshotEnable = 0 → exec .snapshot s =
      .next (State.bump { s with counters := { s.counters with missed := s.counters.missed + 1 } } Obj.snapshotsMissed)) ∧
    (s.get Obj.snapshotEnable ≠ 0 →
      let c := s.counters
      let r : SnapRec :=
        { seq := s.get Obj.snapshotSeq + 1, tick := s.gtc
          bytes := snapshotBytes s (s.get Obj.snapshotSeq + 1) ((c.ring.getLast?.map SnapRec.tick).getD 0) }
      let ring := c.ring.drop (c.ring.length + 1 - s.get Obj.snapshotRingEntries) ++ [r]
      let t : State := { s with counters := { c with ring := ring, missed := 0, stepped := false, reprogrammed := false } };
      exec .snapshot s = .next ((List.range 16).foldl (portBandwidth (s.get Obj.bandwidthWindowSnapshots) (windowRange ring.reverse))
        (t.set Obj.snapshotSeq (s.get Obj.snapshotSeq + 1))))) ∧
  (∀ s : State, s.gtc % s.get Obj.snapshotTicks ≠ 0 → exec .snapshot s = .next s)

/-- LBIST with every slot EMPTY and no test running checks clock, voltage, temperature and hold-up of the selected islands in this
order; the first that fails is the result (3, 4, 5, 6), and otherwise the islands are tested, LbistParallel at a time. An
island's end reopens it: cut short by a stop or a failed condition it is only re-initialised, otherwise its failing partitions
are shown and act, a failing shared partition resets the device, and the next islands start. The marches run over the selected
arrays, the destructive one only over arrays that hold nothing; a word test spares the failing rows, and the end of a march of
an array records it. STOP lets the islands under test finish and begins nothing else. While a test runs a new one is refused
with result 8. -/
def Obligations.SelftestCommandsComplete : Prop :=
  (∀ (s : State) (l : List IslandReading), Accepts s Obj.selftestCommand 1 →
    (s.allEmpty = false → exec (.lbist l) s = .next (s.refused 0x801A)) ∧
    (s.allEmpty = true → s.selftest.command ≠ 0 → exec (.lbist l) s = .next ((s.set Obj.selftestLastResult 8).refused 0)) ∧
    (s.allEmpty = true → s.selftest.command = 0 →
      let islands := testIslands.filter fun d => bit (s.get Obj.selftestIslandMask) (d - 1)
      let result := s.testConditions (islands.map (readingOf l))
      (result ≠ 0 → exec (.lbist l) s = .next (s.set Obj.selftestLastResult result).ok) ∧
      (result = 0 → let t : State := { s with selftest := { command := 1, queue := islands } };
        exec (.lbist l) s = .next ((t.set Obj.selftestState 1).startIslands 13).endTest.ok))) ∧
  (∀ (s : State) (l : List IslandReading), s.testConditions l =
    if ∃ r ∈ l, r.locked = false then 3 else if ∃ r ∈ l, s.voltageOk r = false then 4
    else if ∃ r ∈ l, r.coldest < 0 ∨ 420 < r.hottest then 5 else if ∃ r ∈ l, (r.domain = 15 ∨ r.domain = 17) ∧ s.get Obj.holdUpGate ≠ 1 then 6 else 0) ∧
  (∀ (s : State) (r : IslandReading) (failing : List Nat) (since : Nat), s.selftest.testing.find? (fun t => t.1 == r.domain) = some (r.domain, since) →
    let d := r.domain
    let code := s.testConditions [r]
    let t : State := ({ s with isolated := s.isolated.filter (· != d) } : State).modTest fun x => { x with testing := x.testing.filter fun y => y.1 != d }
    ((s.selftest.stopping = true ∨ code ≠ 0) → exec (.lbistIslandComplete r failing) s =
      .next ((t.modTest fun x => { x with result := if code = 0 then x.result else code }).startIslands 13).endTest) ∧
    (s.selftest.stopping = false → code = 0 → since + s.get Obj.lbistPatterns * (5 * islandChain d + 20) ≤ s.gtc →
      let bad := (failing.filter (· < islandPartitions d)).eraseDups
      let u := (t.setAll [(inst Obj.lbistFailedPartitions (d - 1), bad.length), (inst Obj.lbistLastTick (d - 1), s.gtc)]).failIsland d bad false
      exec (.lbistIslandComplete r failing) s = .next (if islandPartitions d - 1 ∈ bad then (u.noteDeviceFailure d).reboot
        else ((u.modTest fun x => { x with result := if bad = [] then x.result else 1 }).startIslands 13).endTest))) ∧
  (∀ s : State,
    let start (command : Nat) : State :=
      let t : Selftest := { command := command, arrays := s.maskedArrays.map fun a => (a, 0, s.gtc) }
      ((State.set { s with selftest := t } Obj.selftestState 1).endTest).ok
    (Accepts s Obj.selftestCommand 2 → s.selftest.command = 0 → exec .marchPreserve s = .next (start 2)) ∧
    (Accepts s Obj.selftestCommand 2 → s.selftest.command ≠ 0 →
      exec .marchPreserve s = .next ((s.set Obj.selftestLastResult 8).refused 0)) ∧
    (Accepts s Obj.selftestCommand 3 → s.allEmpty = true → s.selftest.command = 0 →
      (∀ a ∈ s.maskedArrays, a = 0 ∨ 16 ≤ a) → exec .marchDestructive s = .next (start 3)) ∧
    (Accepts s Obj.selftestCommand 3 → s.allEmpty = true → s.selftest.command = 0 →
      (∃ a ∈ s.maskedArrays, a ≠ 0 ∧ a < 16) → exec .marchDestructive s = .next (s.refused 0)) ∧
    (Accepts s Obj.selftestCommand 3 → s.allEmpty = false → exec .marchDestructive s = .next (s.refused 0x801A)) ∧
    (Accepts s Obj.selftestCommand 4 → s.selftest.command ≠ 0 → exec .selftestStop s =
      .next (s.modTest fun t => { t with stopping := true, queue := [], arrays := [] }).endTest.ok) ∧
    (Accepts s Obj.selftestCommand 4 → s.selftest.command = 0 → exec .selftestStop s = .next s.ok)) ∧
  (∀ (s : State) (a word last : Nat) (banks : List Nat), s.selftest.arrays.find? (fun x => x.1 == a) = some (a, word, last) →
    s.selftest.command = 2 →
    s.get Obj.marchPreserveCycles * (domainRatio (arrayDomain a)).2 ≤ (s.gtc - last) * (domainRatio (arrayDomain a)).1 →
    let next := (word + 1) % arrayBankWords a
    let t := s.modTest fun x => { x with arrays := x.arrays.map fun y => if y.1 = a then (a, next, s.gtc) else y }
    exec (.marchWordTest a banks) s =
      .next (State.spareRows (if next = 0 then t.set (inst Obj.marchLastTick a) s.gtc else t) a (banks.map fun b => (b, word / 4)))) ∧
  (∀ (s : State) (a : Nat) (rows : List (Nat × Nat)), s.selftest.command = 3 → (∃ x ∈ s.selftest.arrays, x.1 = a) →
    let t := s.modTest fun x => { x with arrays := x.arrays.filter fun y => y.1 != a }
    exec (.marchComplete a rows) s = .next ((t.set (inst Obj.marchLastTick a) s.gtc).spareRows a rows).endTest)

/-- At a multiple of 1,000,000 ticks the path delay, slack and ageing of each island sampled are shown, and the rail of each island
short of FloorSlackPs is planned 5 mV higher, at most its maximum, unless it is under test. The planner, due every
PlanIntervalTicks or written, raises a rail short of TargetSlackPs by 5 mV for each 6 ps, lowers one 12 ps above by 5 mV, within
its limits, and AgeingState follows. A rail away from its plan takes one step of at most 5 mV every 10,000 ticks. The rails'
telemetry is polled every PowerPollTicks with the input power and its peak; at an alert each rail with a non-zero STATUS_WORD
counts a fault and is cleared. -/
def Obligations.AgeingAndRailsComplete : Prop :=
  (∀ (s : State) (l : List (Nat × Nat)), s.gtc % 1000000 = 0 → s.hubRuns = true → (∀ e ∈ l, e.1 ∈ testIslands) →
    let t := l.foldl (fun (t : State) e =>
      ((t.set (inst Obj.pathDelayPs (e.1 - 1)) e.2).seti 32 (inst Obj.slackPs (e.1 - 1)) ((islandPeriodPs e.1 : Int) - e.2)).seti 32
        (inst Obj.ageingPs (e.1 - 1)) ((e.2 : Int) - Config.baselineDelayPs e.1)) s
    let short := (l.filter fun e => decide (t.geti 32 (inst Obj.slackPs (e.1 - 1)) < (t.get Obj.floorSlackPs : Int))).map fun e => islandRail e.1
    exec (.pathDelaySample l) s = .next (short.eraseDups.foldl (fun (t : State) r => if t.railTested r = true then t
      else t.planRail r (min (t.get (inst Obj.railPlannedMv r) + 5) (t.get (inst Obj.railMaxMv r)))) t).showAgeing) ∧
  (∀ (s : State) (rail mv : Nat), let old := s.get (inst Obj.railPlannedMv rail)
    (mv = old → s.planRail rail mv = s) ∧
    (old < mv → s.planRail rail mv =
      ((s.set (inst Obj.railPlannedMv rail) mv).recordWrite (inst Obj.railPlannedMv rail) (leBytes 2 mv)).countW 32 Obj.voltageRaises 1) ∧
    (mv < old → s.planRail rail mv =
      ((s.set (inst Obj.railPlannedMv rail) mv).recordWrite (inst Obj.railPlannedMv rail) (leBytes 2 mv)).countW 32 Obj.voltageLowers 1)) ∧
  (∀ s : State, let plan : State := ((List.range 5).foldl State.planOne { s with power := { s.power with lastPlan := s.gtc } }).showAgeing
    (s.hubRuns = true → s.power.lastPlan + s.get Obj.planIntervalTicks ≤ s.gtc → exec .marginPlan s = .next plan) ∧
    (Accepts s Obj.plannerCommand 1 → exec .planNow s = .next plan.ok)) ∧
  (∀ (s : State) (rail : Nat) (x : Int), s.railSlack rail = some x → s.railTested rail = false →
    let target : Int := s.get Obj.targetSlackPs
    let now := s.get (inst Obj.railPlannedMv rail)
    (x < target → s.planOne rail = s.planRail rail (min (now + 5 * ceilDiv (target - x).toNat 6) (s.get (inst Obj.railMaxMv rail)))) ∧
    (target + 12 ≤ x → s.planOne rail = s.planRail rail (max (now - 5) (s.get (inst Obj.railMinMv rail)))) ∧
    (target ≤ x → x < target + 12 → s.planOne rail = s)) ∧
  (∀ (s : State) (rail : Nat), rail < 8 → s.hubRuns = true → s.railTested rail = false →
    (∀ t, findKey rail s.power.stepTicks = some t → t + 10000 ≤ s.gtc) →
    let now := s.railNow rail
    let want := max (s.get (inst Obj.railMinMv rail)) (min (s.get (inst Obj.railMaxMv rail)) (s.get (inst Obj.railPlannedMv rail)))
    (now < want → exec (.avsStep rail) s = .next (s.writeRail rail (min want (now + 5)))) ∧
    (want < now → exec (.avsStep rail) s = .next (s.writeRail rail (max want (now - 5)))) ∧
    (now = want → exec (.avsStep rail) s = .next s)) ∧
  (∀ (s : State) (l : List RailReading), s.hubRuns = true → s.power.lastPoll + s.get Obj.powerPollTicks ≤ s.gtc →
    let t := ((List.range 15).zip l).foldl (fun (t : State) e => t.setAll [(inst Obj.railVoutMv e.1, e.2.vout), (inst Obj.railIoutMa e.1, e.2.iout),
      (inst Obj.railPoutMw e.1, e.2.pout), (inst Obj.railStatusWord e.1, e.2.status)]) (s.modPower fun p => { p with lastPoll := s.gtc })
    let w := ((List.range 15).map fun r => t.get (inst Obj.railPoutMw r)).sum / 1000
    exec (.pmbusPoll l) s = .next (t.setAll [(Obj.powerInputW, w), (Obj.powerPeakW, max w (t.get Obj.powerPeakW))])) ∧
  (∀ (s : State) (l : List Nat), s.hubRuns = true →
    exec (.pmbAlert l) s = .next (((List.range 15).zip l).foldl (fun (t : State) e =>
      let t := t.set (inst Obj.railStatusWord e.1) e.2
      if e.2 = 0 then t
      else (t.countW 32 (inst Obj.railFaults e.1) 1).send (.board 2 (t.get (inst Obj.railPmbusAddress e.1)) 0)) s))

/-- RESET_N flushes a mounted store, resets every island and puts the outputs at rest. PWRGD's fall in RETAIN is noted; otherwise
everything but the bus controller, its objects and the GTC is reset without a flush. PWR_FAIL_N's fall in RETAIN switches off at
once, otherwise ends measurement and self-test, holds the data path in reset and begins the flush, at whose end the device is
off and halted. RETAIN with no slot active, no object open and nothing under check closes the network and is entered, once the
campaign in hand has ended, with durable data, VDDS_SRAM lowered and the channels in self-refresh; WAKE and the fall of WAKE_N
leave it, through the rise of PWRGD where it is low. SHUTDOWN with every slot EMPTY writes stripes, checkpoint and journal, and
switches off. A PowerCommand in the middle of one is refused with result 2, one out of place with 1. The hardware trip halts the
device without a flush. -/
def Obligations.PowerCommandsComplete : Prop :=
  (∀ s : State,
    let t := (s.stopMeasurement true)
    let t := (if t.mounted = true ∧ t.power.halted = false then t.powerFailFlush else t).restart 1
    exec .resetNAssert s = .next ((((t.drive .chainOut false).drive .retainReq false).drive .powerOffReqN true).drive .thermTripN true)) ∧
  (∀ s : State, (s.get Obj.powerState = 2 → s.power.retainReq = true → exec .pwrgdFall s = .next (s.modPower fun p => { p with pwrgd := false })) ∧
    ((s.get Obj.powerState ≠ 2 ∨ s.power.retainReq = false) → ∃ t : State, exec .pwrgdFall s = .next t ∧ t.gtc = s.gtc ∧ t.bus = s.bus ∧
      t.power.pwrgd = false ∧ t.items = [] ∧ t.conns = [] ∧ t.slots = State.reset.slots ∧ t.boot.slot = s.boot.slot)) ∧
  (∀ s : State, s.power.failN = true → s.power.halted = false →
    let t := s.modPower fun p => { p with failN := false }
    (s.get Obj.powerState = 2 → exec .pwrFailNFall s = .next t.powerOff) ∧
    (s.get Obj.powerState ≠ 2 → exec .pwrFailNFall s =
      .next (((t.stopMeasurement false).abandonTest).dataPathReset.modPower fun p => { p with course := .flush }))) ∧
  (∀ s : State, s.power.course = .flush →
    let t := (if s.mounted = true then s.powerFailFlush else s).powerOff
    exec .powerFailFlushComplete s = .next (if t.power.tripAfter = true then t.trip else t)) ∧
  (∀ s : State, s.powerOff = (s.modPower fun p =>
      { p with offReqN := false, halted := true, selfRefresh := true, course := .none }).drive .powerOffReqN false ∧
    s.trip = (s.modPower fun p => { p with thermTripN := false, tripAfter := false }).drive .thermTripN false ∧
    exec .hardwareTrip s = .next (s.modPower fun p => { p with halted := true }).trip) ∧
  (∀ s : State, let no (r : Nat) : State := (s.set Obj.powerLastResult r).refused 0x801A
    let quiet : Prop := s.get Obj.fwState ≠ 1 ∧ s.get Obj.fwState ≠ 3 ∧ s.selftest.command = 0
    (Accepts s Obj.powerCommand 1 → s.power.course = .none → (∀ i ∈ allSlots, s.jobState i = 0 ∨ 6 ≤ s.jobState i) →
      (∀ o ∈ s.store.objects, o.st = 2) → quiet →
      exec .retain s = .next (((s.closeNetwork.modPower fun p => { p with course := .entering }).set Obj.powerLastResult 0).ok)) ∧
    (Accepts s Obj.powerCommand 1 → s.power.course = .none → ((∃ i ∈ allSlots, 1 ≤ s.jobState i ∧ s.jobState i ≤ 5) ∨ ¬ quiet) →
      exec .retain s = .next (no 1)) ∧
    (Accepts s Obj.powerCommand 1 → s.power.course ≠ .none → exec .retain s = .next (no 2)) ∧
    (Accepts s Obj.powerCommand 3 → s.power.course = .none → s.allEmpty = true → quiet →
      exec .shutdown s = .next ((s.modPower fun p => { p with course := .shutdown }).set Obj.powerLastResult 0).ok) ∧
    (Accepts s Obj.powerCommand 3 → s.power.course = .none → (s.allEmpty = false ∨ ¬ quiet) → exec .shutdown s = .next (no 1)) ∧
    (Accepts s Obj.powerCommand 3 → s.power.course ≠ .none → exec .shutdown s = .next (no 2)) ∧
    (s.power.course = .shutdown → exec .shutdownComplete s =
      .next (if s.mounted = true then s.finishStripes.writeCheckpoint.powerFailFlush else s).powerOff)) ∧
  (∀ s : State, s.power.course = .entering → s.store.campaign = none →
    let t := (s.makeDurable.writeRail 7 (s.get Obj.retainSramMv)).modPower fun p => { p with course := .retained, selfRefresh := true, retainReq := true }
    let t := (t.drive .retainReq true).countW 32 Obj.retainEntries 1
    exec .retainEntryComplete s = .next (State.set (if t.get Obj.syncSource = 1 then t.sourceLost else t) Obj.powerState 2)) ∧
  (∀ s : State, s.power.course = .retained → s.power.halted = false →
    (Accepts s Obj.powerCommand 2 → exec .wake s = .next (s.set Obj.powerLastResult 0).ok.wake) ∧ exec .wakeNFall s = .next s.wake) ∧
  (∀ s : State, Accepts s Obj.powerCommand 2 → s.power.course = .none →
    exec .wake s = .next ((s.set Obj.powerLastResult 1).refused 0x801A)) ∧
  (∀ s : State,
    let t := (s.modPower fun p => { p with course := .waking, retainReq := false }).drive .retainReq false
    s.wake = if s.power.pwrgd = true then t.finishWake else t) ∧
  (∀ s : State, (s.power.course = .waking → exec .pwrgdRise s = .next (s.modPower fun p => { p with pwrgd := true }).finishWake) ∧
    (s.power.course ≠ .waking → exec .pwrgdRise s = .next (s.modPower fun p => { p with pwrgd := true })))

/-- A reading of 16 codes shows the node voltage in millivolts. A measurement begins HoldUpCapTicks after the last, or written,
where none is under way: the charger goes off; at 100,000 ticks V0 is taken and the load goes on, at 120,000 Va, at 100,000 +
HoldUpTestTicks Vb, where the load goes off and the charger on, and capacitance and resistance follow, or a fault of the bank
where Va is not 64 codes above Vb. The bank is at fault too where the charger has not restored V0 within 10^9 ticks. Every
10,000,000 ticks, except during a measurement, the energy is computed, the gate follows its conditions, and an open gate lets
waiting commands go on. The sensors are sampled every 100,000 ticks: warnings count, maxima follow, channels adapt, and a die at
its shutdown limit or a channel at 100 degrees shuts the device down. -/
def Obligations.HoldUpAndTemperatureComplete : Prop :=
  (∀ (s : State) (l : List Nat), (s.get Obj.bootState = 3 ∨ s.boot.released.isSome = true) →
    let sum := ((l.take 16).map (min 4095)).sum
    let t : State := { s with power := { s.power with restoring := s.power.restoring.filter fun r => sum < r.1 } };
    exec (.holdupSenseSample l) s = .next (t.set Obj.holdUpVolts (1200 * s.get Obj.holdUpDividerRatio * sum / 65536))) ∧
  (∀ s : State,
    let t : State := { s with power := { s.power with measuring := some { t0 := s.gtc }, restoring := none } };
    s.startMeasurement = (t.switchBank false s.power.loadOn).set Obj.holdUpLastTestTick s.gtc) ∧
  (∀ s : State, s.hubRuns = true → s.power.measuring = none → s.power.failN = true →
    s.get Obj.holdUpLastTestTick + s.get Obj.holdUpCapTicks ≤ s.gtc → exec .holdupMeasureDue s = .next s.startMeasurement) ∧
  (∀ s : State, Accepts s Obj.holdUpCommand 1 → s.power.measuring = none → s.get Obj.powerState ≠ 2 →
    exec .holdupCommandMeasure s = .next s.startMeasurement.ok) ∧
  (∀ s : State, Accepts s Obj.holdUpCommand 1 → (s.power.measuring.isSome = true ∨ s.get Obj.powerState = 2) →
    exec .holdupCommandMeasure s = .next (s.refused 0)) ∧
  (∀ (s : State) (l : List Nat) (m : HoldUpTest), s.power.measuring = some m →
    let sum := ((l.take 16).map (min 4095)).sum
    let step (x : HoldUpTest) : State := { s with power := { s.power with measuring := some x } }
    (m.v0 = none → m.t0 + 100000 ≤ s.gtc → exec (.holdupMeasurePhase l) s = .next ((step { m with v0 := some sum }).switchBank false true)) ∧
    (m.v0.isSome = true → m.va = none → m.t0 + 120000 ≤ s.gtc → exec (.holdupMeasurePhase l) s = .next (step { m with va := some sum })) ∧
    (∀ v0 va, m.v0 = some v0 → m.va = some va → m.t0 + 100000 + s.get Obj.holdUpTestTicks ≤ s.gtc →
      let t : State := { s with power := { s.power with measuring := none, restoring := some (v0, s.gtc + 1000000000) } };
      exec (.holdupMeasurePhase l) s = .next ((t.switchBank true false).measured v0 va sum))) ∧
  (∀ (s : State) (v0 va vb : Nat), va ≤ vb + 64 → s.measured v0 va vb =
    (s.countW 32 Obj.holdUpTests 1).setAll [(Obj.holdUpState, 3), (Obj.holdUpGate, 0)]) ∧
  (∀ (s : State) (v limit : Nat), s.power.restoring = some (v, limit) → limit ≤ s.gtc →
    exec .holdupChargeTimeout s =
      .next (State.setAll { s with power := { s.power with restoring := none } } [(Obj.holdUpState, 3), (Obj.holdUpGate, 0)])) ∧
  (∀ s : State, s.hubRuns = true → s.power.measuring = none → (∀ t, s.store.gateTick = some t → t + 10000000 ≤ s.gtc) →
    exec .energyCheck s = .next (
      let e := dmul s.bankEnergy (d64 1000000 1)
      let t := s.setFloor Obj.holdUpEnergyMicroJoules e
      let t := t.set Obj.holdUpGate (ofBool (t.gateHolds e))
      let t := t.modStore fun x => { x with gateTick := some t.gtc }
      let t := if t.get Obj.holdUpState = 0 ∨ t.get Obj.holdUpState = 3 then t else t.showGate
      t.resumeStore)) ∧
  (∀ s : State, s.showGate = s.set Obj.holdUpState (if s.get Obj.holdUpGate = 1 then 1 else 2)) ∧
  (∀ (s : State) (dies : List (List Int)) (channels : List Int), s.gtc % 100000 = 0 →
    let warm := s.warmSensors dies channels
    ∃ u : State, u.power = { s.power with hot := warm } ∧ u.gtc = s.gtc ∧
      u.get Obj.thermalWarnings = min (2 ^ 32 - 1) (s.get Obj.thermalWarnings + (warm.filter fun k => !s.power.hot.contains k).length) ∧
      ((∀ d ∈ List.range 8, ∀ v ∈ (dies.getD d []).take (s.get (inst Obj.tileSensorCount d)), v < 4 * (s.get Obj.tempShutdownC : Int)) →
        (∀ v ∈ channels, v < 100) → exec (.thermalSample dies channels) s = .next u) ∧
      ((∃ v ∈ channels, 100 ≤ v) → exec (.thermalSample dies channels) s = .next u.thermalShutdown)) ∧
  (∀ (s : State) (dies : List (List Int)) (channels : List Int), s.gtc % 100000 ≠ 0 → exec (.thermalSample dies channels) s = .next s) ∧
  (∀ s : State, s.power.thermTripN = true → s.power.tripAfter = false →
    let t := s.abandonTest.nodeFault 3 0
    s.thermalShutdown = if t.power.course = .flush then t.modPower fun p => { p with tripAfter := true }
      else (if t.mounted = true ∧ t.power.halted = false then t.powerFailFlush else t).powerOff.trip)

/-- The lists that hold the dictionary's fixed-size values and contents are in canonical form at State.reset: their keys rise
strictly, and no entry holds what an object that is not listed reads as. The canonical form is the model's own way of holding
the dictionary (log entry 129). -/
def Obligations.ResetDictionaryCanonical : Prop :=
  Sys2Proof.Machine.State.DictOk State.reset

/-- From every state whose dictionary is in canonical form, a step, whatever command stands at the front of the queue or on an empty
queue, answers only states whose dictionary is in canonical form: no command lists an object twice or out of order, and none
lists a value that the object has by default, so that equal dictionaries are equal data and a read gives one value. The
canonical form is the model's own way of holding the dictionary (log entry 129). -/
def Obligations.EveryStepKeepsDictionaryCanonical : Prop :=
  ∀ s t : State, s.DictOk → Sys2Proof.Machine.step s = .next t → t.DictOk
end

