-- ==== Sys2Proof/Laws/State.lean ====
section
/-! SUPPORT. What each basic update leaves of each field of the state: one lemma for each field and update. -/

namespace Sys2Proof.Machine

/-! ## set -/

@[simp] theorem State.set_pending (s : State) (k v : Nat) : (s.set k v).pending = s.pending := rfl
@[simp] theorem State.set_freeCount (s : State) (k v : Nat) : (s.set k v).freeCount = s.freeCount := rfl
@[simp] theorem State.set_blobs (s : State) (k v : Nat) : (s.set k v).blobs = s.blobs := rfl
@[simp] theorem State.set_answer (s : State) (k v : Nat) : (s.set k v).answer = s.answer := rfl
@[simp] theorem State.set_sent (s : State) (k v : Nat) : (s.set k v).sent = s.sent := rfl
@[simp] theorem State.set_gtc (s : State) (k v : Nat) : (s.set k v).gtc = s.gtc := rfl
@[simp] theorem State.set_bus (s : State) (k v : Nat) : (s.set k v).bus = s.bus := rfl
@[simp] theorem State.set_persist (s : State) (k v : Nat) : (s.set k v).persist = s.persist := rfl
@[simp] theorem State.set_faults (s : State) (k v : Nat) : (s.set k v).faults = s.faults := rfl
@[simp] theorem State.set_elements (s : State) (k v : Nat) : (s.set k v).elements = s.elements := rfl
@[simp] theorem State.set_time (s : State) (k v : Nat) : (s.set k v).time = s.time := rfl
@[simp] theorem State.set_counters (s : State) (k v : Nat) : (s.set k v).counters = s.counters := rfl
@[simp] theorem State.set_lanesUsed (s : State) (k v : Nat) : (s.set k v).lanesUsed = s.lanesUsed := rfl
@[simp] theorem State.set_isolated (s : State) (k v : Nat) : (s.set k v).isolated = s.isolated := rfl
@[simp] theorem State.set_slots (s : State) (k v : Nat) : (s.set k v).slots = s.slots := rfl
@[simp] theorem State.set_switches (s : State) (k v : Nat) : (s.set k v).switches = s.switches := rfl
@[simp] theorem State.set_pool (s : State) (k v : Nat) : (s.set k v).pool = s.pool := rfl
@[simp] theorem State.set_channels (s : State) (k v : Nat) : (s.set k v).channels = s.channels := rfl
@[simp] theorem State.set_heap (s : State) (k v : Nat) : (s.set k v).heap = s.heap := rfl
@[simp] theorem State.set_conns (s : State) (k v : Nat) : (s.set k v).conns = s.conns := rfl
@[simp] theorem State.set_kemKey (s : State) (k v : Nat) : (s.set k v).kemKey = s.kemKey := rfl
@[simp] theorem State.set_ports (s : State) (k v : Nat) : (s.set k v).ports = s.ports := rfl
@[simp] theorem State.set_inbox (s : State) (k v : Nat) : (s.set k v).inbox = s.inbox := rfl
@[simp] theorem State.set_objectWindows (s : State) (k v : Nat) : (s.set k v).objectWindows = s.objectWindows := rfl
@[simp] theorem State.set_regions (s : State) (k v : Nat) : (s.set k v).regions = s.regions := rfl
@[simp] theorem State.set_regionGens (s : State) (k v : Nat) : (s.set k v).regionGens = s.regionGens := rfl
@[simp] theorem State.set_items (s : State) (k v : Nat) : (s.set k v).items = s.items := rfl
@[simp] theorem State.set_offers (s : State) (k v : Nat) : (s.set k v).offers = s.offers := rfl
@[simp] theorem State.set_fills (s : State) (k v : Nat) : (s.set k v).fills = s.fills := rfl
@[simp] theorem State.set_batches (s : State) (k v : Nat) : (s.set k v).batches = s.batches := rfl
@[simp] theorem State.set_shoes (s : State) (k v : Nat) : (s.set k v).shoes = s.shoes := rfl
@[simp] theorem State.set_credits (s : State) (k v : Nat) : (s.set k v).credits = s.credits := rfl
@[simp] theorem State.set_cache (s : State) (k v : Nat) : (s.set k v).cache = s.cache := rfl
@[simp] theorem State.set_store (s : State) (k v : Nat) : (s.set k v).store = s.store := rfl
@[simp] theorem State.set_images (s : State) (k v : Nat) : (s.set k v).images = s.images := rfl
@[simp] theorem State.set_trestleFaults (s : State) (k v : Nat) : (s.set k v).trestleFaults = s.trestleFaults := rfl
@[simp] theorem State.set_kernels (s : State) (k v : Nat) : (s.set k v).kernels = s.kernels := rfl
@[simp] theorem State.set_repair (s : State) (k v : Nat) : (s.set k v).repair = s.repair := rfl
@[simp] theorem State.set_generations (s : State) (k v : Nat) : (s.set k v).generations = s.generations := rfl
@[simp] theorem State.set_boot (s : State) (k v : Nat) : (s.set k v).boot = s.boot := rfl
@[simp] theorem State.set_selftest (s : State) (k v : Nat) : (s.set k v).selftest = s.selftest := rfl
@[simp] theorem State.set_power (s : State) (k v : Nat) : (s.set k v).power = s.power := rfl
@[simp] theorem State.set_durableStore (s : State) (k v : Nat) : (s.set k v).durableStore = s.durableStore := rfl

/-! ## setBlob -/

@[simp] theorem State.setBlob_pending (s : State) (k : Nat) (b : Bytes) : (s.setBlob k b).pending = s.pending := rfl
@[simp] theorem State.setBlob_freeCount (s : State) (k : Nat) (b : Bytes) : (s.setBlob k b).freeCount = s.freeCount := rfl
@[simp] theorem State.setBlob_dict (s : State) (k : Nat) (b : Bytes) : (s.setBlob k b).dict = s.dict := rfl
@[simp] theorem State.setBlob_answer (s : State) (k : Nat) (b : Bytes) : (s.setBlob k b).answer = s.answer := rfl
@[simp] theorem State.setBlob_sent (s : State) (k : Nat) (b : Bytes) : (s.setBlob k b).sent = s.sent := rfl
@[simp] theorem State.setBlob_gtc (s : State) (k : Nat) (b : Bytes) : (s.setBlob k b).gtc = s.gtc := rfl
@[simp] theorem State.setBlob_bus (s : State) (k : Nat) (b : Bytes) : (s.setBlob k b).bus = s.bus := rfl
@[simp] theorem State.setBlob_persist (s : State) (k : Nat) (b : Bytes) : (s.setBlob k b).persist = s.persist := rfl
@[simp] theorem State.setBlob_faults (s : State) (k : Nat) (b : Bytes) : (s.setBlob k b).faults = s.faults := rfl
@[simp] theorem State.setBlob_elements (s : State) (k : Nat) (b : Bytes) : (s.setBlob k b).elements = s.elements := rfl
@[simp] theorem State.setBlob_time (s : State) (k : Nat) (b : Bytes) : (s.setBlob k b).time = s.time := rfl
@[simp] theorem State.setBlob_counters (s : State) (k : Nat) (b : Bytes) : (s.setBlob k b).counters = s.counters := rfl
@[simp] theorem State.setBlob_lanesUsed (s : State) (k : Nat) (b : Bytes) : (s.setBlob k b).lanesUsed = s.lanesUsed := rfl
@[simp] theorem State.setBlob_isolated (s : State) (k : Nat) (b : Bytes) : (s.setBlob k b).isolated = s.isolated := rfl
@[simp] theorem State.setBlob_slots (s : State) (k : Nat) (b : Bytes) : (s.setBlob k b).slots = s.slots := rfl
@[simp] theorem State.setBlob_switches (s : State) (k : Nat) (b : Bytes) : (s.setBlob k b).switches = s.switches := rfl
@[simp] theorem State.setBlob_pool (s : State) (k : Nat) (b : Bytes) : (s.setBlob k b).pool = s.pool := rfl
@[simp] theorem State.setBlob_channels (s : State) (k : Nat) (b : Bytes) : (s.setBlob k b).channels = s.channels := rfl
@[simp] theorem State.setBlob_heap (s : State) (k : Nat) (b : Bytes) : (s.setBlob k b).heap = s.heap := rfl
@[simp] theorem State.setBlob_conns (s : State) (k : Nat) (b : Bytes) : (s.setBlob k b).conns = s.conns := rfl
@[simp] theorem State.setBlob_kemKey (s : State) (k : Nat) (b : Bytes) : (s.setBlob k b).kemKey = s.kemKey := rfl
@[simp] theorem State.setBlob_ports (s : State) (k : Nat) (b : Bytes) : (s.setBlob k b).ports = s.ports := rfl
@[simp] theorem State.setBlob_inbox (s : State) (k : Nat) (b : Bytes) : (s.setBlob k b).inbox = s.inbox := rfl
@[simp] theorem State.setBlob_objectWindows (s : State) (k : Nat) (b : Bytes) : (s.setBlob k b).objectWindows = s.objectWindows := rfl
@[simp] theorem State.setBlob_regions (s : State) (k : Nat) (b : Bytes) : (s.setBlob k b).regions = s.regions := rfl
@[simp] theorem State.setBlob_regionGens (s : State) (k : Nat) (b : Bytes) : (s.setBlob k b).regionGens = s.regionGens := rfl
@[simp] theorem State.setBlob_items (s : State) (k : Nat) (b : Bytes) : (s.setBlob k b).items = s.items := rfl
@[simp] theorem State.setBlob_offers (s : State) (k : Nat) (b : Bytes) : (s.setBlob k b).offers = s.offers := rfl
@[simp] theorem State.setBlob_fills (s : State) (k : Nat) (b : Bytes) : (s.setBlob k b).fills = s.fills := rfl
@[simp] theorem State.setBlob_batches (s : State) (k : Nat) (b : Bytes) : (s.setBlob k b).batches = s.batches := rfl
@[simp] theorem State.setBlob_shoes (s : State) (k : Nat) (b : Bytes) : (s.setBlob k b).shoes = s.shoes := rfl
@[simp] theorem State.setBlob_credits (s : State) (k : Nat) (b : Bytes) : (s.setBlob k b).credits = s.credits := rfl
@[simp] theorem State.setBlob_cache (s : State) (k : Nat) (b : Bytes) : (s.setBlob k b).cache = s.cache := rfl
@[simp] theorem State.setBlob_store (s : State) (k : Nat) (b : Bytes) : (s.setBlob k b).store = s.store := rfl
@[simp] theorem State.setBlob_images (s : State) (k : Nat) (b : Bytes) : (s.setBlob k b).images = s.images := rfl
@[simp] theorem State.setBlob_trestleFaults (s : State) (k : Nat) (b : Bytes) : (s.setBlob k b).trestleFaults = s.trestleFaults := rfl
@[simp] theorem State.setBlob_kernels (s : State) (k : Nat) (b : Bytes) : (s.setBlob k b).kernels = s.kernels := rfl
@[simp] theorem State.setBlob_repair (s : State) (k : Nat) (b : Bytes) : (s.setBlob k b).repair = s.repair := rfl
@[simp] theorem State.setBlob_generations (s : State) (k : Nat) (b : Bytes) : (s.setBlob k b).generations = s.generations := rfl
@[simp] theorem State.setBlob_boot (s : State) (k : Nat) (b : Bytes) : (s.setBlob k b).boot = s.boot := rfl
@[simp] theorem State.setBlob_selftest (s : State) (k : Nat) (b : Bytes) : (s.setBlob k b).selftest = s.selftest := rfl
@[simp] theorem State.setBlob_power (s : State) (k : Nat) (b : Bytes) : (s.setBlob k b).power = s.power := rfl
@[simp] theorem State.setBlob_durableStore (s : State) (k : Nat) (b : Bytes) : (s.setBlob k b).durableStore = s.durableStore := rfl

/-! ## useFree -/

@[simp] theorem State.useFree_pending (s : State) : (s.useFree).pending = s.pending := rfl
@[simp] theorem State.useFree_dict (s : State) : (s.useFree).dict = s.dict := rfl
@[simp] theorem State.useFree_blobs (s : State) : (s.useFree).blobs = s.blobs := rfl
@[simp] theorem State.useFree_answer (s : State) : (s.useFree).answer = s.answer := rfl
@[simp] theorem State.useFree_sent (s : State) : (s.useFree).sent = s.sent := rfl
@[simp] theorem State.useFree_gtc (s : State) : (s.useFree).gtc = s.gtc := rfl
@[simp] theorem State.useFree_bus (s : State) : (s.useFree).bus = s.bus := rfl
@[simp] theorem State.useFree_persist (s : State) : (s.useFree).persist = s.persist := rfl
@[simp] theorem State.useFree_faults (s : State) : (s.useFree).faults = s.faults := rfl
@[simp] theorem State.useFree_elements (s : State) : (s.useFree).elements = s.elements := rfl
@[simp] theorem State.useFree_time (s : State) : (s.useFree).time = s.time := rfl
@[simp] theorem State.useFree_counters (s : State) : (s.useFree).counters = s.counters := rfl
@[simp] theorem State.useFree_lanesUsed (s : State) : (s.useFree).lanesUsed = s.lanesUsed := rfl
@[simp] theorem State.useFree_isolated (s : State) : (s.useFree).isolated = s.isolated := rfl
@[simp] theorem State.useFree_slots (s : State) : (s.useFree).slots = s.slots := rfl
@[simp] theorem State.useFree_switches (s : State) : (s.useFree).switches = s.switches := rfl
@[simp] theorem State.useFree_pool (s : State) : (s.useFree).pool = s.pool := rfl
@[simp] theorem State.useFree_channels (s : State) : (s.useFree).channels = s.channels := rfl
@[simp] theorem State.useFree_heap (s : State) : (s.useFree).heap = s.heap := rfl
@[simp] theorem State.useFree_conns (s : State) : (s.useFree).conns = s.conns := rfl
@[simp] theorem State.useFree_kemKey (s : State) : (s.useFree).kemKey = s.kemKey := rfl
@[simp] theorem State.useFree_ports (s : State) : (s.useFree).ports = s.ports := rfl
@[simp] theorem State.useFree_inbox (s : State) : (s.useFree).inbox = s.inbox := rfl
@[simp] theorem State.useFree_objectWindows (s : State) : (s.useFree).objectWindows = s.objectWindows := rfl
@[simp] theorem State.useFree_regions (s : State) : (s.useFree).regions = s.regions := rfl
@[simp] theorem State.useFree_regionGens (s : State) : (s.useFree).regionGens = s.regionGens := rfl
@[simp] theorem State.useFree_items (s : State) : (s.useFree).items = s.items := rfl
@[simp] theorem State.useFree_offers (s : State) : (s.useFree).offers = s.offers := rfl
@[simp] theorem State.useFree_fills (s : State) : (s.useFree).fills = s.fills := rfl
@[simp] theorem State.useFree_batches (s : State) : (s.useFree).batches = s.batches := rfl
@[simp] theorem State.useFree_shoes (s : State) : (s.useFree).shoes = s.shoes := rfl
@[simp] theorem State.useFree_credits (s : State) : (s.useFree).credits = s.credits := rfl
@[simp] theorem State.useFree_cache (s : State) : (s.useFree).cache = s.cache := rfl
@[simp] theorem State.useFree_store (s : State) : (s.useFree).store = s.store := rfl
@[simp] theorem State.useFree_images (s : State) : (s.useFree).images = s.images := rfl
@[simp] theorem State.useFree_trestleFaults (s : State) : (s.useFree).trestleFaults = s.trestleFaults := rfl
@[simp] theorem State.useFree_kernels (s : State) : (s.useFree).kernels = s.kernels := rfl
@[simp] theorem State.useFree_repair (s : State) : (s.useFree).repair = s.repair := rfl
@[simp] theorem State.useFree_generations (s : State) : (s.useFree).generations = s.generations := rfl
@[simp] theorem State.useFree_boot (s : State) : (s.useFree).boot = s.boot := rfl
@[simp] theorem State.useFree_selftest (s : State) : (s.useFree).selftest = s.selftest := rfl
@[simp] theorem State.useFree_power (s : State) : (s.useFree).power = s.power := rfl
@[simp] theorem State.useFree_durableStore (s : State) : (s.useFree).durableStore = s.durableStore := rfl

/-! ## ok -/

@[simp] theorem State.ok_pending (s : State) : (s.ok).pending = s.pending := rfl
@[simp] theorem State.ok_freeCount (s : State) : (s.ok).freeCount = s.freeCount := rfl
@[simp] theorem State.ok_dict (s : State) : (s.ok).dict = s.dict := rfl
@[simp] theorem State.ok_blobs (s : State) : (s.ok).blobs = s.blobs := rfl
@[simp] theorem State.ok_sent (s : State) : (s.ok).sent = s.sent := rfl
@[simp] theorem State.ok_gtc (s : State) : (s.ok).gtc = s.gtc := rfl
@[simp] theorem State.ok_bus (s : State) : (s.ok).bus = s.bus := rfl
@[simp] theorem State.ok_persist (s : State) : (s.ok).persist = s.persist := rfl
@[simp] theorem State.ok_faults (s : State) : (s.ok).faults = s.faults := rfl
@[simp] theorem State.ok_elements (s : State) : (s.ok).elements = s.elements := rfl
@[simp] theorem State.ok_time (s : State) : (s.ok).time = s.time := rfl
@[simp] theorem State.ok_counters (s : State) : (s.ok).counters = s.counters := rfl
@[simp] theorem State.ok_lanesUsed (s : State) : (s.ok).lanesUsed = s.lanesUsed := rfl
@[simp] theorem State.ok_isolated (s : State) : (s.ok).isolated = s.isolated := rfl
@[simp] theorem State.ok_slots (s : State) : (s.ok).slots = s.slots := rfl
@[simp] theorem State.ok_switches (s : State) : (s.ok).switches = s.switches := rfl
@[simp] theorem State.ok_pool (s : State) : (s.ok).pool = s.pool := rfl
@[simp] theorem State.ok_channels (s : State) : (s.ok).channels = s.channels := rfl
@[simp] theorem State.ok_heap (s : State) : (s.ok).heap = s.heap := rfl
@[simp] theorem State.ok_conns (s : State) : (s.ok).conns = s.conns := rfl
@[simp] theorem State.ok_kemKey (s : State) : (s.ok).kemKey = s.kemKey := rfl
@[simp] theorem State.ok_ports (s : State) : (s.ok).ports = s.ports := rfl
@[simp] theorem State.ok_inbox (s : State) : (s.ok).inbox = s.inbox := rfl
@[simp] theorem State.ok_objectWindows (s : State) : (s.ok).objectWindows = s.objectWindows := rfl
@[simp] theorem State.ok_regions (s : State) : (s.ok).regions = s.regions := rfl
@[simp] theorem State.ok_regionGens (s : State) : (s.ok).regionGens = s.regionGens := rfl
@[simp] theorem State.ok_items (s : State) : (s.ok).items = s.items := rfl
@[simp] theorem State.ok_offers (s : State) : (s.ok).offers = s.offers := rfl
@[simp] theorem State.ok_fills (s : State) : (s.ok).fills = s.fills := rfl
@[simp] theorem State.ok_batches (s : State) : (s.ok).batches = s.batches := rfl
@[simp] theorem State.ok_shoes (s : State) : (s.ok).shoes = s.shoes := rfl
@[simp] theorem State.ok_credits (s : State) : (s.ok).credits = s.credits := rfl
@[simp] theorem State.ok_cache (s : State) : (s.ok).cache = s.cache := rfl
@[simp] theorem State.ok_store (s : State) : (s.ok).store = s.store := rfl
@[simp] theorem State.ok_images (s : State) : (s.ok).images = s.images := rfl
@[simp] theorem State.ok_trestleFaults (s : State) : (s.ok).trestleFaults = s.trestleFaults := rfl
@[simp] theorem State.ok_kernels (s : State) : (s.ok).kernels = s.kernels := rfl
@[simp] theorem State.ok_repair (s : State) : (s.ok).repair = s.repair := rfl
@[simp] theorem State.ok_generations (s : State) : (s.ok).generations = s.generations := rfl
@[simp] theorem State.ok_boot (s : State) : (s.ok).boot = s.boot := rfl
@[simp] theorem State.ok_selftest (s : State) : (s.ok).selftest = s.selftest := rfl
@[simp] theorem State.ok_power (s : State) : (s.ok).power = s.power := rfl
@[simp] theorem State.ok_durableStore (s : State) : (s.ok).durableStore = s.durableStore := rfl

/-! ## refuse -/

@[simp] theorem State.refuse_pending (s : State) (a r : Nat) : (s.refuse a r).pending = s.pending := rfl
@[simp] theorem State.refuse_freeCount (s : State) (a r : Nat) : (s.refuse a r).freeCount = s.freeCount := rfl
@[simp] theorem State.refuse_dict (s : State) (a r : Nat) : (s.refuse a r).dict = s.dict := rfl
@[simp] theorem State.refuse_blobs (s : State) (a r : Nat) : (s.refuse a r).blobs = s.blobs := rfl
@[simp] theorem State.refuse_sent (s : State) (a r : Nat) : (s.refuse a r).sent = s.sent := rfl
@[simp] theorem State.refuse_gtc (s : State) (a r : Nat) : (s.refuse a r).gtc = s.gtc := rfl
@[simp] theorem State.refuse_bus (s : State) (a r : Nat) : (s.refuse a r).bus = s.bus := rfl
@[simp] theorem State.refuse_persist (s : State) (a r : Nat) : (s.refuse a r).persist = s.persist := rfl
@[simp] theorem State.refuse_faults (s : State) (a r : Nat) : (s.refuse a r).faults = s.faults := rfl
@[simp] theorem State.refuse_elements (s : State) (a r : Nat) : (s.refuse a r).elements = s.elements := rfl
@[simp] theorem State.refuse_time (s : State) (a r : Nat) : (s.refuse a r).time = s.time := rfl
@[simp] theorem State.refuse_counters (s : State) (a r : Nat) : (s.refuse a r).counters = s.counters := rfl
@[simp] theorem State.refuse_lanesUsed (s : State) (a r : Nat) : (s.refuse a r).lanesUsed = s.lanesUsed := rfl
@[simp] theorem State.refuse_isolated (s : State) (a r : Nat) : (s.refuse a r).isolated = s.isolated := rfl
@[simp] theorem State.refuse_slots (s : State) (a r : Nat) : (s.refuse a r).slots = s.slots := rfl
@[simp] theorem State.refuse_switches (s : State) (a r : Nat) : (s.refuse a r).switches = s.switches := rfl
@[simp] theorem State.refuse_pool (s : State) (a r : Nat) : (s.refuse a r).pool = s.pool := rfl
@[simp] theorem State.refuse_channels (s : State) (a r : Nat) : (s.refuse a r).channels = s.channels := rfl
@[simp] theorem State.refuse_heap (s : State) (a r : Nat) : (s.refuse a r).heap = s.heap := rfl
@[simp] theorem State.refuse_conns (s : State) (a r : Nat) : (s.refuse a r).conns = s.conns := rfl
@[simp] theorem State.refuse_kemKey (s : State) (a r : Nat) : (s.refuse a r).kemKey = s.kemKey := rfl
@[simp] theorem State.refuse_ports (s : State) (a r : Nat) : (s.refuse a r).ports = s.ports := rfl
@[simp] theorem State.refuse_inbox (s : State) (a r : Nat) : (s.refuse a r).inbox = s.inbox := rfl
@[simp] theorem State.refuse_objectWindows (s : State) (a r : Nat) : (s.refuse a r).objectWindows = s.objectWindows := rfl
@[simp] theorem State.refuse_regions (s : State) (a r : Nat) : (s.refuse a r).regions = s.regions := rfl
@[simp] theorem State.refuse_regionGens (s : State) (a r : Nat) : (s.refuse a r).regionGens = s.regionGens := rfl
@[simp] theorem State.refuse_items (s : State) (a r : Nat) : (s.refuse a r).items = s.items := rfl
@[simp] theorem State.refuse_offers (s : State) (a r : Nat) : (s.refuse a r).offers = s.offers := rfl
@[simp] theorem State.refuse_fills (s : State) (a r : Nat) : (s.refuse a r).fills = s.fills := rfl
@[simp] theorem State.refuse_batches (s : State) (a r : Nat) : (s.refuse a r).batches = s.batches := rfl
@[simp] theorem State.refuse_shoes (s : State) (a r : Nat) : (s.refuse a r).shoes = s.shoes := rfl
@[simp] theorem State.refuse_credits (s : State) (a r : Nat) : (s.refuse a r).credits = s.credits := rfl
@[simp] theorem State.refuse_cache (s : State) (a r : Nat) : (s.refuse a r).cache = s.cache := rfl
@[simp] theorem State.refuse_store (s : State) (a r : Nat) : (s.refuse a r).store = s.store := rfl
@[simp] theorem State.refuse_images (s : State) (a r : Nat) : (s.refuse a r).images = s.images := rfl
@[simp] theorem State.refuse_trestleFaults (s : State) (a r : Nat) : (s.refuse a r).trestleFaults = s.trestleFaults := rfl
@[simp] theorem State.refuse_kernels (s : State) (a r : Nat) : (s.refuse a r).kernels = s.kernels := rfl
@[simp] theorem State.refuse_repair (s : State) (a r : Nat) : (s.refuse a r).repair = s.repair := rfl
@[simp] theorem State.refuse_generations (s : State) (a r : Nat) : (s.refuse a r).generations = s.generations := rfl
@[simp] theorem State.refuse_boot (s : State) (a r : Nat) : (s.refuse a r).boot = s.boot := rfl
@[simp] theorem State.refuse_selftest (s : State) (a r : Nat) : (s.refuse a r).selftest = s.selftest := rfl
@[simp] theorem State.refuse_power (s : State) (a r : Nat) : (s.refuse a r).power = s.power := rfl
@[simp] theorem State.refuse_durableStore (s : State) (a r : Nat) : (s.refuse a r).durableStore = s.durableStore := rfl

/-! ## refused -/

@[simp] theorem State.refused_pending (s : State) (r : Nat) : (s.refused r).pending = s.pending := rfl
@[simp] theorem State.refused_freeCount (s : State) (r : Nat) : (s.refused r).freeCount = s.freeCount := rfl
@[simp] theorem State.refused_dict (s : State) (r : Nat) : (s.refused r).dict = s.dict := rfl
@[simp] theorem State.refused_blobs (s : State) (r : Nat) : (s.refused r).blobs = s.blobs := rfl
@[simp] theorem State.refused_sent (s : State) (r : Nat) : (s.refused r).sent = s.sent := rfl
@[simp] theorem State.refused_gtc (s : State) (r : Nat) : (s.refused r).gtc = s.gtc := rfl
@[simp] theorem State.refused_bus (s : State) (r : Nat) : (s.refused r).bus = s.bus := rfl
@[simp] theorem State.refused_persist (s : State) (r : Nat) : (s.refused r).persist = s.persist := rfl
@[simp] theorem State.refused_faults (s : State) (r : Nat) : (s.refused r).faults = s.faults := rfl
@[simp] theorem State.refused_elements (s : State) (r : Nat) : (s.refused r).elements = s.elements := rfl
@[simp] theorem State.refused_time (s : State) (r : Nat) : (s.refused r).time = s.time := rfl
@[simp] theorem State.refused_counters (s : State) (r : Nat) : (s.refused r).counters = s.counters := rfl
@[simp] theorem State.refused_lanesUsed (s : State) (r : Nat) : (s.refused r).lanesUsed = s.lanesUsed := rfl
@[simp] theorem State.refused_isolated (s : State) (r : Nat) : (s.refused r).isolated = s.isolated := rfl
@[simp] theorem State.refused_slots (s : State) (r : Nat) : (s.refused r).slots = s.slots := rfl
@[simp] theorem State.refused_switches (s : State) (r : Nat) : (s.refused r).switches = s.switches := rfl
@[simp] theorem State.refused_pool (s : State) (r : Nat) : (s.refused r).pool = s.pool := rfl
@[simp] theorem State.refused_channels (s : State) (r : Nat) : (s.refused r).channels = s.channels := rfl
@[simp] theorem State.refused_heap (s : State) (r : Nat) : (s.refused r).heap = s.heap := rfl
@[simp] theorem State.refused_conns (s : State) (r : Nat) : (s.refused r).conns = s.conns := rfl
@[simp] theorem State.refused_kemKey (s : State) (r : Nat) : (s.refused r).kemKey = s.kemKey := rfl
@[simp] theorem State.refused_ports (s : State) (r : Nat) : (s.refused r).ports = s.ports := rfl
@[simp] theorem State.refused_inbox (s : State) (r : Nat) : (s.refused r).inbox = s.inbox := rfl
@[simp] theorem State.refused_objectWindows (s : State) (r : Nat) : (s.refused r).objectWindows = s.objectWindows := rfl
@[simp] theorem State.refused_regions (s : State) (r : Nat) : (s.refused r).regions = s.regions := rfl
@[simp] theorem State.refused_regionGens (s : State) (r : Nat) : (s.refused r).regionGens = s.regionGens := rfl
@[simp] theorem State.refused_items (s : State) (r : Nat) : (s.refused r).items = s.items := rfl
@[simp] theorem State.refused_offers (s : State) (r : Nat) : (s.refused r).offers = s.offers := rfl
@[simp] theorem State.refused_fills (s : State) (r : Nat) : (s.refused r).fills = s.fills := rfl
@[simp] theorem State.refused_batches (s : State) (r : Nat) : (s.refused r).batches = s.batches := rfl
@[simp] theorem State.refused_shoes (s : State) (r : Nat) : (s.refused r).shoes = s.shoes := rfl
@[simp] theorem State.refused_credits (s : State) (r : Nat) : (s.refused r).credits = s.credits := rfl
@[simp] theorem State.refused_cache (s : State) (r : Nat) : (s.refused r).cache = s.cache := rfl
@[simp] theorem State.refused_store (s : State) (r : Nat) : (s.refused r).store = s.store := rfl
@[simp] theorem State.refused_images (s : State) (r : Nat) : (s.refused r).images = s.images := rfl
@[simp] theorem State.refused_trestleFaults (s : State) (r : Nat) : (s.refused r).trestleFaults = s.trestleFaults := rfl
@[simp] theorem State.refused_kernels (s : State) (r : Nat) : (s.refused r).kernels = s.kernels := rfl
@[simp] theorem State.refused_repair (s : State) (r : Nat) : (s.refused r).repair = s.repair := rfl
@[simp] theorem State.refused_generations (s : State) (r : Nat) : (s.refused r).generations = s.generations := rfl
@[simp] theorem State.refused_boot (s : State) (r : Nat) : (s.refused r).boot = s.boot := rfl
@[simp] theorem State.refused_selftest (s : State) (r : Nat) : (s.refused r).selftest = s.selftest := rfl
@[simp] theorem State.refused_power (s : State) (r : Nat) : (s.refused r).power = s.power := rfl
@[simp] theorem State.refused_durableStore (s : State) (r : Nat) : (s.refused r).durableStore = s.durableStore := rfl

/-! ## send -/

@[simp] theorem State.send_pending (s : State) (x : Sent) : (s.send x).pending = s.pending := rfl
@[simp] theorem State.send_freeCount (s : State) (x : Sent) : (s.send x).freeCount = s.freeCount := rfl
@[simp] theorem State.send_dict (s : State) (x : Sent) : (s.send x).dict = s.dict := rfl
@[simp] theorem State.send_blobs (s : State) (x : Sent) : (s.send x).blobs = s.blobs := rfl
@[simp] theorem State.send_answer (s : State) (x : Sent) : (s.send x).answer = s.answer := rfl
@[simp] theorem State.send_gtc (s : State) (x : Sent) : (s.send x).gtc = s.gtc := rfl
@[simp] theorem State.send_bus (s : State) (x : Sent) : (s.send x).bus = s.bus := rfl
@[simp] theorem State.send_persist (s : State) (x : Sent) : (s.send x).persist = s.persist := rfl
@[simp] theorem State.send_faults (s : State) (x : Sent) : (s.send x).faults = s.faults := rfl
@[simp] theorem State.send_elements (s : State) (x : Sent) : (s.send x).elements = s.elements := rfl
@[simp] theorem State.send_time (s : State) (x : Sent) : (s.send x).time = s.time := rfl
@[simp] theorem State.send_counters (s : State) (x : Sent) : (s.send x).counters = s.counters := rfl
@[simp] theorem State.send_lanesUsed (s : State) (x : Sent) : (s.send x).lanesUsed = s.lanesUsed := rfl
@[simp] theorem State.send_isolated (s : State) (x : Sent) : (s.send x).isolated = s.isolated := rfl
@[simp] theorem State.send_slots (s : State) (x : Sent) : (s.send x).slots = s.slots := rfl
@[simp] theorem State.send_switches (s : State) (x : Sent) : (s.send x).switches = s.switches := rfl
@[simp] theorem State.send_pool (s : State) (x : Sent) : (s.send x).pool = s.pool := rfl
@[simp] theorem State.send_channels (s : State) (x : Sent) : (s.send x).channels = s.channels := rfl
@[simp] theorem State.send_heap (s : State) (x : Sent) : (s.send x).heap = s.heap := rfl
@[simp] theorem State.send_conns (s : State) (x : Sent) : (s.send x).conns = s.conns := rfl
@[simp] theorem State.send_kemKey (s : State) (x : Sent) : (s.send x).kemKey = s.kemKey := rfl
@[simp] theorem State.send_ports (s : State) (x : Sent) : (s.send x).ports = s.ports := rfl
@[simp] theorem State.send_inbox (s : State) (x : Sent) : (s.send x).inbox = s.inbox := rfl
@[simp] theorem State.send_objectWindows (s : State) (x : Sent) : (s.send x).objectWindows = s.objectWindows := rfl
@[simp] theorem State.send_regions (s : State) (x : Sent) : (s.send x).regions = s.regions := rfl
@[simp] theorem State.send_regionGens (s : State) (x : Sent) : (s.send x).regionGens = s.regionGens := rfl
@[simp] theorem State.send_items (s : State) (x : Sent) : (s.send x).items = s.items := rfl
@[simp] theorem State.send_offers (s : State) (x : Sent) : (s.send x).offers = s.offers := rfl
@[simp] theorem State.send_fills (s : State) (x : Sent) : (s.send x).fills = s.fills := rfl
@[simp] theorem State.send_batches (s : State) (x : Sent) : (s.send x).batches = s.batches := rfl
@[simp] theorem State.send_shoes (s : State) (x : Sent) : (s.send x).shoes = s.shoes := rfl
@[simp] theorem State.send_credits (s : State) (x : Sent) : (s.send x).credits = s.credits := rfl
@[simp] theorem State.send_cache (s : State) (x : Sent) : (s.send x).cache = s.cache := rfl
@[simp] theorem State.send_store (s : State) (x : Sent) : (s.send x).store = s.store := rfl
@[simp] theorem State.send_images (s : State) (x : Sent) : (s.send x).images = s.images := rfl
@[simp] theorem State.send_trestleFaults (s : State) (x : Sent) : (s.send x).trestleFaults = s.trestleFaults := rfl
@[simp] theorem State.send_kernels (s : State) (x : Sent) : (s.send x).kernels = s.kernels := rfl
@[simp] theorem State.send_repair (s : State) (x : Sent) : (s.send x).repair = s.repair := rfl
@[simp] theorem State.send_generations (s : State) (x : Sent) : (s.send x).generations = s.generations := rfl
@[simp] theorem State.send_boot (s : State) (x : Sent) : (s.send x).boot = s.boot := rfl
@[simp] theorem State.send_selftest (s : State) (x : Sent) : (s.send x).selftest = s.selftest := rfl
@[simp] theorem State.send_power (s : State) (x : Sent) : (s.send x).power = s.power := rfl
@[simp] theorem State.send_durableStore (s : State) (x : Sent) : (s.send x).durableStore = s.durableStore := rfl

/-! ## setSlot -/

@[simp] theorem State.setSlot_pending (s : State) (i : Nat) (x : Slot) : (s.setSlot i x).pending = s.pending := rfl
@[simp] theorem State.setSlot_freeCount (s : State) (i : Nat) (x : Slot) : (s.setSlot i x).freeCount = s.freeCount := rfl
@[simp] theorem State.setSlot_dict (s : State) (i : Nat) (x : Slot) : (s.setSlot i x).dict = s.dict := rfl
@[simp] theorem State.setSlot_blobs (s : State) (i : Nat) (x : Slot) : (s.setSlot i x).blobs = s.blobs := rfl
@[simp] theorem State.setSlot_answer (s : State) (i : Nat) (x : Slot) : (s.setSlot i x).answer = s.answer := rfl
@[simp] theorem State.setSlot_sent (s : State) (i : Nat) (x : Slot) : (s.setSlot i x).sent = s.sent := rfl
@[simp] theorem State.setSlot_gtc (s : State) (i : Nat) (x : Slot) : (s.setSlot i x).gtc = s.gtc := rfl
@[simp] theorem State.setSlot_bus (s : State) (i : Nat) (x : Slot) : (s.setSlot i x).bus = s.bus := rfl
@[simp] theorem State.setSlot_persist (s : State) (i : Nat) (x : Slot) : (s.setSlot i x).persist = s.persist := rfl
@[simp] theorem State.setSlot_faults (s : State) (i : Nat) (x : Slot) : (s.setSlot i x).faults = s.faults := rfl
@[simp] theorem State.setSlot_elements (s : State) (i : Nat) (x : Slot) : (s.setSlot i x).elements = s.elements := rfl
@[simp] theorem State.setSlot_time (s : State) (i : Nat) (x : Slot) : (s.setSlot i x).time = s.time := rfl
@[simp] theorem State.setSlot_counters (s : State) (i : Nat) (x : Slot) : (s.setSlot i x).counters = s.counters := rfl
@[simp] theorem State.setSlot_lanesUsed (s : State) (i : Nat) (x : Slot) : (s.setSlot i x).lanesUsed = s.lanesUsed := rfl
@[simp] theorem State.setSlot_isolated (s : State) (i : Nat) (x : Slot) : (s.setSlot i x).isolated = s.isolated := rfl
@[simp] theorem State.setSlot_switches (s : State) (i : Nat) (x : Slot) : (s.setSlot i x).switches = s.switches := rfl
@[simp] theorem State.setSlot_pool (s : State) (i : Nat) (x : Slot) : (s.setSlot i x).pool = s.pool := rfl
@[simp] theorem State.setSlot_channels (s : State) (i : Nat) (x : Slot) : (s.setSlot i x).channels = s.channels := rfl
@[simp] theorem State.setSlot_heap (s : State) (i : Nat) (x : Slot) : (s.setSlot i x).heap = s.heap := rfl
@[simp] theorem State.setSlot_conns (s : State) (i : Nat) (x : Slot) : (s.setSlot i x).conns = s.conns := rfl
@[simp] theorem State.setSlot_kemKey (s : State) (i : Nat) (x : Slot) : (s.setSlot i x).kemKey = s.kemKey := rfl
@[simp] theorem State.setSlot_ports (s : State) (i : Nat) (x : Slot) : (s.setSlot i x).ports = s.ports := rfl
@[simp] theorem State.setSlot_inbox (s : State) (i : Nat) (x : Slot) : (s.setSlot i x).inbox = s.inbox := rfl
@[simp] theorem State.setSlot_objectWindows (s : State) (i : Nat) (x : Slot) : (s.setSlot i x).objectWindows = s.objectWindows := rfl
@[simp] theorem State.setSlot_regions (s : State) (i : Nat) (x : Slot) : (s.setSlot i x).regions = s.regions := rfl
@[simp] theorem State.setSlot_regionGens (s : State) (i : Nat) (x : Slot) : (s.setSlot i x).regionGens = s.regionGens := rfl
@[simp] theorem State.setSlot_items (s : State) (i : Nat) (x : Slot) : (s.setSlot i x).items = s.items := rfl
@[simp] theorem State.setSlot_offers (s : State) (i : Nat) (x : Slot) : (s.setSlot i x).offers = s.offers := rfl
@[simp] theorem State.setSlot_fills (s : State) (i : Nat) (x : Slot) : (s.setSlot i x).fills = s.fills := rfl
@[simp] theorem State.setSlot_batches (s : State) (i : Nat) (x : Slot) : (s.setSlot i x).batches = s.batches := rfl
@[simp] theorem State.setSlot_shoes (s : State) (i : Nat) (x : Slot) : (s.setSlot i x).shoes = s.shoes := rfl
@[simp] theorem State.setSlot_credits (s : State) (i : Nat) (x : Slot) : (s.setSlot i x).credits = s.credits := rfl
@[simp] theorem State.setSlot_cache (s : State) (i : Nat) (x : Slot) : (s.setSlot i x).cache = s.cache := rfl
@[simp] theorem State.setSlot_store (s : State) (i : Nat) (x : Slot) : (s.setSlot i x).store = s.store := rfl
@[simp] theorem State.setSlot_images (s : State) (i : Nat) (x : Slot) : (s.setSlot i x).images = s.images := rfl
@[simp] theorem State.setSlot_trestleFaults (s : State) (i : Nat) (x : Slot) : (s.setSlot i x).trestleFaults = s.trestleFaults := rfl
@[simp] theorem State.setSlot_kernels (s : State) (i : Nat) (x : Slot) : (s.setSlot i x).kernels = s.kernels := rfl
@[simp] theorem State.setSlot_repair (s : State) (i : Nat) (x : Slot) : (s.setSlot i x).repair = s.repair := rfl
@[simp] theorem State.setSlot_generations (s : State) (i : Nat) (x : Slot) : (s.setSlot i x).generations = s.generations := rfl
@[simp] theorem State.setSlot_boot (s : State) (i : Nat) (x : Slot) : (s.setSlot i x).boot = s.boot := rfl
@[simp] theorem State.setSlot_selftest (s : State) (i : Nat) (x : Slot) : (s.setSlot i x).selftest = s.selftest := rfl
@[simp] theorem State.setSlot_power (s : State) (i : Nat) (x : Slot) : (s.setSlot i x).power = s.power := rfl
@[simp] theorem State.setSlot_durableStore (s : State) (i : Nat) (x : Slot) : (s.setSlot i x).durableStore = s.durableStore := rfl

/-! ## modSlot -/

@[simp] theorem State.modSlot_pending (s : State) (i : Nat) (f : Slot → Slot) : (s.modSlot i f).pending = s.pending := rfl
@[simp] theorem State.modSlot_freeCount (s : State) (i : Nat) (f : Slot → Slot) : (s.modSlot i f).freeCount = s.freeCount := rfl
@[simp] theorem State.modSlot_dict (s : State) (i : Nat) (f : Slot → Slot) : (s.modSlot i f).dict = s.dict := rfl
@[simp] theorem State.modSlot_blobs (s : State) (i : Nat) (f : Slot → Slot) : (s.modSlot i f).blobs = s.blobs := rfl
@[simp] theorem State.modSlot_answer (s : State) (i : Nat) (f : Slot → Slot) : (s.modSlot i f).answer = s.answer := rfl
@[simp] theorem State.modSlot_sent (s : State) (i : Nat) (f : Slot → Slot) : (s.modSlot i f).sent = s.sent := rfl
@[simp] theorem State.modSlot_gtc (s : State) (i : Nat) (f : Slot → Slot) : (s.modSlot i f).gtc = s.gtc := rfl
@[simp] theorem State.modSlot_bus (s : State) (i : Nat) (f : Slot → Slot) : (s.modSlot i f).bus = s.bus := rfl
@[simp] theorem State.modSlot_persist (s : State) (i : Nat) (f : Slot → Slot) : (s.modSlot i f).persist = s.persist := rfl
@[simp] theorem State.modSlot_faults (s : State) (i : Nat) (f : Slot → Slot) : (s.modSlot i f).faults = s.faults := rfl
@[simp] theorem State.modSlot_elements (s : State) (i : Nat) (f : Slot → Slot) : (s.modSlot i f).elements = s.elements := rfl
@[simp] theorem State.modSlot_time (s : State) (i : Nat) (f : Slot → Slot) : (s.modSlot i f).time = s.time := rfl
@[simp] theorem State.modSlot_counters (s : State) (i : Nat) (f : Slot → Slot) : (s.modSlot i f).counters = s.counters := rfl
@[simp] theorem State.modSlot_lanesUsed (s : State) (i : Nat) (f : Slot → Slot) : (s.modSlot i f).lanesUsed = s.lanesUsed := rfl
@[simp] theorem State.modSlot_isolated (s : State) (i : Nat) (f : Slot → Slot) : (s.modSlot i f).isolated = s.isolated := rfl
@[simp] theorem State.modSlot_switches (s : State) (i : Nat) (f : Slot → Slot) : (s.modSlot i f).switches = s.switches := rfl
@[simp] theorem State.modSlot_pool (s : State) (i : Nat) (f : Slot → Slot) : (s.modSlot i f).pool = s.pool := rfl
@[simp] theorem State.modSlot_channels (s : State) (i : Nat) (f : Slot → Slot) : (s.modSlot i f).channels = s.channels := rfl
@[simp] theorem State.modSlot_heap (s : State) (i : Nat) (f : Slot → Slot) : (s.modSlot i f).heap = s.heap := rfl
@[simp] theorem State.modSlot_conns (s : State) (i : Nat) (f : Slot → Slot) : (s.modSlot i f).conns = s.conns := rfl
@[simp] theorem State.modSlot_kemKey (s : State) (i : Nat) (f : Slot → Slot) : (s.modSlot i f).kemKey = s.kemKey := rfl
@[simp] theorem State.modSlot_ports (s : State) (i : Nat) (f : Slot → Slot) : (s.modSlot i f).ports = s.ports := rfl
@[simp] theorem State.modSlot_inbox (s : State) (i : Nat) (f : Slot → Slot) : (s.modSlot i f).inbox = s.inbox := rfl
@[simp] theorem State.modSlot_objectWindows (s : State) (i : Nat) (f : Slot → Slot) : (s.modSlot i f).objectWindows = s.objectWindows := rfl
@[simp] theorem State.modSlot_regions (s : State) (i : Nat) (f : Slot → Slot) : (s.modSlot i f).regions = s.regions := rfl
@[simp] theorem State.modSlot_regionGens (s : State) (i : Nat) (f : Slot → Slot) : (s.modSlot i f).regionGens = s.regionGens := rfl
@[simp] theorem State.modSlot_items (s : State) (i : Nat) (f : Slot → Slot) : (s.modSlot i f).items = s.items := rfl
@[simp] theorem State.modSlot_offers (s : State) (i : Nat) (f : Slot → Slot) : (s.modSlot i f).offers = s.offers := rfl
@[simp] theorem State.modSlot_fills (s : State) (i : Nat) (f : Slot → Slot) : (s.modSlot i f).fills = s.fills := rfl
@[simp] theorem State.modSlot_batches (s : State) (i : Nat) (f : Slot → Slot) : (s.modSlot i f).batches = s.batches := rfl
@[simp] theorem State.modSlot_shoes (s : State) (i : Nat) (f : Slot → Slot) : (s.modSlot i f).shoes = s.shoes := rfl
@[simp] theorem State.modSlot_credits (s : State) (i : Nat) (f : Slot → Slot) : (s.modSlot i f).credits = s.credits := rfl
@[simp] theorem State.modSlot_cache (s : State) (i : Nat) (f : Slot → Slot) : (s.modSlot i f).cache = s.cache := rfl
@[simp] theorem State.modSlot_store (s : State) (i : Nat) (f : Slot → Slot) : (s.modSlot i f).store = s.store := rfl
@[simp] theorem State.modSlot_images (s : State) (i : Nat) (f : Slot → Slot) : (s.modSlot i f).images = s.images := rfl
@[simp] theorem State.modSlot_trestleFaults (s : State) (i : Nat) (f : Slot → Slot) : (s.modSlot i f).trestleFaults = s.trestleFaults := rfl
@[simp] theorem State.modSlot_kernels (s : State) (i : Nat) (f : Slot → Slot) : (s.modSlot i f).kernels = s.kernels := rfl
@[simp] theorem State.modSlot_repair (s : State) (i : Nat) (f : Slot → Slot) : (s.modSlot i f).repair = s.repair := rfl
@[simp] theorem State.modSlot_generations (s : State) (i : Nat) (f : Slot → Slot) : (s.modSlot i f).generations = s.generations := rfl
@[simp] theorem State.modSlot_boot (s : State) (i : Nat) (f : Slot → Slot) : (s.modSlot i f).boot = s.boot := rfl
@[simp] theorem State.modSlot_selftest (s : State) (i : Nat) (f : Slot → Slot) : (s.modSlot i f).selftest = s.selftest := rfl
@[simp] theorem State.modSlot_power (s : State) (i : Nat) (f : Slot → Slot) : (s.modSlot i f).power = s.power := rfl
@[simp] theorem State.modSlot_durableStore (s : State) (i : Nat) (f : Slot → Slot) : (s.modSlot i f).durableStore = s.durableStore := rfl

/-! ## putItem -/

@[simp] theorem State.putItem_pending (s : State) (it : Item) : (s.putItem it).pending = s.pending := rfl
@[simp] theorem State.putItem_freeCount (s : State) (it : Item) : (s.putItem it).freeCount = s.freeCount := rfl
@[simp] theorem State.putItem_dict (s : State) (it : Item) : (s.putItem it).dict = s.dict := rfl
@[simp] theorem State.putItem_blobs (s : State) (it : Item) : (s.putItem it).blobs = s.blobs := rfl
@[simp] theorem State.putItem_answer (s : State) (it : Item) : (s.putItem it).answer = s.answer := rfl
@[simp] theorem State.putItem_sent (s : State) (it : Item) : (s.putItem it).sent = s.sent := rfl
@[simp] theorem State.putItem_gtc (s : State) (it : Item) : (s.putItem it).gtc = s.gtc := rfl
@[simp] theorem State.putItem_bus (s : State) (it : Item) : (s.putItem it).bus = s.bus := rfl
@[simp] theorem State.putItem_persist (s : State) (it : Item) : (s.putItem it).persist = s.persist := rfl
@[simp] theorem State.putItem_faults (s : State) (it : Item) : (s.putItem it).faults = s.faults := rfl
@[simp] theorem State.putItem_elements (s : State) (it : Item) : (s.putItem it).elements = s.elements := rfl
@[simp] theorem State.putItem_time (s : State) (it : Item) : (s.putItem it).time = s.time := rfl
@[simp] theorem State.putItem_counters (s : State) (it : Item) : (s.putItem it).counters = s.counters := rfl
@[simp] theorem State.putItem_lanesUsed (s : State) (it : Item) : (s.putItem it).lanesUsed = s.lanesUsed := rfl
@[simp] theorem State.putItem_isolated (s : State) (it : Item) : (s.putItem it).isolated = s.isolated := rfl
@[simp] theorem State.putItem_slots (s : State) (it : Item) : (s.putItem it).slots = s.slots := rfl
@[simp] theorem State.putItem_switches (s : State) (it : Item) : (s.putItem it).switches = s.switches := rfl
@[simp] theorem State.putItem_pool (s : State) (it : Item) : (s.putItem it).pool = s.pool := rfl
@[simp] theorem State.putItem_channels (s : State) (it : Item) : (s.putItem it).channels = s.channels := rfl
@[simp] theorem State.putItem_heap (s : State) (it : Item) : (s.putItem it).heap = s.heap := rfl
@[simp] theorem State.putItem_conns (s : State) (it : Item) : (s.putItem it).conns = s.conns := rfl
@[simp] theorem State.putItem_kemKey (s : State) (it : Item) : (s.putItem it).kemKey = s.kemKey := rfl
@[simp] theorem State.putItem_ports (s : State) (it : Item) : (s.putItem it).ports = s.ports := rfl
@[simp] theorem State.putItem_inbox (s : State) (it : Item) : (s.putItem it).inbox = s.inbox := rfl
@[simp] theorem State.putItem_objectWindows (s : State) (it : Item) : (s.putItem it).objectWindows = s.objectWindows := rfl
@[simp] theorem State.putItem_regions (s : State) (it : Item) : (s.putItem it).regions = s.regions := rfl
@[simp] theorem State.putItem_regionGens (s : State) (it : Item) : (s.putItem it).regionGens = s.regionGens := rfl
@[simp] theorem State.putItem_offers (s : State) (it : Item) : (s.putItem it).offers = s.offers := rfl
@[simp] theorem State.putItem_fills (s : State) (it : Item) : (s.putItem it).fills = s.fills := rfl
@[simp] theorem State.putItem_batches (s : State) (it : Item) : (s.putItem it).batches = s.batches := rfl
@[simp] theorem State.putItem_shoes (s : State) (it : Item) : (s.putItem it).shoes = s.shoes := rfl
@[simp] theorem State.putItem_credits (s : State) (it : Item) : (s.putItem it).credits = s.credits := rfl
@[simp] theorem State.putItem_cache (s : State) (it : Item) : (s.putItem it).cache = s.cache := rfl
@[simp] theorem State.putItem_store (s : State) (it : Item) : (s.putItem it).store = s.store := rfl
@[simp] theorem State.putItem_images (s : State) (it : Item) : (s.putItem it).images = s.images := rfl
@[simp] theorem State.putItem_trestleFaults (s : State) (it : Item) : (s.putItem it).trestleFaults = s.trestleFaults := rfl
@[simp] theorem State.putItem_kernels (s : State) (it : Item) : (s.putItem it).kernels = s.kernels := rfl
@[simp] theorem State.putItem_repair (s : State) (it : Item) : (s.putItem it).repair = s.repair := rfl
@[simp] theorem State.putItem_generations (s : State) (it : Item) : (s.putItem it).generations = s.generations := rfl
@[simp] theorem State.putItem_boot (s : State) (it : Item) : (s.putItem it).boot = s.boot := rfl
@[simp] theorem State.putItem_selftest (s : State) (it : Item) : (s.putItem it).selftest = s.selftest := rfl
@[simp] theorem State.putItem_power (s : State) (it : Item) : (s.putItem it).power = s.power := rfl
@[simp] theorem State.putItem_durableStore (s : State) (it : Item) : (s.putItem it).durableStore = s.durableStore := rfl

/-! ## addItem -/

@[simp] theorem State.addItem_pending (s : State) (it : Item) : (s.addItem it).pending = s.pending := rfl
@[simp] theorem State.addItem_freeCount (s : State) (it : Item) : (s.addItem it).freeCount = s.freeCount := rfl
@[simp] theorem State.addItem_dict (s : State) (it : Item) : (s.addItem it).dict = s.dict := rfl
@[simp] theorem State.addItem_blobs (s : State) (it : Item) : (s.addItem it).blobs = s.blobs := rfl
@[simp] theorem State.addItem_answer (s : State) (it : Item) : (s.addItem it).answer = s.answer := rfl
@[simp] theorem State.addItem_sent (s : State) (it : Item) : (s.addItem it).sent = s.sent := rfl
@[simp] theorem State.addItem_gtc (s : State) (it : Item) : (s.addItem it).gtc = s.gtc := rfl
@[simp] theorem State.addItem_bus (s : State) (it : Item) : (s.addItem it).bus = s.bus := rfl
@[simp] theorem State.addItem_persist (s : State) (it : Item) : (s.addItem it).persist = s.persist := rfl
@[simp] theorem State.addItem_faults (s : State) (it : Item) : (s.addItem it).faults = s.faults := rfl
@[simp] theorem State.addItem_elements (s : State) (it : Item) : (s.addItem it).elements = s.elements := rfl
@[simp] theorem State.addItem_time (s : State) (it : Item) : (s.addItem it).time = s.time := rfl
@[simp] theorem State.addItem_counters (s : State) (it : Item) : (s.addItem it).counters = s.counters := rfl
@[simp] theorem State.addItem_lanesUsed (s : State) (it : Item) : (s.addItem it).lanesUsed = s.lanesUsed := rfl
@[simp] theorem State.addItem_isolated (s : State) (it : Item) : (s.addItem it).isolated = s.isolated := rfl
@[simp] theorem State.addItem_slots (s : State) (it : Item) : (s.addItem it).slots = s.slots := rfl
@[simp] theorem State.addItem_switches (s : State) (it : Item) : (s.addItem it).switches = s.switches := rfl
@[simp] theorem State.addItem_pool (s : State) (it : Item) : (s.addItem it).pool = s.pool := rfl
@[simp] theorem State.addItem_channels (s : State) (it : Item) : (s.addItem it).channels = s.channels := rfl
@[simp] theorem State.addItem_heap (s : State) (it : Item) : (s.addItem it).heap = s.heap := rfl
@[simp] theorem State.addItem_conns (s : State) (it : Item) : (s.addItem it).conns = s.conns := rfl
@[simp] theorem State.addItem_kemKey (s : State) (it : Item) : (s.addItem it).kemKey = s.kemKey := rfl
@[simp] theorem State.addItem_ports (s : State) (it : Item) : (s.addItem it).ports = s.ports := rfl
@[simp] theorem State.addItem_inbox (s : State) (it : Item) : (s.addItem it).inbox = s.inbox := rfl
@[simp] theorem State.addItem_objectWindows (s : State) (it : Item) : (s.addItem it).objectWindows = s.objectWindows := rfl
@[simp] theorem State.addItem_regions (s : State) (it : Item) : (s.addItem it).regions = s.regions := rfl
@[simp] theorem State.addItem_regionGens (s : State) (it : Item) : (s.addItem it).regionGens = s.regionGens := rfl
@[simp] theorem State.addItem_offers (s : State) (it : Item) : (s.addItem it).offers = s.offers := rfl
@[simp] theorem State.addItem_fills (s : State) (it : Item) : (s.addItem it).fills = s.fills := rfl
@[simp] theorem State.addItem_batches (s : State) (it : Item) : (s.addItem it).batches = s.batches := rfl
@[simp] theorem State.addItem_shoes (s : State) (it : Item) : (s.addItem it).shoes = s.shoes := rfl
@[simp] theorem State.addItem_credits (s : State) (it : Item) : (s.addItem it).credits = s.credits := rfl
@[simp] theorem State.addItem_cache (s : State) (it : Item) : (s.addItem it).cache = s.cache := rfl
@[simp] theorem State.addItem_store (s : State) (it : Item) : (s.addItem it).store = s.store := rfl
@[simp] theorem State.addItem_images (s : State) (it : Item) : (s.addItem it).images = s.images := rfl
@[simp] theorem State.addItem_trestleFaults (s : State) (it : Item) : (s.addItem it).trestleFaults = s.trestleFaults := rfl
@[simp] theorem State.addItem_kernels (s : State) (it : Item) : (s.addItem it).kernels = s.kernels := rfl
@[simp] theorem State.addItem_repair (s : State) (it : Item) : (s.addItem it).repair = s.repair := rfl
@[simp] theorem State.addItem_generations (s : State) (it : Item) : (s.addItem it).generations = s.generations := rfl
@[simp] theorem State.addItem_boot (s : State) (it : Item) : (s.addItem it).boot = s.boot := rfl
@[simp] theorem State.addItem_selftest (s : State) (it : Item) : (s.addItem it).selftest = s.selftest := rfl
@[simp] theorem State.addItem_power (s : State) (it : Item) : (s.addItem it).power = s.power := rfl
@[simp] theorem State.addItem_durableStore (s : State) (it : Item) : (s.addItem it).durableStore = s.durableStore := rfl

/-! ## dropItem -/

@[simp] theorem State.dropItem_pending (s : State) (e : Nat) : (s.dropItem e).pending = s.pending := rfl
@[simp] theorem State.dropItem_freeCount (s : State) (e : Nat) : (s.dropItem e).freeCount = s.freeCount := rfl
@[simp] theorem State.dropItem_dict (s : State) (e : Nat) : (s.dropItem e).dict = s.dict := rfl
@[simp] theorem State.dropItem_blobs (s : State) (e : Nat) : (s.dropItem e).blobs = s.blobs := rfl
@[simp] theorem State.dropItem_answer (s : State) (e : Nat) : (s.dropItem e).answer = s.answer := rfl
@[simp] theorem State.dropItem_sent (s : State) (e : Nat) : (s.dropItem e).sent = s.sent := rfl
@[simp] theorem State.dropItem_gtc (s : State) (e : Nat) : (s.dropItem e).gtc = s.gtc := rfl
@[simp] theorem State.dropItem_bus (s : State) (e : Nat) : (s.dropItem e).bus = s.bus := rfl
@[simp] theorem State.dropItem_persist (s : State) (e : Nat) : (s.dropItem e).persist = s.persist := rfl
@[simp] theorem State.dropItem_faults (s : State) (e : Nat) : (s.dropItem e).faults = s.faults := rfl
@[simp] theorem State.dropItem_elements (s : State) (e : Nat) : (s.dropItem e).elements = s.elements := rfl
@[simp] theorem State.dropItem_time (s : State) (e : Nat) : (s.dropItem e).time = s.time := rfl
@[simp] theorem State.dropItem_counters (s : State) (e : Nat) : (s.dropItem e).counters = s.counters := rfl
@[simp] theorem State.dropItem_lanesUsed (s : State) (e : Nat) : (s.dropItem e).lanesUsed = s.lanesUsed := rfl
@[simp] theorem State.dropItem_isolated (s : State) (e : Nat) : (s.dropItem e).isolated = s.isolated := rfl
@[simp] theorem State.dropItem_slots (s : State) (e : Nat) : (s.dropItem e).slots = s.slots := rfl
@[simp] theorem State.dropItem_switches (s : State) (e : Nat) : (s.dropItem e).switches = s.switches := rfl
@[simp] theorem State.dropItem_pool (s : State) (e : Nat) : (s.dropItem e).pool = s.pool := rfl
@[simp] theorem State.dropItem_channels (s : State) (e : Nat) : (s.dropItem e).channels = s.channels := rfl
@[simp] theorem State.dropItem_heap (s : State) (e : Nat) : (s.dropItem e).heap = s.heap := rfl
@[simp] theorem State.dropItem_conns (s : State) (e : Nat) : (s.dropItem e).conns = s.conns := rfl
@[simp] theorem State.dropItem_kemKey (s : State) (e : Nat) : (s.dropItem e).kemKey = s.kemKey := rfl
@[simp] theorem State.dropItem_ports (s : State) (e : Nat) : (s.dropItem e).ports = s.ports := rfl
@[simp] theorem State.dropItem_inbox (s : State) (e : Nat) : (s.dropItem e).inbox = s.inbox := rfl
@[simp] theorem State.dropItem_objectWindows (s : State) (e : Nat) : (s.dropItem e).objectWindows = s.objectWindows := rfl
@[simp] theorem State.dropItem_regions (s : State) (e : Nat) : (s.dropItem e).regions = s.regions := rfl
@[simp] theorem State.dropItem_regionGens (s : State) (e : Nat) : (s.dropItem e).regionGens = s.regionGens := rfl
@[simp] theorem State.dropItem_offers (s : State) (e : Nat) : (s.dropItem e).offers = s.offers := rfl
@[simp] theorem State.dropItem_fills (s : State) (e : Nat) : (s.dropItem e).fills = s.fills := rfl
@[simp] theorem State.dropItem_batches (s : State) (e : Nat) : (s.dropItem e).batches = s.batches := rfl
@[simp] theorem State.dropItem_shoes (s : State) (e : Nat) : (s.dropItem e).shoes = s.shoes := rfl
@[simp] theorem State.dropItem_credits (s : State) (e : Nat) : (s.dropItem e).credits = s.credits := rfl
@[simp] theorem State.dropItem_cache (s : State) (e : Nat) : (s.dropItem e).cache = s.cache := rfl
@[simp] theorem State.dropItem_store (s : State) (e : Nat) : (s.dropItem e).store = s.store := rfl
@[simp] theorem State.dropItem_images (s : State) (e : Nat) : (s.dropItem e).images = s.images := rfl
@[simp] theorem State.dropItem_trestleFaults (s : State) (e : Nat) : (s.dropItem e).trestleFaults = s.trestleFaults := rfl
@[simp] theorem State.dropItem_kernels (s : State) (e : Nat) : (s.dropItem e).kernels = s.kernels := rfl
@[simp] theorem State.dropItem_repair (s : State) (e : Nat) : (s.dropItem e).repair = s.repair := rfl
@[simp] theorem State.dropItem_generations (s : State) (e : Nat) : (s.dropItem e).generations = s.generations := rfl
@[simp] theorem State.dropItem_boot (s : State) (e : Nat) : (s.dropItem e).boot = s.boot := rfl
@[simp] theorem State.dropItem_selftest (s : State) (e : Nat) : (s.dropItem e).selftest = s.selftest := rfl
@[simp] theorem State.dropItem_power (s : State) (e : Nat) : (s.dropItem e).power = s.power := rfl
@[simp] theorem State.dropItem_durableStore (s : State) (e : Nat) : (s.dropItem e).durableStore = s.durableStore := rfl

/-! ## count -/

@[simp] theorem State.count_pending (s : State) (k n : Nat) : (s.count k n).pending = s.pending := rfl
@[simp] theorem State.count_freeCount (s : State) (k n : Nat) : (s.count k n).freeCount = s.freeCount := rfl
@[simp] theorem State.count_blobs (s : State) (k n : Nat) : (s.count k n).blobs = s.blobs := rfl
@[simp] theorem State.count_answer (s : State) (k n : Nat) : (s.count k n).answer = s.answer := rfl
@[simp] theorem State.count_sent (s : State) (k n : Nat) : (s.count k n).sent = s.sent := rfl
@[simp] theorem State.count_gtc (s : State) (k n : Nat) : (s.count k n).gtc = s.gtc := rfl
@[simp] theorem State.count_bus (s : State) (k n : Nat) : (s.count k n).bus = s.bus := rfl
@[simp] theorem State.count_persist (s : State) (k n : Nat) : (s.count k n).persist = s.persist := rfl
@[simp] theorem State.count_faults (s : State) (k n : Nat) : (s.count k n).faults = s.faults := rfl
@[simp] theorem State.count_elements (s : State) (k n : Nat) : (s.count k n).elements = s.elements := rfl
@[simp] theorem State.count_time (s : State) (k n : Nat) : (s.count k n).time = s.time := rfl
@[simp] theorem State.count_counters (s : State) (k n : Nat) : (s.count k n).counters = s.counters := rfl
@[simp] theorem State.count_lanesUsed (s : State) (k n : Nat) : (s.count k n).lanesUsed = s.lanesUsed := rfl
@[simp] theorem State.count_isolated (s : State) (k n : Nat) : (s.count k n).isolated = s.isolated := rfl
@[simp] theorem State.count_slots (s : State) (k n : Nat) : (s.count k n).slots = s.slots := rfl
@[simp] theorem State.count_switches (s : State) (k n : Nat) : (s.count k n).switches = s.switches := rfl
@[simp] theorem State.count_pool (s : State) (k n : Nat) : (s.count k n).pool = s.pool := rfl
@[simp] theorem State.count_channels (s : State) (k n : Nat) : (s.count k n).channels = s.channels := rfl
@[simp] theorem State.count_heap (s : State) (k n : Nat) : (s.count k n).heap = s.heap := rfl
@[simp] theorem State.count_conns (s : State) (k n : Nat) : (s.count k n).conns = s.conns := rfl
@[simp] theorem State.count_kemKey (s : State) (k n : Nat) : (s.count k n).kemKey = s.kemKey := rfl
@[simp] theorem State.count_ports (s : State) (k n : Nat) : (s.count k n).ports = s.ports := rfl
@[simp] theorem State.count_inbox (s : State) (k n : Nat) : (s.count k n).inbox = s.inbox := rfl
@[simp] theorem State.count_objectWindows (s : State) (k n : Nat) : (s.count k n).objectWindows = s.objectWindows := rfl
@[simp] theorem State.count_regions (s : State) (k n : Nat) : (s.count k n).regions = s.regions := rfl
@[simp] theorem State.count_regionGens (s : State) (k n : Nat) : (s.count k n).regionGens = s.regionGens := rfl
@[simp] theorem State.count_items (s : State) (k n : Nat) : (s.count k n).items = s.items := rfl
@[simp] theorem State.count_offers (s : State) (k n : Nat) : (s.count k n).offers = s.offers := rfl
@[simp] theorem State.count_fills (s : State) (k n : Nat) : (s.count k n).fills = s.fills := rfl
@[simp] theorem State.count_batches (s : State) (k n : Nat) : (s.count k n).batches = s.batches := rfl
@[simp] theorem State.count_shoes (s : State) (k n : Nat) : (s.count k n).shoes = s.shoes := rfl
@[simp] theorem State.count_credits (s : State) (k n : Nat) : (s.count k n).credits = s.credits := rfl
@[simp] theorem State.count_cache (s : State) (k n : Nat) : (s.count k n).cache = s.cache := rfl
@[simp] theorem State.count_store (s : State) (k n : Nat) : (s.count k n).store = s.store := rfl
@[simp] theorem State.count_images (s : State) (k n : Nat) : (s.count k n).images = s.images := rfl
@[simp] theorem State.count_trestleFaults (s : State) (k n : Nat) : (s.count k n).trestleFaults = s.trestleFaults := rfl
@[simp] theorem State.count_kernels (s : State) (k n : Nat) : (s.count k n).kernels = s.kernels := rfl
@[simp] theorem State.count_repair (s : State) (k n : Nat) : (s.count k n).repair = s.repair := rfl
@[simp] theorem State.count_generations (s : State) (k n : Nat) : (s.count k n).generations = s.generations := rfl
@[simp] theorem State.count_boot (s : State) (k n : Nat) : (s.count k n).boot = s.boot := rfl
@[simp] theorem State.count_selftest (s : State) (k n : Nat) : (s.count k n).selftest = s.selftest := rfl
@[simp] theorem State.count_power (s : State) (k n : Nat) : (s.count k n).power = s.power := rfl
@[simp] theorem State.count_durableStore (s : State) (k n : Nat) : (s.count k n).durableStore = s.durableStore := rfl

/-! ## bump -/

@[simp] theorem State.bump_pending (s : State) (k : Nat) : (s.bump k).pending = s.pending := rfl
@[simp] theorem State.bump_freeCount (s : State) (k : Nat) : (s.bump k).freeCount = s.freeCount := rfl
@[simp] theorem State.bump_blobs (s : State) (k : Nat) : (s.bump k).blobs = s.blobs := rfl
@[simp] theorem State.bump_answer (s : State) (k : Nat) : (s.bump k).answer = s.answer := rfl
@[simp] theorem State.bump_sent (s : State) (k : Nat) : (s.bump k).sent = s.sent := rfl
@[simp] theorem State.bump_gtc (s : State) (k : Nat) : (s.bump k).gtc = s.gtc := rfl
@[simp] theorem State.bump_bus (s : State) (k : Nat) : (s.bump k).bus = s.bus := rfl
@[simp] theorem State.bump_persist (s : State) (k : Nat) : (s.bump k).persist = s.persist := rfl
@[simp] theorem State.bump_faults (s : State) (k : Nat) : (s.bump k).faults = s.faults := rfl
@[simp] theorem State.bump_elements (s : State) (k : Nat) : (s.bump k).elements = s.elements := rfl
@[simp] theorem State.bump_time (s : State) (k : Nat) : (s.bump k).time = s.time := rfl
@[simp] theorem State.bump_counters (s : State) (k : Nat) : (s.bump k).counters = s.counters := rfl
@[simp] theorem State.bump_lanesUsed (s : State) (k : Nat) : (s.bump k).lanesUsed = s.lanesUsed := rfl
@[simp] theorem State.bump_isolated (s : State) (k : Nat) : (s.bump k).isolated = s.isolated := rfl
@[simp] theorem State.bump_slots (s : State) (k : Nat) : (s.bump k).slots = s.slots := rfl
@[simp] theorem State.bump_switches (s : State) (k : Nat) : (s.bump k).switches = s.switches := rfl
@[simp] theorem State.bump_pool (s : State) (k : Nat) : (s.bump k).pool = s.pool := rfl
@[simp] theorem State.bump_channels (s : State) (k : Nat) : (s.bump k).channels = s.channels := rfl
@[simp] theorem State.bump_heap (s : State) (k : Nat) : (s.bump k).heap = s.heap := rfl
@[simp] theorem State.bump_conns (s : State) (k : Nat) : (s.bump k).conns = s.conns := rfl
@[simp] theorem State.bump_kemKey (s : State) (k : Nat) : (s.bump k).kemKey = s.kemKey := rfl
@[simp] theorem State.bump_ports (s : State) (k : Nat) : (s.bump k).ports = s.ports := rfl
@[simp] theorem State.bump_inbox (s : State) (k : Nat) : (s.bump k).inbox = s.inbox := rfl
@[simp] theorem State.bump_objectWindows (s : State) (k : Nat) : (s.bump k).objectWindows = s.objectWindows := rfl
@[simp] theorem State.bump_regions (s : State) (k : Nat) : (s.bump k).regions = s.regions := rfl
@[simp] theorem State.bump_regionGens (s : State) (k : Nat) : (s.bump k).regionGens = s.regionGens := rfl
@[simp] theorem State.bump_items (s : State) (k : Nat) : (s.bump k).items = s.items := rfl
@[simp] theorem State.bump_offers (s : State) (k : Nat) : (s.bump k).offers = s.offers := rfl
@[simp] theorem State.bump_fills (s : State) (k : Nat) : (s.bump k).fills = s.fills := rfl
@[simp] theorem State.bump_batches (s : State) (k : Nat) : (s.bump k).batches = s.batches := rfl
@[simp] theorem State.bump_shoes (s : State) (k : Nat) : (s.bump k).shoes = s.shoes := rfl
@[simp] theorem State.bump_credits (s : State) (k : Nat) : (s.bump k).credits = s.credits := rfl
@[simp] theorem State.bump_cache (s : State) (k : Nat) : (s.bump k).cache = s.cache := rfl
@[simp] theorem State.bump_store (s : State) (k : Nat) : (s.bump k).store = s.store := rfl
@[simp] theorem State.bump_images (s : State) (k : Nat) : (s.bump k).images = s.images := rfl
@[simp] theorem State.bump_trestleFaults (s : State) (k : Nat) : (s.bump k).trestleFaults = s.trestleFaults := rfl
@[simp] theorem State.bump_kernels (s : State) (k : Nat) : (s.bump k).kernels = s.kernels := rfl
@[simp] theorem State.bump_repair (s : State) (k : Nat) : (s.bump k).repair = s.repair := rfl
@[simp] theorem State.bump_generations (s : State) (k : Nat) : (s.bump k).generations = s.generations := rfl
@[simp] theorem State.bump_boot (s : State) (k : Nat) : (s.bump k).boot = s.boot := rfl
@[simp] theorem State.bump_selftest (s : State) (k : Nat) : (s.bump k).selftest = s.selftest := rfl
@[simp] theorem State.bump_power (s : State) (k : Nat) : (s.bump k).power = s.power := rfl
@[simp] theorem State.bump_durableStore (s : State) (k : Nat) : (s.bump k).durableStore = s.durableStore := rfl

/-! ## countW -/

@[simp] theorem State.countW_pending (s : State) (w k n : Nat) : (s.countW w k n).pending = s.pending := rfl
@[simp] theorem State.countW_freeCount (s : State) (w k n : Nat) : (s.countW w k n).freeCount = s.freeCount := rfl
@[simp] theorem State.countW_blobs (s : State) (w k n : Nat) : (s.countW w k n).blobs = s.blobs := rfl
@[simp] theorem State.countW_answer (s : State) (w k n : Nat) : (s.countW w k n).answer = s.answer := rfl
@[simp] theorem State.countW_sent (s : State) (w k n : Nat) : (s.countW w k n).sent = s.sent := rfl
@[simp] theorem State.countW_gtc (s : State) (w k n : Nat) : (s.countW w k n).gtc = s.gtc := rfl
@[simp] theorem State.countW_bus (s : State) (w k n : Nat) : (s.countW w k n).bus = s.bus := rfl
@[simp] theorem State.countW_persist (s : State) (w k n : Nat) : (s.countW w k n).persist = s.persist := rfl
@[simp] theorem State.countW_faults (s : State) (w k n : Nat) : (s.countW w k n).faults = s.faults := rfl
@[simp] theorem State.countW_elements (s : State) (w k n : Nat) : (s.countW w k n).elements = s.elements := rfl
@[simp] theorem State.countW_time (s : State) (w k n : Nat) : (s.countW w k n).time = s.time := rfl
@[simp] theorem State.countW_counters (s : State) (w k n : Nat) : (s.countW w k n).counters = s.counters := rfl
@[simp] theorem State.countW_lanesUsed (s : State) (w k n : Nat) : (s.countW w k n).lanesUsed = s.lanesUsed := rfl
@[simp] theorem State.countW_isolated (s : State) (w k n : Nat) : (s.countW w k n).isolated = s.isolated := rfl
@[simp] theorem State.countW_slots (s : State) (w k n : Nat) : (s.countW w k n).slots = s.slots := rfl
@[simp] theorem State.countW_switches (s : State) (w k n : Nat) : (s.countW w k n).switches = s.switches := rfl
@[simp] theorem State.countW_pool (s : State) (w k n : Nat) : (s.countW w k n).pool = s.pool := rfl
@[simp] theorem State.countW_channels (s : State) (w k n : Nat) : (s.countW w k n).channels = s.channels := rfl
@[simp] theorem State.countW_heap (s : State) (w k n : Nat) : (s.countW w k n).heap = s.heap := rfl
@[simp] theorem State.countW_conns (s : State) (w k n : Nat) : (s.countW w k n).conns = s.conns := rfl
@[simp] theorem State.countW_kemKey (s : State) (w k n : Nat) : (s.countW w k n).kemKey = s.kemKey := rfl
@[simp] theorem State.countW_ports (s : State) (w k n : Nat) : (s.countW w k n).ports = s.ports := rfl
@[simp] theorem State.countW_inbox (s : State) (w k n : Nat) : (s.countW w k n).inbox = s.inbox := rfl
@[simp] theorem State.countW_objectWindows (s : State) (w k n : Nat) : (s.countW w k n).objectWindows = s.objectWindows := rfl
@[simp] theorem State.countW_regions (s : State) (w k n : Nat) : (s.countW w k n).regions = s.regions := rfl
@[simp] theorem State.countW_regionGens (s : State) (w k n : Nat) : (s.countW w k n).regionGens = s.regionGens := rfl
@[simp] theorem State.countW_items (s : State) (w k n : Nat) : (s.countW w k n).items = s.items := rfl
@[simp] theorem State.countW_offers (s : State) (w k n : Nat) : (s.countW w k n).offers = s.offers := rfl
@[simp] theorem State.countW_fills (s : State) (w k n : Nat) : (s.countW w k n).fills = s.fills := rfl
@[simp] theorem State.countW_batches (s : State) (w k n : Nat) : (s.countW w k n).batches = s.batches := rfl
@[simp] theorem State.countW_shoes (s : State) (w k n : Nat) : (s.countW w k n).shoes = s.shoes := rfl
@[simp] theorem State.countW_credits (s : State) (w k n : Nat) : (s.countW w k n).credits = s.credits := rfl
@[simp] theorem State.countW_cache (s : State) (w k n : Nat) : (s.countW w k n).cache = s.cache := rfl
@[simp] theorem State.countW_store (s : State) (w k n : Nat) : (s.countW w k n).store = s.store := rfl
@[simp] theorem State.countW_images (s : State) (w k n : Nat) : (s.countW w k n).images = s.images := rfl
@[simp] theorem State.countW_trestleFaults (s : State) (w k n : Nat) : (s.countW w k n).trestleFaults = s.trestleFaults := rfl
@[simp] theorem State.countW_kernels (s : State) (w k n : Nat) : (s.countW w k n).kernels = s.kernels := rfl
@[simp] theorem State.countW_repair (s : State) (w k n : Nat) : (s.countW w k n).repair = s.repair := rfl
@[simp] theorem State.countW_generations (s : State) (w k n : Nat) : (s.countW w k n).generations = s.generations := rfl
@[simp] theorem State.countW_boot (s : State) (w k n : Nat) : (s.countW w k n).boot = s.boot := rfl
@[simp] theorem State.countW_selftest (s : State) (w k n : Nat) : (s.countW w k n).selftest = s.selftest := rfl
@[simp] theorem State.countW_power (s : State) (w k n : Nat) : (s.countW w k n).power = s.power := rfl
@[simp] theorem State.countW_durableStore (s : State) (w k n : Nat) : (s.countW w k n).durableStore = s.durableStore := rfl

/-! ## seti -/

@[simp] theorem State.seti_pending (s : State) (w k : Nat) (v : Int) : (s.seti w k v).pending = s.pending := rfl
@[simp] theorem State.seti_freeCount (s : State) (w k : Nat) (v : Int) : (s.seti w k v).freeCount = s.freeCount := rfl
@[simp] theorem State.seti_blobs (s : State) (w k : Nat) (v : Int) : (s.seti w k v).blobs = s.blobs := rfl
@[simp] theorem State.seti_answer (s : State) (w k : Nat) (v : Int) : (s.seti w k v).answer = s.answer := rfl
@[simp] theorem State.seti_sent (s : State) (w k : Nat) (v : Int) : (s.seti w k v).sent = s.sent := rfl
@[simp] theorem State.seti_gtc (s : State) (w k : Nat) (v : Int) : (s.seti w k v).gtc = s.gtc := rfl
@[simp] theorem State.seti_bus (s : State) (w k : Nat) (v : Int) : (s.seti w k v).bus = s.bus := rfl
@[simp] theorem State.seti_persist (s : State) (w k : Nat) (v : Int) : (s.seti w k v).persist = s.persist := rfl
@[simp] theorem State.seti_faults (s : State) (w k : Nat) (v : Int) : (s.seti w k v).faults = s.faults := rfl
@[simp] theorem State.seti_elements (s : State) (w k : Nat) (v : Int) : (s.seti w k v).elements = s.elements := rfl
@[simp] theorem State.seti_time (s : State) (w k : Nat) (v : Int) : (s.seti w k v).time = s.time := rfl
@[simp] theorem State.seti_counters (s : State) (w k : Nat) (v : Int) : (s.seti w k v).counters = s.counters := rfl
@[simp] theorem State.seti_lanesUsed (s : State) (w k : Nat) (v : Int) : (s.seti w k v).lanesUsed = s.lanesUsed := rfl
@[simp] theorem State.seti_isolated (s : State) (w k : Nat) (v : Int) : (s.seti w k v).isolated = s.isolated := rfl
@[simp] theorem State.seti_slots (s : State) (w k : Nat) (v : Int) : (s.seti w k v).slots = s.slots := rfl
@[simp] theorem State.seti_switches (s : State) (w k : Nat) (v : Int) : (s.seti w k v).switches = s.switches := rfl
@[simp] theorem State.seti_pool (s : State) (w k : Nat) (v : Int) : (s.seti w k v).pool = s.pool := rfl
@[simp] theorem State.seti_channels (s : State) (w k : Nat) (v : Int) : (s.seti w k v).channels = s.channels := rfl
@[simp] theorem State.seti_heap (s : State) (w k : Nat) (v : Int) : (s.seti w k v).heap = s.heap := rfl
@[simp] theorem State.seti_conns (s : State) (w k : Nat) (v : Int) : (s.seti w k v).conns = s.conns := rfl
@[simp] theorem State.seti_kemKey (s : State) (w k : Nat) (v : Int) : (s.seti w k v).kemKey = s.kemKey := rfl
@[simp] theorem State.seti_ports (s : State) (w k : Nat) (v : Int) : (s.seti w k v).ports = s.ports := rfl
@[simp] theorem State.seti_inbox (s : State) (w k : Nat) (v : Int) : (s.seti w k v).inbox = s.inbox := rfl
@[simp] theorem State.seti_objectWindows (s : State) (w k : Nat) (v : Int) : (s.seti w k v).objectWindows = s.objectWindows := rfl
@[simp] theorem State.seti_regions (s : State) (w k : Nat) (v : Int) : (s.seti w k v).regions = s.regions := rfl
@[simp] theorem State.seti_regionGens (s : State) (w k : Nat) (v : Int) : (s.seti w k v).regionGens = s.regionGens := rfl
@[simp] theorem State.seti_items (s : State) (w k : Nat) (v : Int) : (s.seti w k v).items = s.items := rfl
@[simp] theorem State.seti_offers (s : State) (w k : Nat) (v : Int) : (s.seti w k v).offers = s.offers := rfl
@[simp] theorem State.seti_fills (s : State) (w k : Nat) (v : Int) : (s.seti w k v).fills = s.fills := rfl
@[simp] theorem State.seti_batches (s : State) (w k : Nat) (v : Int) : (s.seti w k v).batches = s.batches := rfl
@[simp] theorem State.seti_shoes (s : State) (w k : Nat) (v : Int) : (s.seti w k v).shoes = s.shoes := rfl
@[simp] theorem State.seti_credits (s : State) (w k : Nat) (v : Int) : (s.seti w k v).credits = s.credits := rfl
@[simp] theorem State.seti_cache (s : State) (w k : Nat) (v : Int) : (s.seti w k v).cache = s.cache := rfl
@[simp] theorem State.seti_store (s : State) (w k : Nat) (v : Int) : (s.seti w k v).store = s.store := rfl
@[simp] theorem State.seti_images (s : State) (w k : Nat) (v : Int) : (s.seti w k v).images = s.images := rfl
@[simp] theorem State.seti_trestleFaults (s : State) (w k : Nat) (v : Int) : (s.seti w k v).trestleFaults = s.trestleFaults := rfl
@[simp] theorem State.seti_kernels (s : State) (w k : Nat) (v : Int) : (s.seti w k v).kernels = s.kernels := rfl
@[simp] theorem State.seti_repair (s : State) (w k : Nat) (v : Int) : (s.seti w k v).repair = s.repair := rfl
@[simp] theorem State.seti_generations (s : State) (w k : Nat) (v : Int) : (s.seti w k v).generations = s.generations := rfl
@[simp] theorem State.seti_boot (s : State) (w k : Nat) (v : Int) : (s.seti w k v).boot = s.boot := rfl
@[simp] theorem State.seti_selftest (s : State) (w k : Nat) (v : Int) : (s.seti w k v).selftest = s.selftest := rfl
@[simp] theorem State.seti_power (s : State) (w k : Nat) (v : Int) : (s.seti w k v).power = s.power := rfl
@[simp] theorem State.seti_durableStore (s : State) (w k : Nat) (v : Int) : (s.seti w k v).durableStore = s.durableStore := rfl

/-! ## modStore -/

@[simp] theorem State.modStore_pending (s : State) (f : Store → Store) : (s.modStore f).pending = s.pending := rfl
@[simp] theorem State.modStore_freeCount (s : State) (f : Store → Store) : (s.modStore f).freeCount = s.freeCount := rfl
@[simp] theorem State.modStore_dict (s : State) (f : Store → Store) : (s.modStore f).dict = s.dict := rfl
@[simp] theorem State.modStore_blobs (s : State) (f : Store → Store) : (s.modStore f).blobs = s.blobs := rfl
@[simp] theorem State.modStore_answer (s : State) (f : Store → Store) : (s.modStore f).answer = s.answer := rfl
@[simp] theorem State.modStore_sent (s : State) (f : Store → Store) : (s.modStore f).sent = s.sent := rfl
@[simp] theorem State.modStore_gtc (s : State) (f : Store → Store) : (s.modStore f).gtc = s.gtc := rfl
@[simp] theorem State.modStore_bus (s : State) (f : Store → Store) : (s.modStore f).bus = s.bus := rfl
@[simp] theorem State.modStore_persist (s : State) (f : Store → Store) : (s.modStore f).persist = s.persist := rfl
@[simp] theorem State.modStore_faults (s : State) (f : Store → Store) : (s.modStore f).faults = s.faults := rfl
@[simp] theorem State.modStore_elements (s : State) (f : Store → Store) : (s.modStore f).elements = s.elements := rfl
@[simp] theorem State.modStore_time (s : State) (f : Store → Store) : (s.modStore f).time = s.time := rfl
@[simp] theorem State.modStore_counters (s : State) (f : Store → Store) : (s.modStore f).counters = s.counters := rfl
@[simp] theorem State.modStore_lanesUsed (s : State) (f : Store → Store) : (s.modStore f).lanesUsed = s.lanesUsed := rfl
@[simp] theorem State.modStore_isolated (s : State) (f : Store → Store) : (s.modStore f).isolated = s.isolated := rfl
@[simp] theorem State.modStore_slots (s : State) (f : Store → Store) : (s.modStore f).slots = s.slots := rfl
@[simp] theorem State.modStore_switches (s : State) (f : Store → Store) : (s.modStore f).switches = s.switches := rfl
@[simp] theorem State.modStore_pool (s : State) (f : Store → Store) : (s.modStore f).pool = s.pool := rfl
@[simp] theorem State.modStore_channels (s : State) (f : Store → Store) : (s.modStore f).channels = s.channels := rfl
@[simp] theorem State.modStore_heap (s : State) (f : Store → Store) : (s.modStore f).heap = s.heap := rfl
@[simp] theorem State.modStore_conns (s : State) (f : Store → Store) : (s.modStore f).conns = s.conns := rfl
@[simp] theorem State.modStore_kemKey (s : State) (f : Store → Store) : (s.modStore f).kemKey = s.kemKey := rfl
@[simp] theorem State.modStore_ports (s : State) (f : Store → Store) : (s.modStore f).ports = s.ports := rfl
@[simp] theorem State.modStore_inbox (s : State) (f : Store → Store) : (s.modStore f).inbox = s.inbox := rfl
@[simp] theorem State.modStore_objectWindows (s : State) (f : Store → Store) : (s.modStore f).objectWindows = s.objectWindows := rfl
@[simp] theorem State.modStore_regions (s : State) (f : Store → Store) : (s.modStore f).regions = s.regions := rfl
@[simp] theorem State.modStore_regionGens (s : State) (f : Store → Store) : (s.modStore f).regionGens = s.regionGens := rfl
@[simp] theorem State.modStore_items (s : State) (f : Store → Store) : (s.modStore f).items = s.items := rfl
@[simp] theorem State.modStore_offers (s : State) (f : Store → Store) : (s.modStore f).offers = s.offers := rfl
@[simp] theorem State.modStore_fills (s : State) (f : Store → Store) : (s.modStore f).fills = s.fills := rfl
@[simp] theorem State.modStore_batches (s : State) (f : Store → Store) : (s.modStore f).batches = s.batches := rfl
@[simp] theorem State.modStore_shoes (s : State) (f : Store → Store) : (s.modStore f).shoes = s.shoes := rfl
@[simp] theorem State.modStore_credits (s : State) (f : Store → Store) : (s.modStore f).credits = s.credits := rfl
@[simp] theorem State.modStore_cache (s : State) (f : Store → Store) : (s.modStore f).cache = s.cache := rfl
@[simp] theorem State.modStore_images (s : State) (f : Store → Store) : (s.modStore f).images = s.images := rfl
@[simp] theorem State.modStore_trestleFaults (s : State) (f : Store → Store) : (s.modStore f).trestleFaults = s.trestleFaults := rfl
@[simp] theorem State.modStore_kernels (s : State) (f : Store → Store) : (s.modStore f).kernels = s.kernels := rfl
@[simp] theorem State.modStore_repair (s : State) (f : Store → Store) : (s.modStore f).repair = s.repair := rfl
@[simp] theorem State.modStore_generations (s : State) (f : Store → Store) : (s.modStore f).generations = s.generations := rfl
@[simp] theorem State.modStore_boot (s : State) (f : Store → Store) : (s.modStore f).boot = s.boot := rfl
@[simp] theorem State.modStore_selftest (s : State) (f : Store → Store) : (s.modStore f).selftest = s.selftest := rfl
@[simp] theorem State.modStore_power (s : State) (f : Store → Store) : (s.modStore f).power = s.power := rfl
@[simp] theorem State.modStore_durableStore (s : State) (f : Store → Store) : (s.modStore f).durableStore = s.durableStore := rfl

/-! ## modBoot -/

@[simp] theorem State.modBoot_pending (s : State) (f : Boot → Boot) : (s.modBoot f).pending = s.pending := rfl
@[simp] theorem State.modBoot_freeCount (s : State) (f : Boot → Boot) : (s.modBoot f).freeCount = s.freeCount := rfl
@[simp] theorem State.modBoot_dict (s : State) (f : Boot → Boot) : (s.modBoot f).dict = s.dict := rfl
@[simp] theorem State.modBoot_blobs (s : State) (f : Boot → Boot) : (s.modBoot f).blobs = s.blobs := rfl
@[simp] theorem State.modBoot_answer (s : State) (f : Boot → Boot) : (s.modBoot f).answer = s.answer := rfl
@[simp] theorem State.modBoot_sent (s : State) (f : Boot → Boot) : (s.modBoot f).sent = s.sent := rfl
@[simp] theorem State.modBoot_gtc (s : State) (f : Boot → Boot) : (s.modBoot f).gtc = s.gtc := rfl
@[simp] theorem State.modBoot_bus (s : State) (f : Boot → Boot) : (s.modBoot f).bus = s.bus := rfl
@[simp] theorem State.modBoot_persist (s : State) (f : Boot → Boot) : (s.modBoot f).persist = s.persist := rfl
@[simp] theorem State.modBoot_faults (s : State) (f : Boot → Boot) : (s.modBoot f).faults = s.faults := rfl
@[simp] theorem State.modBoot_elements (s : State) (f : Boot → Boot) : (s.modBoot f).elements = s.elements := rfl
@[simp] theorem State.modBoot_time (s : State) (f : Boot → Boot) : (s.modBoot f).time = s.time := rfl
@[simp] theorem State.modBoot_counters (s : State) (f : Boot → Boot) : (s.modBoot f).counters = s.counters := rfl
@[simp] theorem State.modBoot_lanesUsed (s : State) (f : Boot → Boot) : (s.modBoot f).lanesUsed = s.lanesUsed := rfl
@[simp] theorem State.modBoot_isolated (s : State) (f : Boot → Boot) : (s.modBoot f).isolated = s.isolated := rfl
@[simp] theorem State.modBoot_slots (s : State) (f : Boot → Boot) : (s.modBoot f).slots = s.slots := rfl
@[simp] theorem State.modBoot_switches (s : State) (f : Boot → Boot) : (s.modBoot f).switches = s.switches := rfl
@[simp] theorem State.modBoot_pool (s : State) (f : Boot → Boot) : (s.modBoot f).pool = s.pool := rfl
@[simp] theorem State.modBoot_channels (s : State) (f : Boot → Boot) : (s.modBoot f).channels = s.channels := rfl
@[simp] theorem State.modBoot_heap (s : State) (f : Boot → Boot) : (s.modBoot f).heap = s.heap := rfl
@[simp] theorem State.modBoot_conns (s : State) (f : Boot → Boot) : (s.modBoot f).conns = s.conns := rfl
@[simp] theorem State.modBoot_kemKey (s : State) (f : Boot → Boot) : (s.modBoot f).kemKey = s.kemKey := rfl
@[simp] theorem State.modBoot_ports (s : State) (f : Boot → Boot) : (s.modBoot f).ports = s.ports := rfl
@[simp] theorem State.modBoot_inbox (s : State) (f : Boot → Boot) : (s.modBoot f).inbox = s.inbox := rfl
@[simp] theorem State.modBoot_objectWindows (s : State) (f : Boot → Boot) : (s.modBoot f).objectWindows = s.objectWindows := rfl
@[simp] theorem State.modBoot_regions (s : State) (f : Boot → Boot) : (s.modBoot f).regions = s.regions := rfl
@[simp] theorem State.modBoot_regionGens (s : State) (f : Boot → Boot) : (s.modBoot f).regionGens = s.regionGens := rfl
@[simp] theorem State.modBoot_items (s : State) (f : Boot → Boot) : (s.modBoot f).items = s.items := rfl
@[simp] theorem State.modBoot_offers (s : State) (f : Boot → Boot) : (s.modBoot f).offers = s.offers := rfl
@[simp] theorem State.modBoot_fills (s : State) (f : Boot → Boot) : (s.modBoot f).fills = s.fills := rfl
@[simp] theorem State.modBoot_batches (s : State) (f : Boot → Boot) : (s.modBoot f).batches = s.batches := rfl
@[simp] theorem State.modBoot_shoes (s : State) (f : Boot → Boot) : (s.modBoot f).shoes = s.shoes := rfl
@[simp] theorem State.modBoot_credits (s : State) (f : Boot → Boot) : (s.modBoot f).credits = s.credits := rfl
@[simp] theorem State.modBoot_cache (s : State) (f : Boot → Boot) : (s.modBoot f).cache = s.cache := rfl
@[simp] theorem State.modBoot_store (s : State) (f : Boot → Boot) : (s.modBoot f).store = s.store := rfl
@[simp] theorem State.modBoot_images (s : State) (f : Boot → Boot) : (s.modBoot f).images = s.images := rfl
@[simp] theorem State.modBoot_trestleFaults (s : State) (f : Boot → Boot) : (s.modBoot f).trestleFaults = s.trestleFaults := rfl
@[simp] theorem State.modBoot_kernels (s : State) (f : Boot → Boot) : (s.modBoot f).kernels = s.kernels := rfl
@[simp] theorem State.modBoot_repair (s : State) (f : Boot → Boot) : (s.modBoot f).repair = s.repair := rfl
@[simp] theorem State.modBoot_generations (s : State) (f : Boot → Boot) : (s.modBoot f).generations = s.generations := rfl
@[simp] theorem State.modBoot_selftest (s : State) (f : Boot → Boot) : (s.modBoot f).selftest = s.selftest := rfl
@[simp] theorem State.modBoot_power (s : State) (f : Boot → Boot) : (s.modBoot f).power = s.power := rfl
@[simp] theorem State.modBoot_durableStore (s : State) (f : Boot → Boot) : (s.modBoot f).durableStore = s.durableStore := rfl

/-! ## modTest -/

@[simp] theorem State.modTest_pending (s : State) (f : Selftest → Selftest) : (s.modTest f).pending = s.pending := rfl
@[simp] theorem State.modTest_freeCount (s : State) (f : Selftest → Selftest) : (s.modTest f).freeCount = s.freeCount := rfl
@[simp] theorem State.modTest_dict (s : State) (f : Selftest → Selftest) : (s.modTest f).dict = s.dict := rfl
@[simp] theorem State.modTest_blobs (s : State) (f : Selftest → Selftest) : (s.modTest f).blobs = s.blobs := rfl
@[simp] theorem State.modTest_answer (s : State) (f : Selftest → Selftest) : (s.modTest f).answer = s.answer := rfl
@[simp] theorem State.modTest_sent (s : State) (f : Selftest → Selftest) : (s.modTest f).sent = s.sent := rfl
@[simp] theorem State.modTest_gtc (s : State) (f : Selftest → Selftest) : (s.modTest f).gtc = s.gtc := rfl
@[simp] theorem State.modTest_bus (s : State) (f : Selftest → Selftest) : (s.modTest f).bus = s.bus := rfl
@[simp] theorem State.modTest_persist (s : State) (f : Selftest → Selftest) : (s.modTest f).persist = s.persist := rfl
@[simp] theorem State.modTest_faults (s : State) (f : Selftest → Selftest) : (s.modTest f).faults = s.faults := rfl
@[simp] theorem State.modTest_elements (s : State) (f : Selftest → Selftest) : (s.modTest f).elements = s.elements := rfl
@[simp] theorem State.modTest_time (s : State) (f : Selftest → Selftest) : (s.modTest f).time = s.time := rfl
@[simp] theorem State.modTest_counters (s : State) (f : Selftest → Selftest) : (s.modTest f).counters = s.counters := rfl
@[simp] theorem State.modTest_lanesUsed (s : State) (f : Selftest → Selftest) : (s.modTest f).lanesUsed = s.lanesUsed := rfl
@[simp] theorem State.modTest_isolated (s : State) (f : Selftest → Selftest) : (s.modTest f).isolated = s.isolated := rfl
@[simp] theorem State.modTest_slots (s : State) (f : Selftest → Selftest) : (s.modTest f).slots = s.slots := rfl
@[simp] theorem State.modTest_switches (s : State) (f : Selftest → Selftest) : (s.modTest f).switches = s.switches := rfl
@[simp] theorem State.modTest_pool (s : State) (f : Selftest → Selftest) : (s.modTest f).pool = s.pool := rfl
@[simp] theorem State.modTest_channels (s : State) (f : Selftest → Selftest) : (s.modTest f).channels = s.channels := rfl
@[simp] theorem State.modTest_heap (s : State) (f : Selftest → Selftest) : (s.modTest f).heap = s.heap := rfl
@[simp] theorem State.modTest_conns (s : State) (f : Selftest → Selftest) : (s.modTest f).conns = s.conns := rfl
@[simp] theorem State.modTest_kemKey (s : State) (f : Selftest → Selftest) : (s.modTest f).kemKey = s.kemKey := rfl
@[simp] theorem State.modTest_ports (s : State) (f : Selftest → Selftest) : (s.modTest f).ports = s.ports := rfl
@[simp] theorem State.modTest_inbox (s : State) (f : Selftest → Selftest) : (s.modTest f).inbox = s.inbox := rfl
@[simp] theorem State.modTest_objectWindows (s : State) (f : Selftest → Selftest) : (s.modTest f).objectWindows = s.objectWindows := rfl
@[simp] theorem State.modTest_regions (s : State) (f : Selftest → Selftest) : (s.modTest f).regions = s.regions := rfl
@[simp] theorem State.modTest_regionGens (s : State) (f : Selftest → Selftest) : (s.modTest f).regionGens = s.regionGens := rfl
@[simp] theorem State.modTest_items (s : State) (f : Selftest → Selftest) : (s.modTest f).items = s.items := rfl
@[simp] theorem State.modTest_offers (s : State) (f : Selftest → Selftest) : (s.modTest f).offers = s.offers := rfl
@[simp] theorem State.modTest_fills (s : State) (f : Selftest → Selftest) : (s.modTest f).fills = s.fills := rfl
@[simp] theorem State.modTest_batches (s : State) (f : Selftest → Selftest) : (s.modTest f).batches = s.batches := rfl
@[simp] theorem State.modTest_shoes (s : State) (f : Selftest → Selftest) : (s.modTest f).shoes = s.shoes := rfl
@[simp] theorem State.modTest_credits (s : State) (f : Selftest → Selftest) : (s.modTest f).credits = s.credits := rfl
@[simp] theorem State.modTest_cache (s : State) (f : Selftest → Selftest) : (s.modTest f).cache = s.cache := rfl
@[simp] theorem State.modTest_store (s : State) (f : Selftest → Selftest) : (s.modTest f).store = s.store := rfl
@[simp] theorem State.modTest_images (s : State) (f : Selftest → Selftest) : (s.modTest f).images = s.images := rfl
@[simp] theorem State.modTest_trestleFaults (s : State) (f : Selftest → Selftest) : (s.modTest f).trestleFaults = s.trestleFaults := rfl
@[simp] theorem State.modTest_kernels (s : State) (f : Selftest → Selftest) : (s.modTest f).kernels = s.kernels := rfl
@[simp] theorem State.modTest_repair (s : State) (f : Selftest → Selftest) : (s.modTest f).repair = s.repair := rfl
@[simp] theorem State.modTest_generations (s : State) (f : Selftest → Selftest) : (s.modTest f).generations = s.generations := rfl
@[simp] theorem State.modTest_boot (s : State) (f : Selftest → Selftest) : (s.modTest f).boot = s.boot := rfl
@[simp] theorem State.modTest_power (s : State) (f : Selftest → Selftest) : (s.modTest f).power = s.power := rfl
@[simp] theorem State.modTest_durableStore (s : State) (f : Selftest → Selftest) : (s.modTest f).durableStore = s.durableStore := rfl

/-! ## modPower -/

@[simp] theorem State.modPower_pending (s : State) (f : Power → Power) : (s.modPower f).pending = s.pending := rfl
@[simp] theorem State.modPower_freeCount (s : State) (f : Power → Power) : (s.modPower f).freeCount = s.freeCount := rfl
@[simp] theorem State.modPower_dict (s : State) (f : Power → Power) : (s.modPower f).dict = s.dict := rfl
@[simp] theorem State.modPower_blobs (s : State) (f : Power → Power) : (s.modPower f).blobs = s.blobs := rfl
@[simp] theorem State.modPower_answer (s : State) (f : Power → Power) : (s.modPower f).answer = s.answer := rfl
@[simp] theorem State.modPower_sent (s : State) (f : Power → Power) : (s.modPower f).sent = s.sent := rfl
@[simp] theorem State.modPower_gtc (s : State) (f : Power → Power) : (s.modPower f).gtc = s.gtc := rfl
@[simp] theorem State.modPower_bus (s : State) (f : Power → Power) : (s.modPower f).bus = s.bus := rfl
@[simp] theorem State.modPower_persist (s : State) (f : Power → Power) : (s.modPower f).persist = s.persist := rfl
@[simp] theorem State.modPower_faults (s : State) (f : Power → Power) : (s.modPower f).faults = s.faults := rfl
@[simp] theorem State.modPower_elements (s : State) (f : Power → Power) : (s.modPower f).elements = s.elements := rfl
@[simp] theorem State.modPower_time (s : State) (f : Power → Power) : (s.modPower f).time = s.time := rfl
@[simp] theorem State.modPower_counters (s : State) (f : Power → Power) : (s.modPower f).counters = s.counters := rfl
@[simp] theorem State.modPower_lanesUsed (s : State) (f : Power → Power) : (s.modPower f).lanesUsed = s.lanesUsed := rfl
@[simp] theorem State.modPower_isolated (s : State) (f : Power → Power) : (s.modPower f).isolated = s.isolated := rfl
@[simp] theorem State.modPower_slots (s : State) (f : Power → Power) : (s.modPower f).slots = s.slots := rfl
@[simp] theorem State.modPower_switches (s : State) (f : Power → Power) : (s.modPower f).switches = s.switches := rfl
@[simp] theorem State.modPower_pool (s : State) (f : Power → Power) : (s.modPower f).pool = s.pool := rfl
@[simp] theorem State.modPower_channels (s : State) (f : Power → Power) : (s.modPower f).channels = s.channels := rfl
@[simp] theorem State.modPower_heap (s : State) (f : Power → Power) : (s.modPower f).heap = s.heap := rfl
@[simp] theorem State.modPower_conns (s : State) (f : Power → Power) : (s.modPower f).conns = s.conns := rfl
@[simp] theorem State.modPower_kemKey (s : State) (f : Power → Power) : (s.modPower f).kemKey = s.kemKey := rfl
@[simp] theorem State.modPower_ports (s : State) (f : Power → Power) : (s.modPower f).ports = s.ports := rfl
@[simp] theorem State.modPower_inbox (s : State) (f : Power → Power) : (s.modPower f).inbox = s.inbox := rfl
@[simp] theorem State.modPower_objectWindows (s : State) (f : Power → Power) : (s.modPower f).objectWindows = s.objectWindows := rfl
@[simp] theorem State.modPower_regions (s : State) (f : Power → Power) : (s.modPower f).regions = s.regions := rfl
@[simp] theorem State.modPower_regionGens (s : State) (f : Power → Power) : (s.modPower f).regionGens = s.regionGens := rfl
@[simp] theorem State.modPower_items (s : State) (f : Power → Power) : (s.modPower f).items = s.items := rfl
@[simp] theorem State.modPower_offers (s : State) (f : Power → Power) : (s.modPower f).offers = s.offers := rfl
@[simp] theorem State.modPower_fills (s : State) (f : Power → Power) : (s.modPower f).fills = s.fills := rfl
@[simp] theorem State.modPower_batches (s : State) (f : Power → Power) : (s.modPower f).batches = s.batches := rfl
@[simp] theorem State.modPower_shoes (s : State) (f : Power → Power) : (s.modPower f).shoes = s.shoes := rfl
@[simp] theorem State.modPower_credits (s : State) (f : Power → Power) : (s.modPower f).credits = s.credits := rfl
@[simp] theorem State.modPower_cache (s : State) (f : Power → Power) : (s.modPower f).cache = s.cache := rfl
@[simp] theorem State.modPower_store (s : State) (f : Power → Power) : (s.modPower f).store = s.store := rfl
@[simp] theorem State.modPower_images (s : State) (f : Power → Power) : (s.modPower f).images = s.images := rfl
@[simp] theorem State.modPower_trestleFaults (s : State) (f : Power → Power) : (s.modPower f).trestleFaults = s.trestleFaults := rfl
@[simp] theorem State.modPower_kernels (s : State) (f : Power → Power) : (s.modPower f).kernels = s.kernels := rfl
@[simp] theorem State.modPower_repair (s : State) (f : Power → Power) : (s.modPower f).repair = s.repair := rfl
@[simp] theorem State.modPower_generations (s : State) (f : Power → Power) : (s.modPower f).generations = s.generations := rfl
@[simp] theorem State.modPower_boot (s : State) (f : Power → Power) : (s.modPower f).boot = s.boot := rfl
@[simp] theorem State.modPower_selftest (s : State) (f : Power → Power) : (s.modPower f).selftest = s.selftest := rfl
@[simp] theorem State.modPower_durableStore (s : State) (f : Power → Power) : (s.modPower f).durableStore = s.durableStore := rfl

/-! ## modBus -/

@[simp] theorem State.modBus_pending (s : State) (f : Bus → Bus) : (s.modBus f).pending = s.pending := rfl
@[simp] theorem State.modBus_freeCount (s : State) (f : Bus → Bus) : (s.modBus f).freeCount = s.freeCount := rfl
@[simp] theorem State.modBus_dict (s : State) (f : Bus → Bus) : (s.modBus f).dict = s.dict := rfl
@[simp] theorem State.modBus_blobs (s : State) (f : Bus → Bus) : (s.modBus f).blobs = s.blobs := rfl
@[simp] theorem State.modBus_answer (s : State) (f : Bus → Bus) : (s.modBus f).answer = s.answer := rfl
@[simp] theorem State.modBus_sent (s : State) (f : Bus → Bus) : (s.modBus f).sent = s.sent := rfl
@[simp] theorem State.modBus_gtc (s : State) (f : Bus → Bus) : (s.modBus f).gtc = s.gtc := rfl
@[simp] theorem State.modBus_persist (s : State) (f : Bus → Bus) : (s.modBus f).persist = s.persist := rfl
@[simp] theorem State.modBus_faults (s : State) (f : Bus → Bus) : (s.modBus f).faults = s.faults := rfl
@[simp] theorem State.modBus_elements (s : State) (f : Bus → Bus) : (s.modBus f).elements = s.elements := rfl
@[simp] theorem State.modBus_time (s : State) (f : Bus → Bus) : (s.modBus f).time = s.time := rfl
@[simp] theorem State.modBus_counters (s : State) (f : Bus → Bus) : (s.modBus f).counters = s.counters := rfl
@[simp] theorem State.modBus_lanesUsed (s : State) (f : Bus → Bus) : (s.modBus f).lanesUsed = s.lanesUsed := rfl
@[simp] theorem State.modBus_isolated (s : State) (f : Bus → Bus) : (s.modBus f).isolated = s.isolated := rfl
@[simp] theorem State.modBus_slots (s : State) (f : Bus → Bus) : (s.modBus f).slots = s.slots := rfl
@[simp] theorem State.modBus_switches (s : State) (f : Bus → Bus) : (s.modBus f).switches = s.switches := rfl
@[simp] theorem State.modBus_pool (s : State) (f : Bus → Bus) : (s.modBus f).pool = s.pool := rfl
@[simp] theorem State.modBus_channels (s : State) (f : Bus → Bus) : (s.modBus f).channels = s.channels := rfl
@[simp] theorem State.modBus_heap (s : State) (f : Bus → Bus) : (s.modBus f).heap = s.heap := rfl
@[simp] theorem State.modBus_conns (s : State) (f : Bus → Bus) : (s.modBus f).conns = s.conns := rfl
@[simp] theorem State.modBus_kemKey (s : State) (f : Bus → Bus) : (s.modBus f).kemKey = s.kemKey := rfl
@[simp] theorem State.modBus_ports (s : State) (f : Bus → Bus) : (s.modBus f).ports = s.ports := rfl
@[simp] theorem State.modBus_inbox (s : State) (f : Bus → Bus) : (s.modBus f).inbox = s.inbox := rfl
@[simp] theorem State.modBus_objectWindows (s : State) (f : Bus → Bus) : (s.modBus f).objectWindows = s.objectWindows := rfl
@[simp] theorem State.modBus_regions (s : State) (f : Bus → Bus) : (s.modBus f).regions = s.regions := rfl
@[simp] theorem State.modBus_regionGens (s : State) (f : Bus → Bus) : (s.modBus f).regionGens = s.regionGens := rfl
@[simp] theorem State.modBus_items (s : State) (f : Bus → Bus) : (s.modBus f).items = s.items := rfl
@[simp] theorem State.modBus_offers (s : State) (f : Bus → Bus) : (s.modBus f).offers = s.offers := rfl
@[simp] theorem State.modBus_fills (s : State) (f : Bus → Bus) : (s.modBus f).fills = s.fills := rfl
@[simp] theorem State.modBus_batches (s : State) (f : Bus → Bus) : (s.modBus f).batches = s.batches := rfl
@[simp] theorem State.modBus_shoes (s : State) (f : Bus → Bus) : (s.modBus f).shoes = s.shoes := rfl
@[simp] theorem State.modBus_credits (s : State) (f : Bus → Bus) : (s.modBus f).credits = s.credits := rfl
@[simp] theorem State.modBus_cache (s : State) (f : Bus → Bus) : (s.modBus f).cache = s.cache := rfl
@[simp] theorem State.modBus_store (s : State) (f : Bus → Bus) : (s.modBus f).store = s.store := rfl
@[simp] theorem State.modBus_images (s : State) (f : Bus → Bus) : (s.modBus f).images = s.images := rfl
@[simp] theorem State.modBus_trestleFaults (s : State) (f : Bus → Bus) : (s.modBus f).trestleFaults = s.trestleFaults := rfl
@[simp] theorem State.modBus_kernels (s : State) (f : Bus → Bus) : (s.modBus f).kernels = s.kernels := rfl
@[simp] theorem State.modBus_repair (s : State) (f : Bus → Bus) : (s.modBus f).repair = s.repair := rfl
@[simp] theorem State.modBus_generations (s : State) (f : Bus → Bus) : (s.modBus f).generations = s.generations := rfl
@[simp] theorem State.modBus_boot (s : State) (f : Bus → Bus) : (s.modBus f).boot = s.boot := rfl
@[simp] theorem State.modBus_selftest (s : State) (f : Bus → Bus) : (s.modBus f).selftest = s.selftest := rfl
@[simp] theorem State.modBus_power (s : State) (f : Bus → Bus) : (s.modBus f).power = s.power := rfl
@[simp] theorem State.modBus_durableStore (s : State) (f : Bus → Bus) : (s.modBus f).durableStore = s.durableStore := rfl

/-! ## modChannel -/

@[simp] theorem State.modChannel_pending (s : State) (c : Nat) (f : Channel → Channel) : (s.modChannel c f).pending = s.pending := rfl
@[simp] theorem State.modChannel_freeCount (s : State) (c : Nat) (f : Channel → Channel) : (s.modChannel c f).freeCount = s.freeCount := rfl
@[simp] theorem State.modChannel_dict (s : State) (c : Nat) (f : Channel → Channel) : (s.modChannel c f).dict = s.dict := rfl
@[simp] theorem State.modChannel_blobs (s : State) (c : Nat) (f : Channel → Channel) : (s.modChannel c f).blobs = s.blobs := rfl
@[simp] theorem State.modChannel_answer (s : State) (c : Nat) (f : Channel → Channel) : (s.modChannel c f).answer = s.answer := rfl
@[simp] theorem State.modChannel_sent (s : State) (c : Nat) (f : Channel → Channel) : (s.modChannel c f).sent = s.sent := rfl
@[simp] theorem State.modChannel_gtc (s : State) (c : Nat) (f : Channel → Channel) : (s.modChannel c f).gtc = s.gtc := rfl
@[simp] theorem State.modChannel_bus (s : State) (c : Nat) (f : Channel → Channel) : (s.modChannel c f).bus = s.bus := rfl
@[simp] theorem State.modChannel_persist (s : State) (c : Nat) (f : Channel → Channel) : (s.modChannel c f).persist = s.persist := rfl
@[simp] theorem State.modChannel_faults (s : State) (c : Nat) (f : Channel → Channel) : (s.modChannel c f).faults = s.faults := rfl
@[simp] theorem State.modChannel_elements (s : State) (c : Nat) (f : Channel → Channel) : (s.modChannel c f).elements = s.elements := rfl
@[simp] theorem State.modChannel_time (s : State) (c : Nat) (f : Channel → Channel) : (s.modChannel c f).time = s.time := rfl
@[simp] theorem State.modChannel_counters (s : State) (c : Nat) (f : Channel → Channel) : (s.modChannel c f).counters = s.counters := rfl
@[simp] theorem State.modChannel_lanesUsed (s : State) (c : Nat) (f : Channel → Channel) : (s.modChannel c f).lanesUsed = s.lanesUsed := rfl
@[simp] theorem State.modChannel_isolated (s : State) (c : Nat) (f : Channel → Channel) : (s.modChannel c f).isolated = s.isolated := rfl
@[simp] theorem State.modChannel_slots (s : State) (c : Nat) (f : Channel → Channel) : (s.modChannel c f).slots = s.slots := rfl
@[simp] theorem State.modChannel_switches (s : State) (c : Nat) (f : Channel → Channel) : (s.modChannel c f).switches = s.switches := rfl
@[simp] theorem State.modChannel_pool (s : State) (c : Nat) (f : Channel → Channel) : (s.modChannel c f).pool = s.pool := rfl
@[simp] theorem State.modChannel_heap (s : State) (c : Nat) (f : Channel → Channel) : (s.modChannel c f).heap = s.heap := rfl
@[simp] theorem State.modChannel_conns (s : State) (c : Nat) (f : Channel → Channel) : (s.modChannel c f).conns = s.conns := rfl
@[simp] theorem State.modChannel_kemKey (s : State) (c : Nat) (f : Channel → Channel) : (s.modChannel c f).kemKey = s.kemKey := rfl
@[simp] theorem State.modChannel_ports (s : State) (c : Nat) (f : Channel → Channel) : (s.modChannel c f).ports = s.ports := rfl
@[simp] theorem State.modChannel_inbox (s : State) (c : Nat) (f : Channel → Channel) : (s.modChannel c f).inbox = s.inbox := rfl
@[simp] theorem State.modChannel_objectWindows (s : State) (c : Nat) (f : Channel → Channel) : (s.modChannel c f).objectWindows = s.objectWindows := rfl
@[simp] theorem State.modChannel_regions (s : State) (c : Nat) (f : Channel → Channel) : (s.modChannel c f).regions = s.regions := rfl
@[simp] theorem State.modChannel_regionGens (s : State) (c : Nat) (f : Channel → Channel) : (s.modChannel c f).regionGens = s.regionGens := rfl
@[simp] theorem State.modChannel_items (s : State) (c : Nat) (f : Channel → Channel) : (s.modChannel c f).items = s.items := rfl
@[simp] theorem State.modChannel_offers (s : State) (c : Nat) (f : Channel → Channel) : (s.modChannel c f).offers = s.offers := rfl
@[simp] theorem State.modChannel_fills (s : State) (c : Nat) (f : Channel → Channel) : (s.modChannel c f).fills = s.fills := rfl
@[simp] theorem State.modChannel_batches (s : State) (c : Nat) (f : Channel → Channel) : (s.modChannel c f).batches = s.batches := rfl
@[simp] theorem State.modChannel_shoes (s : State) (c : Nat) (f : Channel → Channel) : (s.modChannel c f).shoes = s.shoes := rfl
@[simp] theorem State.modChannel_credits (s : State) (c : Nat) (f : Channel → Channel) : (s.modChannel c f).credits = s.credits := rfl
@[simp] theorem State.modChannel_cache (s : State) (c : Nat) (f : Channel → Channel) : (s.modChannel c f).cache = s.cache := rfl
@[simp] theorem State.modChannel_store (s : State) (c : Nat) (f : Channel → Channel) : (s.modChannel c f).store = s.store := rfl
@[simp] theorem State.modChannel_images (s : State) (c : Nat) (f : Channel → Channel) : (s.modChannel c f).images = s.images := rfl
@[simp] theorem State.modChannel_trestleFaults (s : State) (c : Nat) (f : Channel → Channel) : (s.modChannel c f).trestleFaults = s.trestleFaults := rfl
@[simp] theorem State.modChannel_kernels (s : State) (c : Nat) (f : Channel → Channel) : (s.modChannel c f).kernels = s.kernels := rfl
@[simp] theorem State.modChannel_repair (s : State) (c : Nat) (f : Channel → Channel) : (s.modChannel c f).repair = s.repair := rfl
@[simp] theorem State.modChannel_generations (s : State) (c : Nat) (f : Channel → Channel) : (s.modChannel c f).generations = s.generations := rfl
@[simp] theorem State.modChannel_boot (s : State) (c : Nat) (f : Channel → Channel) : (s.modChannel c f).boot = s.boot := rfl
@[simp] theorem State.modChannel_selftest (s : State) (c : Nat) (f : Channel → Channel) : (s.modChannel c f).selftest = s.selftest := rfl
@[simp] theorem State.modChannel_power (s : State) (c : Nat) (f : Channel → Channel) : (s.modChannel c f).power = s.power := rfl
@[simp] theorem State.modChannel_durableStore (s : State) (c : Nat) (f : Channel → Channel) : (s.modChannel c f).durableStore = s.durableStore := rfl

/-! ## putConn -/

@[simp] theorem State.putConn_pending (s : State) (c : Conn) : (s.putConn c).pending = s.pending := rfl
@[simp] theorem State.putConn_freeCount (s : State) (c : Conn) : (s.putConn c).freeCount = s.freeCount := rfl
@[simp] theorem State.putConn_dict (s : State) (c : Conn) : (s.putConn c).dict = s.dict := rfl
@[simp] theorem State.putConn_blobs (s : State) (c : Conn) : (s.putConn c).blobs = s.blobs := rfl
@[simp] theorem State.putConn_answer (s : State) (c : Conn) : (s.putConn c).answer = s.answer := rfl
@[simp] theorem State.putConn_sent (s : State) (c : Conn) : (s.putConn c).sent = s.sent := rfl
@[simp] theorem State.putConn_gtc (s : State) (c : Conn) : (s.putConn c).gtc = s.gtc := rfl
@[simp] theorem State.putConn_bus (s : State) (c : Conn) : (s.putConn c).bus = s.bus := rfl
@[simp] theorem State.putConn_persist (s : State) (c : Conn) : (s.putConn c).persist = s.persist := rfl
@[simp] theorem State.putConn_faults (s : State) (c : Conn) : (s.putConn c).faults = s.faults := rfl
@[simp] theorem State.putConn_elements (s : State) (c : Conn) : (s.putConn c).elements = s.elements := rfl
@[simp] theorem State.putConn_time (s : State) (c : Conn) : (s.putConn c).time = s.time := rfl
@[simp] theorem State.putConn_counters (s : State) (c : Conn) : (s.putConn c).counters = s.counters := rfl
@[simp] theorem State.putConn_lanesUsed (s : State) (c : Conn) : (s.putConn c).lanesUsed = s.lanesUsed := rfl
@[simp] theorem State.putConn_isolated (s : State) (c : Conn) : (s.putConn c).isolated = s.isolated := rfl
@[simp] theorem State.putConn_slots (s : State) (c : Conn) : (s.putConn c).slots = s.slots := rfl
@[simp] theorem State.putConn_switches (s : State) (c : Conn) : (s.putConn c).switches = s.switches := rfl
@[simp] theorem State.putConn_pool (s : State) (c : Conn) : (s.putConn c).pool = s.pool := rfl
@[simp] theorem State.putConn_channels (s : State) (c : Conn) : (s.putConn c).channels = s.channels := rfl
@[simp] theorem State.putConn_heap (s : State) (c : Conn) : (s.putConn c).heap = s.heap := rfl
@[simp] theorem State.putConn_kemKey (s : State) (c : Conn) : (s.putConn c).kemKey = s.kemKey := rfl
@[simp] theorem State.putConn_ports (s : State) (c : Conn) : (s.putConn c).ports = s.ports := rfl
@[simp] theorem State.putConn_inbox (s : State) (c : Conn) : (s.putConn c).inbox = s.inbox := rfl
@[simp] theorem State.putConn_objectWindows (s : State) (c : Conn) : (s.putConn c).objectWindows = s.objectWindows := rfl
@[simp] theorem State.putConn_regions (s : State) (c : Conn) : (s.putConn c).regions = s.regions := rfl
@[simp] theorem State.putConn_regionGens (s : State) (c : Conn) : (s.putConn c).regionGens = s.regionGens := rfl
@[simp] theorem State.putConn_items (s : State) (c : Conn) : (s.putConn c).items = s.items := rfl
@[simp] theorem State.putConn_offers (s : State) (c : Conn) : (s.putConn c).offers = s.offers := rfl
@[simp] theorem State.putConn_fills (s : State) (c : Conn) : (s.putConn c).fills = s.fills := rfl
@[simp] theorem State.putConn_batches (s : State) (c : Conn) : (s.putConn c).batches = s.batches := rfl
@[simp] theorem State.putConn_shoes (s : State) (c : Conn) : (s.putConn c).shoes = s.shoes := rfl
@[simp] theorem State.putConn_credits (s : State) (c : Conn) : (s.putConn c).credits = s.credits := rfl
@[simp] theorem State.putConn_cache (s : State) (c : Conn) : (s.putConn c).cache = s.cache := rfl
@[simp] theorem State.putConn_store (s : State) (c : Conn) : (s.putConn c).store = s.store := rfl
@[simp] theorem State.putConn_images (s : State) (c : Conn) : (s.putConn c).images = s.images := rfl
@[simp] theorem State.putConn_trestleFaults (s : State) (c : Conn) : (s.putConn c).trestleFaults = s.trestleFaults := rfl
@[simp] theorem State.putConn_kernels (s : State) (c : Conn) : (s.putConn c).kernels = s.kernels := rfl
@[simp] theorem State.putConn_repair (s : State) (c : Conn) : (s.putConn c).repair = s.repair := rfl
@[simp] theorem State.putConn_generations (s : State) (c : Conn) : (s.putConn c).generations = s.generations := rfl
@[simp] theorem State.putConn_boot (s : State) (c : Conn) : (s.putConn c).boot = s.boot := rfl
@[simp] theorem State.putConn_selftest (s : State) (c : Conn) : (s.putConn c).selftest = s.selftest := rfl
@[simp] theorem State.putConn_power (s : State) (c : Conn) : (s.putConn c).power = s.power := rfl
@[simp] theorem State.putConn_durableStore (s : State) (c : Conn) : (s.putConn c).durableStore = s.durableStore := rfl

/-! ## setPort -/

@[simp] theorem State.setPort_pending (s : State) (p : Nat) (x : Port) : (s.setPort p x).pending = s.pending := rfl
@[simp] theorem State.setPort_freeCount (s : State) (p : Nat) (x : Port) : (s.setPort p x).freeCount = s.freeCount := rfl
@[simp] theorem State.setPort_dict (s : State) (p : Nat) (x : Port) : (s.setPort p x).dict = s.dict := rfl
@[simp] theorem State.setPort_blobs (s : State) (p : Nat) (x : Port) : (s.setPort p x).blobs = s.blobs := rfl
@[simp] theorem State.setPort_answer (s : State) (p : Nat) (x : Port) : (s.setPort p x).answer = s.answer := rfl
@[simp] theorem State.setPort_sent (s : State) (p : Nat) (x : Port) : (s.setPort p x).sent = s.sent := rfl
@[simp] theorem State.setPort_gtc (s : State) (p : Nat) (x : Port) : (s.setPort p x).gtc = s.gtc := rfl
@[simp] theorem State.setPort_bus (s : State) (p : Nat) (x : Port) : (s.setPort p x).bus = s.bus := rfl
@[simp] theorem State.setPort_persist (s : State) (p : Nat) (x : Port) : (s.setPort p x).persist = s.persist := rfl
@[simp] theorem State.setPort_faults (s : State) (p : Nat) (x : Port) : (s.setPort p x).faults = s.faults := rfl
@[simp] theorem State.setPort_elements (s : State) (p : Nat) (x : Port) : (s.setPort p x).elements = s.elements := rfl
@[simp] theorem State.setPort_time (s : State) (p : Nat) (x : Port) : (s.setPort p x).time = s.time := rfl
@[simp] theorem State.setPort_counters (s : State) (p : Nat) (x : Port) : (s.setPort p x).counters = s.counters := rfl
@[simp] theorem State.setPort_lanesUsed (s : State) (p : Nat) (x : Port) : (s.setPort p x).lanesUsed = s.lanesUsed := rfl
@[simp] theorem State.setPort_isolated (s : State) (p : Nat) (x : Port) : (s.setPort p x).isolated = s.isolated := rfl
@[simp] theorem State.setPort_slots (s : State) (p : Nat) (x : Port) : (s.setPort p x).slots = s.slots := rfl
@[simp] theorem State.setPort_switches (s : State) (p : Nat) (x : Port) : (s.setPort p x).switches = s.switches := rfl
@[simp] theorem State.setPort_pool (s : State) (p : Nat) (x : Port) : (s.setPort p x).pool = s.pool := rfl
@[simp] theorem State.setPort_channels (s : State) (p : Nat) (x : Port) : (s.setPort p x).channels = s.channels := rfl
@[simp] theorem State.setPort_heap (s : State) (p : Nat) (x : Port) : (s.setPort p x).heap = s.heap := rfl
@[simp] theorem State.setPort_conns (s : State) (p : Nat) (x : Port) : (s.setPort p x).conns = s.conns := rfl
@[simp] theorem State.setPort_kemKey (s : State) (p : Nat) (x : Port) : (s.setPort p x).kemKey = s.kemKey := rfl
@[simp] theorem State.setPort_inbox (s : State) (p : Nat) (x : Port) : (s.setPort p x).inbox = s.inbox := rfl
@[simp] theorem State.setPort_objectWindows (s : State) (p : Nat) (x : Port) : (s.setPort p x).objectWindows = s.objectWindows := rfl
@[simp] theorem State.setPort_regions (s : State) (p : Nat) (x : Port) : (s.setPort p x).regions = s.regions := rfl
@[simp] theorem State.setPort_regionGens (s : State) (p : Nat) (x : Port) : (s.setPort p x).regionGens = s.regionGens := rfl
@[simp] theorem State.setPort_items (s : State) (p : Nat) (x : Port) : (s.setPort p x).items = s.items := rfl
@[simp] theorem State.setPort_offers (s : State) (p : Nat) (x : Port) : (s.setPort p x).offers = s.offers := rfl
@[simp] theorem State.setPort_fills (s : State) (p : Nat) (x : Port) : (s.setPort p x).fills = s.fills := rfl
@[simp] theorem State.setPort_batches (s : State) (p : Nat) (x : Port) : (s.setPort p x).batches = s.batches := rfl
@[simp] theorem State.setPort_shoes (s : State) (p : Nat) (x : Port) : (s.setPort p x).shoes = s.shoes := rfl
@[simp] theorem State.setPort_credits (s : State) (p : Nat) (x : Port) : (s.setPort p x).credits = s.credits := rfl
@[simp] theorem State.setPort_cache (s : State) (p : Nat) (x : Port) : (s.setPort p x).cache = s.cache := rfl
@[simp] theorem State.setPort_store (s : State) (p : Nat) (x : Port) : (s.setPort p x).store = s.store := rfl
@[simp] theorem State.setPort_images (s : State) (p : Nat) (x : Port) : (s.setPort p x).images = s.images := rfl
@[simp] theorem State.setPort_trestleFaults (s : State) (p : Nat) (x : Port) : (s.setPort p x).trestleFaults = s.trestleFaults := rfl
@[simp] theorem State.setPort_kernels (s : State) (p : Nat) (x : Port) : (s.setPort p x).kernels = s.kernels := rfl
@[simp] theorem State.setPort_repair (s : State) (p : Nat) (x : Port) : (s.setPort p x).repair = s.repair := rfl
@[simp] theorem State.setPort_generations (s : State) (p : Nat) (x : Port) : (s.setPort p x).generations = s.generations := rfl
@[simp] theorem State.setPort_boot (s : State) (p : Nat) (x : Port) : (s.setPort p x).boot = s.boot := rfl
@[simp] theorem State.setPort_selftest (s : State) (p : Nat) (x : Port) : (s.setPort p x).selftest = s.selftest := rfl
@[simp] theorem State.setPort_power (s : State) (p : Nat) (x : Port) : (s.setPort p x).power = s.power := rfl
@[simp] theorem State.setPort_durableStore (s : State) (p : Nat) (x : Port) : (s.setPort p x).durableStore = s.durableStore := rfl

/-! ## putGeneration -/

@[simp] theorem State.putGeneration_pending (s : State) (g : Generation) : (s.putGeneration g).pending = s.pending := rfl
@[simp] theorem State.putGeneration_freeCount (s : State) (g : Generation) : (s.putGeneration g).freeCount = s.freeCount := rfl
@[simp] theorem State.putGeneration_dict (s : State) (g : Generation) : (s.putGeneration g).dict = s.dict := rfl
@[simp] theorem State.putGeneration_blobs (s : State) (g : Generation) : (s.putGeneration g).blobs = s.blobs := rfl
@[simp] theorem State.putGeneration_answer (s : State) (g : Generation) : (s.putGeneration g).answer = s.answer := rfl
@[simp] theorem State.putGeneration_sent (s : State) (g : Generation) : (s.putGeneration g).sent = s.sent := rfl
@[simp] theorem State.putGeneration_gtc (s : State) (g : Generation) : (s.putGeneration g).gtc = s.gtc := rfl
@[simp] theorem State.putGeneration_bus (s : State) (g : Generation) : (s.putGeneration g).bus = s.bus := rfl
@[simp] theorem State.putGeneration_persist (s : State) (g : Generation) : (s.putGeneration g).persist = s.persist := rfl
@[simp] theorem State.putGeneration_faults (s : State) (g : Generation) : (s.putGeneration g).faults = s.faults := rfl
@[simp] theorem State.putGeneration_elements (s : State) (g : Generation) : (s.putGeneration g).elements = s.elements := rfl
@[simp] theorem State.putGeneration_time (s : State) (g : Generation) : (s.putGeneration g).time = s.time := rfl
@[simp] theorem State.putGeneration_counters (s : State) (g : Generation) : (s.putGeneration g).counters = s.counters := rfl
@[simp] theorem State.putGeneration_lanesUsed (s : State) (g : Generation) : (s.putGeneration g).lanesUsed = s.lanesUsed := rfl
@[simp] theorem State.putGeneration_isolated (s : State) (g : Generation) : (s.putGeneration g).isolated = s.isolated := rfl
@[simp] theorem State.putGeneration_slots (s : State) (g : Generation) : (s.putGeneration g).slots = s.slots := rfl
@[simp] theorem State.putGeneration_switches (s : State) (g : Generation) : (s.putGeneration g).switches = s.switches := rfl
@[simp] theorem State.putGeneration_pool (s : State) (g : Generation) : (s.putGeneration g).pool = s.pool := rfl
@[simp] theorem State.putGeneration_channels (s : State) (g : Generation) : (s.putGeneration g).channels = s.channels := rfl
@[simp] theorem State.putGeneration_heap (s : State) (g : Generation) : (s.putGeneration g).heap = s.heap := rfl
@[simp] theorem State.putGeneration_conns (s : State) (g : Generation) : (s.putGeneration g).conns = s.conns := rfl
@[simp] theorem State.putGeneration_kemKey (s : State) (g : Generation) : (s.putGeneration g).kemKey = s.kemKey := rfl
@[simp] theorem State.putGeneration_ports (s : State) (g : Generation) : (s.putGeneration g).ports = s.ports := rfl
@[simp] theorem State.putGeneration_inbox (s : State) (g : Generation) : (s.putGeneration g).inbox = s.inbox := rfl
@[simp] theorem State.putGeneration_objectWindows (s : State) (g : Generation) : (s.putGeneration g).objectWindows = s.objectWindows := rfl
@[simp] theorem State.putGeneration_regions (s : State) (g : Generation) : (s.putGeneration g).regions = s.regions := rfl
@[simp] theorem State.putGeneration_regionGens (s : State) (g : Generation) : (s.putGeneration g).regionGens = s.regionGens := rfl
@[simp] theorem State.putGeneration_items (s : State) (g : Generation) : (s.putGeneration g).items = s.items := rfl
@[simp] theorem State.putGeneration_offers (s : State) (g : Generation) : (s.putGeneration g).offers = s.offers := rfl
@[simp] theorem State.putGeneration_fills (s : State) (g : Generation) : (s.putGeneration g).fills = s.fills := rfl
@[simp] theorem State.putGeneration_batches (s : State) (g : Generation) : (s.putGeneration g).batches = s.batches := rfl
@[simp] theorem State.putGeneration_shoes (s : State) (g : Generation) : (s.putGeneration g).shoes = s.shoes := rfl
@[simp] theorem State.putGeneration_credits (s : State) (g : Generation) : (s.putGeneration g).credits = s.credits := rfl
@[simp] theorem State.putGeneration_cache (s : State) (g : Generation) : (s.putGeneration g).cache = s.cache := rfl
@[simp] theorem State.putGeneration_store (s : State) (g : Generation) : (s.putGeneration g).store = s.store := rfl
@[simp] theorem State.putGeneration_images (s : State) (g : Generation) : (s.putGeneration g).images = s.images := rfl
@[simp] theorem State.putGeneration_trestleFaults (s : State) (g : Generation) : (s.putGeneration g).trestleFaults = s.trestleFaults := rfl
@[simp] theorem State.putGeneration_kernels (s : State) (g : Generation) : (s.putGeneration g).kernels = s.kernels := rfl
@[simp] theorem State.putGeneration_repair (s : State) (g : Generation) : (s.putGeneration g).repair = s.repair := rfl
@[simp] theorem State.putGeneration_boot (s : State) (g : Generation) : (s.putGeneration g).boot = s.boot := rfl
@[simp] theorem State.putGeneration_selftest (s : State) (g : Generation) : (s.putGeneration g).selftest = s.selftest := rfl
@[simp] theorem State.putGeneration_power (s : State) (g : Generation) : (s.putGeneration g).power = s.power := rfl
@[simp] theorem State.putGeneration_durableStore (s : State) (g : Generation) : (s.putGeneration g).durableStore = s.durableStore := rfl

/-! ## putBatch -/

@[simp] theorem State.putBatch_pending (s : State) (b : Batch) : (s.putBatch b).pending = s.pending := rfl
@[simp] theorem State.putBatch_freeCount (s : State) (b : Batch) : (s.putBatch b).freeCount = s.freeCount := rfl
@[simp] theorem State.putBatch_dict (s : State) (b : Batch) : (s.putBatch b).dict = s.dict := rfl
@[simp] theorem State.putBatch_blobs (s : State) (b : Batch) : (s.putBatch b).blobs = s.blobs := rfl
@[simp] theorem State.putBatch_answer (s : State) (b : Batch) : (s.putBatch b).answer = s.answer := rfl
@[simp] theorem State.putBatch_sent (s : State) (b : Batch) : (s.putBatch b).sent = s.sent := rfl
@[simp] theorem State.putBatch_gtc (s : State) (b : Batch) : (s.putBatch b).gtc = s.gtc := rfl
@[simp] theorem State.putBatch_bus (s : State) (b : Batch) : (s.putBatch b).bus = s.bus := rfl
@[simp] theorem State.putBatch_persist (s : State) (b : Batch) : (s.putBatch b).persist = s.persist := rfl
@[simp] theorem State.putBatch_faults (s : State) (b : Batch) : (s.putBatch b).faults = s.faults := rfl
@[simp] theorem State.putBatch_elements (s : State) (b : Batch) : (s.putBatch b).elements = s.elements := rfl
@[simp] theorem State.putBatch_time (s : State) (b : Batch) : (s.putBatch b).time = s.time := rfl
@[simp] theorem State.putBatch_counters (s : State) (b : Batch) : (s.putBatch b).counters = s.counters := rfl
@[simp] theorem State.putBatch_lanesUsed (s : State) (b : Batch) : (s.putBatch b).lanesUsed = s.lanesUsed := rfl
@[simp] theorem State.putBatch_isolated (s : State) (b : Batch) : (s.putBatch b).isolated = s.isolated := rfl
@[simp] theorem State.putBatch_slots (s : State) (b : Batch) : (s.putBatch b).slots = s.slots := rfl
@[simp] theorem State.putBatch_switches (s : State) (b : Batch) : (s.putBatch b).switches = s.switches := rfl
@[simp] theorem State.putBatch_pool (s : State) (b : Batch) : (s.putBatch b).pool = s.pool := rfl
@[simp] theorem State.putBatch_channels (s : State) (b : Batch) : (s.putBatch b).channels = s.channels := rfl
@[simp] theorem State.putBatch_heap (s : State) (b : Batch) : (s.putBatch b).heap = s.heap := rfl
@[simp] theorem State.putBatch_conns (s : State) (b : Batch) : (s.putBatch b).conns = s.conns := rfl
@[simp] theorem State.putBatch_kemKey (s : State) (b : Batch) : (s.putBatch b).kemKey = s.kemKey := rfl
@[simp] theorem State.putBatch_ports (s : State) (b : Batch) : (s.putBatch b).ports = s.ports := rfl
@[simp] theorem State.putBatch_inbox (s : State) (b : Batch) : (s.putBatch b).inbox = s.inbox := rfl
@[simp] theorem State.putBatch_objectWindows (s : State) (b : Batch) : (s.putBatch b).objectWindows = s.objectWindows := rfl
@[simp] theorem State.putBatch_regions (s : State) (b : Batch) : (s.putBatch b).regions = s.regions := rfl
@[simp] theorem State.putBatch_regionGens (s : State) (b : Batch) : (s.putBatch b).regionGens = s.regionGens := rfl
@[simp] theorem State.putBatch_items (s : State) (b : Batch) : (s.putBatch b).items = s.items := rfl
@[simp] theorem State.putBatch_offers (s : State) (b : Batch) : (s.putBatch b).offers = s.offers := rfl
@[simp] theorem State.putBatch_fills (s : State) (b : Batch) : (s.putBatch b).fills = s.fills := rfl
@[simp] theorem State.putBatch_shoes (s : State) (b : Batch) : (s.putBatch b).shoes = s.shoes := rfl
@[simp] theorem State.putBatch_credits (s : State) (b : Batch) : (s.putBatch b).credits = s.credits := rfl
@[simp] theorem State.putBatch_cache (s : State) (b : Batch) : (s.putBatch b).cache = s.cache := rfl
@[simp] theorem State.putBatch_store (s : State) (b : Batch) : (s.putBatch b).store = s.store := rfl
@[simp] theorem State.putBatch_images (s : State) (b : Batch) : (s.putBatch b).images = s.images := rfl
@[simp] theorem State.putBatch_trestleFaults (s : State) (b : Batch) : (s.putBatch b).trestleFaults = s.trestleFaults := rfl
@[simp] theorem State.putBatch_kernels (s : State) (b : Batch) : (s.putBatch b).kernels = s.kernels := rfl
@[simp] theorem State.putBatch_repair (s : State) (b : Batch) : (s.putBatch b).repair = s.repair := rfl
@[simp] theorem State.putBatch_generations (s : State) (b : Batch) : (s.putBatch b).generations = s.generations := rfl
@[simp] theorem State.putBatch_boot (s : State) (b : Batch) : (s.putBatch b).boot = s.boot := rfl
@[simp] theorem State.putBatch_selftest (s : State) (b : Batch) : (s.putBatch b).selftest = s.selftest := rfl
@[simp] theorem State.putBatch_power (s : State) (b : Batch) : (s.putBatch b).power = s.power := rfl
@[simp] theorem State.putBatch_durableStore (s : State) (b : Batch) : (s.putBatch b).durableStore = s.durableStore := rfl

/-! ## putCredit -/

@[simp] theorem State.putCredit_pending (s : State) (c : Credit) : (s.putCredit c).pending = s.pending := rfl
@[simp] theorem State.putCredit_freeCount (s : State) (c : Credit) : (s.putCredit c).freeCount = s.freeCount := rfl
@[simp] theorem State.putCredit_dict (s : State) (c : Credit) : (s.putCredit c).dict = s.dict := rfl
@[simp] theorem State.putCredit_blobs (s : State) (c : Credit) : (s.putCredit c).blobs = s.blobs := rfl
@[simp] theorem State.putCredit_answer (s : State) (c : Credit) : (s.putCredit c).answer = s.answer := rfl
@[simp] theorem State.putCredit_sent (s : State) (c : Credit) : (s.putCredit c).sent = s.sent := rfl
@[simp] theorem State.putCredit_gtc (s : State) (c : Credit) : (s.putCredit c).gtc = s.gtc := rfl
@[simp] theorem State.putCredit_bus (s : State) (c : Credit) : (s.putCredit c).bus = s.bus := rfl
@[simp] theorem State.putCredit_persist (s : State) (c : Credit) : (s.putCredit c).persist = s.persist := rfl
@[simp] theorem State.putCredit_faults (s : State) (c : Credit) : (s.putCredit c).faults = s.faults := rfl
@[simp] theorem State.putCredit_elements (s : State) (c : Credit) : (s.putCredit c).elements = s.elements := rfl
@[simp] theorem State.putCredit_time (s : State) (c : Credit) : (s.putCredit c).time = s.time := rfl
@[simp] theorem State.putCredit_counters (s : State) (c : Credit) : (s.putCredit c).counters = s.counters := rfl
@[simp] theorem State.putCredit_lanesUsed (s : State) (c : Credit) : (s.putCredit c).lanesUsed = s.lanesUsed := rfl
@[simp] theorem State.putCredit_isolated (s : State) (c : Credit) : (s.putCredit c).isolated = s.isolated := rfl
@[simp] theorem State.putCredit_slots (s : State) (c : Credit) : (s.putCredit c).slots = s.slots := rfl
@[simp] theorem State.putCredit_switches (s : State) (c : Credit) : (s.putCredit c).switches = s.switches := rfl
@[simp] theorem State.putCredit_pool (s : State) (c : Credit) : (s.putCredit c).pool = s.pool := rfl
@[simp] theorem State.putCredit_channels (s : State) (c : Credit) : (s.putCredit c).channels = s.channels := rfl
@[simp] theorem State.putCredit_heap (s : State) (c : Credit) : (s.putCredit c).heap = s.heap := rfl
@[simp] theorem State.putCredit_conns (s : State) (c : Credit) : (s.putCredit c).conns = s.conns := rfl
@[simp] theorem State.putCredit_kemKey (s : State) (c : Credit) : (s.putCredit c).kemKey = s.kemKey := rfl
@[simp] theorem State.putCredit_ports (s : State) (c : Credit) : (s.putCredit c).ports = s.ports := rfl
@[simp] theorem State.putCredit_inbox (s : State) (c : Credit) : (s.putCredit c).inbox = s.inbox := rfl
@[simp] theorem State.putCredit_objectWindows (s : State) (c : Credit) : (s.putCredit c).objectWindows = s.objectWindows := rfl
@[simp] theorem State.putCredit_regions (s : State) (c : Credit) : (s.putCredit c).regions = s.regions := rfl
@[simp] theorem State.putCredit_regionGens (s : State) (c : Credit) : (s.putCredit c).regionGens = s.regionGens := rfl
@[simp] theorem State.putCredit_items (s : State) (c : Credit) : (s.putCredit c).items = s.items := rfl
@[simp] theorem State.putCredit_offers (s : State) (c : Credit) : (s.putCredit c).offers = s.offers := rfl
@[simp] theorem State.putCredit_fills (s : State) (c : Credit) : (s.putCredit c).fills = s.fills := rfl
@[simp] theorem State.putCredit_batches (s : State) (c : Credit) : (s.putCredit c).batches = s.batches := rfl
@[simp] theorem State.putCredit_shoes (s : State) (c : Credit) : (s.putCredit c).shoes = s.shoes := rfl
@[simp] theorem State.putCredit_cache (s : State) (c : Credit) : (s.putCredit c).cache = s.cache := rfl
@[simp] theorem State.putCredit_store (s : State) (c : Credit) : (s.putCredit c).store = s.store := rfl
@[simp] theorem State.putCredit_images (s : State) (c : Credit) : (s.putCredit c).images = s.images := rfl
@[simp] theorem State.putCredit_trestleFaults (s : State) (c : Credit) : (s.putCredit c).trestleFaults = s.trestleFaults := rfl
@[simp] theorem State.putCredit_kernels (s : State) (c : Credit) : (s.putCredit c).kernels = s.kernels := rfl
@[simp] theorem State.putCredit_repair (s : State) (c : Credit) : (s.putCredit c).repair = s.repair := rfl
@[simp] theorem State.putCredit_generations (s : State) (c : Credit) : (s.putCredit c).generations = s.generations := rfl
@[simp] theorem State.putCredit_boot (s : State) (c : Credit) : (s.putCredit c).boot = s.boot := rfl
@[simp] theorem State.putCredit_selftest (s : State) (c : Credit) : (s.putCredit c).selftest = s.selftest := rfl
@[simp] theorem State.putCredit_power (s : State) (c : Credit) : (s.putCredit c).power = s.power := rfl
@[simp] theorem State.putCredit_durableStore (s : State) (c : Credit) : (s.putCredit c).durableStore = s.durableStore := rfl

/-! ## putFill -/

@[simp] theorem State.putFill_pending (s : State) (f : Fill) : (s.putFill f).pending = s.pending := rfl
@[simp] theorem State.putFill_freeCount (s : State) (f : Fill) : (s.putFill f).freeCount = s.freeCount := rfl
@[simp] theorem State.putFill_dict (s : State) (f : Fill) : (s.putFill f).dict = s.dict := rfl
@[simp] theorem State.putFill_blobs (s : State) (f : Fill) : (s.putFill f).blobs = s.blobs := rfl
@[simp] theorem State.putFill_answer (s : State) (f : Fill) : (s.putFill f).answer = s.answer := rfl
@[simp] theorem State.putFill_sent (s : State) (f : Fill) : (s.putFill f).sent = s.sent := rfl
@[simp] theorem State.putFill_gtc (s : State) (f : Fill) : (s.putFill f).gtc = s.gtc := rfl
@[simp] theorem State.putFill_bus (s : State) (f : Fill) : (s.putFill f).bus = s.bus := rfl
@[simp] theorem State.putFill_persist (s : State) (f : Fill) : (s.putFill f).persist = s.persist := rfl
@[simp] theorem State.putFill_faults (s : State) (f : Fill) : (s.putFill f).faults = s.faults := rfl
@[simp] theorem State.putFill_elements (s : State) (f : Fill) : (s.putFill f).elements = s.elements := rfl
@[simp] theorem State.putFill_time (s : State) (f : Fill) : (s.putFill f).time = s.time := rfl
@[simp] theorem State.putFill_counters (s : State) (f : Fill) : (s.putFill f).counters = s.counters := rfl
@[simp] theorem State.putFill_lanesUsed (s : State) (f : Fill) : (s.putFill f).lanesUsed = s.lanesUsed := rfl
@[simp] theorem State.putFill_isolated (s : State) (f : Fill) : (s.putFill f).isolated = s.isolated := rfl
@[simp] theorem State.putFill_slots (s : State) (f : Fill) : (s.putFill f).slots = s.slots := rfl
@[simp] theorem State.putFill_switches (s : State) (f : Fill) : (s.putFill f).switches = s.switches := rfl
@[simp] theorem State.putFill_pool (s : State) (f : Fill) : (s.putFill f).pool = s.pool := rfl
@[simp] theorem State.putFill_channels (s : State) (f : Fill) : (s.putFill f).channels = s.channels := rfl
@[simp] theorem State.putFill_heap (s : State) (f : Fill) : (s.putFill f).heap = s.heap := rfl
@[simp] theorem State.putFill_conns (s : State) (f : Fill) : (s.putFill f).conns = s.conns := rfl
@[simp] theorem State.putFill_kemKey (s : State) (f : Fill) : (s.putFill f).kemKey = s.kemKey := rfl
@[simp] theorem State.putFill_ports (s : State) (f : Fill) : (s.putFill f).ports = s.ports := rfl
@[simp] theorem State.putFill_inbox (s : State) (f : Fill) : (s.putFill f).inbox = s.inbox := rfl
@[simp] theorem State.putFill_objectWindows (s : State) (f : Fill) : (s.putFill f).objectWindows = s.objectWindows := rfl
@[simp] theorem State.putFill_regions (s : State) (f : Fill) : (s.putFill f).regions = s.regions := rfl
@[simp] theorem State.putFill_regionGens (s : State) (f : Fill) : (s.putFill f).regionGens = s.regionGens := rfl
@[simp] theorem State.putFill_items (s : State) (f : Fill) : (s.putFill f).items = s.items := rfl
@[simp] theorem State.putFill_offers (s : State) (f : Fill) : (s.putFill f).offers = s.offers := rfl
@[simp] theorem State.putFill_batches (s : State) (f : Fill) : (s.putFill f).batches = s.batches := rfl
@[simp] theorem State.putFill_shoes (s : State) (f : Fill) : (s.putFill f).shoes = s.shoes := rfl
@[simp] theorem State.putFill_credits (s : State) (f : Fill) : (s.putFill f).credits = s.credits := rfl
@[simp] theorem State.putFill_cache (s : State) (f : Fill) : (s.putFill f).cache = s.cache := rfl
@[simp] theorem State.putFill_store (s : State) (f : Fill) : (s.putFill f).store = s.store := rfl
@[simp] theorem State.putFill_images (s : State) (f : Fill) : (s.putFill f).images = s.images := rfl
@[simp] theorem State.putFill_trestleFaults (s : State) (f : Fill) : (s.putFill f).trestleFaults = s.trestleFaults := rfl
@[simp] theorem State.putFill_kernels (s : State) (f : Fill) : (s.putFill f).kernels = s.kernels := rfl
@[simp] theorem State.putFill_repair (s : State) (f : Fill) : (s.putFill f).repair = s.repair := rfl
@[simp] theorem State.putFill_generations (s : State) (f : Fill) : (s.putFill f).generations = s.generations := rfl
@[simp] theorem State.putFill_boot (s : State) (f : Fill) : (s.putFill f).boot = s.boot := rfl
@[simp] theorem State.putFill_selftest (s : State) (f : Fill) : (s.putFill f).selftest = s.selftest := rfl
@[simp] theorem State.putFill_power (s : State) (f : Fill) : (s.putFill f).power = s.power := rfl
@[simp] theorem State.putFill_durableStore (s : State) (f : Fill) : (s.putFill f).durableStore = s.durableStore := rfl

/-! ## putKernel -/

@[simp] theorem State.putKernel_pending (s : State) (k : KernelRun) : (s.putKernel k).pending = s.pending := rfl
@[simp] theorem State.putKernel_freeCount (s : State) (k : KernelRun) : (s.putKernel k).freeCount = s.freeCount := rfl
@[simp] theorem State.putKernel_dict (s : State) (k : KernelRun) : (s.putKernel k).dict = s.dict := rfl
@[simp] theorem State.putKernel_blobs (s : State) (k : KernelRun) : (s.putKernel k).blobs = s.blobs := rfl
@[simp] theorem State.putKernel_answer (s : State) (k : KernelRun) : (s.putKernel k).answer = s.answer := rfl
@[simp] theorem State.putKernel_sent (s : State) (k : KernelRun) : (s.putKernel k).sent = s.sent := rfl
@[simp] theorem State.putKernel_gtc (s : State) (k : KernelRun) : (s.putKernel k).gtc = s.gtc := rfl
@[simp] theorem State.putKernel_bus (s : State) (k : KernelRun) : (s.putKernel k).bus = s.bus := rfl
@[simp] theorem State.putKernel_persist (s : State) (k : KernelRun) : (s.putKernel k).persist = s.persist := rfl
@[simp] theorem State.putKernel_faults (s : State) (k : KernelRun) : (s.putKernel k).faults = s.faults := rfl
@[simp] theorem State.putKernel_elements (s : State) (k : KernelRun) : (s.putKernel k).elements = s.elements := rfl
@[simp] theorem State.putKernel_time (s : State) (k : KernelRun) : (s.putKernel k).time = s.time := rfl
@[simp] theorem State.putKernel_counters (s : State) (k : KernelRun) : (s.putKernel k).counters = s.counters := rfl
@[simp] theorem State.putKernel_lanesUsed (s : State) (k : KernelRun) : (s.putKernel k).lanesUsed = s.lanesUsed := rfl
@[simp] theorem State.putKernel_isolated (s : State) (k : KernelRun) : (s.putKernel k).isolated = s.isolated := rfl
@[simp] theorem State.putKernel_slots (s : State) (k : KernelRun) : (s.putKernel k).slots = s.slots := rfl
@[simp] theorem State.putKernel_switches (s : State) (k : KernelRun) : (s.putKernel k).switches = s.switches := rfl
@[simp] theorem State.putKernel_pool (s : State) (k : KernelRun) : (s.putKernel k).pool = s.pool := rfl
@[simp] theorem State.putKernel_channels (s : State) (k : KernelRun) : (s.putKernel k).channels = s.channels := rfl
@[simp] theorem State.putKernel_heap (s : State) (k : KernelRun) : (s.putKernel k).heap = s.heap := rfl
@[simp] theorem State.putKernel_conns (s : State) (k : KernelRun) : (s.putKernel k).conns = s.conns := rfl
@[simp] theorem State.putKernel_kemKey (s : State) (k : KernelRun) : (s.putKernel k).kemKey = s.kemKey := rfl
@[simp] theorem State.putKernel_ports (s : State) (k : KernelRun) : (s.putKernel k).ports = s.ports := rfl
@[simp] theorem State.putKernel_inbox (s : State) (k : KernelRun) : (s.putKernel k).inbox = s.inbox := rfl
@[simp] theorem State.putKernel_objectWindows (s : State) (k : KernelRun) : (s.putKernel k).objectWindows = s.objectWindows := rfl
@[simp] theorem State.putKernel_regions (s : State) (k : KernelRun) : (s.putKernel k).regions = s.regions := rfl
@[simp] theorem State.putKernel_regionGens (s : State) (k : KernelRun) : (s.putKernel k).regionGens = s.regionGens := rfl
@[simp] theorem State.putKernel_items (s : State) (k : KernelRun) : (s.putKernel k).items = s.items := rfl
@[simp] theorem State.putKernel_offers (s : State) (k : KernelRun) : (s.putKernel k).offers = s.offers := rfl
@[simp] theorem State.putKernel_fills (s : State) (k : KernelRun) : (s.putKernel k).fills = s.fills := rfl
@[simp] theorem State.putKernel_batches (s : State) (k : KernelRun) : (s.putKernel k).batches = s.batches := rfl
@[simp] theorem State.putKernel_shoes (s : State) (k : KernelRun) : (s.putKernel k).shoes = s.shoes := rfl
@[simp] theorem State.putKernel_credits (s : State) (k : KernelRun) : (s.putKernel k).credits = s.credits := rfl
@[simp] theorem State.putKernel_cache (s : State) (k : KernelRun) : (s.putKernel k).cache = s.cache := rfl
@[simp] theorem State.putKernel_store (s : State) (k : KernelRun) : (s.putKernel k).store = s.store := rfl
@[simp] theorem State.putKernel_images (s : State) (k : KernelRun) : (s.putKernel k).images = s.images := rfl
@[simp] theorem State.putKernel_trestleFaults (s : State) (k : KernelRun) : (s.putKernel k).trestleFaults = s.trestleFaults := rfl
@[simp] theorem State.putKernel_repair (s : State) (k : KernelRun) : (s.putKernel k).repair = s.repair := rfl
@[simp] theorem State.putKernel_generations (s : State) (k : KernelRun) : (s.putKernel k).generations = s.generations := rfl
@[simp] theorem State.putKernel_boot (s : State) (k : KernelRun) : (s.putKernel k).boot = s.boot := rfl
@[simp] theorem State.putKernel_selftest (s : State) (k : KernelRun) : (s.putKernel k).selftest = s.selftest := rfl
@[simp] theorem State.putKernel_power (s : State) (k : KernelRun) : (s.putKernel k).power = s.power := rfl
@[simp] theorem State.putKernel_durableStore (s : State) (k : KernelRun) : (s.putKernel k).durableStore = s.durableStore := rfl

end Sys2Proof.Machine
end

