-- ==== Sys2Proof/Laws/Dictionary.lean ====
section
/-! SUPPORT. The dictionary: a read after a write of the same object gives the value written and every other object keeps its value; the
lists that hold the values stay in canonical form. -/

namespace Sys2Proof.Machine

/-! ## Lists by key -/

theorem findKey_insertKey {α : Type} (k j : Nat) (v : α) (l : List (Nat × α)) (h : findKey k l = none) :
    findKey j (insertKey k v l) = if j = k then some v else findKey j l := by
  induction l with
  | nil =>
    by_cases hj : j = k
    · simp [insertKey, findKey, hj]
    · simp [insertKey, findKey, hj, Ne.symm hj]
  | cons e t ih =>
    obtain ⟨a, w⟩ := e
    have hak : a ≠ k := by intro he; simp [findKey, he] at h
    have ht : findKey k t = none := by simpa [findKey, hak] using h
    unfold insertKey
    split
    · by_cases hj : j = k
      · simp [findKey, hj]
      · simp [findKey, hj, Ne.symm hj]
    · by_cases ha : a = j
      · subst ha; simp [findKey, hak]
      · simp [findKey, ha, ih ht]

theorem findKey_dropKey {α : Type} (k j : Nat) (l : List (Nat × α)) :
    findKey j (dropKey k l) = if j = k then none else findKey j l := by
  induction l with
  | nil => simp [dropKey, findKey]
  | cons e t ih =>
    obtain ⟨a, w⟩ := e
    unfold dropKey at ih ⊢
    by_cases ha : a = k
    · subst ha
      by_cases hj : j = a
      · subst hj; simpa using ih
      · have : findKey j ((a, w) :: t) = findKey j t := by simp [findKey, Ne.symm hj]
        rw [this]; simpa [hj] using ih
    · by_cases haj : a = j
      · subst haj; simp [findKey, ha]
      · simp only [List.filter_cons, bne_iff_ne, ne_eq, ha, not_false_eq_true, if_true]
        simpa [findKey, haj] using ih

theorem findKey_putKey {α : Type} (k j : Nat) (v : α) (l : List (Nat × α)) :
    findKey j (putKey k v l) = if j = k then some v else findKey j l := by
  unfold putKey
  rw [findKey_insertKey k j v _ (by simp [findKey_dropKey])]
  by_cases h : j = k <;> simp [h, findKey_dropKey]

/-! ## Reads after writes -/

theorem State.get_set (s : State) (k v j : Nat) : (s.set k v).get j = if j = k then v else s.get j := by
  unfold State.get State.set
  by_cases hv : v = defaultOf k
  · by_cases hj : j = k
    · subst hj; simp [hv, findKey_dropKey]
    · simp [hv, findKey_dropKey, hj]
  · by_cases hj : j = k
    · subst hj; simp [hv, findKey_putKey]
    · simp [hv, findKey_putKey, hj]

@[simp] theorem State.get_set_self (s : State) (k v : Nat) : (s.set k v).get k = v := by simp [State.get_set]

theorem State.get_set_ne (s : State) (k v j : Nat) (h : j ≠ k) : (s.set k v).get j = s.get j := by simp [State.get_set, h]

@[simp] theorem State.get_ok (s : State) (k : Nat) : s.ok.get k = s.get k := rfl

@[simp] theorem State.get_setBlob (s : State) (k j : Nat) (b : Bytes) : (s.setBlob k b).get j = s.get j := rfl

theorem State.blob_setBlob (s : State) (k j : Nat) (b : Bytes) :
    (s.setBlob k b).blob j = if j = k then b else s.blob j := by
  unfold State.blob State.setBlob
  by_cases hb : b = []
  · by_cases hj : j = k
    · subst hj; simp [hb, findKey_dropKey]
    · simp [hb, findKey_dropKey, hj]
  · by_cases hj : j = k
    · subst hj; simp [hb, findKey_putKey]
    · simp [hb, findKey_putKey, hj]

/-- Two states with one dictionary show one value of every object. -/
theorem State.get_congr {s t : State} (h : t.dict = s.dict) (k : Nat) : t.get k = s.get k := by simp [State.get, h]

theorem State.blob_congr {s t : State} (h : t.blobs = s.blobs) (k : Nat) : t.blob k = s.blob k := by simp [State.blob, h]

theorem State.slot_congr {s t : State} (h : t.slots = s.slots) (i : Nat) : t.slot i = s.slot i := by simp [State.slot, h]

theorem State.get_count (s : State) (k n j : Nat) :
    (s.count k n).get j = if j = k then satAdd counterMax (s.get k) n else s.get j := State.get_set ..

theorem State.get_bump (s : State) (k j : Nat) :
    (s.bump k).get j = if j = k then satAdd counterMax (s.get k) 1 else s.get j := State.get_set ..

theorem State.get_countW (s : State) (w k n j : Nat) :
    (s.countW w k n).get j = if j = k then satAdd (2 ^ w - 1) (s.get k) n else s.get j := State.get_set ..

theorem State.get_seti (s : State) (w k : Nat) (v : Int) (j : Nat) :
    (s.seti w k v).get j = if j = k then ofSigned w v else s.get j := State.get_set ..

/-- Several writes change the dictionary only. -/
theorem State.setAll_rest (l : List (Nat × Nat)) (s : State) : s.setAll l = { s with dict := (s.setAll l).dict } := by
  induction l generalizing s with
  | nil => rfl
  | cons e l ih => exact ih (s.set e.1 e.2)

theorem State.setAll_cons (k v : Nat) (l : List (Nat × Nat)) (s : State) : s.setAll ((k, v) :: l) = (s.set k v).setAll l := rfl

@[simp] theorem State.setAll_nil (s : State) : s.setAll [] = s := rfl

theorem State.get_setAll_ne (l : List (Nat × Nat)) (s : State) (k : Nat) (h : ∀ e ∈ l, e.1 ≠ k) : (s.setAll l).get k = s.get k := by
  induction l generalizing s with
  | nil => rfl
  | cons e l ih =>
    show State.get (State.setAll (s.set e.1 e.2) l) k = _
    rw [ih _ (fun x hx => h x (List.mem_cons_of_mem _ hx)), State.get_set_ne _ _ _ _ (Ne.symm (h e (List.mem_cons_self ..)))]

/-! ## Canonical form -/

theorem Canonical.filter {α : Type} {blank : Nat → α} {l : List (Nat × α)} (h : Canonical blank l) (p : Nat × α → Bool) :
    Canonical blank (l.filter p) :=
  ⟨h.1.sublist (List.filter_sublist.map _), fun e he => h.2 e (List.mem_filter.mp he).1⟩

theorem mem_insertKey {α : Type} {k : Nat} {v : α} {l : List (Nat × α)} {e : Nat × α} :
    e ∈ insertKey k v l ↔ e = (k, v) ∨ e ∈ l := by
  induction l with
  | nil => simp [insertKey]
  | cons a t ih =>
    obtain ⟨a, w⟩ := a
    unfold insertKey
    split
    · simp
    · simp [ih, or_left_comm]

theorem Canonical.insertKey {α : Type} {blank : Nat → α} {k : Nat} {v : α} {l : List (Nat × α)} (h : Canonical blank l)
    (hk : ∀ e ∈ l, e.1 ≠ k) (hv : v ≠ blank k) : Canonical blank (insertKey k v l) := by
  refine ⟨?_, fun e he => ?_⟩
  · induction l with
    | nil => simp [Machine.insertKey]
    | cons a t ih =>
      obtain ⟨a, w⟩ := a
      have h1 := h.1
      simp only [List.map_cons, List.pairwise_cons] at h1
      unfold Machine.insertKey
      split
      · rename_i hlt
        simp only [List.map_cons, List.pairwise_cons, List.mem_cons]
        refine ⟨fun b hb => ?_, h1⟩
        rcases hb with rfl | hb
        · exact hlt
        · exact Nat.lt_trans hlt (h1.1 b hb)
      · rename_i hlt
        have hak : a < k := by
          have := hk (a, w) (by simp)
          simp only at this; omega
        simp only [List.map_cons, List.pairwise_cons]
        refine ⟨fun b hb => ?_, ih ⟨h1.2, fun e he => h.2 e (by simp [he])⟩ (fun e he => hk e (by simp [he]))⟩
        obtain ⟨e, he, rfl⟩ := List.mem_map.mp hb
        rcases mem_insertKey.mp he with rfl | he
        · exact hak
        · exact h1.1 _ (List.mem_map_of_mem he)
  · rcases mem_insertKey.mp he with rfl | he
    · exact hv
    · exact h.2 e he

theorem Canonical.putKey {α : Type} {blank : Nat → α} {k : Nat} {v : α} {l : List (Nat × α)} (h : Canonical blank l)
    (hv : v ≠ blank k) : Canonical blank (putKey k v l) :=
  (h.filter _).insertKey (fun e he => by simpa using (List.mem_filter.mp he).2) hv

theorem State.DictOk.set {s : State} (h : s.DictOk) (k v : Nat) : (s.set k v).DictOk := by
  refine ⟨?_, h.2⟩
  unfold State.set
  by_cases hv : v = defaultOf k
  · simpa [hv, dropKey] using h.1.filter _
  · simpa [hv] using h.1.putKey hv

theorem State.DictOk.setBlob {s : State} (h : s.DictOk) (k : Nat) (b : Bytes) : (s.setBlob k b).DictOk := by
  refine ⟨h.1, ?_⟩
  unfold State.setBlob
  by_cases hb : b = []
  · simpa [hb, dropKey] using h.2.filter _
  · simpa [hb] using h.2.putKey hb

theorem State.reset_dictOk : State.reset.DictOk := by
  constructor <;> constructor <;> simp [State.reset]

/-! ## A write as a command -/

theorem writeCommand_accepted {k v : Nat} {eff : State → State} {s : State} (h : writeAbort s k v = none) :
    writeCommand k v eff s = eff s := by simp [writeCommand, h]

theorem writeCommand_refused {k v a r : Nat} {eff : State → State} {s : State} (h : writeAbort s k v = some (a, r)) :
    writeCommand k v eff s = s.refuse a r := by simp [writeCommand, h]

end Sys2Proof.Machine
end

