-- ==== Sys2Proof/Laws/Events.lean ====
section
/-! SUPPORT. Frames and events on the bus: what sending one can change at all, which is what is put out, the unit's own queue of
events and three counters. -/

namespace Sys2Proof.Machine

/-- What posting an event can do to a state: every field is as it was but the output, the bus and three counters. -/
structure PostsOnly (s t : State) : Prop where
  get : ∀ k, k ∉ eventCounters → t.get k = s.get k
  rest : { t with sent := s.sent, bus := s.bus, dict := s.dict } = s

theorem PostsOnly.refl (s : State) : PostsOnly s s := ⟨fun _ _ => rfl, rfl⟩

theorem PostsOnly.trans {s t u : State} (h : PostsOnly s t) (g : PostsOnly t u) : PostsOnly s u := by
  refine ⟨fun k hk => (g.get k hk).trans (h.get k hk), ?_⟩
  obtain ⟨_, h⟩ := h
  obtain ⟨_, g⟩ := g
  rw [← h, ← g]

theorem PostsOnly.slots {s t : State} (h : PostsOnly s t) : t.slots = s.slots := by have e := congrArg State.slots h.rest; exact e
theorem PostsOnly.items {s t : State} (h : PostsOnly s t) : t.items = s.items := by have e := congrArg State.items h.rest; exact e
theorem PostsOnly.cache {s t : State} (h : PostsOnly s t) : t.cache = s.cache := by have e := congrArg State.cache h.rest; exact e
theorem PostsOnly.store {s t : State} (h : PostsOnly s t) : t.store = s.store := by have e := congrArg State.store h.rest; exact e
theorem PostsOnly.gtc {s t : State} (h : PostsOnly s t) : t.gtc = s.gtc := by have e := congrArg State.gtc h.rest; exact e
theorem PostsOnly.pool {s t : State} (h : PostsOnly s t) : t.pool = s.pool := by have e := congrArg State.pool h.rest; exact e
theorem PostsOnly.regions {s t : State} (h : PostsOnly s t) : t.regions = s.regions := by have e := congrArg State.regions h.rest; exact e
theorem PostsOnly.boot {s t : State} (h : PostsOnly s t) : t.boot = s.boot := by have e := congrArg State.boot h.rest; exact e
theorem PostsOnly.power {s t : State} (h : PostsOnly s t) : t.power = s.power := by have e := congrArg State.power h.rest; exact e
theorem PostsOnly.selftest {s t : State} (h : PostsOnly s t) : t.selftest = s.selftest := by have e := congrArg State.selftest h.rest; exact e
theorem PostsOnly.batches {s t : State} (h : PostsOnly s t) : t.batches = s.batches := by have e := congrArg State.batches h.rest; exact e
theorem PostsOnly.shoes {s t : State} (h : PostsOnly s t) : t.shoes = s.shoes := by have e := congrArg State.shoes h.rest; exact e
theorem PostsOnly.persist {s t : State} (h : PostsOnly s t) : t.persist = s.persist := by have e := congrArg State.persist h.rest; exact e
theorem PostsOnly.faults {s t : State} (h : PostsOnly s t) : t.faults = s.faults := by have e := congrArg State.faults h.rest; exact e
theorem PostsOnly.channels {s t : State} (h : PostsOnly s t) : t.channels = s.channels := by have e := congrArg State.channels h.rest; exact e
theorem PostsOnly.blobs {s t : State} (h : PostsOnly s t) : t.blobs = s.blobs := by have e := congrArg State.blobs h.rest; exact e
theorem PostsOnly.pending {s t : State} (h : PostsOnly s t) : t.pending = s.pending := by have e := congrArg State.pending h.rest; exact e
theorem PostsOnly.heap {s t : State} (h : PostsOnly s t) : t.heap = s.heap := by have e := congrArg State.heap h.rest; exact e
theorem PostsOnly.counters {s t : State} (h : PostsOnly s t) : t.counters = s.counters := by have e := congrArg State.counters h.rest; exact e
theorem PostsOnly.time {s t : State} (h : PostsOnly s t) : t.time = s.time := by have e := congrArg State.time h.rest; exact e
theorem PostsOnly.conns {s t : State} (h : PostsOnly s t) : t.conns = s.conns := by have e := congrArg State.conns h.rest; exact e
theorem PostsOnly.ports {s t : State} (h : PostsOnly s t) : t.ports = s.ports := by have e := congrArg State.ports h.rest; exact e
theorem PostsOnly.freeCount {s t : State} (h : PostsOnly s t) : t.freeCount = s.freeCount := by have e := congrArg State.freeCount h.rest; exact e

theorem PostsOnly.bump {s : State} (k : Nat) (hk : k ∈ eventCounters) : PostsOnly s (s.bump k) := by
  refine ⟨fun j hj => ?_, rfl⟩
  rw [State.get_bump, if_neg]
  rintro rfl; exact hj hk

theorem PostsOnly.send (s : State) (x : Sent) : PostsOnly s (s.send x) := ⟨fun _ _ => rfl, rfl⟩

theorem PostsOnly.bus (s : State) (b : Bus) : PostsOnly s { s with bus := b } := ⟨fun _ _ => rfl, rfl⟩

theorem sendFrame_postsOnly (s : State) (f d r t : Nat) (p : Bytes) : PostsOnly s (s.sendFrame f d r t p) := by
  unfold State.sendFrame
  split
  · exact (PostsOnly.send ..).trans (.bump _ (by decide))
  · exact .refl s

theorem sendNewEvents_postsOnly (l : List BusEvent) (s : State) : PostsOnly s (sendNewEvents l s) := by
  induction l generalizing s with
  | nil => exact .refl s
  | cons e t ih =>
    unfold sendNewEvents
    split
    · exact ((sendFrame_postsOnly ..).trans (.bump _ (by decide))).trans (ih _)
    · exact ih s

theorem flushEvents_postsOnly (s : State) : PostsOnly s s.flushEvents := by
  unfold State.flushEvents
  split
  · exact (sendNewEvents_postsOnly ..).trans (.bus ..)
  · exact .refl s

theorem postEvent_postsOnly (s : State) (kind sub : Nat) (body : Bytes) : PostsOnly s (s.postEvent kind sub body) := by
  unfold State.postEvent
  split
  · refine PostsOnly.trans ?_ (flushEvents_postsOnly _)
    refine PostsOnly.trans (t := if s.bus.events.length < 64 then s else s.bump Obj.eventsLost) ?_ (.bus ..)
    split
    · exact .refl s
    · exact .bump _ (by decide)
  · exact .refl s

theorem setJobState_get (s : State) (i new k : Nat) (h : k ∉ eventCounters) :
    (s.setJobState i new).get k = if k = inst Obj.jobState i then new else s.get k := by
  unfold State.setJobState
  rw [(postEvent_postsOnly _ _ _ _).get k h, State.get_set]

end Sys2Proof.Machine
end

