-- ==== Sys2Proof/Laws/Conns.lean ====
section
/-! SUPPORT. Connections following a slot's state: what that can change at all, which is the contexts, the ports' handshake queues, the
free values taken and the objects that count connections. -/

namespace Sys2Proof.Machine

/-- What following the slots' needs can do to a state. -/
structure ConnsOnly (s t : State) : Prop where
  get : ∀ k, k ∉ connCounters → t.get k = s.get k
  rest : { t with conns := s.conns, ports := s.ports, freeCount := s.freeCount, dict := s.dict } = s

theorem ConnsOnly.refl (s : State) : ConnsOnly s s := ⟨fun _ _ => rfl, rfl⟩

theorem ConnsOnly.trans {s t u : State} (h : ConnsOnly s t) (g : ConnsOnly t u) : ConnsOnly s u := by
  refine ⟨fun k hk => (g.get k hk).trans (h.get k hk), ?_⟩
  obtain ⟨_, h⟩ := h
  obtain ⟨_, g⟩ := g
  rw [← h, ← g]

theorem ConnsOnly.set (s : State) (k v : Nat) (hk : k ∈ connCounters) : ConnsOnly s (s.set k v) := by
  refine ⟨fun j hj => ?_, rfl⟩
  rw [State.get_set, if_neg]
  rintro rfl; exact hj hk

theorem ConnsOnly.foldl {α : Type} (f : State → α → State) (l : List α) (h : ∀ s, ∀ a ∈ l, ConnsOnly s (f s a)) (s : State) :
    ConnsOnly s (l.foldl f s) := by
  induction l generalizing s with
  | nil => exact .refl s
  | cons a t ih =>
    exact (h s a (by simp)).trans (ih (fun s b hb => h s b (by simp [hb])) _)

theorem ConnsOnly.fields (s : State) (c : List Conn) (p : List Port) (n : Nat) :
    ConnsOnly s { s with conns := c, ports := p, freeCount := n } := ⟨fun _ _ => rfl, rfl⟩

theorem ConnsOnly.slots {s t : State} (h : ConnsOnly s t) : t.slots = s.slots := by have e := congrArg State.slots h.rest; exact e
theorem ConnsOnly.items {s t : State} (h : ConnsOnly s t) : t.items = s.items := by have e := congrArg State.items h.rest; exact e
theorem ConnsOnly.cache {s t : State} (h : ConnsOnly s t) : t.cache = s.cache := by have e := congrArg State.cache h.rest; exact e
theorem ConnsOnly.store {s t : State} (h : ConnsOnly s t) : t.store = s.store := by have e := congrArg State.store h.rest; exact e
theorem ConnsOnly.gtc {s t : State} (h : ConnsOnly s t) : t.gtc = s.gtc := by have e := congrArg State.gtc h.rest; exact e
theorem ConnsOnly.pool {s t : State} (h : ConnsOnly s t) : t.pool = s.pool := by have e := congrArg State.pool h.rest; exact e
theorem ConnsOnly.regions {s t : State} (h : ConnsOnly s t) : t.regions = s.regions := by have e := congrArg State.regions h.rest; exact e
theorem ConnsOnly.boot {s t : State} (h : ConnsOnly s t) : t.boot = s.boot := by have e := congrArg State.boot h.rest; exact e
theorem ConnsOnly.power {s t : State} (h : ConnsOnly s t) : t.power = s.power := by have e := congrArg State.power h.rest; exact e
theorem ConnsOnly.selftest {s t : State} (h : ConnsOnly s t) : t.selftest = s.selftest := by have e := congrArg State.selftest h.rest; exact e
theorem ConnsOnly.batches {s t : State} (h : ConnsOnly s t) : t.batches = s.batches := by have e := congrArg State.batches h.rest; exact e
theorem ConnsOnly.shoes {s t : State} (h : ConnsOnly s t) : t.shoes = s.shoes := by have e := congrArg State.shoes h.rest; exact e
theorem ConnsOnly.persist {s t : State} (h : ConnsOnly s t) : t.persist = s.persist := by have e := congrArg State.persist h.rest; exact e
theorem ConnsOnly.faults {s t : State} (h : ConnsOnly s t) : t.faults = s.faults := by have e := congrArg State.faults h.rest; exact e
theorem ConnsOnly.channels {s t : State} (h : ConnsOnly s t) : t.channels = s.channels := by have e := congrArg State.channels h.rest; exact e
theorem ConnsOnly.blobs {s t : State} (h : ConnsOnly s t) : t.blobs = s.blobs := by have e := congrArg State.blobs h.rest; exact e
theorem ConnsOnly.pending {s t : State} (h : ConnsOnly s t) : t.pending = s.pending := by have e := congrArg State.pending h.rest; exact e
theorem ConnsOnly.heap {s t : State} (h : ConnsOnly s t) : t.heap = s.heap := by have e := congrArg State.heap h.rest; exact e
theorem ConnsOnly.counters {s t : State} (h : ConnsOnly s t) : t.counters = s.counters := by have e := congrArg State.counters h.rest; exact e
theorem ConnsOnly.time {s t : State} (h : ConnsOnly s t) : t.time = s.time := by have e := congrArg State.time h.rest; exact e

theorem sendHandshake_connsOnly (s : State) (a p ty at' : Nat) (b : Bytes) : ConnsOnly s (s.sendHandshake a p ty at' b) := by
  unfold State.sendHandshake
  dsimp only
  generalize (if p < 16 then p else s.choosePort) = q
  split
  · exact .fields s s.conns _ s.freeCount
  · exact .refl s

theorem dropConn_connsOnly (s : State) (ctx : Nat) : ConnsOnly s (s.dropConn ctx) := by
  unfold State.dropConn
  refine ConnsOnly.trans (t := s.onConn ctx fun c =>
    if c.st = 2 then s.sendHandshake c.address c.port 6 c.attempt (zeros 4 ++ macC c.m (zeros 2)) else s) ?_ ⟨fun _ _ => rfl, rfl⟩
  unfold State.onConn
  split
  · dsimp only
    split
    · exact sendHandshake_connsOnly ..
    · exact .refl s
  · exact .refl s

theorem startAttempt_connsOnly (s : State) (ctx : Nat) : ConnsOnly s (s.startAttempt ctx) := by
  unfold State.startAttempt State.onConn
  split
  · dsimp only
    split
    · exact .fields s _ s.ports s.freeCount
    · unfold State.sendAttempt
      refine ConnsOnly.trans ?_ (sendHandshake_connsOnly ..)
      exact ⟨fun _ _ => rfl, rfl⟩
  · exact .refl s

theorem addConn_connsOnly (s : State) (c : Conn) : ConnsOnly s (s.addConn c) := .fields s _ s.ports s.freeCount

theorem mem_slotConsumer {i : Nat} (h : i ∈ allSlots) : inst Obj.slotConsumerConnections i ∈ connCounters := by
  unfold connCounters; simp only [List.mem_append, List.mem_map]; exact .inl (.inl (.inl (.inl (.inr ⟨i, h, rfl⟩))))

theorem mem_slotPeer {i : Nat} (h : i ∈ allSlots) : inst Obj.slotPeerConnections i ∈ connCounters := by
  unfold connCounters; simp only [List.mem_append, List.mem_map]; exact .inl (.inl (.inl (.inr ⟨i, h, rfl⟩)))

theorem mem_port {i : Nat} (h : i ∈ List.range 16) : inst Obj.portConnections i ∈ connCounters := by
  unfold connCounters; simp only [List.mem_append, List.mem_map]; exact .inl (.inl (.inr ⟨i, h, rfl⟩))

theorem mem_shape {i : Nat} (h : i ∈ List.range 32) : inst Obj.shapeUsers i ∈ connCounters := by
  unfold connCounters; simp only [List.mem_append, List.mem_map]; exact .inl (.inr ⟨i, h, rfl⟩)

theorem mem_policer {i : Nat} (h : i ∈ List.range 32) : inst Obj.policerUsers i ∈ connCounters := by
  unfold connCounters; simp only [List.mem_append, List.mem_map]; exact .inr ⟨i, h, rfl⟩

theorem mem_established : Obj.connectionsEstablished ∈ connCounters := by unfold connCounters; simp

theorem openConsumers_connsOnly (s : State) (i : Nat) : ConnsOnly s (s.openConsumers i) := by
  unfold State.openConsumers
  refine ConnsOnly.foldl _ _ (fun t k _ => ?_) s
  dsimp only
  split
  · exact .refl t
  · split
    · exact .refl t
    · exact (addConn_connsOnly ..).trans (startAttempt_connsOnly ..)

theorem countConns_connsOnly (s : State) : ConnsOnly s s.countConns := by
  unfold State.countConns
  refine ConnsOnly.trans (.set s _ _ mem_established) (ConnsOnly.foldl _ _ (fun t i hi => ?_) _)
  exact (ConnsOnly.set t _ _ (mem_slotConsumer hi)).trans (.set _ _ _ (mem_slotPeer hi))

theorem countPorts_connsOnly (s : State) : ConnsOnly s s.countPorts := by
  unfold State.countPorts
  exact ConnsOnly.foldl _ _ (fun t p hp => .set t _ _ (mem_port hp)) s

theorem countUsers_connsOnly (s : State) : ConnsOnly s s.countUsers := by
  unfold State.countUsers
  exact ConnsOnly.foldl _ _ (fun t n hn => (ConnsOnly.set t _ _ (mem_shape hn)).trans (.set _ _ _ (mem_policer hn))) s

theorem syncConns_connsOnly (s : State) : ConnsOnly s s.syncConns := by
  unfold State.syncConns
  dsimp only
  refine ConnsOnly.trans ?_ (countUsers_connsOnly _)
  refine ConnsOnly.trans ?_ (countPorts_connsOnly _)
  refine ConnsOnly.trans ?_ (countConns_connsOnly _)
  refine ConnsOnly.trans ?_ (ConnsOnly.foldl _ _ (fun t e _ => ?_) _)
  · refine ConnsOnly.trans ?_ (ConnsOnly.foldl _ _ (fun t i _ => openConsumers_connsOnly t i) _)
    exact ConnsOnly.foldl _ _ (fun t c _ => dropConn_connsOnly t c.ctx) _
  · split
    · exact .refl t
    · split
      · exact .refl t
      · split
        · exact (addConn_connsOnly ..).trans (startAttempt_connsOnly ..)
        · exact addConn_connsOnly ..

/-- An object outside the index ranges of the bus, of connections and of profiles is none of those that follow. -/
theorem not_mem_followCounters {k : Nat} (h : (0x1200 * 256 ≤ k ∧ k < 0x4000 * 256) ∨ 0x4900 * 256 ≤ k) : k ∉ followCounters := by
  intro hk
  simp only [followCounters, eventCounters, connCounters, List.mem_append, List.mem_cons, List.mem_map, allSlots, List.mem_range,
    List.not_mem_nil, or_false, inst, Obj.eventsSent, Obj.eventsLost, Obj.busFramesSent, Obj.connectionsEstablished,
    Obj.slotConsumerConnections, Obj.slotPeerConnections, Obj.portConnections, Obj.shapeUsers, Obj.policerUsers] at hk
  omega

/-- A slot that enters a state shows it, and no object but those that follow has changed. -/
theorem enterState_get (s : State) (i new k : Nat) (h : k ∉ followCounters) :
    (s.enterState i new).get k = if k = inst Obj.jobState i then new else s.get k := by
  unfold followCounters at h
  rw [List.mem_append, not_or] at h
  unfold State.enterState
  rw [(syncConns_connsOnly _).get k h.2]
  exact setJobState_get _ _ _ _ h.1

/-- Entering a state leaves the slots' machinery as it was. -/
theorem enterState_slots (s : State) (i new : Nat) : (s.enterState i new).slots = s.slots := by
  unfold State.enterState
  rw [(syncConns_connsOnly _).slots, State.setJobState, (postEvent_postsOnly _ _ _ _).slots]
  rfl

end Sys2Proof.Machine
end

