-- ==== Sys2Proof/Laws/Counters.lean ====
section
/-! SUPPORT. Events of the counter banks: they change the values and overflow marks of counters, and nothing else. -/

namespace Sys2Proof.Machine

/-- An object that an event of a counter bank can change (R526, R527). -/
def bankObject (k : Nat) : Prop :=
  ∃ b n, k = ctrKey Obj.counterValue b n ∨ k = ctrKey Obj.counterOverflowed b n ∨ k = inst Obj.bankOverflows b

/-- What an event of a bank can do: every field is as it was but the dictionary, and there every object but the bank's own. -/
structure BanksOnly (s t : State) : Prop where
  rest : ∃ d, t = { s with dict := d }
  get : ∀ k, ¬ bankObject k → t.get k = s.get k

theorem BanksOnly.refl (s : State) : BanksOnly s s := ⟨⟨s.dict, rfl⟩, fun _ _ => rfl⟩

theorem BanksOnly.trans {s t u : State} (h : BanksOnly s t) (g : BanksOnly t u) : BanksOnly s u := by
  obtain ⟨d, h1⟩ := h.rest
  obtain ⟨e, g1⟩ := g.rest
  exact ⟨⟨e, by rw [g1, h1]⟩, fun k hk => (g.get k hk).trans (h.get k hk)⟩

theorem BanksOnly.set {s : State} {k v : Nat} (h : bankObject k) : BanksOnly s (s.set k v) :=
  ⟨⟨(s.set k v).dict, rfl⟩, fun _ hj => State.get_set_ne s _ _ _ (fun e => hj (e ▸ h))⟩

theorem ctrOverflow_banksOnly (s : State) (b n : Nat) : BanksOnly s (s.ctrOverflow b n) :=
  (BanksOnly.set ⟨b, n, .inr (.inl rfl)⟩).trans (BanksOnly.set ⟨b, n, .inr (.inr rfl)⟩)

theorem ctrAdd_banksOnly (s : State) (b n w : Nat) : BanksOnly s (s.ctrAdd b n w) := by
  have h : ∀ (t : State) m v, BanksOnly t (t.set (ctrKey Obj.counterValue b m) v) := fun t m v => BanksOnly.set ⟨b, m, .inl rfl⟩
  unfold State.ctrAdd
  dsimp only
  split
  · exact h s n _
  · split
    · split
      · exact (h s n _).trans (h _ (n + 1) _)
      · exact ((h s n _).trans (h _ (n + 1) _)).trans (ctrOverflow_banksOnly _ b (n + 1))
    · exact (h s n _).trans (ctrOverflow_banksOnly _ b n)

theorem event_banksOnly (s : State) (b code w : Nat) (unit slot : Option Nat) : BanksOnly s (s.event b code w unit slot) := by
  unfold State.event
  split
  · exact .refl s
  · rename_i h; clear h
    generalize List.range (bankCounterCount b) = l
    induction l generalizing s with
    | nil => exact .refl s
    | cons n l ih =>
      rw [List.foldl_cons]
      refine BanksOnly.trans ?_ (ih _)
      split
      · exact ctrAdd_banksOnly s b n w
      · exact .refl s

end Sys2Proof.Machine
end

