-- ==== Sys2Proof/Laws/Hash.lean ====
section
/-! SUPPORT. The lengths of SHAKE256 states and of digests. -/

namespace Sys2Proof.Machine

@[simp] theorem lanes_length (f : Nat → Nat → Word64) : (lanes f).length = 25 := by simp [lanes]

theorem keccakRound_length (a : List Word64) (rc : Word64) : (keccakRound a rc).length = 25 := by
  have h : (keccakChi (keccakRhoPi (keccakTheta a))).length = 25 := lanes_length _
  unfold keccakRound
  cases hc : keccakChi (keccakRhoPi (keccakTheta a)) with
  | nil => simp [hc] at h
  | cons x t => simpa [hc] using h

theorem keccakF_length {a : List Word64} (h : a.length = 25) : (keccakF a).length = 25 := by
  unfold keccakF
  generalize roundConstants = l
  induction l generalizing a with
  | nil => exact h
  | cons c l ih => exact ih (keccakRound_length a c)

theorem absorb_length {a : List Word64} (h : a.length = 25) (n : Nat) (b : Bytes) : (absorb n a b).length = 25 := by
  induction n generalizing a b with
  | zero => exact h
  | succ n ih => exact ih (keccakF_length (lanes_length _)) _

theorem stateBytes_length (a : List Word64) : (stateBytes a).length = 8 * a.length := by
  induction a with
  | nil => rfl
  | cons w t ih =>
    unfold stateBytes at ih ⊢
    rw [List.flatMap_cons, List.length_append, ih, List.length_cons]
    simp [leBytes]
    omega

/-- A digest has 32 bytes. -/
@[simp] theorem digest_length (b : Bytes) : (digest b).length = 32 := by
  have h := absorb_length (List.length_replicate (n := 25) (a := (0 : Word64))) ((shakePad b).length / shakeRate) (shakePad b)
  show ((squeeze 1 (absorb ((shakePad b).length / shakeRate) (List.replicate 25 0) (shakePad b))).take 32).length = 32
  generalize absorb _ _ _ = a at h
  simp only [squeeze, List.append_nil, List.length_take, stateBytes_length, h, shakeRate]
  omega

end Sys2Proof.Machine
end

