-- ==== Sys2Proof/Laws/Kernels.lean ====
section
/-! SUPPORT. Kernels: a stretch of a kernel's own instructions, and a service call after it, that meet no obstacle. -/

namespace Sys2Proof.Machine

theorem retired_kernelPackage (s : State) (it x : Item) (k : KernelRun) (n : Nat) :
    (s.retired x k n).kernelPackage it = s.kernelPackage it := by
  unfold State.retired
  obtain ⟨d, h⟩ := (event_banksOnly (s.count Obj.kernelInstructions n) 0 0x103 n (some k.pier) (some x.slot)).rest
  rw [h]
  rfl

theorem retired_get (s : State) (it : Item) (k : KernelRun) (n j : Nat) (h : ¬ bankObject j) (hj : j ≠ Obj.kernelInstructions) :
    (s.retired it k n).get j = s.get j := by
  unfold State.retired
  rw [(event_banksOnly _ 0 0x103 n (some k.pier) (some it.slot)).get j h, State.get_count, if_neg hj]

/-- A call leaves every object as it was but the counters of instructions. -/
theorem calledBy_get (s : State) (it : Item) (k : KernelRun) (w : KernelStep) (j : Nat) (h : ¬ bankObject j)
    (hj : j ≠ Obj.kernelInstructions) : (s.calledBy it k w).get j = s.get j := by
  unfold State.calledBy State.ranBy
  rw [retired_get _ _ _ _ _ h hj]
  exact retired_get _ _ _ _ _ h hj

/-- What a stretch that runs free does: the kernel's registers, instructions and scratchpad are those it leaves. -/
theorem runKernel_free {s : State} {e : Nat} {it : Item} {k : KernelRun} {w : KernelStep} (h : RunsFree s e it k w)
    (f : Item → KernelRun → State → State) : s.runKernel e w f = f it (k.ranBy w) (s.ranBy it k w) := by
  obtain ⟨h1, h2, h3, h4, h5, h6, h7⟩ := h
  have hm : (w.stores.any fun x => k.meets x.1 x.2.length) = false := by
    rw [List.any_eq_false]
    intro x hx
    simp [(h6 x hx).1]
  have hg : (w.stores.all fun x => inSpad (s.kernelPackage it).2 x.1 x.2.length) = true := by
    rw [List.all_eq_true]
    exact fun x hx => (h6 x hx).2
  have ht : (w.stores.takeWhile fun x => inSpad (s.kernelPackage it).2 x.1 x.2.length) = w.stores := by
    generalize w.stores = l at h6
    induction l with
    | nil => rfl
    | cons x t ih =>
      rw [List.takeWhile_cons, if_pos (h6 x (List.mem_cons_self ..)).2, ih fun y hy => h6 y (List.mem_cons_of_mem _ hy)]
  have hr : min w.insns (instructionLimit (s.kernelPackage it).1 (s.kernelPackage it).2 - k.insns) = w.insns := by omega
  unfold State.runKernel
  rw [h1, h2]
  dsimp only
  rw [if_neg (by simp [h3, h4, h5, hm]), hr, ht, hg, if_neg (Nat.lt_irrefl _), if_neg (by simp)]
  rfl

/-- What a service call that runs free comes to: the stretch, 64 instructions more, and the call's own effect. -/
theorem serviceCall_free {s : State} {e call : Nat} {it : Item} {k : KernelRun} {w : KernelStep} (h : CallsFree s e it k w call)
    (f : Item → KernelRun → Bytes → State → State) :
    s.serviceCall e call w f = f it (k.calledBy w) (s.kernelPackage it).2 (s.calledBy it k w) := by
  obtain ⟨h1, h2, h3⟩ := h
  unfold State.serviceCall
  rw [if_neg (by exact fun h => h h2), runKernel_free h1]
  have hp : (s.ranBy it k w).kernelPackage it = s.kernelPackage it := by
    unfold State.ranBy
    rw [retired_kernelPackage]
    rfl
  dsimp only
  rw [hp]
  rw [if_neg (by simp only [KernelRun.ranBy]; omega)]
  rfl

end Sys2Proof.Machine
end

