-- ==== Sys2Proof/Laws/Memory.lean ====
section
/-! SUPPORT. The addressed windows: a read after a write, and the canonical form that every write keeps. -/

namespace Sys2Proof.Machine

theorem Memory.wf_iff (m : Memory) : Memory.wf m = true ↔ Canonical (fun _ => Memory.blank) m := by
  unfold Memory.wf Canonical
  simp [List.all_eq_true]

theorem Memory.cells_bounds (a : Nat) (b : Bytes) : ∀ c ∈ Memory.cells a b, a ≤ c.1 ∧ c.1 < a + b.length ∧ c.2 ≠ Memory.blank := by
  induction b generalizing a with
  | nil => simp [Memory.cells]
  | cons x t ih =>
    intro c hc
    unfold Memory.cells at hc
    split at hc
    · obtain ⟨h1, h2, h3⟩ := ih (a + 1) c hc
      simp only [List.length_cons]; exact ⟨by omega, by omega, h3⟩
    · rename_i hx
      rcases List.mem_cons.mp hc with rfl | hc
      · simp only [List.length_cons]; exact ⟨Nat.le_refl _, by omega, hx⟩
      · obtain ⟨h1, h2, h3⟩ := ih (a + 1) c hc
        simp only [List.length_cons]; exact ⟨by omega, by omega, h3⟩

theorem Memory.cells_rising (a : Nat) (b : Bytes) : ((Memory.cells a b).map Prod.fst).Pairwise (· < ·) := by
  induction b generalizing a with
  | nil => simp [Memory.cells]
  | cons x t ih =>
    unfold Memory.cells
    split
    · exact ih (a + 1)
    · simp only [List.map_cons, List.pairwise_cons]
      refine ⟨fun k hk => ?_, ih (a + 1)⟩
      obtain ⟨c, hc, rfl⟩ := List.mem_map.mp hk
      have := (Memory.cells_bounds (a + 1) t c hc).1
      omega

/-- A write keeps the canonical form. -/
theorem Memory.write_wf (m : Memory) (a : Nat) (b : Bytes) (h : Memory.wf m = true) : Memory.wf (Memory.write m a b) = true := by
  rw [Memory.wf_iff] at h ⊢
  obtain ⟨h1, h2⟩ := h
  have lo : ∀ e ∈ m.filter (fun c => decide (c.1 < a)), e.1 < a ∧ e ∈ m := fun e he => by
    simpa [and_comm] using List.mem_filter.mp he
  have hi : ∀ e ∈ m.filter (fun c => decide (a + b.length ≤ c.1)), a + b.length ≤ e.1 ∧ e ∈ m := fun e he => by
    simpa [and_comm] using List.mem_filter.mp he
  unfold Memory.write
  constructor
  · simp only [List.map_append, List.pairwise_append]
    refine ⟨⟨h1.sublist (List.filter_sublist.map _), Memory.cells_rising a b, ?_⟩,
      h1.sublist (List.filter_sublist.map _), ?_⟩
    · intro x hx y hy
      obtain ⟨e, he, rfl⟩ := List.mem_map.mp hx
      obtain ⟨c, hc, rfl⟩ := List.mem_map.mp hy
      have := (lo e he).1
      have := (Memory.cells_bounds a b c hc).1
      omega
    · intro x hx y hy
      obtain ⟨c, hc, rfl⟩ := List.mem_map.mp hy
      have hc := (hi c hc).1
      rcases List.mem_append.mp hx with hx | hx
      · obtain ⟨e, he, rfl⟩ := List.mem_map.mp hx
        have := (lo e he).1
        omega
      · obtain ⟨e, he, rfl⟩ := List.mem_map.mp hx
        have := (Memory.cells_bounds a b e he).2.1
        omega
  · intro e he
    rcases List.mem_append.mp he with he | he
    · rcases List.mem_append.mp he with he | he
      · exact h2 e (lo e he).2
      · exact (Memory.cells_bounds a b e he).2.2
    · exact h2 e (hi e he).2

theorem findKey_append {α : Type} (k : Nat) (l m : List (Nat × α)) :
    findKey k (l ++ m) = (findKey k l).or (findKey k m) := by
  induction l with
  | nil => simp [findKey]
  | cons e t ih =>
    obtain ⟨a, w⟩ := e
    by_cases h : a = k <;> simp [findKey, h, ih]

theorem findKey_none {α : Type} {k : Nat} {l : List (Nat × α)} (h : ∀ e ∈ l, e.1 ≠ k) : findKey k l = none := by
  induction l with
  | nil => rfl
  | cons e t ih =>
    obtain ⟨a, w⟩ := e
    have : a ≠ k := h (a, w) (by simp)
    simp [findKey, this, ih fun e he => h e (by simp [he])]

theorem findKey_filter {α : Type} (k : Nat) (p : Nat → Bool) (l : List (Nat × α)) :
    findKey k (l.filter fun c => p c.1) = if p k then findKey k l else none := by
  induction l with
  | nil => simp [findKey]
  | cons e t ih =>
    obtain ⟨a, w⟩ := e
    by_cases hp : p a = true
    · by_cases h : a = k
      · subst h; simp [findKey, hp]
      · simp [findKey, hp, h, ih]
    · by_cases h : a = k
      · subst h; simp [hp, ih]
      · simp [findKey, hp, h, ih]

theorem Memory.read_cells (a k : Nat) (b : Bytes) :
    (findKey k (Memory.cells a b)).getD Memory.blank = if a ≤ k ∧ k < a + b.length then b.getD (k - a) Memory.blank else Memory.blank := by
  induction b generalizing a with
  | nil => simp [Memory.cells, findKey]
  | cons x t ih =>
    by_cases hk : k = a
    · subst hk
      unfold Memory.cells
      split
      · rename_i hx
        have h1 : ¬ (k + 1 ≤ k ∧ k < k + 1 + t.length) := by omega
        rw [ih, if_neg h1]; simp [hx]
      · simp [findKey]
    · have hrest : (findKey k (Memory.cells a (x :: t))).getD Memory.blank = (findKey k (Memory.cells (a + 1) t)).getD Memory.blank := by
        rw [show Memory.cells a (x :: t) = if x = Memory.blank then Memory.cells (a + 1) t else (a, x) :: Memory.cells (a + 1) t from rfl]
        split
        · rfl
        · simp [findKey, Ne.symm hk]
      rw [hrest, ih]
      simp only [List.length_cons]
      by_cases h : a + 1 ≤ k ∧ k < a + 1 + t.length
      · have h' : a ≤ k ∧ k < a + (t.length + 1) := by omega
        rw [if_pos h, if_pos h']
        obtain ⟨d, rfl⟩ : ∃ d, k = a + 1 + d := ⟨k - (a + 1), by omega⟩
        have e1 : a + 1 + d - (a + 1) = d := by omega
        have e2 : a + 1 + d - a = d + 1 := by omega
        rw [e1, e2]; simp
      · have h' : ¬ (a ≤ k ∧ k < a + (t.length + 1)) := by omega
        rw [if_neg h, if_neg h']

/-- A read after a write: inside the bytes written, the byte written there; elsewhere, the byte that was there. -/
theorem Memory.read_write (m : Memory) (a k : Nat) (b : Bytes) :
    Memory.read (Memory.write m a b) k = if a ≤ k ∧ k < a + b.length then b.getD (k - a) Memory.blank else Memory.read m k := by
  unfold Memory.read Memory.write
  rw [findKey_append, findKey_append, findKey_filter k (fun c => decide (c < a)), findKey_filter k (fun c => decide (a + b.length ≤ c))]
  have hc := Memory.read_cells a k b
  by_cases hlo : k < a
  · have hn : findKey k (Memory.cells a b) = none := findKey_none fun e he => by
      have := (Memory.cells_bounds a b e he).1; omega
    have h1 : ¬ (a ≤ k ∧ k < a + b.length) := by omega
    have h2 : ¬ (a + b.length ≤ k) := by omega
    simp [hlo, hn, h1, h2]
  · by_cases hhi : a + b.length ≤ k
    · have hn : findKey k (Memory.cells a b) = none := findKey_none fun e he => by
        have := (Memory.cells_bounds a b e he).2.1; omega
      have h1 : ¬ (a ≤ k ∧ k < a + b.length) := by omega
      simp [hlo, hn, h1, hhi]
    · have h1 : a ≤ k ∧ k < a + b.length := by omega
      simpa [hlo, hhi, h1] using hc

end Sys2Proof.Machine
end

