-- ==== Sys2Proof/Laws/Time.lean ====
section
/-! SUPPORT. Changes of SyncState: what they can do to the state, and what they leave of the clock. -/

namespace Sys2Proof.Machine

/-- Does an object belong to synchronisation (R66 to R69)? -/
def syncObject (k : Nat) : Prop := 0x1200 * 256 ≤ k ∧ k < 0x2000 * 256

/-- What a departure from the synchronised state can do: the clock, its frequency and the synchronisation objects stay. -/
structure KeepsClock (s t : State) : Prop where
  gtc : t.gtc = s.gtc
  time : t.time = s.time
  counters : t.counters = s.counters
  get : ∀ k, syncObject k → t.get k = s.get k

theorem KeepsClock.refl (s : State) : KeepsClock s s := ⟨rfl, rfl, rfl, fun _ _ => rfl⟩

theorem KeepsClock.trans {s t u : State} (h : KeepsClock s t) (g : KeepsClock t u) : KeepsClock s u :=
  ⟨g.gtc.trans h.gtc, g.time.trans h.time, g.counters.trans h.counters, fun k hk => (g.get k hk).trans (h.get k hk)⟩

theorem syncObject_not_event {k : Nat} (h : syncObject k) : k ∉ eventCounters := by
  unfold syncObject at h
  simp only [eventCounters, List.mem_cons, List.not_mem_nil, or_false, Obj.eventsSent, Obj.eventsLost, Obj.busFramesSent]
  omega

theorem PostsOnly.keepsClock {s t : State} (h : PostsOnly s t) : KeepsClock s t :=
  ⟨h.gtc, h.time, h.counters, fun k hk => h.get k (syncObject_not_event hk)⟩

theorem KeepsClock.set {s : State} {k v : Nat} (h : ¬ syncObject k) : KeepsClock s (s.set k v) :=
  ⟨rfl, rfl, rfl, fun _ hj => State.get_set_ne s _ _ _ (fun e => h (e ▸ hj))⟩

theorem setJobState_keepsClock (s : State) (i new : Nat) : KeepsClock s (s.setJobState i new) := by
  unfold State.setJobState
  exact (KeepsClock.set (by simp only [syncObject, inst, Obj.jobState]; omega)).trans (postEvent_postsOnly _ _ _ _).keepsClock

theorem setStepState_keepsClock (s : State) (i new : Nat) : KeepsClock s (s.setStepState i new) := by
  unfold State.setStepState
  exact (KeepsClock.set (by simp only [syncObject, inst, Obj.stepState]; omega)).trans (postEvent_postsOnly _ _ _ _).keepsClock

theorem unjoin_keepsClock (s : State) (i : Nat) : KeepsClock s (s.unjoin i) := by
  unfold State.unjoin
  split
  · exact KeepsClock.trans (t := s.modSlot i fun sl => { sl with joined := false }) ⟨rfl, rfl, rfl, fun _ _ => rfl⟩
      (setStepState_keepsClock _ _ _)
  · exact .refl s

theorem disarmAll_keepsClock (s : State) : KeepsClock s s.disarmAll := by
  unfold State.disarmAll
  generalize allSlots = l
  induction l generalizing s with
  | nil => exact .refl s
  | cons i t ih =>
    refine KeepsClock.trans ?_ (ih _)
    dsimp only
    split
    · exact ((KeepsClock.set (by simp only [syncObject, inst, Obj.jobLastReason]; omega)).trans (setJobState_keepsClock _ _ _)).trans
        (unjoin_keepsClock _ _)
    · exact .refl s

/-- SyncState shows what it is set to, and the clock and its frequency stay as they are. -/
theorem setSyncState_get (s : State) (new : Nat) : (s.setSyncState new).get Obj.syncState = new := by
  unfold State.setSyncState
  dsimp only
  by_cases hn : new = s.get Obj.syncState
  · simp [← hn]
  · rw [if_neg hn]
    have hsync : syncObject Obj.syncState := by simp [syncObject, Obj.syncState]
    have hev := syncObject_not_event hsync
    have hne : Obj.syncState ≠ Obj.syncLossCount := by decide
    split <;> (try rw [(disarmAll_keepsClock _).get _ hsync]) <;> rw [(postEvent_postsOnly _ _ _ _).get _ hev]
    all_goals simp [State.get_countW, hne, State.get_set_self]

theorem setSyncState_clock (s : State) (new : Nat) :
    (s.setSyncState new).gtc = s.gtc ∧ (s.setSyncState new).time.freq = s.time.freq ∧ (s.setSyncState new).time.corr = s.time.corr := by
  unfold State.setSyncState
  dsimp only
  split
  · exact ⟨rfl, rfl, rfl⟩
  · split
    · rw [(disarmAll_keepsClock _).gtc, (disarmAll_keepsClock _).time, (postEvent_postsOnly _ _ _ _).gtc, (postEvent_postsOnly _ _ _ _).time]
      exact ⟨rfl, rfl, rfl⟩
    · rw [(postEvent_postsOnly _ _ _ _).gtc, (postEvent_postsOnly _ _ _ _).time]
      exact ⟨rfl, rfl, rfl⟩

/-- Every synchronisation object but SyncState and SyncLossCount keeps its value. -/
theorem setSyncState_other (s : State) (new k : Nat) (hk : syncObject k) (h1 : k ≠ Obj.syncState) (h2 : k ≠ Obj.syncLossCount) :
    (s.setSyncState new).get k = s.get k := by
  unfold State.setSyncState
  dsimp only
  split
  · rfl
  · have hev := syncObject_not_event hk
    split <;> (try rw [(disarmAll_keepsClock _).get _ hk]) <;> rw [(postEvent_postsOnly _ _ _ _).get _ hev]
    all_goals simp [State.get_countW, h1, h2, State.get_set]
    all_goals rfl

/-- Where SyncState does not change nothing does; where it does, the counts of measurements start afresh. -/
theorem setSyncState_same (s : State) : s.setSyncState (s.get Obj.syncState) = s := by simp [State.setSyncState]

theorem judge_clock (s : State) (b : Bool) :
    (s.judge b).gtc = s.gtc ∧ (s.judge b).time.freq = s.time.freq ∧ (s.judge b).time.corr = s.time.corr := by
  unfold State.judge
  dsimp only
  have h : ∀ u : State, u.gtc = s.gtc ∧ u.time.freq = s.time.freq ∧ u.time.corr = s.time.corr → ∀ n,
      (u.setSyncState n).gtc = s.gtc ∧ (u.setSyncState n).time.freq = s.time.freq ∧ (u.setSyncState n).time.corr = s.time.corr := by
    intro u hu n
    obtain ⟨a, b, c⟩ := setSyncState_clock u n
    exact ⟨a.trans hu.1, b.trans hu.2.1, c.trans hu.2.2⟩
  have h0 : ∀ u : State, u = (if s.get Obj.syncState = 0 then s.setSyncState 1 else s) →
      u.gtc = s.gtc ∧ u.time.freq = s.time.freq ∧ u.time.corr = s.time.corr := by
    intro u hu
    subst hu
    split
    · exact h s ⟨rfl, rfl, rfl⟩ 1
    · exact ⟨rfl, rfl, rfl⟩
  generalize hu : (if s.get Obj.syncState = 0 then s.setSyncState 1 else s) = u
  have hu' := h0 u hu.symm
  cases b <;> simp only [Bool.false_eq_true, if_false, if_true] <;>
    (split
     · refine h _ ?_ _; exact hu'
     · split
       · refine h _ ?_ _; exact hu'
       · split
         · refine h _ ?_ _; exact hu'
         · exact hu')

end Sys2Proof.Machine
end

