-- ==== Sys2Proof/Tests/Slice0.lean ====
section
/-! SUPPORT. Tests: the ill-formed terms that WellFormed refuses, and for each statement with hypotheses a state and operands that meet
them all. -/

namespace Sys2Proof.Tests

open Sys2Proof.Machine

set_option maxRecDepth 16000
set_option Elab.async false

/-- A unit that has booted (BootState RUNNING), with some objects set. -/
def unit (l : List (Nat × Nat)) : State :=
  { State.reset with dict := l.foldl (fun d e => putKey e.1 e.2 d) [(Obj.bootState, 3)] }

/-- Slot 0 RUNNING with a job, the other slots empty, and some objects set. -/
def slotUnitAt (l : List (Nat × Nat)) (j : Job) : State :=
  { unit ((inst Obj.jobState 0, 4) :: l) with slots := { job := some j, share := 16 } :: List.replicate 63 {} }

/-- Slot 0 RUNNING with a job; the other slots are empty. -/
def slotUnit (j : Job) : State := slotUnitAt [] j

/-- The item at entry 0, of slot 0 and position 0. -/
def anItem : Item := { entry := 0, slot := 0, epoch := 0, position := 0, sample := 0 }

/-- A stage record of a kind that acts on every class. -/
def aStage (kind : Nat) : StageRec := { kind := kind, classMask := 7, refIndex := 0, requester := 0, param := zeros 128 }

/-- Slot 0 RUNNING with a job of two stages, the second of a kind, and one item. -/
def stageUnit (kind : Nat) (it : Item) : State := { slotUnit { stages := [aStage 1, aStage kind] } with items := [it] }

/-- What the checks of R514 let through. -/
theorem accepted {s : State} {k v : Nat} (h : writeAbort s k v = none) : Accepts s k v := h


/-- The digest of no bytes. -/
theorem digest_nothing : digest [] = leBytes 32 21468664885170662639985957090336418708702569955620632736621138429888230701382 := by decide +kernel


/-! Well-formed commands, and an ill-formed one for each check of WellFormed -/

def goodSync : PtpMessage := { port := 15, transport := 0, domain := 255, sender := 2 ^ 80 - 1, seq := 65535, origin := 2 ^ 64 - 1, correction := 0 }
def goodDelay : PtpDelayResp :=
  { port := 15, transport := 0, domain := 255, sender := 2 ^ 80 - 1, forUs := true, seq := 65535, receipt := 2 ^ 64 - 1, correction := 0 }
def goodAnnounce : PtpDataSet :=
  { port := 15, transport := 0, domain := 255, sender := 2 ^ 80 - 1, grandmaster := 2 ^ 64 - 1, priority1 := 255, clockClass := 255
    accuracy := 255, variance := 65535, priority2 := 255, stepsRemoved := 65535 }
def goodSeal : SealHeader :=
  { counter := 2 ^ 64 - 1, tagOk := true, msgOffset := 2 ^ 64 - 1, firstPsn := 2 ^ 24 - 1, msgLength := 2 ^ 32 - 1, key := 2 ^ 32 - 1, addr := 2 ^ 64 - 1 }
def goodPacket : Packet :=
  { port := 15, rc := true, pkey := 65535, icrcOk := true, opcode := 255, psn := 2 ^ 24 - 1, ackReq := true, key := 2 ^ 32 - 1, addr := 2 ^ 64 - 1
    length := 2 ^ 32 - 1, imm := some (2 ^ 32 - 1), syndrome := 255, payload := [0], sealed := some goodSeal, dscp := 63, frameBytes := 65535 }
def goodRegs : PierRegs :=
  { pc := 2 ^ 64 - 1, x := List.replicate 32 (2 ^ 64 - 1), f := List.replicate 32 (2 ^ 64 - 1), v := List.replicate 32 0, vl := 0, vtype := 0, fcsr := 0
    vxrm := 0, vxsat := 0, vstart := 0 }
def goodStep : KernelStep := { insns := 0, regs := goodRegs, stores := [(2 ^ 64 - 1, [])] }
def goodPopulation : Population :=
  { uniform := true, diesPerChannel := 64, pageBytes := 0, spareBytes := 0, planes := 0, pagesPerBlock := 0, blocksPerPlane := 0, cellBits := 0, idBytes := 0
    toggle := true, parameterPage := true, interface := 0, rate := 0, retryLevels := 0, rated := 0, suspend := 0 }
def goodUnit : UnitResult :=
  { levels := 0, step := 0, absent := 0, mismatches := 0, corrected := 0, worst := 0, rebuilt := 0, ticks := 0, temperature := 0 }
def goodFlash : BootFlash := { sfdp := true, bytes := 2 ^ 64 - 1, fourByte := true, counters := 0, id := 2 ^ 24 - 1 }
def goodStart : StartUp := { partitions := [], rows := [(83, 0, 0)], fuses := [], channels := [95] }
def goodCounter : CounterRun := { value := some (2 ^ 32 - 1), advanced := true }
def goodFrame : BusFrame :=
  { fd := true, extended := true, remote := false, function := 15, dest := 127, src := 127, tag := 2047, payload := List.replicate 64 0 }
def goodIsland : IslandReading := { domain := 127, locked := true, railMv := 0, coldest := 0, hottest := 0 }
def goodOutside : Outside :=
  { found := goodPopulation, readable := true, draining := true, burned := 0, counters := [2 ^ 32 - 1], advanced := true, readings := [goodIsland] }

/-- Commands with operands in their widths are well formed. -/
theorem test_wf_accepts_1 :
    ([.stagingOpen 0, .validate 0 true true, .arm 0, .disarm 0, .stop 0, .abort 0, .jobRelease 0, .launch 0, .sliceSwitchComplete 0,
      .syncSourceWrite 0, .ptpSync goodSync true, .ptpFollowUp goodSync, .ptpDelayResp goodDelay, .ptpAnnounce goodAnnounce,
      .crossingWordLate 0 0 0 [], .viaductFlitCrcError 0 0 0 [], .viaductLaneFailure 0 0 0, .shardOpenComplete 0 0 0 0 none,
      .tarScanComplete 0 0 0 0 none, .recordReadComplete 0, .peerRecordReadComplete 0 none, .peerFetchTimeout 0, .itemIssue 0,
      .peerReady 0 (List.replicate 32 0), .preparedReadComplete 0 0 [] 0, .peerPrepare 0 (List.replicate 32 0),
      .peerRelease 0 (List.replicate 32 0), .batchStart 0 0 [], .lateDeclaration 0 0 0, .censusOfferReceived 0 (List.replicate 80 0),
      .censusContributionReadComplete 0 0 0 none, .censusTimeout 0 0, .censusRequestReceived 0 (List.replicate 80 0),
      .censusFullReceived 0 (List.replicate 80 0), .censusFullReadComplete 0 0 none, .decompressComplete 0, .decodeComplete 0,
      .decodeBudgetExpired 0, .slowLaneDecodeComplete 0, .workLimitExceeded 0, .transformComplete 0 0, .tokenizeComplete 0,
      .cacheHitCopyComplete 0 true, .cacheFlashReadComplete 0 true, .pushSliceAcknowledged 0 0 0 0 0, .creditReturn 0 0 0 true,
      .pullRelease 0 0 0 true, .consumerStall 0 0 0, .vocabBuildComplete 0, .controlBuildComplete 0, .bundleLoadComplete 0,
      .prefillPassComplete [], .stepPassComplete [], .trestleOperatorFault [] true 0 true, .curationLogRelease 0 0, .kernelBuildComplete 0,
      .chainAlloc 0 goodStep, .chainLength 0 goodStep, .refAdd 0 goodStep, .refDrop 0 goodStep] : List Instr).all Instr.wf = true := by decide +kernel

/-- Commands with operands in their widths are well formed. -/
theorem test_wf_accepts_2 :
    ([.dmaSubmit 0 goodStep, .dmaWait 0 goodStep, .dmaComplete 0 0, .dmaTimeout 0 0, .rng 0 goodStep, .emit 0 goodStep, .pass 0 goodStep,
      .fail 0 goodStep, .reject 0 goodStep, .serviceUnknown 0 goodStep, .kernelTrap 0 goodStep 0x4810, .instructionLimit 0 goodStep,
      .noEnding 0 goodStep, .sramUncorrectable 0 0 0 none true true, .refreshStart 0, .refreshEnd 0 none [], .hotScheduleChange 0,
      .retrainComplete 0 true none [] 0 [], .gddrCorrectedError 0 0, .gddrUncorrectableRead 0 0 .map, .gddrLinkCrcFailure 0 0 [],
      .retireChannel 0, .channelMigrationComplete 0 0 [], .bufferAllocate 0 0, .bufferRefAdd 0 0 none, .bufferRefDrop 0 0 none,
      .format goodPopulation, .unitReadRequest 0 0 none, .unitReadComplete 0 0 true goodUnit, .programComplete 0 0 true 0,
      .eraseComplete 0 0 true, .wearLevelStart 0, .mountComplete goodPopulation true, .channelControllerFailure 0, .portLinkUp 0,
      .portLinkDown 0, .arpRequest 0 0 [], .neighborSolicitation 0 0 [], .echoRequest 0 0 [], .frameDiscard 0 true, .pfcFrameReceived 0 0 0 [],
      .pfcPauseExpiry 0 true, .pfcRepeat 0 true 0, .pauseStormReceived 0 true, .pauseStormSent 0 true, .stormRecoveryExpiry 0 true,
      .receiveSend 0 goodPacket, .receiveWrite 0 goodPacket, .receiveReadRequest 0 goodPacket, .receiveReadResponse 0 goodPacket,
      .receiveAcknowledge 0 goodPacket, .ackDelayExpiry 0, .retransmitTimeout 0, .rnrTimerExpiry 0, .reorderTimeout 0, .revokeDrainComplete 0,
      .revokeDrainOverrun 0 0, .connect 0 [], .accept 0 [], .confirm 0 []] : List Instr).all Instr.wf = true := by decide +kernel

/-- Commands with operands in their widths are well formed. -/
theorem test_wf_accepts_3 :
    ([.handshakeReady 0 [], .handshakeReject 0 [], .close 0 [], .handshakeResend 0, .handshakeBackoffExpiry 0, .handshakeTimeout 0,
      .portFrameSelect 0, .queueRejoin 0, .shaperProfileWrite 0 0 0, .policerProfileWrite 0 0 0, .engineFault 0 true, .stepAbort 0,
      .abortMessage 0 [], .abortAck 0 [], .abortProbe 0, .keepalive 0, .memberTimeout 0 0, .resume 0, .join 0, .cancel 0, .resumeTick 0,
      .replace 0, .removeDomain 0, .memberClear 0, .resetRelease goodFlash, .hubAlive goodStart goodCounter, .bootWatchdogExpiry goodFlash,
      .recoveryAttempt goodFlash, .offer 0 0 0, .data 0 0 [], .installComplete true 0, .commitSvn 0, .bindBootFlash [] true, .walk goodFrame,
      .walkEnd goodFrame, .rateSwitch goodFrame, .eventAck goodFrame, .helloQuery goodFrame, .claimReceived goodFrame,
      .addressConflict goodFrame, .bdpRead goodFrame, .bdpWrite goodFrame goodOutside, .segWrite goodFrame, .segRead goodFrame,
      .stageWrite goodFrame, .stageRead goodFrame, .bdpAbort goodFrame, .segment goodFrame goodOutside, .segReadResponse goodFrame,
      .block goodFrame goodOutside, .blockAck goodFrame, .bdpTimeout 0, .errorFrame 0 0 true, .registerWrite 0 0 [] goodOutside,
      .persistCommit 0, .persistCompaction 0, .counterControlWrite 0 0 0, .counterValueWrite 0 0 0, .lbist [], .lbistIslandComplete goodIsland []] : List Instr).all Instr.wf = true := by decide +kernel

/-- Commands with operands in their widths are well formed. -/
theorem test_wf_accepts_4 :
    ([.marchWordTest 0 [], .marchComplete 0 [], .avsStep 0, .pmbusPoll [], .pmbAlert [], .holdupSenseSample [], .holdupMeasurePhase []] : List Instr).all Instr.wf = true := by decide +kernel

/-- A record with one field out of its width is ill formed. -/
theorem test_wf_records :
    [({ goodSync with port := 16 } : PtpMessage).wf, ({ goodSync with domain := 256 } : PtpMessage).wf,
      ({ goodSync with sender := 2 ^ 80 } : PtpMessage).wf, ({ goodSync with seq := 65536 } : PtpMessage).wf,
      ({ goodSync with origin := 2 ^ 64 } : PtpMessage).wf, ({ goodDelay with port := 16 } : PtpDelayResp).wf,
      ({ goodDelay with domain := 256 } : PtpDelayResp).wf, ({ goodDelay with sender := 2 ^ 80 } : PtpDelayResp).wf,
      ({ goodDelay with seq := 65536 } : PtpDelayResp).wf, ({ goodDelay with receipt := 2 ^ 64 } : PtpDelayResp).wf,
      ({ goodAnnounce with port := 16 } : PtpDataSet).wf, ({ goodAnnounce with domain := 256 } : PtpDataSet).wf,
      ({ goodAnnounce with sender := 2 ^ 80 } : PtpDataSet).wf, ({ goodAnnounce with grandmaster := 2 ^ 64 } : PtpDataSet).wf,
      ({ goodAnnounce with priority1 := 256 } : PtpDataSet).wf, ({ goodAnnounce with clockClass := 256 } : PtpDataSet).wf,
      ({ goodAnnounce with accuracy := 256 } : PtpDataSet).wf, ({ goodAnnounce with variance := 65536 } : PtpDataSet).wf,
      ({ goodAnnounce with priority2 := 256 } : PtpDataSet).wf, ({ goodAnnounce with stepsRemoved := 65536 } : PtpDataSet).wf,
      ({ goodSeal with counter := 2 ^ 64 } : SealHeader).wf, ({ goodSeal with msgOffset := 2 ^ 64 } : SealHeader).wf,
      ({ goodSeal with firstPsn := 2 ^ 24 } : SealHeader).wf, ({ goodSeal with msgLength := 2 ^ 32 } : SealHeader).wf,
      ({ goodSeal with key := 2 ^ 32 } : SealHeader).wf, ({ goodSeal with addr := 2 ^ 64 } : SealHeader).wf,
      ({ goodPacket with port := 16 } : Packet).wf, ({ goodPacket with pkey := 65536 } : Packet).wf,
      ({ goodPacket with opcode := 256 } : Packet).wf, ({ goodPacket with psn := 2 ^ 24 } : Packet).wf,
      ({ goodPacket with key := 2 ^ 32 } : Packet).wf, ({ goodPacket with addr := 2 ^ 64 } : Packet).wf,
      ({ goodPacket with length := 2 ^ 32 } : Packet).wf, ({ goodPacket with imm := some (2 ^ 32) } : Packet).wf,
      ({ goodPacket with syndrome := 256 } : Packet).wf, ({ goodPacket with payload := List.replicate 4097 0 } : Packet).wf,
      ({ goodPacket with sealed := some { goodSeal with key := 2 ^ 32 } } : Packet).wf, ({ goodPacket with dscp := 64 } : Packet).wf,
      ({ goodPacket with frameBytes := 65536 } : Packet).wf, ({ goodRegs with pc := 2 ^ 64 } : PierRegs).wf,
      ({ goodRegs with x := [] } : PierRegs).wf, ({ goodRegs with x := 2 ^ 64 :: List.replicate 31 0 } : PierRegs).wf,
      ({ goodRegs with f := [] } : PierRegs).wf, ({ goodRegs with f := 2 ^ 64 :: List.replicate 31 0 } : PierRegs).wf,
      ({ goodRegs with v := [] } : PierRegs).wf, ({ goodStep with regs := { goodRegs with v := [] } } : KernelStep).wf,
      ({ goodStep with stores := [(2 ^ 64, [])] } : KernelStep).wf, ({ goodFlash with bytes := 2 ^ 64 } : BootFlash).wf,
      ({ goodFlash with id := 2 ^ 24 } : BootFlash).wf, ({ goodStart with rows := [(84, 0, 0)] } : StartUp).wf,
      ({ goodStart with channels := [96] } : StartUp).wf, ({ goodFrame with function := 16 } : BusFrame).wf,
      ({ goodFrame with dest := 128 } : BusFrame).wf, ({ goodFrame with src := 128 } : BusFrame).wf,
      ({ goodFrame with tag := 2048 } : BusFrame).wf, ({ goodFrame with payload := List.replicate 65 0 } : BusFrame).wf,
      ({ goodOutside with found := { goodPopulation with diesPerChannel := 65 } } : Outside).wf,
      ({ goodOutside with counters := [2 ^ 32] } : Outside).wf,
      ({ goodOutside with readings := [{ goodIsland with domain := 128 }] } : Outside).wf] = List.replicate 59 false := by decide +kernel

/-- A command with one operand out of its width is ill formed. -/
theorem test_wf_refuses_1 :
    ([.stagingOpen 64, .validate 64 true true, .arm 64, .disarm 64, .stop 64, .abort 64, .jobRelease 64, .launch 64, .sliceSwitchComplete 4,
      .syncSourceWrite (2 ^ 64), .ptpSync { goodSync with port := 16 } true, .ptpFollowUp { goodSync with port := 16 },
      .ptpDelayResp { goodDelay with port := 16 }, .ptpAnnounce { goodAnnounce with port := 16 }, .crossingWordLate 8 0 0 [],
      .crossingWordLate 0 65536 0 [], .crossingWordLate 0 0 (2 ^ 64) [], .crossingWordLate 0 0 0 ([2 ^ 16]), .viaductFlitCrcError 8 0 0 [],
      .viaductFlitCrcError 0 65536 0 [], .viaductFlitCrcError 0 0 (2 ^ 64) [], .viaductFlitCrcError 0 0 0 ([2 ^ 16]), .viaductLaneFailure 8 0 0,
      .viaductLaneFailure 0 65536 0, .viaductLaneFailure 0 0 256, .shardOpenComplete 64 0 0 0 none, .shardOpenComplete 0 (2 ^ 24) 0 0 none,
      .shardOpenComplete 0 0 (2 ^ 128) 0 none, .shardOpenComplete 0 0 0 65536 none, .tarScanComplete 64 0 0 0 none,
      .tarScanComplete 0 (2 ^ 24) 0 0 none, .tarScanComplete 0 0 (2 ^ 128) 0 none, .tarScanComplete 0 0 0 65536 none,
      .recordReadComplete (2 ^ 16), .peerRecordReadComplete (2 ^ 16) none, .peerFetchTimeout (2 ^ 16), .itemIssue 64,
      .peerReady (2 ^ 128) (List.replicate 32 0), .peerReady 0 [], .preparedReadComplete (2 ^ 128) 0 [] 0, .preparedReadComplete 0 (2 ^ 64) [] 0,
      .preparedReadComplete 0 0 [] (2 ^ 32), .peerPrepare (2 ^ 128) (List.replicate 32 0), .peerPrepare 0 [],
      .peerRelease (2 ^ 128) (List.replicate 32 0), .peerRelease 0 [], .batchStart 64 0 [], .batchStart 0 16 [], .batchStart 0 0 [8],
      .lateDeclaration 64 0 0, .lateDeclaration 0 16 0, .lateDeclaration 0 0 (2 ^ 64), .censusOfferReceived (2 ^ 128) (List.replicate 80 0),
      .censusOfferReceived 0 [], .censusContributionReadComplete 64 0 0 none, .censusContributionReadComplete 0 (2 ^ 32) 0 none,
      .censusContributionReadComplete 0 0 (2 ^ 128) none, .censusTimeout 64 0, .censusTimeout 0 (2 ^ 32),
      .censusRequestReceived (2 ^ 128) (List.replicate 80 0)] : List Instr).any Instr.wf = false := by decide +kernel

/-- A command with one operand out of its width is ill formed. -/
theorem test_wf_refuses_2 :
    ([.censusRequestReceived 0 [], .censusFullReceived (2 ^ 128) (List.replicate 80 0), .censusFullReceived 0 [],
      .censusFullReadComplete 64 0 none, .censusFullReadComplete 0 (2 ^ 32) none, .decompressComplete (2 ^ 16), .decodeComplete (2 ^ 16),
      .decodeBudgetExpired (2 ^ 16), .slowLaneDecodeComplete (2 ^ 16), .workLimitExceeded (2 ^ 16), .transformComplete (2 ^ 16) 0,
      .transformComplete 0 3, .tokenizeComplete (2 ^ 16), .cacheHitCopyComplete (2 ^ 16) true, .cacheFlashReadComplete (2 ^ 16) true,
      .pushSliceAcknowledged 64 0 0 0 0, .pushSliceAcknowledged 0 16 0 0 0, .pushSliceAcknowledged 0 0 (2 ^ 32) 0 0,
      .pushSliceAcknowledged 0 0 0 (2 ^ 32) 0, .pushSliceAcknowledged 0 0 0 0 65536, .creditReturn 64 0 0 true, .creditReturn 0 65536 0 true,
      .creditReturn 0 0 (2 ^ 32) true, .pullRelease 64 0 0 true, .pullRelease 0 65536 0 true, .pullRelease 0 0 (2 ^ 32) true,
      .consumerStall 64 0 0, .consumerStall 0 16 0, .consumerStall 0 0 65536, .vocabBuildComplete (2 ^ 16), .controlBuildComplete (2 ^ 16),
      .bundleLoadComplete (2 ^ 16), .prefillPassComplete ([2 ^ 16]), .stepPassComplete ([2 ^ 16]), .trestleOperatorFault ([2 ^ 16]) true 0 true,
      .trestleOperatorFault [] true 65536 true, .curationLogRelease 64 0, .curationLogRelease 0 (2 ^ 64), .kernelBuildComplete (2 ^ 16),
      .chainAlloc (2 ^ 16) goodStep, .chainAlloc 0 { goodStep with regs := { goodStep.regs with pc := 2 ^ 64 } }, .chainLength (2 ^ 16) goodStep,
      .chainLength 0 { goodStep with regs := { goodStep.regs with pc := 2 ^ 64 } }, .refAdd (2 ^ 16) goodStep,
      .refAdd 0 { goodStep with regs := { goodStep.regs with pc := 2 ^ 64 } }, .refDrop (2 ^ 16) goodStep,
      .refDrop 0 { goodStep with regs := { goodStep.regs with pc := 2 ^ 64 } }, .dmaSubmit (2 ^ 16) goodStep,
      .dmaSubmit 0 { goodStep with regs := { goodStep.regs with pc := 2 ^ 64 } }, .dmaWait (2 ^ 16) goodStep,
      .dmaWait 0 { goodStep with regs := { goodStep.regs with pc := 2 ^ 64 } }, .dmaComplete (2 ^ 16) 0, .dmaComplete 0 256,
      .dmaTimeout (2 ^ 16) 0, .dmaTimeout 0 256, .rng (2 ^ 16) goodStep, .rng 0 { goodStep with regs := { goodStep.regs with pc := 2 ^ 64 } },
      .emit (2 ^ 16) goodStep, .emit 0 { goodStep with regs := { goodStep.regs with pc := 2 ^ 64 } }, .pass (2 ^ 16) goodStep] : List Instr).any Instr.wf = false := by decide +kernel

/-- A command with one operand out of its width is ill formed. -/
theorem test_wf_refuses_3 :
    ([.pass 0 { goodStep with regs := { goodStep.regs with pc := 2 ^ 64 } }, .fail (2 ^ 16) goodStep,
      .fail 0 { goodStep with regs := { goodStep.regs with pc := 2 ^ 64 } }, .reject (2 ^ 16) goodStep,
      .reject 0 { goodStep with regs := { goodStep.regs with pc := 2 ^ 64 } }, .serviceUnknown (2 ^ 16) goodStep,
      .serviceUnknown 0 { goodStep with regs := { goodStep.regs with pc := 2 ^ 64 } }, .kernelTrap (2 ^ 16) goodStep 0x4810,
      .kernelTrap 0 { goodStep with regs := { goodStep.regs with pc := 2 ^ 64 } } 0x4810, .kernelTrap 0 goodStep 0x4815,
      .instructionLimit (2 ^ 16) goodStep, .instructionLimit 0 { goodStep with regs := { goodStep.regs with pc := 2 ^ 64 } },
      .noEnding (2 ^ 16) goodStep, .noEnding 0 { goodStep with regs := { goodStep.regs with pc := 2 ^ 64 } },
      .sramUncorrectable 8 0 0 none true true, .sramUncorrectable 0 (2 ^ 32) 0 none true true, .sramUncorrectable 0 0 1024 none true true,
      .sramUncorrectable 0 0 0 (some (2 ^ 16)) true true, .refreshStart 96, .refreshEnd 96 none [], .refreshEnd 0 none ([2 ^ 16]),
      .hotScheduleChange 96, .retrainComplete 96 true none [] 0 [], .retrainComplete 0 true none ([2 ^ 16]) 0 [],
      .retrainComplete 0 true none [] (2 ^ 32) [], .gddrCorrectedError 96 0, .gddrCorrectedError 0 (2 ^ 32), .gddrUncorrectableRead 96 0 .map,
      .gddrUncorrectableRead 0 (2 ^ 32) .map, .gddrLinkCrcFailure 96 0 [], .gddrLinkCrcFailure 0 (2 ^ 64) [], .gddrLinkCrcFailure 0 0 ([2 ^ 16]),
      .retireChannel 96, .channelMigrationComplete 96 0 [], .channelMigrationComplete 0 (2 ^ 32) [], .channelMigrationComplete 0 0 ([2 ^ 32]),
      .bufferAllocate 64 0, .bufferAllocate 0 (2 ^ 32), .bufferRefAdd (2 ^ 32) 0 none, .bufferRefAdd 0 64 none,
      .bufferRefAdd 0 0 (some (2 ^ 16)), .bufferRefDrop (2 ^ 32) 0 none, .bufferRefDrop 0 64 none, .bufferRefDrop 0 0 (some (2 ^ 16)),
      .format { goodPopulation with diesPerChannel := 65 }, .unitReadRequest (2 ^ 48) 0 none, .unitReadRequest 0 4 none,
      .unitReadComplete 32 0 true goodUnit, .unitReadComplete 0 64 true goodUnit, .programComplete 32 0 true 0, .programComplete 0 64 true 0,
      .eraseComplete 32 0 true, .eraseComplete 0 64 true, .wearLevelStart 64, .mountComplete { goodPopulation with diesPerChannel := 65 } true,
      .channelControllerFailure 32, .portLinkUp 16, .portLinkDown 16, .arpRequest 16 0 [], .arpRequest 0 (2 ^ 128) []] : List Instr).any Instr.wf = false := by decide +kernel

/-- A command with one operand out of its width is ill formed. -/
theorem test_wf_refuses_4 :
    ([.arpRequest 0 0 (List.replicate 65 0), .neighborSolicitation 16 0 [], .neighborSolicitation 0 (2 ^ 128) [],
      .neighborSolicitation 0 0 (List.replicate 65 0), .echoRequest 16 0 [], .echoRequest 0 (2 ^ 128) [],
      .echoRequest 0 0 (List.replicate 9217 0), .frameDiscard 16 true, .pfcFrameReceived 16 0 0 [], .pfcFrameReceived 0 8 0 [],
      .pfcFrameReceived 0 0 65536 [], .pfcFrameReceived 0 0 0 ([2 ^ 16]), .pfcPauseExpiry 16 true, .pfcRepeat 16 true 0,
      .pauseStormReceived 16 true, .pauseStormSent 16 true, .stormRecoveryExpiry 16 true, .receiveSend 17472 goodPacket,
      .receiveSend 0 { goodPacket with port := 16 }, .receiveWrite 17472 goodPacket, .receiveWrite 0 { goodPacket with port := 16 },
      .receiveReadRequest 17472 goodPacket, .receiveReadRequest 0 { goodPacket with port := 16 }, .receiveReadResponse 17472 goodPacket,
      .receiveReadResponse 0 { goodPacket with port := 16 }, .receiveAcknowledge 17472 goodPacket,
      .receiveAcknowledge 0 { goodPacket with port := 16 }, .ackDelayExpiry 17472, .retransmitTimeout 17472, .rnrTimerExpiry 17472,
      .reorderTimeout 17472, .revokeDrainComplete (2 ^ 32), .revokeDrainOverrun (2 ^ 32) 0, .revokeDrainOverrun 0 (2 ^ 64),
      .connect (2 ^ 128) [], .connect 0 ([List.replicate 9217 0]), .accept (2 ^ 128) [], .accept 0 ([List.replicate 9217 0]),
      .confirm (2 ^ 128) [], .confirm 0 ([List.replicate 9217 0]), .handshakeReady (2 ^ 128) [], .handshakeReady 0 ([List.replicate 9217 0]),
      .handshakeReject (2 ^ 128) [], .handshakeReject 0 ([List.replicate 9217 0]), .close (2 ^ 128) [], .close 0 ([List.replicate 9217 0]),
      .handshakeResend 17472, .handshakeBackoffExpiry 17472, .handshakeTimeout 17472, .portFrameSelect 16, .queueRejoin 17472,
      .shaperProfileWrite 32 0 0, .shaperProfileWrite 0 256 0, .shaperProfileWrite 0 0 (2 ^ 64), .policerProfileWrite 32 0 0,
      .policerProfileWrite 0 256 0, .policerProfileWrite 0 0 (2 ^ 64), .engineFault (2 ^ 16) true, .stepAbort 64, .abortMessage (2 ^ 128) []] : List Instr).any Instr.wf = false := by decide +kernel

/-- A command with one operand out of its width is ill formed. -/
theorem test_wf_refuses_5 :
    ([.abortAck (2 ^ 128) [], .abortProbe 64, .keepalive 17472, .memberTimeout 64 0, .memberTimeout 0 (2 ^ 128), .resume 64, .join 64,
      .cancel 64, .resumeTick 64, .replace 64, .removeDomain 64, .memberClear 64, .resetRelease { goodFlash with id := 2 ^ 24 },
      .hubAlive { goodStart with channels := [96] } goodCounter, .hubAlive goodStart { value := some (2 ^ 32), advanced := true },
      .bootWatchdogExpiry { goodFlash with id := 2 ^ 24 }, .recoveryAttempt { goodFlash with id := 2 ^ 24 }, .offer (2 ^ 128) 0 0,
      .offer 0 (2 ^ 32) 0, .offer 0 0 (2 ^ 256), .data (2 ^ 128) 0 [], .data 0 (2 ^ 32) [], .data 0 0 (List.replicate 9217 0),
      .installComplete true (2 ^ 32), .commitSvn 256, .bindBootFlash ([2 ^ 32]) true, .walk { goodFrame with tag := 2048 },
      .walkEnd { goodFrame with tag := 2048 }, .rateSwitch { goodFrame with tag := 2048 }, .eventAck { goodFrame with tag := 2048 },
      .helloQuery { goodFrame with tag := 2048 }, .claimReceived { goodFrame with tag := 2048 }, .addressConflict { goodFrame with tag := 2048 },
      .bdpRead { goodFrame with tag := 2048 }, .bdpWrite { goodFrame with tag := 2048 } goodOutside,
      .bdpWrite goodFrame { goodOutside with counters := [2 ^ 32] }, .segWrite { goodFrame with tag := 2048 },
      .segRead { goodFrame with tag := 2048 }, .stageWrite { goodFrame with tag := 2048 }, .stageRead { goodFrame with tag := 2048 },
      .bdpAbort { goodFrame with tag := 2048 }, .segment { goodFrame with tag := 2048 } goodOutside,
      .segment goodFrame { goodOutside with counters := [2 ^ 32] }, .segReadResponse { goodFrame with tag := 2048 },
      .block { goodFrame with tag := 2048 } goodOutside, .block goodFrame { goodOutside with counters := [2 ^ 32] },
      .blockAck { goodFrame with tag := 2048 }, .bdpTimeout 256, .errorFrame 65536 0 true, .errorFrame 0 65536 true,
      .registerWrite (2 ^ 24) 0 [] goodOutside, .registerWrite 0 (2 ^ 32) [] goodOutside,
      .registerWrite 0 0 [] { goodOutside with counters := [2 ^ 32] }, .persistCommit 256, .persistCompaction 256, .counterControlWrite 8 0 0,
      .counterControlWrite 0 32 0, .counterControlWrite 0 0 (2 ^ 64), .counterValueWrite 8 0 0, .counterValueWrite 0 32 0] : List Instr).any Instr.wf = false := by decide +kernel

/-- A command with one operand out of its width is ill formed. -/
theorem test_wf_refuses_6 :
    ([.counterValueWrite 0 0 (2 ^ 64), .lbist ([{ goodIsland with domain := 128 }]), .lbistIslandComplete { goodIsland with domain := 128 } [],
      .lbistIslandComplete goodIsland [65536], .marchWordTest 5 [], .marchWordTest 84 [], .marchWordTest 0 [256], .marchComplete 5 [],
      .marchComplete 84 [], .avsStep 8, .pmbusPoll ([{ vout := 0, iout := 0, pout := 0, status := 65536 }]), .pmbAlert [65536],
      .holdupSenseSample [65536], .holdupMeasurePhase [65536]] : List Instr).any Instr.wf = false := by decide +kernel


/-! Witnesses of IdleStepIsOneTick -/

/-- An idle unit. -/
theorem witness_idle : (unit []).pending = [] := by decide +kernel

/-! Witnesses of SlotCommandsComplete -/

theorem witness_staging : Accepts (unit []) (inst Obj.stagingOpen 3) 1 ∧ (unit []).jobState 3 = 0 := by unfold Accepts; decide +kernel
theorem witness_heap : ((unit []).heapTake 3 .staging stagingBytes).isSome = true := by decide +kernel
theorem witness_arm : let s := unit [(inst Obj.jobState 63, 2), (inst Obj.launchTick 63, 20000000), (Obj.syncState, 3)]
    Accepts s (inst Obj.jobCommand 63) 2 ∧ s.jobState 63 = 2 ∧ s.get (inst Obj.launchTick 63) % s.get Obj.sliceTicks = 0 ∧
      s.gtc + s.get Obj.launchLeadMin ≤ s.get (inst Obj.launchTick 63) ∧ s.synced = true := by unfold Accepts; decide +kernel
theorem witness_armed : let s := unit [(inst Obj.jobState 0, 3), (inst Obj.launchTick 0, 1)]
    Accepts s (inst Obj.jobCommand 0) 3 ∧ Accepts s (inst Obj.jobCommand 0) 4 ∧ Accepts s (inst Obj.jobCommand 0) 5 ∧
      s.jobState 0 = 3 ∧ s.launchDue 0 = false := by unfold Accepts; decide +kernel
theorem witness_running : let s := unit [(inst Obj.jobState 0, 4)]
    Accepts s (inst Obj.jobCommand 0) 4 ∧ s.jobState 0 = 4 := by unfold Accepts; decide +kernel
theorem witness_release : let s := unit [(inst Obj.jobState 0, 7)]
    Accepts s (inst Obj.jobCommand 0) 6 ∧ s.jobState 0 ∈ [1, 2, 6, 7] := by unfold Accepts; decide +kernel
theorem witness_launch : let s := unit [(inst Obj.jobState 0, 3)]
    s.jobState 0 = 3 ∧ s.get (inst Obj.launchTick 0) ≤ s.gtc ∧ (s.slot 0).joined = false := by decide +kernel

/-! Witnesses of IllegalJobCommandsRefused -/

theorem witness_illegal : let s := unit []
    Accepts s (inst Obj.jobCommand 9) 1 ∧ s.jobState 9 ≠ 1 ∧ Accepts s (inst Obj.jobCommand 9) 6 ∧ s.jobState 9 ∉ [1, 2, 6, 7] := by
  unfold Accepts; decide +kernel
theorem witness_illegal_running : let s := unit [(inst Obj.jobState 9, 4)]
    Accepts s (inst Obj.jobCommand 9) 2 ∧ s.jobState 9 ≠ 2 ∧ Accepts s (inst Obj.jobCommand 9) 3 ∧ s.jobState 9 ≠ 3 := by
  unfold Accepts; decide +kernel
theorem witness_illegal_ready : let s := unit [(inst Obj.jobState 9, 2)]
    Accepts s (inst Obj.jobCommand 9) 4 ∧ s.jobState 9 ∉ [3, 4] ∧ Accepts s (inst Obj.jobCommand 9) 5 ∧ s.jobState 9 ∉ [3, 4, 5] := by
  unfold Accepts; decide +kernel

/-! Witnesses of EnteringShowsState -/

theorem witness_enter : (3 : Nat) < 64 := by decide +kernel

/-! Witnesses of ValidateOutcomes -/

theorem witness_validate : let s := unit [(inst Obj.jobState 2, 1)]
    Accepts s (inst Obj.jobCommand 2) 1 ∧ s.jobState 2 = 1 ∧ (s.slot 2).validating = false := by unfold Accepts; decide +kernel
theorem witness_validate_region : let s := unit [(inst Obj.jobState 2, 1)]
    ((s.closeStaging 2).modSlot 2 fun sl => { sl with validating := true, mapReadable := true }).ok.regionOf .staging 2 0 = none := by decide +kernel
theorem witness_reject : (({ code := 0x4802, section_ := 0, offset := 0 } : Reject)).code < 0x6C00 := by decide +kernel

/-! Witnesses of SliceCommands -/

theorem witness_boundary : let s := unit []
    s.gtc % s.get Obj.sliceTicks = 0 ∧ ({ s with gtc := 7 } : State).gtc % s.get Obj.sliceTicks ≠ 0 := by decide +kernel
theorem witness_switch : let s : State := { unit [] with switches := [{ cls := .inference, since := 0, holders := [] }] }
    (s.switchOf .inference).any (fun w => !w.saving) = true := by decide +kernel
theorem witness_switch_over : let s : State := { unit [] with switches := [{ cls := .dealer, since := 0, holders := [] }] }
    (s.switchOf (sliceClassOf 1)).any s.switchOver = true := by decide +kernel

/-! Witnesses of SlewLoopComputesCorrection -/

theorem witness_interval : let s := unit [(Obj.syncSource, 1)]
    s.get Obj.syncSource = 1 ∧ s.geti 32 Obj.ptpSyncIntervalLog = -((4 : Nat) : Int) := by decide +kernel
theorem witness_interval_pps : (unit [(Obj.syncSource, 2)]).get Obj.syncSource = 2 := by decide +kernel

/-! Witnesses of MeasurementStepsOrSlews -/

theorem witness_measure : let s := unit []
    s.get Obj.stepThresholdTicks < (2000 : Int).natAbs ∧ s.jobsActive = false ∧ (7 : Int).natAbs ≤ s.get Obj.stepThresholdTicks := by decide +kernel
theorem witness_measure_active : (unit [(inst Obj.jobState 0, 4)]).jobsActive = true := by decide +kernel

/-! Witnesses of SyncStateTransitions -/

theorem witness_free : (unit []).get Obj.syncState = 0 := by decide +kernel
theorem witness_acquiring : let s : State := { unit [(Obj.syncState, 1)] with time := { inside := 15 } }
    s.get Obj.syncState = 1 ∧ s.time.inside + 1 = 16 := by decide +kernel
theorem witness_acquiring_more : let s : State := { unit [(Obj.syncState, 1)] with time := { inside := 14 } }
    s.get Obj.syncState = 1 ∧ s.time.inside + 1 < 16 := by decide +kernel
theorem witness_synced : let s : State := { unit [(Obj.syncState, 2)] with time := { outside := 3 } }
    s.get Obj.syncState = 2 ∧ s.time.outside + 1 = 4 := by decide +kernel
theorem witness_synced_more : let s : State := { unit [(Obj.syncState, 2)] with time := { outside := 2 } }
    s.get Obj.syncState = 2 ∧ s.time.outside + 1 < 4 := by decide +kernel
theorem witness_holdover : let s : State := { unit [(Obj.syncState, 3)] with time := { lossOffset := 21 } }
    s.get Obj.syncState = 3 ∧ 20 * 10 ^ 9 < s.time.lossOffset * 10 ^ 9 + (s.gtc - s.time.lossTick) * s.get Obj.holdoverDriftPpb := by
  decide
theorem witness_source : Accepts (unit []) Obj.syncSource 2 := by unfold Accepts; decide +kernel
theorem witness_pps_seen : let s : State := { unit [(Obj.syncSource, 2)] with time := { seen := true }, gtc := 1000001001 }
    s.get Obj.syncSource = 2 ∧ s.time.seen = true ∧ 10 ^ 9 + 1000 < s.gtc - s.time.lastSeen := by decide +kernel

/-! Witnesses of PtpMessagesComplete -/

/-- A unit with PTP as its source on port 0, in state UP, and one transmitter heard and chosen. -/
def ptpUnit : State :=
  { unit [(Obj.syncSource, 1), (inst Obj.portState 0, 2), (Obj.ptpParentIdentity, 5)] with
    time := { masters := [⟨0, 0, 0, 5, 1, 1, 1, 1, 1, 1, 0⟩], twoStep := some ⟨⟨0, 0, 0, 5, 9, 100, 0⟩, 200⟩, t3 := some 0, delaySeq := 7 } }
theorem witness_ptp : ptpUnit.ptpTakes 0 (ptpUnit.get Obj.ptpTransport) (ptpUnit.get Obj.ptpDomain) = true ∧
    ptpUnit.ptpChosen 5 = true ∧ ptpUnit.get Obj.syncSource = 1 ∧ ptpUnit.time.masters ≠ [] ∧
    2 ≤ ptpUnit.get (inst Obj.portState (ptpUnit.get Obj.ptpPort)) := by decide +kernel
theorem witness_ptp_mean : let mean := Int.tdiv (ptpUnit.time.t2mt1 + (ptpUnit.sourceTicks (100 - 0) - 0)) 2
    0 ≤ mean ∧ mean < 2 ^ 32 := by decide +kernel
theorem witness_pps : let s : State := { unit [(Obj.syncSource, 2)] with time := { seen := true, ppsSecond := some 4 }, gtc := 1000000000 }
    s.get Obj.syncSource = 2 ∧ s.time.ppsPending = none ∧ 10 ^ 9 - 1000 ≤ s.gtc - s.time.lastSeen ∧
      s.gtc - s.time.lastSeen ≤ 10 ^ 9 + 1000 := by decide +kernel

/-! Witnesses of LateWordsCounted -/

theorem witness_late : let s : State := { unit [] with gtc := 100 }
    s.get Obj.releaseQuantumTile = 4 ∧ 4 * ceilDiv (80 + 8) 4 < s.gtc ∧ s.get Obj.releaseQuantumViaduct = 8 ∧
      s.gtc ≤ 8 * ceilDiv (80 + 32) 8 := by decide +kernel

/-! Witnesses of RecordReadsComplete -/

/-- Slot 0 RUNNING with a job of one shard whose object the store holds; its copies are known as given, and some items stand
in the Item Table. -/
def readUnit (format : Nat) (shards : List ShardOpen) (items : List Item) : State :=
  { slotUnitAt [(Obj.storeState, 2)] { shards := [{ objectId := 7, first := 0, count := 1, format := format, primary := 0, alternates := [] }] } with
    slots := [{ job := some { shards := [{ objectId := 7, first := 0, count := 1, format := format, primary := 0, alternates := [] }] }
                share := 16, shards := shards }]
    items := items
    store := { objects := [{ object := 7, st := 2, data := zeros 600 }] } }
/-- An index entry of 40 bytes at the start. -/
def anEntry : IndexEntry := { offset := 0, recordBytes := 40, length := 8, cls := 0, kind := 1, framing := 0, cost := 0, tokens := 0 }
/-- The copy on a node as an open one that holds `anEntry`. -/
def openCopy (node : Nat) : ShardOpen := { shard := 0, node := node, opening := false, entries := [anEntry] }
def readingItem : Item := { anItem with reading := true }
def readingUnit (failed : List (Nat × Nat)) : State :=
  (readUnit 0 [openCopy myUid] [readingItem]).modStore fun t => { t with failed := failed }
theorem witness_record_read : let s := readingUnit []
    s.item 0 = some readingItem ∧ ((s.mediaCode 0).2.readingFrom readingItem myUid).isSome = true ∧
      (s.mediaCode 0).1 = 0 ∧ ((s.mediaCode 0).2.sealedObject 7).isSome = true := by
  simp [readingUnit, readUnit, openCopy, readingItem, anItem, anEntry, State.item, State.mediaCode, State.readingFrom, State.shardOpen,
    State.slot, State.job, State.modStore, State.sealedObject, State.object, State.opening, State.copyBytes, State.storeReady, slotUnitAt] <;> decide
theorem witness_record_read_entry : (openCopy myUid).entryAt (0 - 0) = .ok anEntry := rfl
theorem witness_record_media : let s := readingUnit [(0, 0x1012)]
    s.item 0 = some readingItem ∧ ((s.mediaCode 0).2.readingFrom readingItem myUid).isSome = true ∧ (s.mediaCode 0).1 ≠ 0 := by
  simp [readingUnit, readUnit, openCopy, readingItem, anItem, anEntry, State.item, State.mediaCode, State.readingFrom, State.shardOpen,
    State.slot, State.job, State.modStore, State.sealedObject, State.object, State.opening, State.copyBytes, State.storeReady, slotUnitAt] <;> decide
def peerItem : Item := { anItem with peerRead := some (5, 0) }
theorem witness_peer_read : let s := readUnit 0 [openCopy 5] [peerItem]
    s.item 0 = some peerItem ∧ (s.readingFrom peerItem 5).isSome = true := by decide +kernel
theorem witness_shard_open : let s := readUnit 0 [{ shard := 0, node := myUid, opening := true }] []
    (s.opening 0 0 myUid).map (fun p => p.2.format) = some 0 ∧ (s.copyBytes myUid 7 none).isSome = true := by
  simp [readingUnit, readUnit, openCopy, readingItem, anItem, anEntry, State.item, State.mediaCode, State.readingFrom, State.shardOpen,
    State.slot, State.job, State.modStore, State.sealedObject, State.object, State.opening, State.copyBytes, State.storeReady, slotUnitAt] <;> decide
theorem witness_tar_scan : let s := readUnit 1 [{ shard := 0, node := myUid, opening := true }] []
    (s.opening 0 0 myUid).map (fun p => p.2.format) = some 1 ∧ (s.copyBytes myUid 7 none).isSome = true := by
  simp [readingUnit, readUnit, openCopy, readingItem, anItem, anEntry, State.item, State.mediaCode, State.readingFrom, State.shardOpen,
    State.slot, State.job, State.modStore, State.sealedObject, State.object, State.opening, State.copyBytes, State.storeReady, slotUnitAt] <;> decide
theorem witness_item_issue : (readUnit 0 [] []).mayIssue 0 = true := by decide +kernel

/-! Witnesses of DecodersComplete -/

def framedItem : Item := { anItem with framing := 2, engine := some (4, 0), stage := 1 }
theorem witness_decompress : let s := stageUnit 3 framedItem
    s.item 0 = some framedItem ∧ framedItem.runsOn [4] = true := by decide +kernel
def textItem (engine : Nat) (data : Bytes) : Item :=
  { anItem with cls := 2, kind := 0x20, data := data, engine := some (engine, 0), stage := 1 }
theorem witness_decode : let s := stageUnit 4 (textItem 2 (bytesOf [0x61]))
    let it := textItem 2 (bytesOf [0x61])
    s.item 0 = some it ∧ it.runsOn [1, 2] = true ∧ s.atDecode it = true ∧
      (decodePayload ((s.attemptDone it).decodeSettings (s.job it.slot)) it.kind it.sample it.data).toOption.isSome = true := by decide +kernel
theorem witness_decode_fails : let it := { textItem 2 [] with kind := 0x01, cls := 0 }
    let s := stageUnit 4 it
    s.item 0 = some it ∧ it.runsOn [1, 2] = true ∧ s.atDecode it = true ∧
      decodePayload ((s.attemptDone it).decodeSettings (s.job it.slot)) it.kind it.sample it.data = .error 0x2053 := by
  refine ⟨rfl, rfl, rfl, rfl⟩
theorem witness_slow_lane : let s := stageUnit 4 (textItem 8 [])
    s.item 0 = some (textItem 8 []) ∧ (textItem 8 []).runsOn [8] = true ∧ s.atDecode (textItem 8 []) = true := by decide +kernel
theorem witness_work_limit : let it := textItem 2 (bytesOf [0x61])
    let s : State := { slotUnitAt [(Obj.defaultWorkLimit, 0)] { stages := [aStage 1, aStage 4] } with items := [it] }
    s.item 0 = some it ∧ s.atDecode it = true ∧ it.runsOn [1, 2, 8] = true ∧
      decodePayload (s.decodeSettings (s.job it.slot)) it.kind it.sample it.data = .error 0x2051 := by
  refine ⟨rfl, rfl, rfl, rfl⟩
theorem witness_budget : let s : State := { stageUnit 4 (textItem 2 []) with gtc := 10 ^ 12 }
    s.item 0 = some (textItem 2 []) ∧ (textItem 2 []).runsOn [1, 2] = true ∧ s.atDecode (textItem 2 []) = true ∧
      s.holdsFor 1 0 = true ∧ s.budget (textItem 2 []) ≤ s.elapsed (textItem 2 []) ∧ 0 < s.get Obj.slowLanePiers := by decide +kernel

/-! Witnesses of TransformAndTokenizeComplete -/

def warpItem (cls engine : Nat) : Item := { anItem with cls := cls, engine := some (engine, 0), stage := 1 }
theorem witness_warp : let s := stageUnit 8 (warpItem 0 3)
    s.item 0 = some (warpItem 0 3) ∧ s.stageRec (warpItem 0 3) = some (aStage 8) ∧ (warpItem 0 3).runsOn [2, 3] = true ∧
      (aStage 8).kind = 8 ∧ (warpItem 0 3).cls = 0 := by decide +kernel
theorem witness_transform_signal : let s := stageUnit 8 (warpItem 1 2)
    s.item 0 = some (warpItem 1 2) ∧ s.stageRec (warpItem 1 2) = some (aStage 8) ∧ (warpItem 1 2).runsOn [2, 3] = true ∧
      (warpItem 1 2).cls ≠ 0 := by decide +kernel
theorem witness_tokenize_fails : let it := { textItem 5 (bytesOf [0x80]) with stage := 1 }
    let s : State := { slotUnit { stages := [aStage 1, { aStage 10 with param := zeros 32 ++ bytesOf [2] ++ zeros 95 }] } with items := [it] }
    s.item 0 = some it ∧ it.runsOn [5] = true ∧
      ((s.attemptDone it).tokenizeText (s.job it.slot) it.sample ((s.job it.slot).textOf it.data)).toOption.isNone = true := by decide +kernel
theorem witness_tokenize : let s := stageUnit 10 (textItem 5 [])
    s.item 0 = some (textItem 5 []) ∧ (textItem 5 []).runsOn [5] = true ∧ ((s.attemptDone (textItem 5 [])).tokenizeText (s.job 0) 0
      ((s.job 0).textOf [])).toOption.isSome = true := by decide +kernel

/-! Witnesses of PeerMessagesComplete -/

def peerStream : StreamRec := { classMask := 7, delivery := 0, sealMode := 0, sprayMode := 0, layout := 0, firstConsumer := 0, count := 1
                                depth := 1, lowWater := 0 }
def peerJob : Job := { n := 4, batchSize := 2, streams := [peerStream], assemblers := [{ uid := myUid, address := 0 }] }
def peerUnit : State := { slotUnit peerJob with shoes := [{ slot := 0, stream := 0, epoch := 0 }] }
/-- The first epoch's position 2 of slot 0 is not filled and its batch is ahead. -/
theorem witness_ready : peerUnit.itemMessageOk 1 (itemMessage 2 1 0 0 0 0 0 0) = true ∧
    peerUnit.fill (refSlot (field (itemMessage 2 1 0 0 0 0 0 0) 0 8)) 0 2 = none := by decide +kernel
/-- The one entry of ASSEMBLERS names this node, which so assembles every batch. -/
theorem own_assembler (b : Nat) : peerUnit.assemblerOf 0 b = myUid := by
  have h : peerUnit.assemblerOf 0 b = ([myUid].find? (· != 0)).getD 0 := by
    simp [State.assemblerOf, Job.assemblerAt, peerUnit, slotUnit, slotUnitAt, State.job, State.slot, peerJob, standIn, Nat.mod_one]
  rw [h]
  by_cases hm : myUid = 0 <;> simp [hm]
theorem witness_ready_ahead : peerUnit.positionAhead 0 0 2 = true := by
  have h := own_assembler 1
  simp [State.positionAhead, show peerUnit.shoes = [{ slot := 0, stream := 0, epoch := 0 }] from rfl,
    show peerUnit.job 0 = peerJob from rfl, show peerJob.streams = [peerStream] from rfl,
    show peerJob.packedStream peerStream = false from rfl, show peerJob.batchSize = 2 from rfl, State.toStart, State.inShoe,
    show peerUnit.batches = [] from rfl, Shoe.ahead, h]
theorem witness_prepare : peerUnit.itemMessageOk 2 (itemMessage 2 2 0 0 0 3 0 0) = true ∧
    field (itemMessage 2 2 0 0 0 3 0 0) 0x10 8 < (peerUnit.job 0).n := by decide +kernel
theorem witness_peer_release : peerUnit.itemMessageOk 3 (itemMessage 2 3 0 0 0 0 0 0) = true ∧ peerUnit.itemMessageOk 3 [] = false ∧
    peerUnit.itemMessageOk 2 [] = false ∧ peerUnit.itemMessageOk 1 [] = false := by decide +kernel
def anOffer : Offer := { uid := 5, ref := 2, flags := 0, status := 0, key := 1, addr := 0, length := 4, crc := 0 }
def readingFill : Fill := { slot := 0, epoch := 0, position := 2, cls := 0, reading := some anOffer }
theorem witness_prepared_read : let s : State := { peerUnit with fills := [readingFill] }
    s.fill (refSlot 2) (refEpoch 2) (refPosition 2) = some readingFill := by decide +kernel

/-! Witnesses of CensusMessagesComplete -/

def aContribution : Contribution := { uid := 5, key := 0, address := 0, textRecords := 0, dirRecords := 0, digest := 0 }
def aCensus (state restarts : Nat) (l : List Contribution) : Census :=
  { epoch := 0, state := state, restarts := restarts, started := 0, contributions := l, fulls := [aContribution] }
def censusUnit (c : Census) : State :=
  { slotUnit {} with slots := [{ job := some {}, censuses := [c] }], gtc := 10 ^ 13 }
theorem witness_census_offer : let c := aCensus 1 0 [aContribution]
    let s := censusUnit c
    censusLegal 1 (censusMessage 1 0 0 0 0 0 0 0 0) = true ∧ s.namedCensus (censusMessage 1 0 0 0 0 0 0 0 0) = some (0, c) ∧
      s.census 0 c.epoch = some c ∧ c.contributions ≠ [] ∧ field (censusMessage 1 0 0 0 0 0 0 0 0) 8 4 = c.restarts := by decide +kernel
theorem witness_census_offer_old : let c := aCensus 1 1 [aContribution]
    let s := censusUnit c
    s.namedCensus (censusMessage 1 0 0 0 0 0 0 0 0) = some (0, c) ∧ field (censusMessage 1 0 0 0 0 0 0 0 0) 8 4 < c.restarts := by
  decide +kernel
theorem witness_contribution : let c := aCensus 1 0 [{ aContribution with uid := myUid + 1 }]
    (censusUnit c).census 0 0 = some c ∧ myUid + 1 ≠ myUid ∧
      c.contributions.find? (fun x => x.uid == myUid + 1 && x.text.isNone) = some { aContribution with uid := myUid + 1 } := by
  refine ⟨by simp [censusUnit, aCensus, State.census, State.slot], by omega, by simp [aCensus, aContribution]⟩
theorem witness_census_timeout : let c := aCensus 1 2 [aContribution]
    (censusUnit c).census 0 0 = some c ∧ c.state = 1 ∧ c.contributions ≠ [] ∧ c.restarts = 2 := by decide +kernel
theorem witness_census_restart : (aCensus 1 0 []).restarts < 2 := by decide
theorem witness_census_request : let c := aCensus 2 0 []
    censusLegal 3 (censusMessage 3 0 0 0 0 0 0 0 0) = true ∧
      (censusUnit c).namedCensus (censusMessage 3 0 0 0 0 0 0 0 0) = some (0, c) ∧ c.state = 2 := by decide +kernel
theorem witness_census_request_building : let c := aCensus 1 0 []
    (censusUnit c).namedCensus (censusMessage 3 0 0 0 0 0 0 0 0) = some (0, c) ∧ c.state = 1 := by decide +kernel
theorem witness_census_full : let c := aCensus 1 0 []
    censusLegal 2 (censusMessage 2 0 0 0 0 0 0 0 0) = true ∧
      (censusUnit c).namedCensus (censusMessage 2 0 0 0 0 0 0 0 0) = some (0, c) ∧ c.contributions = [] ∧ c.fulls = [aContribution] ∧
      (censusUnit c).census 0 0 = some c := by decide +kernel
theorem witness_census_illegal : censusLegal 1 [] = false ∧ censusLegal 2 [] = false ∧ censusLegal 3 [] = false := by decide +kernel

/-! Witnesses of DeliveryStepsComplete -/

def aSlice (stage : Nat) : SliceState := { consumer := 0, stage := stage }
def aBatch : Batch := { slot := 0, stream := 0, epoch := 0, index := 0, positions := [0], ready := some 0, slices := [aSlice 1], opened := true }
def deliverUnit (delivery : Nat) : State :=
  { slotUnit { peerJob with streams := [{ peerStream with delivery := delivery }] } with
    batches := [aBatch], gtc := 10 ^ 12
    credits := [{ slot := 0, stream := 0, entry := 0, consumer := 0, credits := 0, written := 1 }] }
theorem witness_push_slice : let s := deliverUnit 0
    s.batches.find? (fun b => b.slot == 0 && b.stream == 0 && b.epoch == 0 && b.index == 0) = some aBatch ∧
      aBatch.slices[0]? = some (aSlice 1) ∧ s.deliveryOf aBatch = 0 := by decide +kernel
theorem witness_credit : let s := deliverUnit 0
    s.running 0 = true ∧ (s.job 0).sealedStream (bits 1 28 4) = false := by decide +kernel
theorem witness_pull_release : let s := deliverUnit 1
    s.running 0 = true ∧ s.batches.find? (fun b => b.slot == 0 && b.stream == bits 0 28 4 && b.ready.isSome &&
      b.index % 2 ^ 28 == bits 0 0 28 && s.deliveryOf b == 1) = some aBatch ∧
    aBatch.slices.findIdx? (fun x => x.consumer == 0) = some 0 ∧ (aSlice 1).stage ≠ 2 ∧ aBatch.opened = true := by decide +kernel
theorem witness_stall : let s := deliverUnit 0
    s.owing 0 0 0 = some 0 ∧ 0 + s.get Obj.consumerStallTicks ≤ s.gtc ∧ s.running 0 = true := by decide +kernel
theorem witness_batch_start : peerUnit.shoe 0 0 = some { slot := 0, stream := 0, epoch := 0 } ∧
    (peerUnit.job 0).streams[0]? = some peerStream ∧ (peerUnit.job 0).packedStream peerStream = false ∧ peerUnit.jobState 0 = 4 ∧
    [0, 0].length = ((peerUnit.job 0).batchPositions 0).length ∧ peerUnit.shoeTakes { slot := 0, stream := 0, epoch := 0 } peerStream = true := by
  refine ⟨rfl, rfl, rfl, by decide +kernel, by decide +kernel, by decide +kernel⟩
theorem witness_batch_start_next : peerUnit.nextBatchOf { slot := 0, stream := 0, epoch := 0 } = some (0, 0) := by
  have h := own_assembler 0
  simp [State.nextBatchOf, nextOwn, State.batchesIn, show peerUnit.job 0 = peerJob from rfl, show peerJob.streams = [peerStream] from rfl,
    show peerJob.packedStream peerStream = false from rfl, show peerJob.assemblers.length = 1 from rfl, show peerUnit.batches = [] from rfl,
    State.inShoe, h, show peerJob.batchCount = 2 from rfl, List.range, List.range.loop]
def lateBatch : Batch := { aBatch with ready := none, lateSince := some 0 }
def lateFill : Fill := { slot := 0, epoch := 0, position := 0, cls := 0 }
def lateUnit : State :=
  { slotUnitAt [(shoeKey Obj.lowWaterAlarm 0 0, 1)] { peerJob with orderMode := 1 } with
    batches := [lateBatch], fills := [lateFill], gtc := 10 ^ 12 }
theorem witness_late_batch : let s := lateUnit
    s.batches.find? (fun b => b.slot == 0 && b.stream == 0 && b.positions.contains 0 && s.mayBeLate b) = some lateBatch ∧
      s.fill 0 0 0 = some lateFill ∧ 0 + s.get Obj.relaxedGraceTicks ≤ s.gtc ∧ s.logFull 0 = false := by decide +kernel

/-! Witnesses of CacheDropsKeepTheRest -/

def cacheUnit : State := unit []
theorem witness_cache_drop : Accepts cacheUnit Obj.cacheCommand 1 ∧ Accepts cacheUnit Obj.cacheCommand 2 ∧
    Accepts cacheUnit Obj.cacheCommand 3 ∧ cacheUnit.cacheBusy = false := by exact ⟨accepted (by decide +kernel), accepted (by decide +kernel), accepted (by decide +kernel), by decide +kernel⟩
def cacheBusyUnit : State := slotUnit { stages := [aStage 1, aStage 5], cacheMode := 1 }
theorem witness_cache_busy : Accepts cacheBusyUnit Obj.cacheCommand 1 ∧ Accepts cacheBusyUnit Obj.cacheCommand 2 ∧
    Accepts cacheBusyUnit Obj.cacheCommand 3 ∧ cacheBusyUnit.cacheBusy = true := by exact ⟨accepted (by decide +kernel), accepted (by decide +kernel), accepted (by decide +kernel), by decide +kernel⟩

/-! Witnesses of CacheWorkCompletes -/

def cachedEntry : CacheEntry := { sample := 0, digest := 0, objectId := 7, data := encodeText 0x20 0 [], blocks := 1, readers := 1 }
def storedEntry : FlashEntry := { sample := 0, digest := 0, objectId := 7, compressed := false, stored := encodeText 0x20 0 [] }
def cachedUnit (hit : Nat) : State :=
  { slotUnit { stages := [aStage 1, aStage 5], cacheMode := 3 } with
    items := [{ anItem with hit := hit }]
    cache := { entries := [cachedEntry], segments := [{ object := 255, entries := [storedEntry] }]
               fills := [{ slot := 0, chain := none, entry := cachedEntry }], compressing := [cachedEntry] } }
theorem witness_cache_hit : let s := cachedUnit 1
    s.item 0 = some { anItem with hit := 1 } ∧
    s.cache.entries.find? (fun e => e.hasKey 0 (s.slotDigest 0) && e.readers != 0) = some cachedEntry := by decide +kernel
theorem witness_cache_flash : let s := cachedUnit 2
    s.item 0 = some { anItem with hit := 2 } ∧ s.flashEntry 0 (s.slotDigest 0) = some storedEntry ∧ storedEntry.compressed = false ∧
    storedEntry.crcOk = true ∧ copiedOk 0 storedEntry.stored = true ∧
    (s.job 0).looksUp (descriptorOf storedEntry.stored).cls = true := by decide +kernel
theorem witness_cache_fill : (cachedUnit 1).cache.fills[0]? = some { slot := 0, chain := none, entry := cachedEntry } ∧
    (cachedUnit 1).cache.compressing[0]? = some cachedEntry := by decide +kernel

/-! Witnesses of InferencePassesComplete -/

def curateUnit : State := stageUnit 6 { anItem with stage := 1 }
theorem witness_pass : curateUnit.onePass [0] = true := by decide +kernel
theorem witness_trestle_fault : [0].filterMap curateUnit.item = [{ anItem with stage := 1 }] ∧ curateUnit.get Obj.trestleState ≠ 1 ∧
    curateUnit.onePass [0] = true ∧ 263 < 264 := by decide +kernel
theorem witness_log_release : let s := unit [(inst Obj.jobState 0, 4), (inst Obj.curationLogHead 0, 128)]
    Accepts s (inst Obj.curationLogRelease 0) 128 ∧ s.get (inst Obj.curationLogRelease 0) ≤ 128 ∧
      128 ≤ s.get (inst Obj.curationLogHead 0) := by refine ⟨accepted (by decide +kernel), by decide +kernel, by decide +kernel⟩
theorem witness_log_release_refused : let s := unit [(inst Obj.jobState 0, 4), (inst Obj.curationLogHead 0, 128)]
    writeAbort s (inst Obj.curationLogRelease 0) 192 = some (0x0014, 0x800A) := by decide +kernel

/-! Witnesses of ImagesLoad -/

def loadUnit : State := unit [(Obj.storeState, 2)]
theorem witness_load_accepts : Accepts loadUnit Obj.vocabCommand 1 ∧ Accepts loadUnit Obj.controlCommand 1 ∧
    Accepts loadUnit Obj.bundleCommand 1 ∧ Accepts loadUnit Obj.kernelCommand 1 :=
  ⟨accepted (by decide +kernel), accepted (by decide +kernel), accepted (by decide +kernel), accepted (by decide +kernel)⟩
theorem witness_load_object : Accepts loadUnit Obj.bundleCommand 2 ∧ loadUnit.sealedObject (loadUnit.get Obj.bundleSourceObject) = none :=
  ⟨accepted (by decide +kernel), by decide +kernel⟩
def sourceUnit : State := { unit [(Obj.storeState, 2), (Obj.bundleSourceObject, 7)] with store := { objects := [{ object := 7, st := 2 }] } }
theorem witness_load_source : Accepts sourceUnit Obj.bundleCommand 2 ∧
    sourceUnit.sealedObject (sourceUnit.get Obj.bundleSourceObject) = some [] := ⟨accepted (by decide +kernel), by decide +kernel⟩
theorem witness_load_free : (∀ l ∈ loadUnit.images, l.kind = 0 → digestNat l.bytes ≠ 0) ∧ leastFree 8 [] < 8 :=
  ⟨by intro l hl; exact absurd hl (List.not_mem_nil), by decide +kernel⟩
theorem witness_load_full : leastFree 8 [0, 1, 2, 3, 4, 5, 6, 7] = 8 := by decide +kernel
theorem witness_build : let s : State := { unit [] with images := [{ kind := 0, entry := 0, bytes := [] }, { kind := 1, entry := 0, bytes := [] },
      { kind := 2, entry := 0, bytes := [] }, { kind := 3, entry := 0, bytes := [] }] }
    ∀ c ∈ [vocabKind, controlKind, bundleKind, kernelKind],
      (s.images.find? (fun x => x.kind == c.num && x.entry == 0 && x.building)).isSome = true := by
  intro s c hc
  simp only [List.mem_cons, List.not_mem_nil, or_false] at hc
  rcases hc with rfl | rfl | rfl | rfl <;> rfl

/-! Witnesses of ImagesUnload -/

def loadedUnit (d : Nat) (bundles : List BundleRef) : State :=
  { slotUnitAt [(Obj.bundleSelect, d)] { bundles := bundles } with
    images := [{ kind := 2, entry := 0, bytes := [], building := false }] }
theorem witness_unload_accepts : Accepts loadUnit Obj.vocabCommand 2 ∧ Accepts loadUnit Obj.controlCommand 2 ∧
    Accepts loadUnit Obj.bundleCommand 3 ∧ Accepts loadUnit Obj.kernelCommand 2 :=
  ⟨accepted (by decide +kernel), accepted (by decide +kernel), accepted (by decide +kernel), accepted (by decide +kernel)⟩
theorem selected (d : Nat) (b : List BundleRef) : (loadedUnit d b).get Obj.bundleSelect = d := by
  show (findKey Obj.bundleSelect (putKey Obj.bundleSelect d _)).getD _ = d
  rw [findKey_putKey, if_pos rfl]
  rfl
theorem witness_unload : let s := loadedUnit (digestNat []) []
    s.loadedImage 2 (s.get Obj.bundleSelect) = some { kind := 2, entry := 0, bytes := [], building := false } ∧
      s.usersOf 2 (s.get Obj.bundleSelect) = [] := by
  have h := selected (digestNat []) []
  refine ⟨?_, ?_⟩
  · show State.loadedImage (loadedUnit (digestNat []) []) 2 ((loadedUnit (digestNat []) []).get Obj.bundleSelect) = _
    rw [h]
    simp [State.loadedImage, show (loadedUnit (digestNat []) []).images = [{ kind := 2, entry := 0, bytes := [], building := false }] from rfl]
  · show State.usersOf (loadedUnit (digestNat []) []) 2 ((loadedUnit (digestNat []) []).get Obj.bundleSelect) = _
    generalize (loadedUnit (digestNat []) []).get Obj.bundleSelect = n
    rfl
theorem witness_unload_in_use : (loadedUnit (digestNat []) [{ refKind := 1, minSramKib := 0, digest := digestNat [] }]).usersOf 2 (digestNat []) ≠ [] := by
  have h : 0 ∈ (loadedUnit (digestNat []) [{ refKind := 1, minSramKib := 0, digest := digestNat [] }]).usersOf 2 (digestNat []) := by
    refine List.mem_filter.mpr ⟨by decide +kernel, ?_⟩
    show (_ && (digestNat [] == digestNat []) || _) = true
    simp
  exact List.ne_nil_of_mem h
theorem witness_unload_unknown : let s := loadedUnit (digestNat []) []
    s.loadedImage vocabKind.num (s.get vocabKind.select) = none := by
  show State.loadedImage (loadedUnit (digestNat []) []) 0 _ = none
  generalize (loadedUnit (digestNat []) []).get _ = n
  rfl

/-! Witnesses of KernelServicesComplete -/

/-- A package of 64 bytes whose scratchpad has 4,096 bytes and whose limit is one unit of 65,536 instructions. -/
def aPackage : Bytes := zeros 0x28 ++ leBytes 4 4096 ++ leBytes 4 1 ++ zeros 16
def kernelItem : Item := { anItem with stage := 1 }
def kernelRegs (call a0 a1 a2 : Nat) : PierRegs :=
  { pc := 0xFF0, x := List.replicate 10 0 ++ [a0, a1, a2] ++ List.replicate 4 0 ++ [call] ++ List.replicate 14 0, f := [], v := []
    vl := 0, vtype := 0, fcsr := 0, vxrm := 0, vxsat := 0, vstart := 0 }
def aKernel : KernelRun :=
  { entry := 0, pier := 0, since := 0, regs := kernelRegs 0 0 0 0
    handles := [{ num := 9, target := 9 }], chains := [{ id := 9, chain := { buffers := [], index := [], length := 64 }, data := zeros 64 }] }
/-- The limit of a KERNEL stage is a field of its parameters. -/
def kernelStage : StageRec := { kind := 9, classMask := 7, refIndex := 0, requester := 0, param := leBytes 4 1 ++ zeros 124 }
/-- Slot 0 with a KERNEL stage whose package is loaded, one item there, and kernels. -/
def kernelUnit (l : List KernelRun) : State :=
  { slotUnitAt [(Obj.kernelPiers, 4)] { stages := [aStage 1, kernelStage], bundles := [{ refKind := 2, minSramKib := 0, digest := digestNat aPackage }] } with
    items := [kernelItem], kernels := l, images := [{ kind := 3, entry := 0, bytes := aPackage, building := false }] }
theorem kernel_package (l : List KernelRun) : (kernelUnit l).kernelPackage kernelItem = (kernelStage, aPackage) := by
  have hj : (kernelUnit l).job 0 = { stages := [aStage 1, kernelStage], bundles := [{ refKind := 2, minSramKib := 0, digest := digestNat aPackage }] } :=
    rfl
  have hi : (kernelUnit l).images = [{ kind := 3, entry := 0, bytes := aPackage, building := false }] := rfl
  simp [State.kernelPackage, kernelItem, anItem, hj, State.stageImage, kernelStage, State.imageBytes, State.loadedImage, hi]
def callStep (call a0 a1 a2 : Nat) : KernelStep := { insns := 10, regs := kernelRegs call a0 a1 a2, stores := [] }
theorem runs_free (call a0 a1 a2 : Nat) : RunsFree (kernelUnit [aKernel]) 0 kernelItem aKernel (callStep call a0 a1 a2) := by
  refine ⟨rfl, rfl, rfl, rfl, rfl, fun x hx => absurd hx List.not_mem_nil, ?_⟩
  rw [kernel_package]
  show 0 + 10 ≤ instructionLimit kernelStage aPackage
  decide +kernel
theorem calls_free (call a0 a1 a2 : Nat) :
    CallsFree (kernelUnit [aKernel]) 0 kernelItem aKernel (callStep call a0 a1 a2) call := by
  refine ⟨runs_free .., rfl, ?_⟩
  rw [kernel_package]
  show 0 + 10 + 64 ≤ instructionLimit kernelStage aPackage
  decide +kernel
theorem witness_kernel_start : (kernelUnit []).nextKernelItem = some kernelItem ∧ (kernelUnit []).freePiers.head? = some 4 ∧
    (kernelUnit []).pierRoles.2.1.length = 4 := by decide +kernel
theorem witness_kernel_start_whole : (kernelUnit []).imageWhole ((kernelUnit []).job 0) kernelStage = true := by
  simp [State.imageWhole, kernelUnit, slotUnitAt, State.job, State.slot, kernelStage, State.loadedImage]
theorem witness_chain_alloc : CallsFree (kernelUnit [aKernel]) 0 kernelItem aKernel (callStep 1 64 0 0) 1 ∧
    aKernel.freeHandle.isSome = true ∧ 0 < regArg (callStep 1 64 0 0).regs 0 ∧ aKernel.freeHandle = some 10 ∧
    regArg (callStep 1 64 0 0).regs 0 ≤ (kernelUnit [aKernel]).get Obj.maxDecodedBytes :=
  ⟨calls_free .., by decide +kernel, by decide +kernel, by decide +kernel, by decide +kernel⟩
theorem witness_chain_length : CallsFree (kernelUnit [aKernel]) 0 kernelItem aKernel (callStep 2 9 0 0) 2 ∧
    targetOf kernelItem aKernel 9 = some 9 := ⟨calls_free .., rfl⟩
theorem witness_ref_add : CallsFree (kernelUnit [aKernel]) 0 kernelItem aKernel (callStep 3 9 0 0) 3 ∧
    targetOf kernelItem aKernel (regArg (callStep 3 9 0 0).regs 0) = some 9 := ⟨calls_free .., rfl⟩
theorem witness_ref_drop : CallsFree (kernelUnit [aKernel]) 0 kernelItem aKernel (callStep 4 9 0 0) 4 ∧
    aKernel.handles.find? (fun x => x.num == regArg (callStep 4 9 0 0).regs 0) = some { num := 9, target := 9 } ∧
    (aKernel.dmas.any fun d => d.handle == regArg (callStep 4 9 0 0).regs 0) = false := ⟨calls_free .., rfl, rfl⟩
theorem witness_rng : CallsFree (kernelUnit [aKernel]) 0 kernelItem aKernel (callStep 7 0 4 spadBase) 7 ∧
    aKernel.meets spadBase (4 * 4) = false ∧ 0 + 4 ≤ 2 ^ 36 ∧ spadBase % 4 = 0 := ⟨calls_free .., by decide +kernel, by decide +kernel, by decide +kernel⟩
theorem witness_rng_spad : inSpad ((kernelUnit [aKernel]).kernelPackage kernelItem).2 spadBase 16 = true := by
  rw [kernel_package]
  decide +kernel

/-! Witnesses of KernelDmaCompletes -/

/-- A descriptor of a READ of 16 bytes of handle 9 to the second kibibyte of the scratchpad. -/
def dmaBytes : Bytes := leBytes 4 0x0300 ++ leBytes 4 9 ++ leBytes 8 0 ++ leBytes 4 (spadBase + 1024) ++ leBytes 4 16 ++ zeros 8
def aDma : KernelDma := dmaOf dmaBytes 9 0
def dmaKernel : KernelRun := { aKernel with spad := Memory.write [] spadBase dmaBytes }
theorem dma_runs_free (w : KernelStep) (call : Nat) (h : w.insns = 10) (hs : w.stores = []) (hc : w.regs.x.getD 17 0 = call) :
    CallsFree (kernelUnit [dmaKernel]) 0 kernelItem dmaKernel w call := by
  refine ⟨⟨rfl, rfl, rfl, rfl, rfl, fun x hx => absurd (hs ▸ hx) List.not_mem_nil, ?_⟩, hc, ?_⟩ <;> rw [kernel_package, h]
  · show 0 + 10 ≤ instructionLimit kernelStage aPackage
    decide +kernel
  · show 0 + 10 + 64 ≤ instructionLimit kernelStage aPackage
    decide +kernel
theorem witness_dma_submit : CallsFree (kernelUnit [dmaKernel]) 0 kernelItem dmaKernel (callStep 5 spadBase 0 0) 5 ∧
    dmaKernel.meets spadBase 32 = false ∧ spadBase % 8 = 0 ∧ inSpad aPackage spadBase 32 = true ∧
    Memory.bytes (dmaKernel.calledBy (callStep 5 spadBase 0 0)).spad spadBase 32 = dmaBytes ∧
    targetOf kernelItem dmaKernel (field dmaBytes 4 4) = some 9 ∧
    dmaIllegal (dmaKernel.calledBy (callStep 5 spadBase 0 0)) aPackage dmaBytes = false ∧
    aDma.write = false ∧ aDma.offset + (aDma.rows - 1) * aDma.stride + aDma.length ≤ (targetBytes kernelItem dmaKernel 9).length :=
  ⟨dma_runs_free _ _ rfl rfl rfl, by decide +kernel, by decide +kernel, by decide +kernel, by decide +kernel, by decide +kernel, by decide +kernel,
    by decide +kernel, by decide +kernel⟩
theorem witness_dma_wait : CallsFree (kernelUnit [aKernel]) 0 kernelItem aKernel (callStep 6 255 0 0) 6 ∧
    regArg (callStep 6 255 0 0).regs 0 = 0xFF := ⟨calls_free .., rfl⟩
theorem witness_dma_complete : let k := { aKernel with dmas := [aDma] }
    (kernelUnit [k]).item 0 = some kernelItem ∧ (kernelUnit [k]).kernel 0 = some k ∧ k.dmas.find? (fun d => d.tag == 3) = some aDma ∧
      ((k.dmas.takeWhile fun d => d.tag != 3).any fun x =>
        x.handle == aDma.handle || decide (x.spad < aDma.spad + aDma.rows * aDma.length ∧ aDma.spad < x.spad + x.rows * x.length)) = false := by
  refine ⟨rfl, rfl, by decide +kernel, by decide +kernel⟩
theorem witness_dma_ended : (let k := { aKernel with ending := some (9, [0]) }
    k.ending = some (9, [0]) ∧ k.dmas = []) ∧ (let k := { aKernel with waiting := some 3 }
    k.ending = none ∧ k.waiting = some 3 ∧ (k.dmas.any fun d => d.named 3) = false) := by decide +kernel

/-! Witnesses of KernelEndingsComplete -/

theorem witness_ending : CallsFree (kernelUnit [aKernel]) 0 kernelItem aKernel (callStep 8 0 0 0) 8 ∧
    CallsFree (kernelUnit [aKernel]) 0 kernelItem aKernel (callStep 9 0 0 0) 9 ∧
    CallsFree (kernelUnit [aKernel]) 0 kernelItem aKernel (callStep 10 0 0 0) 10 ∧
    CallsFree (kernelUnit [aKernel]) 0 kernelItem aKernel (callStep 11 0 0 0) 11 := ⟨calls_free .., calls_free .., calls_free .., calls_free ..⟩
theorem witness_emit_unheld : targetOf kernelItem aKernel 63 = none := rfl
theorem witness_service_unknown : CallsFree (kernelUnit [aKernel]) 0 kernelItem aKernel (callStep 12 0 0 0) 12 ∧ 11 < 12 :=
  ⟨calls_free .., by decide +kernel⟩
theorem witness_kernel_trap : RunsFree (kernelUnit [aKernel]) 0 kernelItem aKernel (callStep 0 0 0 0) ∧ (callStep 0 0 0 0).regs.pc = 0xFF0 ∧
    0x4812 ≤ 0x4813 ∧ 0x4813 ≤ 0x4814 := ⟨runs_free .., rfl, by decide +kernel, by decide +kernel⟩
theorem witness_instruction_limit : let w : KernelStep := { callStep 0 0 0 0 with insns := 65536 }
    RunsFree (kernelUnit [aKernel]) 0 kernelItem aKernel w ∧
      aKernel.insns + w.insns = instructionLimit ((kernelUnit [aKernel]).kernelPackage kernelItem).1
        ((kernelUnit [aKernel]).kernelPackage kernelItem).2 := by
  have h : instructionLimit kernelStage aPackage = 65536 := by decide +kernel
  refine ⟨⟨rfl, rfl, rfl, rfl, rfl, fun x hx => absurd hx List.not_mem_nil, ?_⟩, ?_⟩ <;> rw [kernel_package, h] <;> decide

/-! Witnesses of ChannelCommandsComplete -/

/-- A unit with one thing of channel 0 set. -/
def channelUnit (l : List (Nat × Nat)) (c : Channel) : State := { unit l with gtc := 0, channels := c :: List.replicate 95 {} }
theorem witness_refresh_start : let s := channelUnit [] {}
    s.refreshTick 0 = true ∧ s.channelState 0 = 0 ∧ s.power.selfRefresh = false ∧ (s.channel 0).refreshing = none := by decide +kernel
theorem witness_refresh_end : let s := { channelUnit [] { refreshing := some 0 } with gtc := 300 }
    (s.channel 0).refreshing = some 0 ∧ 0 + s.get Obj.refreshHoldTicks ≤ s.gtc := by decide +kernel
theorem witness_hot : let s := channelUnit [] { hotPending := some true }
    (s.channel 0).hotPending = some true ∧ s.gtc % 3900 = 0 := by decide +kernel
theorem witness_retrain : ∀ n ∈ [1, 2], let s := channelUnit [] { training := some 0, trainFails := n }
    (s.channel 0).training = some 0 ∧ s.channelState 0 = 0 ∧
      ((s.modChannel 0 fun x => { x with training := none }).channel 0).trainFails = n := by decide +kernel
theorem witness_corrected : (unit []).get Obj.rowRepairThreshold = 16 := by decide +kernel
theorem witness_retire : Accepts (unit []) Obj.retireChannel 0 ∧ (unit []).channelState 0 = 0 ∧
    Accepts (unit [(Obj.channelState, 2)]) Obj.retireChannel 0 ∧ (unit [(Obj.channelState, 2)]).channelState 0 = 2 :=
  ⟨accepted (by decide +kernel), by decide +kernel, accepted (by decide +kernel), by decide +kernel⟩
theorem witness_migrated : let s := unit [(Obj.channelState, 2), (Obj.channelSpareFramesLeft, 3000)]
    s.channelState 0 = 2 ∧ (s.findHomes 10).1 = 0 ∧
      let s := unit [(Obj.channelState, 2), (Obj.channelSpareFramesLeft, 0), (Obj.cacheGddrBytes, 0)]
      s.channelState 0 = 2 ∧ (s.findHomes 10).1 = 10 := by decide +kernel

/-! Witnesses of BufferPoolCommandsComplete -/

def poolUnit (p : Pool) : State := { unit [(Obj.poolBuffers, 4096)] with pool := p }
theorem witness_held : ∀ n ∈ [1, 2, 255], let s := poolUnit { held := [{ handle := 600, requester := 1, count := n }] }
    600 < s.get Obj.poolBuffers ∧ s.pool.find 600 = some { handle := 600, requester := 1, count := n } := by decide +kernel
theorem witness_not_held : (poolUnit {}).allocated 600 = false ∧ 600 < (poolUnit {}).get Obj.poolBuffers := by decide +kernel
theorem witness_refill : ∀ g ∈ [[], [[601, 602]]], let p : Pool := { cache := [], nodes := [{ self := 600, groups := g }] }
    p.cache.length < 256 ∧ p.rebuilding = false ∧ p.expose.nodes = [{ self := 600, groups := g }] := by decide +kernel
theorem witness_rebuild : (poolUnit { rebuilding := true }).pool.rebuilding = true := rfl
def engineItem : Item := { anItem with engine := some (0, 0) }
theorem witness_sram : let s := { slotUnit { stages := [aStage 1] } with items := [engineItem] }
    s.item 0 = some engineItem ∧ engineItem.engine ≠ none ∧ engineItem.waitOut = none ∧ engineItem.prepared = false ∧ s.kernels = [] ∧
      (s.sramRecord 0 0 0 (s.retryAction engineItem) (some engineItem)).kernel 0 = none := by decide +kernel

/-! Witnesses of ObjectCommandsComplete -/

/-- A mounted store whose hold-up gate was checked just now, with its objects and the object selected. -/
def storeUnit (l : List (Nat × Nat)) (st : Store) : State :=
  { unit ([(Obj.storeState, 2), (Obj.holdUpGate, 1), (Obj.objectSelect, 256), (Obj.userBytes, 2 ^ 40)] ++ l) with
    gtc := 0, store := { st with gateTick := some 0 } }
def openObject : StoreObject := { object := 256, st := 1 }
theorem witness_object_accepts : ∀ n ∈ [1, 2, 3, 4, 5], writeAbort (unit []) Obj.objectCommand n = none ∧
    writeAbort (storeUnit [] {}) Obj.objectCommand n = none := by decide +kernel
theorem witness_object_checks : (unit []).storeReady = false ∧ (storeUnit [] {}).storeReady = true ∧
    reservedObject ((storeUnit [(Obj.objectSelect, 255)] {}).get Obj.objectSelect) = true ∧
    (storeUnit [] { objects := [openObject] }).object 256 = some openObject ∧ (storeUnit [] {}).object 256 = none ∧
    reservedObject 256 = false ∧ (storeUnit [] {}).gateOpen = true ∧ (unit [(Obj.storeState, 2)]).gateOpen = false := by decide +kernel
theorem witness_create : let s := storeUnit [] {}
    s.object 256 = none ∧ s.get Obj.objectsOpen < 16 ∧ s.get Obj.storeState ≠ 3 ∧ s.get Obj.objectCount < 67108864 ∧
      ((s.heapTake 64 .objectWindow 67108864).bind fun t => t.register .objectWindow none 67108864 256 0 []).isSome = true := by decide +kernel
theorem witness_open_object : let s := storeUnit [] { objects := [openObject] }
    s.object 256 = some openObject ∧ openObject.st = 1 ∧ openObject.st ≠ 3 ∧ s.get Obj.storeState ≠ 3 ∧ openObject.data.length + 1 ≤ 2 ^ 44 ∧
      s.store.mappedUnits + (unitsFor (openObject.data.length + 1) - openObject.units.length) ≤ s.userUnits := by decide +kernel
theorem witness_expected : digestNat openObject.data ≠ digestNat openObject.data + 1 ∧ digestNat openObject.data + 1 ≠ 0 := by omega

/-! Witnesses of FlashOperationsComplete -/

def aUnit : PhysUnit := { seq := 1, kind := 0, logical := 5, object := 256, band := 0, page := 0, column := 4 }
def aBand : Band := { num := 0, die := 0, blocks := [(0, 7), (4, 9)], st := 1 }
def aRead (reader : Option Nat) : QueuedRead := { channel := 4, die := 0, cls := 1, seq := 1, logical := 5, reader := reader }
def flashUnit (st : Store) : State :=
  { storeUnit [(Obj.diesPerChannel, 1)] { st with units := [aUnit], bands := [aBand], map := [(5, 1)] } with isolated := [bankDomain 6] }
theorem witness_unit_read : let s := flashUnit {}
    s.storeReady = true ∧ (s.mapLookup 5).store.unitAt 5 = some aUnit ∧ (s.mapLookup 5).store.inBuffer aUnit = false ∧
      (s.mapLookup 6).store.unitAt 6 = none ∧ (storeUnit [] { bands := [{ aBand with fill := [1] }] }).store.inBuffer aUnit = true := by decide +kernel
def goodRead : UnitResult := { step := 1, levels := 0, rebuilt := 0, absent := 0, mismatches := 0, ticks := 0, corrected := 0, worst := 0, temperature := 30 }
theorem witness_read_complete : let s := flashUnit { reads := [aRead none] }
    s.store.nextRead 4 0 false = some (aRead none) ∧ (s.store.units.find? fun u => u.seq == 1) = some aUnit ∧
      (s.countRead aUnit goodRead false).readCode aUnit goodRead = 0 := by decide +kernel
theorem witness_read_fails : let s := flashUnit { reads := [aRead (some 0)] }
    s.store.nextRead 4 0 false = some (aRead (some 0)) ∧ (s.store.units.find? fun u => u.seq == 1) = some aUnit ∧
      (s.countRead aUnit { goodRead with step := 5 } false).readCode aUnit { goodRead with step := 5 } = 0x5020 := by decide +kernel
def anOp (erase : Bool) : DieOp := { channel := 4, die := 0, band := 0, page := 0, erase := erase, since := 0 }
theorem witness_program : let s := flashUnit { ops := [anOp false] }
    s.store.runningOp 4 0 false = some (anOp false) ∧ (s.store.bands.find? fun b => b.num == 0) = some aBand ∧ aBand.use ≠ 1 ∧
      ((({ s with store := { s.store with ops := [] } }.bump Obj.flashPrograms).bump (inst Obj.channelPrograms 4)).event 6 0x101 1 (some 4)).store.bands.find?
        (fun b => b.num == 0) = some aBand := by decide +kernel
theorem witness_program_relocated : let s := storeUnit [] { ops := [anOp false], bands := [{ aBand with use := 1 }] }
    s.store.runningOp 4 0 false = some (anOp false) ∧ ((s.store.bands.find? fun b => b.num == 0).map Band.use) = some 1 := by decide +kernel
theorem witness_erase : let s := storeUnit [] { ops := [anOp true], bands := [{ aBand with marked := true }] }
    s.store.runningOp 4 0 true = some (anOp true) ∧ ((s.store.bands.find? fun b => b.num == 0).map Band.marked) = some true := by decide +kernel
theorem witness_patrol : let s := { flashUnit { patrol := some 0 } with gtc := giga }
    writeAbort s Obj.flashCommand 2 = none ∧ writeAbort s Obj.flashCommand 3 = none ∧ s.storeReady = true ∧ s.store.patrol = some 0 ∧
      s.store.lastPatrol + giga / s.get Obj.patrolPagesPerSecond ≤ s.gtc ∧ s.store.stripes[0]? = some (0, 0) ∧
      (storeUnit [] {}).store.stripes[0]? = none ∧ writeAbort (unit []) Obj.flashCommand 2 = none := by decide +kernel
theorem witness_controller : (flashUnit {}).get (inst Obj.channelControllerState 3) ≠ 1 := by decide +kernel

/-! Witnesses of StoreUpkeepComplete -/

def aPopulation : Population :=
  { uniform := true, diesPerChannel := 1, pageBytes := 16384, spareBytes := 2080, planes := 4, pagesPerBlock := 256, blocksPerPlane := 256
    cellBits := 3, idBytes := 0, toggle := false, parameterPage := true, interface := 2, rate := 1600, retryLevels := 0, rated := 1000
    suspend := 0 }
theorem witness_format : let s := storeUnit [] {}
    writeAbort s Obj.flashCommand 1 = none ∧ s.allEmpty = true ∧ s.populationReason aPopulation = 0 ∧
      s.populationReason { aPopulation with uniform := false } = 0x5002 ∧ s.gateOpen = true ∧ { s with gtc := 2 ^ 60 }.gateOpen = false := by
  decide +kernel
theorem witness_format_busy : writeAbort (slotUnit {}) Obj.flashCommand 1 = none ∧ (slotUnit {}).allEmpty = false := by decide +kernel
theorem witness_campaign : let s := flashUnit {}
    s.power.course = .none ∧ s.store.campaign = none ∧ s.storeReady = true ∧ s.get Obj.freeBands < s.get Obj.gcStartFreeBands ∧
      s.gateOpen = true ∧ let s := storeUnit [(Obj.freeBands, 1000)] {};
        s.power.course = .none ∧ s.store.campaign = none ∧ s.storeReady = true ∧ s.get Obj.gcStartFreeBands ≤ s.get Obj.freeBands := by decide +kernel
def aCampaign : Campaign := { band := 0, purpose := 0, left := [1], lastCommit := 0 }
theorem witness_copy : let s := flashUnit { campaign := some aCampaign }
    s.store.campaign = some aCampaign ∧ (s.store.units.find? fun x => x.seq == 1) = some aUnit ∧ s.store.valid aUnit = true ∧
      ({ units := [aUnit] } : Store).valid aUnit = false := by decide +kernel
theorem witness_band_erase : let b : Band := { aBand with st := 2 }
    let s := storeUnit [] { campaign := some { aCampaign with left := [] }, bands := [b] }
    s.store.campaign = some { aCampaign with left := [] } ∧ (s.store.bands.find? fun x => x.num == 0) = some b ∧ b.st = 2 ∧
      (s.store.reads.any fun q => s.store.units.any fun u => u.seq == q.seq && u.band == b.num) = false := by decide +kernel
def wornStore : Store := { bands := [{ aBand with blocks := [(4, 0)] }], erases := [((0, 0, 0), 9)] }
theorem witness_wear : let s := storeUnit [(Obj.blocksPerPlane, 1), (Obj.wearSpreadLimit, 2)] wornStore
    let counts := (List.range 32).flatMap fun c => (List.range (s.get Obj.blocksPerPlane)).map fun k => s.store.eraseCount c 0 k
    counts.foldl max 0 = 9 ∧ counts.foldl min 9 = 0 ∧ s.get Obj.wearSpreadLimit = 2 ∧
      (s.store.bands.find? fun x => x.st == 1 && x.die == 0 && x.blocks.any fun c => s.store.eraseCount c.1 0 c.2 == 0).isSome = true := by decide +kernel
theorem witness_journal : let s := storeUnit [] { journal := 32768, checkpoint := 134217728 }
    s.store.durable < s.store.journal ∧ 1048576 ≤ (s.store.journal - s.store.durable) * 32 ∧ 4294967296 ≤ s.store.checkpoint * 32 ∧
      s.storeReady = true ∧ s.gtc % 100000 = 0 := by decide +kernel
theorem witness_checkpoint_waits : let s := { unit [(Obj.storeState, 2)] with store := { checkpoint := 134217728 } }
    4294967296 ≤ s.store.checkpoint * 32 ∧ s.storeReady = true ∧ s.gateOpen = false := by decide +kernel
theorem witness_mount : let s := unit [(Obj.storeState, 1)]
    s.get Obj.storeState = 1 ∧ s.populationReason aPopulation = 0 ∧ s.store.bands = [] ∧
      s.populationReason { aPopulation with uniform := false } = 0x5002 := by decide +kernel

/-! Witnesses of PortCommandsComplete -/

/-- Port 0 UP, with what its DATA class is doing. -/
def portUnit (c : PortClass) : State :=
  { unit [(inst Obj.portState 0, 2), (Obj.deviceAddressV4, 7), (Obj.deviceAddress, 9)] with ports := { data := c } :: List.replicate 15 {}, gtc := 10 ^ 9 }
theorem witness_link_up : (unit []).portRuns 0 = true ∧ (unit []).portExists 0 = true ∧ (unit []).get (inst Obj.portState 0) < 2 := by
  decide +kernel
theorem witness_answers : let s := portUnit {}
    2 ≤ s.get (inst Obj.portState 0) ∧ s.get Obj.deviceAddressV4 = 7 ∧ s.ownAddress = 9 := by decide +kernel
theorem witness_priorities : let s := portUnit {}
    s.classOf (s.get Obj.pfcDataPriority) = some false ∧ s.classOf 99 = none := by decide +kernel
theorem witness_class_free : ((portUnit {}).portAt 0).cls false = {} := rfl
theorem witness_class_paused : let s := portUnit { pausedUntil := some 5 }
    ((s.portAt 0).cls (!true)).pausedUntil = some 5 ∧ 5 ≤ s.gtc ∧ ((s.portAt 0).cls false).stormedUntil = none ∧
      ((s.portAt 0).cls false).pausedSince + s.get Obj.pfcWatchdogTicks ≤ s.gtc := by decide +kernel
theorem witness_class_stormed : let s := portUnit { stormedUntil := some 5 }
    ((s.portAt 0).cls (!true)).stormedUntil = some 5 ∧ 5 ≤ s.gtc := by decide +kernel
theorem witness_levels : let s := portUnit { xoffSince := some 0 }
    (s.pfcLevels 0 false).1 < 2 ^ 20 ∧ 1 < (s.pfcLevels 0 false).2 ∧ (s.pfcLevels 0 false).2 ≤ (s.pfcLevels 0 false).1 ∧
      ((s.portAt 0).cls false).xoffSince = some 0 ∧ ((s.portAt 0).cls false).silenced = false ∧
      0 + s.get Obj.pfcWatchdogTicks ≤ s.gtc ∧ ((s.portAt 0).cls false).pfcSent + 20000 ≤ s.gtc := by decide +kernel

/-! Witnesses of PacketsComplete -/

/-- One established peer connection, number 16,384, without a seal. -/
def aConn : Conn := { ctx := 16384, kind := 1, st := 2 }
def connUnit (c : Conn) : State := { unit [] with conns := [c] }
def aPacket (opcode : Nat) : Packet :=
  { port := 0, frameBytes := 64, icrcOk := true, rc := true, pkey := 0xFFFF, opcode := opcode, psn := 0, ackReq := false, key := 0, addr := 0
    length := 0, imm := none, syndrome := 0, payload := [], dscp := 0, sealed := none }
/-- The packet passes the checks before its sequence. -/
def admitted (s : State) (p : Packet) : Option (Conn × State) :=
  match admitPacket 16384 p s with
  | .go c t => some (c, t)
  | .done _ => none
theorem admits_of {s : State} {p : Packet} (h : (admitted s p).isSome = true) : ∃ c t, admitPacket 16384 p s = .go c t ∧
    admitted s p = some (c, t) := by
  unfold admitted at h ⊢
  cases he : admitPacket 16384 p s with
  | go c t => exact ⟨c, t, rfl, by simp⟩
  | done _ => simp [he] at h
theorem witness_admitted : ∀ o ∈ [4, 10, 12, 13, 17], let s := connUnit aConn
    s.netTested = false ∧ s.conn 16384 = some aConn ∧ aConn.st = 2 ∧ ((admitted s (aPacket o)).map fun x => (x.1.red, x.1.sprayMode, x.2.conn 16384)) =
      some (none, false, some { aConn with carried := s.gtc }) ∧ lengthsOk (aPacket o) = true := by decide +kernel
theorem witness_sequence : psnDist 0 aConn.ePsn = 0 ∧ psnAhead 0 ({ aConn with ePsn := 5 } : Conn).ePsn = false ∧ psnDist 0 5 ≠ 0 ∧
    psnAhead 0 ({ aConn with ePsn := psnMod - 1 } : Conn).ePsn = true := by decide +kernel
/-- A service connection and a staging region of slot 0, and a peer connection and a census export. -/
def windowUnit : State := { connUnit { aConn with kind := 2 } with
  regions := [{ index := 0, generation := 0, tag := 1, kind := .staging, base := 0, length := 4096, owner := 0, part := 0, content := [] }] }
def exportUnit : State := { connUnit aConn with
  regions := [{ index := 0, generation := 0, tag := 1, kind := .censusExport, base := 0, length := 4096, owner := 0, part := 0, content := zeros 4096 }] }
theorem witness_write : let p := { aPacket 10 with key := 1, length := 64, payload := zeros 64 }
    ((admitted windowUnit p).bind fun x => (x.2.meter x.1 p).map fun u => (u.checkAccess x.1 true 1 0 64).toOption.isSome &&
      (u.checkAccess x.1 true 2 0 64).toOption.isNone) = some true := by decide +kernel
theorem witness_read_request : let p := { aPacket 12 with key := 1, length := 64 }
    ((admitted exportUnit p).map fun x => (x.2.checkAccess x.1 false 1 0 64).toOption.any (fun r =>
      (regionContent x.2 r 0 64).isSome) && (x.2.checkAccess x.1 false 2 0 64).toOption.isNone && decide (x.1.readsAnswering < x.2.get Obj.readDepth)) =
      some true := by decide +kernel
theorem witness_read_response : let s := connUnit { aConn with readsOut := [{ firstPsn := 0, length := 64 }] }
    ((admitted s (aPacket 16)).bind fun x => (x.2.meter x.1 (aPacket 16)).map fun _ => x.1.readsOut) = some [{ firstPsn := 0, length := 64 }] ∧
      psnDist 0 0 < packetCount 64 := by decide +kernel
theorem witness_acknowledge : let s := connUnit { aConn with retries := 9, rnrRetries := 9 }
    (aPacket 17).syndrome < 32 ∧ ((admitted s { aPacket 17 with syndrome := 96 }).map fun x => (x.1.retries, x.1.rnrRetries)) = some (9, 9) ∧
      s.get Obj.retryLimit ≤ 9 ∧ 0 < s.get Obj.retryLimit ∧ s.get Obj.rnrRetryLimit = 7 := by decide +kernel
theorem witness_rnr_limit : let s := { unit [(Obj.rnrRetryLimit, 3)] with conns := [{ aConn with rnrRetries := 3 }] }
    ((admitted s { aPacket 17 with syndrome := 32 }).map fun x => ((x.2.bump Obj.rnrNaksReceived).get Obj.rnrRetryLimit, x.1.rnrRetries)) =
      some (3, 3) := by decide +kernel

/-! Witnesses of TransportTimersComplete -/

def timedConn : Conn :=
  { ctx := 16384, kind := 1, uid := 5, st := 2, sprayMode := true, oldest := some 0, rnrUntil := some (0, 0), gapSince := some 0,
    unacked := [{ opcode := 4, psn := 0 }], lastMessage := some (1, []), retryAt := some 0 }
def timedUnit (c : Conn) : State := { connUnit c with gtc := 10 ^ 12 }
theorem witness_timers : ∀ n ∈ [0, 9], let s := timedUnit { timedConn with retries := n, sends := n }
    s.conn 16384 = some { timedConn with retries := n, sends := n } ∧ 0 + s.get Obj.ackDelayTicks ≤ s.gtc ∧
      0 + s.get Obj.retransmitTimeoutTicks ≤ s.gtc ∧ 0 < s.get Obj.retryLimit ∧ s.get Obj.retryLimit ≤ 9 ∧
      0 + s.get Obj.reorderTimeoutTicks ≤ s.gtc ∧ 0 + s.get Obj.handshakeRetryTicks ≤ s.gtc ∧
      0 + s.get Obj.handshakeTimeoutTicks ≤ s.gtc := by decide +kernel
/-- Slot 0 READY with one consumer, whose connection is number 0. -/
def consumerUnit (c : Conn) : State :=
  { slotUnitAt [(inst Obj.jobState 0, 2)] { consumers := [{ address := 1, qpn := 2, key := 0, ringAddress := 0, ringSlots := 1, slotBytes := 64, dscp := 0 }] } with conns := [c], gtc := 10 ^ 12 }
theorem witness_needed : let c : Conn := { ctx := 0, kind := 0, slot := 0, consumer := 0, st := 1, retryAt := some 0 }
    (consumerUnit c).conn 0 = some c ∧ (consumerUnit c).connNeeded c = true ∧ (timedUnit { timedConn with kind := 2, st := 1 }).connNeeded
      { timedConn with kind := 2, st := 1 } = false := by decide +kernel
def drainUnit : State := { unit [] with gtc := 10 ^ 12, regions :=
  [{ index := 0, generation := 0, tag := 1, kind := .staging, base := 0, length := 4096, owner := 0, part := 0, content := [], revoking := some 0 }] }
theorem witness_drain : (drainUnit.regions.find? fun r => r.index == 0 && r.revoking.isSome).isSome = true ∧
    (drainUnit.regions.find? fun r => r.index == 0 && !r.overrun).map Region.revoking = some (some 0) ∧
    0 + drainUnit.get Obj.revokeDrainTicks ≤ drainUnit.gtc := by decide +kernel

/-! Witnesses of HandshakeMessagesComplete -/

theorem witness_messages : ∀ t ∈ [1, 2, 3, 4, 5, 6], reassemble (fragments t 7 (zeros 100)) = some (t, 7, zeros 100) := by decide +kernel
theorem witness_net_runs : (unit []).netRuns = true ∧ reassemble [] = none := by decide +kernel
/-- The parameters of a service connection. -/
def serviceParams : Bytes :=
  leBytes 1 1 ++ leBytes 1 2 ++ leBytes 2 0 ++ leBytes 1 0xFF ++ leBytes 1 16 ++ leBytes 2 0xFFFF ++ zeros 80
theorem witness_params : paramsLegal serviceParams = true ∧ pKind serviceParams = 2 ∧ pSeal serviceParams ≠ 1 ∧ paramsLegal [] = false ∧
    pSeal [] ≠ 1 := by decide +kernel
theorem witness_service : let s := unit [(Obj.serviceAdmissionKey, 5)]
    s.get Obj.serviceAdmissionKey ≠ 0 ∧ s.freeContext 2 = some 16384 ∧ s.conn 16384 = none ∧ (unit []).get Obj.serviceAdmissionKey = 0 ∧
      (unit [(Obj.serviceConnectionsMax, 0)]).freeContext 2 = none ∧ s.conns = [] := by decide +kernel
def tried (initiator : Bool) (st : Nat) : Conn :=
  { ctx := 16384, kind := 2, st := st, initiator := initiator, attempt := 7, address := 9, lastMessage := some (2, []) }
theorem witness_attempts : ((connUnit (tried false 1)).conns.find? fun c => !c.initiator && c.attempt == 7 && c.address == 9 && c.st == 1) =
      some (tried false 1) ∧
    ((connUnit (tried true 1)).conns.find? fun c => c.initiator && c.attempt == 7 && c.address == 9 && c.st == 1) = some (tried true 1) ∧
    ((connUnit (tried true 2)).conns.find? fun c => c.attempt == 7 && c.address == 9 && c.st == 2) = some (tried true 2) := by decide +kernel
theorem take_digest (b : Bytes) : (digest b).take 32 = digest b := List.take_of_length_le (by simp)
theorem nil_ne_digest (b : Bytes) : ([] : Bytes).take 32 ≠ digest b := by
  intro h
  have := congrArg List.length h
  simp at this
theorem witness_macs (m : Bytes) : (macI m).take 32 = macI m ∧ (macF m).take 32 = macF m ∧ ([] : Bytes).take 32 ≠ macI m ∧
    ([] : Bytes).take 32 ≠ macF m ∧ slice 4 32 (zeros 4 ++ macC m (zeros 2)) = macC m ((zeros 4 ++ macC m (zeros 2)).take 2) ∧
    slice 4 32 [] ≠ macC m (([] : Bytes).take 2) :=
  ⟨take_digest _, take_digest _, nil_ne_digest _, nil_ne_digest _, take_digest _, nil_ne_digest _⟩

/-! Witnesses of TrafficCommandsComplete -/

/-- Port 0 UP with a run of CONTROL frames, and an established peer connection with one packet queued in a class. -/
def egressUnit (run : Nat) (control onList : Bool) : State :=
  let p : OutPacket := { opcode := if control then 0x11 else 0x0A, psn := 0 }
  { unit [(inst Obj.portState 0, 2)] with
    ports := { controlRun := run, active := if onList then [16384] else [] } :: List.replicate 15 {}, gtc := 10 ^ 12
    conns := [{ ctx := 16384, kind := 1, uid := 5, st := 2, port := 0, ctlQ := if control then [p] else [], dataQ := if control then [] else [p]
                onList := if onList then some 0 else none }] }
theorem witness_send_control : let s := egressUnit 0 true false
    (s.sendControl 0).isSome = true ∧ s.dataWaits 0 = false := by decide +kernel
theorem witness_send_data : let s := egressUnit 0 false true
    (s.sendControl 0).isNone = true ∧ s.dataWaits 0 = true ∧ (s.portAt 0).controlRun < s.get Obj.controlGuardFrames ∧
      (State.visit 0 2 s).isSome = true := by decide +kernel
theorem witness_guard : let s := egressUnit 99 false true
    s.dataWaits 0 = true ∧ s.get Obj.controlGuardFrames ≤ (s.portAt 0).controlRun ∧
      (State.visit 0 2 (s.bump (inst Obj.portGuardGrants 0))).isSome = true := by decide +kernel
theorem witness_control_first : let s := egressUnit 0 false true
    let s := { s with conns := s.conns ++ [({ ctx := 16385, kind := 2, st := 2, port := 0, ctlQ := [{ opcode := 0x11, psn := 0 }] } : Conn)] }
    (s.sendControl 0).isSome = true ∧ s.dataWaits 0 = true ∧ (s.portAt 0).controlRun < s.get Obj.controlGuardFrames := by decide +kernel
theorem witness_idle_port : ((unit []).sendControl 0).isNone = true ∧ (unit []).dataWaits 0 = false ∧ (State.visit 0 1 (unit [])).isNone = true := by
  decide +kernel
theorem witness_rejoin : let s := egressUnit 0 false false
    ((s.conn 16384).map (fun c => (c.onList, s.nextPort c, c.dataQ.map fun p => (s.eligible c p 0, s.released c p))) =
      some (none, some 0, [(true, true)])) ∧ s.classOpen 0 false = true := by decide +kernel
theorem witness_shaped : let s := { egressUnit 0 false false with dict := putKey Obj.peerShaperProfile 0 (egressUnit 0 false false).dict }
    (s.conn 16384).map (fun c => c.dataQ.map fun p => (s.eligible c p 0, s.released c p)) = some [(false, true)] := by decide +kernel
theorem witness_profiles : ∀ v ∈ [0, 5000], writeAbort (unit []) (shaperKey 1 0) v = none ∧ writeAbort (unit []) (policerKey 2 0) v = none := by
  decide +kernel
theorem witness_profile_bursts : writeAbort (unit []) (shaperKey 2 0) 4278 = none ∧ writeAbort (unit []) (policerKey 3 0) 4258 = none := by
  decide +kernel
theorem witness_profile_refused : let s := egressUnit 0 false false
    let t := { s with dict := putKey Obj.peerShaperProfile 0 (putKey Obj.peerPolicerProfile 0 s.dict) }
    writeAbort t (shaperKey 1 0) 0 = none ∧ (t.conns.filter fun c => t.shaperOf c == 0) ≠ [] ∧
      writeAbort t (policerKey 2 0) 0 = none ∧ (t.conns.filter fun c => t.policerOf c == 0) ≠ [] ∧
      (let u := unit [(policerKey 1 0, 1), (policerKey 2 0, 1000)]
       writeAbort u (policerKey 5 0) 999 = none ∧ u.get (policerKey 1 0) = 1 ∧ 999 < u.get (policerKey 2 0)) := by decide +kernel
theorem witness_keepalive : let s := egressUnit 0 false false
    ((s.conn 16384).map (fun c => (c.kind, c.st)) = some (1, 2)) ∧ 0 + s.get Obj.keepaliveTicks ≤ s.gtc := by decide +kernel

/-! Witnesses of CollectiveAbortCommandsComplete -/

/-- An ABORT of slot 0 as it arrives (type 1), or its ACK (type 2). -/
def abortBytes (type : Nat) : Bytes :=
  bytesOf [0x5A, 0x41, 0x42, 0x31] ++ leBytes 1 type ++ leBytes 1 0 ++ leBytes 2 0x7824 ++ leBytes 8 5 ++ leBytes 16 9 ++ leBytes 4 1 ++
    leBytes 2 0 ++ leBytes 1 0xFF ++ zeros 1 ++ leBytes 8 noRef ++ leBytes 2 0 ++ zeros 6 ++ leBytes 8 0 ++ leBytes 16 0
theorem witness_abort_messages : abortLegal (abortBytes 1) = true ∧ byteAt (abortBytes 1) 4 = 1 ∧ (slotUnit {}).running 0 = true ∧
    byteAt (abortBytes 1) 5 = 0 ∧ abortLegal (abortBytes 2) = true ∧ byteAt (abortBytes 2) 4 = 2 ∧ abortLegal [] = false := by decide +kernel
theorem witness_step_abort : Accepts (slotUnit {}) (inst Obj.stepCommand 0) 1 ∧
    (slotUnit {}).running 0 = true ∧ (slotUnit {}).stepState 0 ≠ 1 :=
  ⟨accepted (by decide +kernel), by decide +kernel⟩
theorem witness_step_abort_refused : Accepts (unit []) (inst Obj.stepCommand 0) 1 ∧
    (unit []).running 0 = false := ⟨accepted (by decide +kernel), by decide +kernel⟩
/-- A job of this node and another. -/
def pairJob : Job :=
  { nodes := [({ uid := myUid, address := 1 } : NodeRec), ({ uid := myUid + 1, address := 2 } : NodeRec)] }
theorem witness_member_timeout : let s := { slotUnit pairJob with gtc := 10 ^ 12 }
    myUid + 1 ∈ s.others 0 ∧ s.silentSince 0 (myUid + 1) = some 0 ∧ 0 + s.get Obj.memberTimeoutTicks ≤ s.gtc ∧ s.running 0 = true ∧
      s.stepState 0 ≠ 1 := by
  refine ⟨?_, by decide +kernel, by decide +kernel, by decide +kernel, by decide +kernel⟩
  simp [State.others, State.members, Job.membersUnder, Job.uids, pairJob, standIn, slotUnit, slotUnitAt, State.job, State.slot]
/-- Slot 0 HALTED by an abort of this node, which member 7 has not acknowledged. -/
def raisedUnit : State :=
  { slotUnitAt [(inst Obj.stepState 0, 1)] {} with
    gtc := 10 ^ 9
    slots := [{ job := some {}, raised := some { (abortOf (abortBytes 1)) with raiser := myUid }, unacked := [7] }] }
theorem witness_abort_probe : raisedUnit.running 0 = true ∧ raisedUnit.stepState 0 = 1 ∧ (raisedUnit.slot 0).raised.isSome = true ∧
    (raisedUnit.slot 0).unacked ≠ [] ∧ (raisedUnit.slot 0).lastProbe + raisedUnit.get Obj.abortRepeatTicks ≤ raisedUnit.gtc := by
  decide +kernel
theorem witness_engine_fault :
    let s := { slotUnit {} with items := [{ anItem with engine := some (1, 0) }] }
    (s.item 0).map (fun it => (it.engine, it.waitOut, it.prepared)) = some (some (1, 0), none, false) ∧ (s.kernel 0).isNone = true := by
  decide +kernel
theorem witness_pier_fault : let s := { slotUnit {} with items := [anItem], kernels := [{ entry := 0, pier := 0, since := 0, regs := ⟨0, [], [], [], 0, 0, 0, 0, 0, 0⟩ }] }
    (s.item 0).isSome = true ∧ (s.kernel 0).isSome = true := by decide +kernel

/-! Witnesses of ReplayAndMembershipComplete -/

/-- The digest of no bytes, as an object holds it. -/
theorem digest_of_nothing : digestNat [] = 21468664885170662639985957090336418708702569955620632736621138429888230701382 := by
  unfold digestNat
  rw [digest_nothing]
  decide +kernel
/-- A HALTED slot 0 of nodes 5 and 6, whose conditions for a resume hold: the tick is 2,000,000 and the digest that of an empty
list. -/
def haltedUnit (l : List (Nat × Nat)) : State :=
  slotUnitAt ([(inst Obj.stepState 0, 1), (Obj.syncState, 3), (inst Obj.resumeTick 0, 10 ^ 9),
    (inst Obj.expectedMembershipDigest 0, 21468664885170662639985957090336418708702569955620632736621138429888230701382)] ++ l)
    { nodes := [({ uid := 5, address := 1 } : NodeRec), ({ uid := 6, address := 2 } : NodeRec)], epochCount := 1
      tags := [({ tray := 3, shelf := 0, loop := 0, switch := 0 } : TagRec), ({ tray := 4, shelf := 0, loop := 0, switch := 0 } : TagRec)]
      shards := [{ objectId := 7, first := 0, count := 1, format := 0, primary := 0, alternates := [] }] }
theorem digest_matches (s : State) (h : (s.slot 0).pendingList = [])
    (g : s.get (inst Obj.expectedMembershipDigest 0) = 21468664885170662639985957090336418708702569955620632736621138429888230701382) :
    s.membershipDigest 0 = s.get (inst Obj.expectedMembershipDigest 0) := by
  rw [g]
  unfold State.membershipDigest
  rw [h]
  exact digest_of_nothing
/-- The same slot READY. -/
def readyUnit : State :=
  let s := haltedUnit []
  { s with dict := putKey (inst Obj.jobState 0) 2 s.dict }
theorem witness_resume : let s := haltedUnit []
    Accepts s (inst Obj.stepCommand 0) 2 ∧ s.running 0 = true ∧ s.stepState 0 = 1 ∧
      s.membershipDigest 0 = s.get (inst Obj.expectedMembershipDigest 0) ∧ s.get (inst Obj.replayEpoch 0) = 0 ∧
      (s.job 0).streams = [] ∧ s.get (inst Obj.resumeTick 0) % s.get Obj.sliceTicks = 0 ∧
      s.gtc + s.get Obj.launchLeadMin ≤ s.get (inst Obj.resumeTick 0) ∧ s.synced = true ∧ s.get (inst Obj.resumeCorruptPolicy 0) ≠ 2 :=
  ⟨accepted (by decide +kernel), by decide +kernel, by decide +kernel, digest_matches _ (by decide +kernel) (by decide +kernel), by decide +kernel⟩
theorem witness_resume_shards : ∀ sh ∈ ((haltedUnit []).job 0).shards, ∃ n ∈ sh.primary :: sh.alternates, ∃ x,
    ((haltedUnit []).job 0).nodes[n]? = some x ∧ standIn ((haltedUnit []).slot 0).pendingList x.uid ≠ 0 := by
  simp [haltedUnit, slotUnitAt, State.job, State.slot, standIn]
theorem witness_resume_refused : let s := slotUnit {}
    Accepts s (inst Obj.stepCommand 0) 2 ∧ s.stepState 0 ≠ 1 ∧ s.resumeFault 0 false ≠ 0 ∧ Accepts s (inst Obj.stepCommand 0) 3 ∧
      s.resumeFault 0 true ≠ 0 := ⟨accepted (by decide +kernel), by decide +kernel, by decide +kernel, accepted (by decide +kernel), by decide +kernel⟩
theorem witness_join : let s := readyUnit
    Accepts s (inst Obj.stepCommand 0) 3 ∧ s.jobState 0 = 2 ∧ s.get (inst Obj.expectedDigest 0) = s.get (inst Obj.manifestDigest 0) ∧
      s.membershipDigest 0 = s.get (inst Obj.expectedMembershipDigest 0) ∧ s.gtc + s.get Obj.launchLeadMin ≤ s.get (inst Obj.resumeTick 0) ∧
      s.synced = true :=
  ⟨accepted (by decide +kernel), by decide +kernel, by decide +kernel, digest_matches _ (by decide +kernel) (by decide +kernel), by decide +kernel⟩
theorem witness_cancel : let s := haltedUnit [(inst Obj.stepState 0, 2)]
    Accepts s (inst Obj.stepCommand 0) 4 ∧ s.stepState 0 = 2 ∧ s.gtc < s.get (inst Obj.resumeTick 0) :=
  ⟨accepted (by decide +kernel), by decide +kernel⟩
theorem witness_cancel_refused : Accepts (haltedUnit []) (inst Obj.stepCommand 0) 4 ∧ (haltedUnit []).stepState 0 ≠ 2 :=
  ⟨accepted (by decide +kernel), by decide +kernel⟩
theorem witness_resume_tick : let s := { haltedUnit [(inst Obj.stepState 0, 2)] with gtc := 10 ^ 9 }
    s.stepState 0 = 2 ∧ s.get (inst Obj.resumeTick 0) ≤ s.gtc ∧ s.running 0 = true := by decide +kernel
theorem witness_start_spare : let s := { unit [(inst Obj.stepState 0, 2), (inst Obj.jobState 0, 3)] with slots := [{ joined := true }] }
    s.stepState 0 = 2 ∧ s.get (inst Obj.resumeTick 0) ≤ s.gtc ∧ s.jobState 0 = 3 ∧ (s.slot 0).joined = true := by decide +kernel
theorem witness_member_commands : let s := haltedUnit [(inst Obj.memberDomainValue 0, 4)]
    (∀ v ∈ [1, 2, 3], writeAbort s (inst Obj.memberCommand 0) v = none ∧ writeAbort (slotUnit {}) (inst Obj.memberCommand 0) v = none) ∧
      s.stepState 0 = 1 ∧ 0 < s.get (inst Obj.memberDomainValue 0) ∧ (slotUnit {}).stepState 0 ≠ 1 ∧ (slotUnit {}).jobState 0 ≠ 2 := by
  decide +kernel
theorem witness_replace :
    let s := { haltedUnit [(inst Obj.memberOldUid 0, 5), (inst Obj.memberNewUid 0, 6)] with
      slots := [{ job := some { nodes := [({ uid := 5, address := 1 } : NodeRec)] } }] }
    Accepts s (inst Obj.memberCommand 0) 1 ∧ s.stepState 0 = 1 ∧ s.get (inst Obj.memberOldUid 0) ∈ (s.job 0).uids ∧
      s.get (inst Obj.memberNewUid 0) ∉ s.members 0 ∧ (s.slot 0).pendingList = [] := ⟨accepted (by decide +kernel), by decide +kernel⟩
theorem witness_replace_unknown : let s := haltedUnit []
    s.stepState 0 = 1 ∧ s.get (inst Obj.memberOldUid 0) ∉ (s.job 0).uids ∧ (slotUnit {}).get (inst Obj.memberOldUid 0) ∉ ((slotUnit {}).job 0).uids := by decide +kernel

/-! Witnesses of BootSequenceComplete -/

/-- A unit in a boot state, with power good. -/
def bootUnit (state : Nat) (l : List (Nat × Nat)) : State :=
  let s := unit l
  { s with dict := putKey Obj.bootState state s.dict, power := { s.power with pwrgd := true } }
theorem witness_reset_release : let s := bootUnit 0 []
    s.get Obj.bootState = 0 ∧ s.power.pwrgd = true ∧ s.power.failN = true ∧ s.power.halted = false := by decide +kernel
/-- An image of an empty body, with its digest and one without. -/
def bodyImage (good : Bool) : Bytes :=
  zeros 0x18 ++ (if good then leBytes 32 21468664885170662639985957090336418708702569955620632736621138429888230701382 else zeros 32)
theorem witness_body_read (good : Bool) : let s := (bootUnit 2 []).modBoot fun b => { b with slot := some (bodyImage good) }
    s.get Obj.bootState = 2 ∧ s.boot.released = none ∧ imageDigestOk s.slotImage = good := by
  refine ⟨by cases good <;> decide +kernel, rfl, ?_⟩
  show imageDigestOk (bodyImage good) = good
  have h : imageBody (bodyImage good) = [] := by cases good <;> decide +kernel
  unfold imageDigestOk
  rw [h, digest_nothing]
  cases good <;> decide +kernel
/-- The HUB released, and nothing under measurement. -/
def releasedUnit (l : List (Nat × Nat)) : State :=
  { bootUnit 2 l with boot := { released := some 0 }, gtc := 60000000000 }
theorem witness_hub_alive : let s := releasedUnit [(Obj.startupSelftest, 0)]
    s.get Obj.bootState = 2 ∧ s.boot.released = some 0 ∧ s.boot.dead = false ∧ s.power.measuring = none ∧
      (s.startUp { partitions := [], rows := [], fuses := [], channels := [] }).boot.dead = false := by decide +kernel
theorem witness_hub_dead : let s := releasedUnit [(Obj.startupSelftest, 1)]
    (s.startUp { partitions := [(1, islandPartitions 1 - 1)], rows := [], fuses := [], channels := [] }).boot.dead = true := by decide +kernel
theorem witness_watchdog : let s := releasedUnit []
    s.boot.released = some 0 ∧ 0 + 60000000000 ≤ s.gtc := by decide +kernel

/-! Witnesses of RecoveryComplete -/

/-- ROM recovery with port 0 up, at a tick, with a transfer of 20,480 bytes from server 9 where one is given. -/
def recoveryUnit (t : Option RecoveryTransfer) : State :=
  { unit [(Obj.bootState, 1), (inst Obj.portState 0, 2)] with gtc := 10 ^ 11, boot := { attemptSince := some 0, transfer := t } }
/-- A transfer that has the bytes from a place to its end, and the DATA since the last acknowledgement. -/
def aTransfer (n unacked : Nat) : RecoveryTransfer :=
  { server := 9, length := 20480, digest := 0, last := 0, pieces := [(n, zeros (20480 - n))], unacked := unacked, acked := false }
theorem witness_recovery : let s := recoveryUnit none
    s.get Obj.bootState = 1 ∧ 2 ≤ s.get (inst Obj.portState 0) ∧ s.recoveryBusy = false ∧ s.boot.attemptSince = some 0 ∧
      0 + attemptTicks (min (s.get Obj.recoveryAttempts) 7) ≤ s.gtc ∧ s.boot.beacons < 10 ∧
      0 + s.boot.beacons * 1000000000 ≤ s.gtc := by decide +kernel
theorem witness_recovery_link : let s := { unit [(Obj.bootState, 1), (inst Obj.portState 0, 1)] with gtc := 10 ^ 11 }
    s.get Obj.bootState = 1 ∧ s.get (inst Obj.portState 0) < 2 ∧ s.boot.phySince + 5000000000 ≤ s.gtc := by decide +kernel
theorem witness_data_ends :
    let whole (n k : Nat) : RecoveryTransfer := { aTransfer n k with pieces := [(n, zeros (20480 - n)), (0, zeros 4096)] }
    (whole 4096 1).count = 20480 ∧ (whole 4096 16).count = 20480 ∧ (whole 8192 1).count ≠ 20480 ∧ (whole 8192 16).count ≠ 20480 ∧
      (zeros 4096).length = 4096 ∧ 0 + 4096 ≤ (aTransfer 4096 0).length := by decide +kernel
theorem witness_data : let s := recoveryUnit (some (aTransfer 4096 0))
    s.get Obj.bootState = 1 ∧ s.boot.transfer.isSome = true ∧ (aTransfer 4096 0).acked = false ∧ (aTransfer 4096 0).last + 5000000000 ≤ s.gtc := by
  decide +kernel

/-! Witnesses of FirmwareCommandsComplete -/

/-- A running unit with an image under check or staged, in an FwState. -/
def fwUnit (state boot : Nat) (l : List (Nat × Nat)) : State :=
  let s := unit ([(Obj.fwState, state), (Obj.storeState, 2), (Obj.fwSourceObject, 7)] ++ l)
  { s with dict := putKey Obj.bootState boot s.dict, boot := { checking := some [], staged := some [] } }
theorem witness_stage : let s := fwUnit 0 3 []
    (∀ v ∈ [1, 2, 3, 4, 5], writeAbort s Obj.fwCommand v = none) ∧ s.get Obj.fwState ≠ 1 ∧ s.get Obj.fwState ≠ 3 ∧ s.get Obj.bootState ≠ 1 ∧
      s.sealedObject (s.get Obj.fwSourceObject) = none ∧
      ({ s with store := { objects := [{ object := 7, st := 2 }] } } : State).sealedObject (s.get Obj.fwSourceObject) = some [] := by decide +kernel
theorem witness_install : let s := fwUnit 2 3 []
    writeAbort s Obj.fwCommand 3 = none ∧ s.get Obj.fwState = 2 ∧ s.boot.staged.isSome = true ∧ s.allEmpty = true ∧ s.isolated = [] ∧
      writeAbort { s with isolated := [1] } Obj.fwCommand 3 = none ∧
      s.boot.checking = some [] := by decide +kernel
theorem witness_installing : ∀ boot ∈ [1, 3], (fwUnit 3 boot []).boot.staged = some [] ∧ (fwUnit 3 boot []).get Obj.fwState = 3 ∧
    (fwUnit 3 boot []).get Obj.bootState = boot := by decide +kernel
theorem witness_reboot : let s := fwUnit 0 3 []
    writeAbort s Obj.fwCommand 4 = none ∧ s.get Obj.fwState ≠ 1 ∧ s.get Obj.fwState ≠ 3 ∧ s.allEmpty = true ∧ s.get Obj.bootState = 3 ∧
      s.isolated = [] ∧ writeAbort { s with isolated := [1] } Obj.fwCommand 4 = none := by decide +kernel
theorem witness_fw_busy : ∀ n ∈ [1, 3], (∀ v ∈ [1, 2, 3, 4], writeAbort (fwUnit n 3 []) Obj.fwCommand v = none) ∧ (fwUnit n 3 []).get Obj.fwState = n := by
  decide +kernel
theorem witness_fw_slots : let s := fwUnit 0 3 [(inst Obj.jobState 5, 2)]
    (∀ v ∈ [3, 4], writeAbort s Obj.fwCommand v = none) ∧ s.allEmpty = false := by decide +kernel
theorem witness_commit_early : writeAbort (fwUnit 0 1 []) Obj.fwCommand 5 = none ∧ (fwUnit 0 1 []).get Obj.bootState ≠ 3 := by decide +kernel

/-! Witnesses of IdentityCommandsComplete -/

theorem witness_bind : let s := unit [(Obj.identityState, 2)]
    writeAbort s Obj.securityCommand 1 = none ∧ s.get Obj.identityState = 2 ∧ s.get Obj.bindingCount < 16 ∧
      [2 ^ 32 - 1, 0].find? (fun c => decide (c < bindingIndexes)) = some 0 ∧ ([] : List Nat).find? (fun c => decide (c < bindingIndexes)) = none := by
  decide +kernel
theorem witness_bind_refused : ∀ l ∈ [[(Obj.identityState, 1)], [(Obj.identityState, 2), (Obj.bindingCount, 16)]],
    writeAbort (unit l) Obj.securityCommand 1 = none ∧
      ((unit l).get Obj.identityState ≠ 2 ∧ (unit l).get Obj.identityState ≠ 5 ∨ 16 ≤ (unit l).get Obj.bindingCount) := by decide +kernel
/-- A unit with an identity, the next per-boot index and, where one is given, a quote in course. -/
def identityUnit (next : Nat) (quoting : Bool) : State :=
  { unit [(Obj.identityState, 1)] with boot := { nextIndex := next, quoting := if quoting then some ([], 1) else none } }
theorem witness_quote : ∀ n ∈ [1, 65535, 65536], writeAbort (identityUnit n false) Obj.quoteCommand 1 = none ∧
    (identityUnit n false).boot.quoting = none ∧ (identityUnit n false).get Obj.identityState = 1 ∧ (identityUnit n false).boot.nextIndex = n := by
  decide +kernel
theorem witness_quote_busy : writeAbort (identityUnit 2 true) Obj.quoteCommand 1 = none ∧ (identityUnit 2 true).boot.quoting = some ([], 1) ∧
    writeAbort (unit []) Obj.quoteCommand 1 = none ∧ (unit []).boot.quoting = none ∧ (unit []).get Obj.identityState ≠ 1 ∧
    writeAbort (unit []) Obj.measureCommand 1 = none := by decide +kernel
/-- A unit whose list of revoked UIDs holds `n` entries 0, and whose RevokeUid is given. -/
def revokeUnit (n uid : Nat) : State := (unit [(Obj.revokeUid, uid)]).setBlob Obj.revokedUids (zeros (16 * n))
theorem witness_revoke : (∀ v ∈ [1, 2, 3], writeAbort (revokeUnit 1 7) Obj.revokeCommand v = none) ∧ (revokeUnit 1 7).get Obj.revokeUid = 7 ∧
    (revokeUnit 1 7).revokedList = [0] := by decide +kernel
theorem witness_revoke_listed : (∀ v ∈ [1, 2], writeAbort (revokeUnit 1 0) Obj.revokeCommand v = none) ∧ (revokeUnit 1 0).get Obj.revokeUid = 0 ∧
    (revokeUnit 1 0).revokedList = [0] := by decide +kernel
theorem witness_revoke_full : writeAbort (revokeUnit 256 7) Obj.revokeCommand 1 = none ∧ (revokeUnit 256 7).get Obj.revokeUid = 7 ∧
    (revokeUnit 256 7).revokedList.length = 256 ∧ 7 ∉ (revokeUnit 256 7).revokedList := by
  have h : (revokeUnit 256 7).blob Obj.revokedUids = zeros 4096 := by rw [revokeUnit, State.blob_setBlob, if_pos rfl]
  have z : ∀ n, leNat (zeros n) = 0 := fun n => by
    induction n with
    | zero => rfl
    | succ n ih =>
      show (0 : Nat) + 256 * leNat (zeros n) = 0
      rw [ih]
  refine ⟨by decide +kernel, by decide +kernel, ?_, ?_⟩ <;> unfold State.revokedList <;> rw [h]
  · simp [zeros]
  · intro hm
    obtain ⟨i, -, hi⟩ := List.mem_map.mp hm
    have : field (zeros 4096) (16 * i) 16 = 0 := by
      have e : slice (16 * i) 16 (zeros 4096) = zeros (min 16 (4096 - 16 * i)) := by
        unfold slice zeros
        rw [List.drop_replicate, List.take_replicate]
      rw [field, e, z]
    omega

/-! Witnesses of BusControlComplete -/

/-- A CONTROL frame of the manager to an address. -/
def controlFrame (dest : Nat) (payload : Bytes) : BusFrame :=
  { fd := true, extended := true, remote := false, function := 0, dest := dest, src := 0, tag := 0, payload := payload }
theorem witness_control_frames : frameLegal (controlFrame 127 (leBytes 12 257)) = true ∧
    controlOp 1 [(1, 1)] (leBytes 12 257) = true ∧ byteAt (leBytes 12 257) 1 = 1 ∧
    controlOp 1 [(1, 1)] (leBytes 12 (256 * 120 + 1)) = true ∧ byteAt (leBytes 12 (256 * 120 + 1)) 1 = 120 ∧
    controlOp 2 [(1, 1)] (leBytes 12 2) = true ∧ byteAt (leBytes 12 2) 1 = 0 ∧
    controlOp 3 [(4, 4)] (leBytes 12 (2 ^ 32 * 5000000 + 3)) = true ∧ field (leBytes 12 (2 ^ 32 * 5000000 + 3)) 4 4 = 5000000 ∧
    controlOp 5 [] (leBytes 12 5) = true := by decide +kernel
theorem witness_event_ack : let s := unit [(Obj.busAddress, 7)]
    s.bus.busOff = false ∧ frameLegal (controlFrame 7 (leBytes 12 (2 ^ 16 + 4))) = true ∧ 7 = s.get Obj.busAddress ∧
      controlOp 4 [(2, 2)] (leBytes 12 (2 ^ 16 + 4)) = true ∧ field (leBytes 12 (2 ^ 16 + 4)) 2 2 = 1 := by decide +kernel
theorem witness_frame_for_another : frameLegal (controlFrame 9 (leBytes 12 (2 ^ 16 + 4))) = true ∧ 9 ≠ (unit [(Obj.busAddress, 7)]).get Obj.busAddress ∧
    frameLegal (controlFrame 0 []) = false := by decide +kernel
/-- A CLAIM of another unit under address 3. -/
def claimFrame : BusFrame :=
  { fd := true, extended := true, remote := false, function := 2, dest := 127, src := 3, tag := 0, payload := leBytes 32 1 }
/-- A unit on a walk whose NEXT is 3, with its own claim sent or not. -/
def walkUnit (claimed : Bool) : State := (unit []).modBus fun b => { b with next := 3, walkTick := some 0, claimTick := if claimed then some 0 else none }
theorem witness_claim_received : ∀ c : Bool, (walkUnit c).bus.busOff = false ∧ frameLegal claimFrame = true ∧ claimFrame.function = 2 ∧
    byteAt claimFrame.payload 0 = 1 ∧ (walkUnit c).bus.walkTick.isSome = true ∧ claimFrame.src = (walkUnit c).bus.next ∧
    (walkUnit c).bus.claimTick.isSome = c := by decide +kernel
theorem witness_rate_switch : let s := (unit []).modBus fun b => { b with rateSwitch := some (4000000, 0) }
    s.bus.rateSwitch = some (4000000, 0) ∧ 0 ≤ s.gtc := by decide +kernel
theorem witness_bus_off : let s := (unit []).modBus fun b => { b with busOff := true }
    s.bus.busOff = true := rfl

/-! Witnesses of DictionaryProtocolComplete -/

/-- A REQUEST for transfer 1 to address 7, with bytes from OFFSET on. -/
def requestFrame (command key len : Nat) (data : Bytes) : BusFrame :=
  { fd := true, extended := true, remote := false, function := 3, dest := 7, src := 0, tag := 1
    payload := leBytes 1 command ++ leBytes 1 1 ++ leBytes 2 (key / 256) ++ leBytes 1 (key % 256) ++ zeros 3 ++ leBytes 4 len ++ zeros 4 ++ data }
/-- A unit addressed 7, with transfers open. -/
def busUnit (l : List Transfer) : State :=
  (unit [(Obj.busAddress, 7), (Obj.busAddressState, 1), (Obj.powerState, 1)]).modBus fun b => { b with transfers := l }
/-- An open transfer. -/
def openOne (num : Nat) (sv : Service) : Transfer :=
  { num := num, service := sv, key := 0, offset := 0, length := 100, crc := 0, data := [], next := 0, block := 0, blockFrames := 4, last := 0 }
/-- A request as the unit takes it. -/
def comesTo (s : State) (f : BusFrame) (need c : Nat) : Bool :=
  !s.bus.busOff && frameLegal f && f.dest == s.get Obj.busAddress && f.function == 3 && s.get Obj.busAddressState == 1 &&
    decide (need ≤ f.payload.length) && (requestOf f.payload).num == f.tag && (requestOf f.payload).command == c && !reservedSet f.payload
theorem witness_request_unknown : comesTo (busUnit []) (requestFrame 9 Obj.bootState 0 (zeros 8)) 24 9 = true ∧
    (requestOf (requestFrame 9 Obj.bootState 0 (zeros 8)).payload).command = 9 := by decide +kernel
theorem witness_request_open : ∀ c ∈ [1, 2, 3, 4, 5, 6, 7], comesTo (busUnit [openOne 1 .segRead]) (requestFrame c Obj.bootState 0 (zeros 8)) 24 c = true ∧
    ((busUnit [openOne 1 .segRead]).transfer 1).isSome = true := by decide +kernel
/-- The outcome of READ of an object: its length, or the code. -/
def readLength (k off len : Nat) : Nat :=
  let t := (busUnit []).bump Obj.busFramesReceived
  match readObject t k off len with
  | .ok _ => (t.valueOf k).length
  | .error e => 1000 + e.1
theorem witness_bdp_read : comesTo (busUnit []) (requestFrame 1 Obj.bootState 0 []) 16 1 = true ∧ (busUnit []).transfer 1 = none ∧
    readLength Obj.bootState 0 0 = 1 ∧ 1000 < readLength 1 0 0 ∧ 1000 < readLength Obj.fwCommand 0 0 := by decide +kernel
theorem witness_bdp_read_long : let s := (busUnit []).setBlob Obj.quote (zeros 100)
    let t := s.bump Obj.busFramesReceived
    comesTo s (requestFrame 1 Obj.quote 0 []) 16 1 = true ∧ s.transfer 1 = none ∧ (accessRead t Obj.quote).isNone = true ∧
      48 < (t.valueOf Obj.quote).length := by decide +kernel
theorem witness_bdp_write : let t := (busUnit []).bump Obj.busFramesReceived
    comesTo (busUnit []) (requestFrame 2 Obj.ptpDomain 1 [1]) 16 2 = true ∧ requestAbort t (some .expedited) Obj.ptpDomain 0 1 = none ∧
      requestAbort t (some .expedited) Obj.bootState 0 1 ≠ none ∧ ([1] : Bytes).length = 1 := by decide +kernel
theorem witness_open_write : let t := (busUnit []).bump Obj.busFramesReceived
    comesTo (busUnit []) (requestFrame 3 Obj.fwImage 100 (zeros 8)) 24 3 = true ∧ comesTo (busUnit []) (requestFrame 5 Obj.fwImage 100 (zeros 8)) 24 5 = true ∧
      requestAbort t (some .segmented) Obj.fwImage 0 100 = none ∧ requestAbort t (some .staged) Obj.fwImage 0 100 = none ∧
      requestAbort t (some .staged) Obj.bootState 0 100 ≠ none ∧ (busUnit []).transferRoom .stageWrite = true ∧
      (busUnit [openOne 2 .stageRead]).transferRoom .stageWrite = false ∧ (busUnit [openOne 2 .stageRead]).transfer 1 = none := by decide +kernel
theorem witness_open_read : let t := (busUnit []).bump Obj.busFramesReceived
    comesTo (busUnit []) (requestFrame 4 Obj.fwImage 100 (zeros 8)) 24 4 = true ∧ comesTo (busUnit []) (requestFrame 6 Obj.fwImage 100 (zeros 8)) 24 6 = true ∧
      (busUnit []).transferRoom .stageRead = true ∧ ((findRow Obj.faultLog).map fun x => x.ty.isDomain).getD false = true ∧
      readLength Obj.faultLog 0 100 < 1000 ∧ 1000 < readLength 1 0 100 ∧ t.get Obj.powerState = 1 := by decide +kernel
theorem witness_bdp_timeout : let s : State := { busUnit [openOne 1 .segRead] with gtc := 10 ^ 12 }
    s.transfer 1 = some (openOne 1 .segRead) ∧ (openOne 1 .segRead).last + s.get Obj.bdpTimeoutTicks ≤ s.gtc := by decide +kernel

/-! Witnesses of TransferDataComplete -/

/-- A frame of the manager to the broadcast address. -/
def dataFrame (function tag : Nat) (payload : Bytes) : BusFrame :=
  { fd := true, extended := true, remote := false, function := function, dest := 127, src := 0, tag := tag, payload := payload }
/-- Transfer 1, of a service and a length. -/
def transferOf (sv : Service) (len : Nat) (data : Bytes) : Transfer :=
  { num := 1, service := sv, key := Obj.fwImage, offset := 0, length := len, crc := 0, data := data, next := 0, block := 0, blockFrames := 2, last := 0 }
def transferUnit (x : Transfer) : State := (unit []).modBus fun b => { b with transfers := [x] }
theorem witness_data_frames : (∀ f ∈ [dataFrame 5 0 (leBytes 8 (256 + 1)), dataFrame 4 1 (leBytes 16 256), dataFrame 6 0 (zeros 64), dataFrame 6 1 (zeros 64),
    dataFrame 7 0 (leBytes 8 1), dataFrame 7 0 (leBytes 8 2)], frameLegal f = true ∧ f.dest = 127) ∧ (transferUnit (transferOf .segRead 1 [])).bus.busOff = false := by
  decide +kernel
/-- A SEGMENT for transfer 1, the last or not, of six bytes. -/
def aSegment (last : Nat) (tag : Nat) : BusFrame := dataFrame 5 tag (leBytes 8 (256 * last + 1))
theorem witness_segment : ∀ len ∈ [6, 7], (transferUnit (transferOf .segWrite len [])).transfer (byteAt (aSegment 1 0).payload 0) = some (transferOf .segWrite len []) ∧
    3 ≤ (aSegment 1 0).payload.length ∧ bit (byteAt (aSegment 1 0).payload 1) 0 = true ∧ bit (byteAt (aSegment 0 0).payload 1) 0 = false ∧
    ((((aSegment 1 0).payload.drop 2).take 62).take len).length = 6 ∧ (aSegment 1 0).tag = 0 % 2048 ∧ (aSegment 1 1).tag ≠ 0 % 2048 := by
  decide +kernel
theorem witness_segment_answer : ∀ n ∈ [62, 63], let x := transferOf .segRead n (zeros n)
    let f := dataFrame 4 1 (leBytes 16 256)
    (transferUnit x).transfer (byteAt f.payload 1) = some x ∧ 16 ≤ f.payload.length ∧ x.num = f.tag ∧ byteAt f.payload 0 = 0 ∧
      (x.data.length ≤ 62 * (x.next + 1) ↔ n = 62) ∧ byteAt (dataFrame 4 1 (leBytes 16 257)).payload 0 ≠ 0 ∧
      byteAt (dataFrame 4 1 (leBytes 16 257)).payload 1 = 1 := by decide +kernel
theorem witness_block : let x := transferOf .stageWrite 128 []
    (transferUnit x).stagedTransfer .stageWrite = some x ∧ x.frames = 2 ∧ (dataFrame 6 0 (zeros 64)).tag / 64 = x.block % 32 ∧
      0 + 1 < x.frames ∧ (dataFrame 6 1 (zeros 64)).tag % 64 = 1 ∧ ({ x with next := 1 } : Transfer).frames ≤ 1 + 1 ∧
      (transferUnit { x with next := 1 }).stagedTransfer .stageWrite = some { x with next := 1 } := by decide +kernel
theorem witness_block_ack : ∀ n ∈ [128, 129], let x := transferOf .stageRead n (zeros n)
    (transferUnit x).stagedTransfer .stageRead = some x ∧ x.frames = 2 ∧ byteAt (dataFrame 7 0 (leBytes 8 1)).payload 0 = 1 ∧
      byteAt (dataFrame 7 0 (leBytes 8 2)).payload 0 = 2 ∧ (x.length ≤ 64 * (x.block + 1) * x.blockFrames ↔ n = 128) ∧
      8 ≤ (dataFrame 7 0 (leBytes 8 2)).payload.length := by decide +kernel
theorem witness_complete_write : crc32c [] = 0 ∧ crc32c [0] ≠ 0 := by decide +kernel

/-! Witnesses of ChainAndControllerComplete -/

/-- A unit on a walk, CHAIN_IN high, at 10^7 ticks. -/
def eligibleUnit (next : Nat) : State :=
  ({ unit [] with gtc := 10000000 }).modBus fun b => { b with next := next, base := 1, walkTick := some 0, chainHighSince := some 0 }
theorem witness_eligible : ∀ n ∈ [120, 121], let s := eligibleUnit n
    s.bus.walkTick = some 0 ∧ s.bus.chainHighSince = some 0 ∧ s.bus.busOff = false ∧ s.bus.rateSwitch = none ∧ s.bus.claimTick = none ∧
      s.bus.backoffUntil = none ∧ 0 + 1000000 ≤ s.gtc ∧ s.bus.next = n := by decide +kernel
theorem witness_claim_hold : let s := (eligibleUnit 3).modBus fun b => { b with claimTick := some 0, backoffUntil := some 0 }
    s.bus.claimTick = some 0 ∧ 0 + 100000 ≤ s.gtc ∧ s.bus.backoffUntil = some 0 := by decide +kernel
theorem witness_chain : ∀ b ∈ [0, 1], let s := unit [(Obj.busAddressState, 1), (Obj.chainBroken, b)]
    s.get Obj.busAddressState = 1 ∧ s.get Obj.chainBroken = b := by decide +kernel
theorem witness_address_conflict : let s := unit [(Obj.busAddress, 7), (Obj.busAddressState, 1)]
    let f : BusFrame := { fd := true, extended := true, remote := false, function := 8, dest := 0, src := 7, tag := 1, payload := zeros 16 }
    s.bus.busOff = false ∧ s.get Obj.busAddressState = 1 ∧ frameLegal f = true ∧ f.src = s.get Obj.busAddress := by decide +kernel
theorem witness_hello : let s := eligibleUnit 3
    s.get Obj.busAddressState ≠ 1 ∧ s.bus.lastHello + 1000000000 ≤ ({ s with gtc := 10 ^ 9 } : State).gtc := by decide +kernel
theorem witness_events_flow : (unit [(Obj.busAddressState, 1), (Obj.powerState, 1)]).eventsFlow = true ∧ (unit []).eventsFlow = false := by decide +kernel

/-! Witnesses of RegisterWriteComplete -/

theorem witness_write_refused : let s := unit []
    requestAbort s none Obj.bootState 0 1 = some (0x0012, 0) ∧ requestAbort s none 1 0 1 ≠ none := by decide +kernel
theorem witness_write_domain : let s := unit [(inst Obj.jobState 0, 1)]
    accessWrite s (inst Obj.manifestImage 0) = none ∧ ((findRow (inst Obj.manifestImage 0)).map fun r => r.ty.isDomain) = some true ∧
      persistFull s (inst Obj.manifestImage 0) = false ∧ instOf Obj.manifestImage 64 (inst Obj.manifestImage 63) = some 63 ∧
      s.jobState 0 = 1 ∧ (s.slot 0).windowOpen = false := by decide +kernel
theorem witness_window_open : let s := { unit [(inst Obj.jobState 0, 1)] with slots := [{ windowOpen := true }] }
    s.jobState 0 = 1 ∧ (s.slot 0).windowOpen = true ∧ s.objectWindows = [] := by decide +kernel
theorem witness_write_fixed : let s := unit []
    accessWrite s Obj.ptpDomain = none ∧ ((findRow Obj.ptpDomain).bind fun r => r.ty.size) = some 1 ∧
      ((findRow Obj.ptpDomain).map fun r => (r.inRange 127, r.inRange 128)) = some (true, false) ∧ relationOk s Obj.ptpDomain 127 = true ∧
      persistFull s Obj.ptpDomain = false ∧
      persistFull { s with persist := { s.persist with pending := List.replicate 256 (0, [], 0) } } Obj.ptpDomain = true ∧
      accessWrite { s with persist := { s.persist with pending := List.replicate 256 (0, [], 0) } } Obj.ptpDomain = none := by decide +kernel
theorem witness_write_persist_domain : let s := { unit [] with persist := { (unit []).persist with pending := List.replicate 256 (0, [], 0) } }
    accessWrite s Obj.nandProfile = none ∧ ((findRow Obj.nandProfile).map fun r => r.ty.isDomain) = some true ∧
      persistFull s Obj.nandProfile = true := by decide +kernel
theorem no_owner (o : Outside) (k v : Nat) (h : ((owners o).map fun e => (e.1, e.2.1)).all (fun e => (instOf e.1 e.2 k).isNone) = true) :
    ((owners o).findSome? fun e => (instOf e.1 e.2.1 k).map fun i => e.2.2 i v) = none := by
  rw [List.findSome?_eq_none_iff]
  intro e he
  rw [List.all_eq_true] at h
  have g := h (e.1, e.2.1) (List.mem_map.mpr ⟨e, he, rfl⟩)
  rw [Option.map_eq_none_iff]
  simpa using g
theorem witness_owner (o : Outside) : stepRestricted (inst Obj.replayEpoch 0) = some 0 ∧ stepRestricted Obj.ptpDomain = none ∧
    ((owners o).findSome? fun e => (instOf e.1 e.2.1 Obj.ptpDomain).map fun i => e.2.2 i 1) = none ∧
    ((owners o).findSome? fun e => (instOf e.1 e.2.1 (inst Obj.replayEpoch 0)).map fun i => e.2.2 i 1) = none ∧
    (unit [(inst Obj.stepState 0, 1)]).stepState 0 = 1 ∧ (unit []).stepState 0 ≠ 1 ∧ (unit []).jobState 0 ≠ 2 :=
  ⟨by decide +kernel, by decide +kernel, no_owner o _ _ (by simp only [owners, List.map]; decide +kernel),
    no_owner o _ _ (by simp only [owners, List.map]; decide +kernel), by decide +kernel⟩

/-! Witnesses of PersistenceComplete -/

/-- A unit with a record pending, in an area whose last block is filled to a place. -/
def persistUnit (fill erased : Nat) : State :=
  { unit [] with persist := { pending := [(Obj.ptpDomain, [5], 0)], fill := fill, erased := erased
                              records := [{ seq := 1, key := Obj.ptpDomain, value := [6], committed := true }], nextSeq := 2 } }
theorem witness_persist_commit : (∀ e ∈ [(65488, 0), (65489, 1)], let s := persistUnit e.1 e.2
    s.get Obj.fwState ≠ 3 ∧ s.persist.pending = [(Obj.ptpDomain, [5], 0)] ∧ (s.persist.fill + 48 ≤ 65536 ∨ 0 < s.persist.erased)) ∧
      65536 < (persistUnit 65489 0).persist.fill + 48 ∧ roundUp ([5] : Bytes).length 16 = 16 ∧ (unit []).persist.pending = [] := by decide +kernel
theorem witness_compaction : let s := persistUnit 1 1
    s.get Obj.fwState ≠ 3 ∧ s.persist.erased * 65536 + (65536 - s.persist.fill) < 131072 ∧ (findRow Obj.ptpDomain).isSome = true ∧
      committedValue s.persist Obj.ptpDomain = some [6] ∧ [6] ≠ defaultBytes Obj.ptpDomain := by decide +kernel
theorem witness_restore : writeAbort (unit []) Obj.persistCommand 1 = none ∧ (unit []).get Obj.powerState ≠ 2 ∧ (unit []).allEmpty = true ∧
    writeAbort (slotUnit {}) Obj.persistCommand 1 = none ∧ (slotUnit {}).allEmpty = false := by decide +kernel
theorem witness_restore_retain : writeAbort (unit [(Obj.powerState, 2)]) Obj.persistCommand 1 = none := by decide +kernel

/-! Witnesses of CounterCommandsComplete -/

theorem witness_control_word : let s := unit []
    (∀ w ∈ [2 ^ 31 + 0x100, 2 ^ 31 + 2 ^ 28, 2 ^ 31 + 2 ^ 12, 2 ^ 30, 0x3FF], writeAbort s (ctrKey Obj.counterControl 0 0) w = none) ∧
      bits (2 ^ 31 + 0x100) 28 2 = 0 ∧ bits (2 ^ 31 + 0x100) 12 4 = 0 ∧ bit (2 ^ 31 + 0x100) 30 = false ∧
      eventFilter 0 (bits (2 ^ 31 + 0x100) 0 12) = some (none, false) ∧ bits (2 ^ 31 + 0x100) 24 4 = 0 ∧ bits (2 ^ 31 + 2 ^ 28) 28 2 ≠ 0 ∧
      bits (2 ^ 31 + 2 ^ 12) 12 4 ≠ 0 ∧ bit (2 ^ 30) 30 = true ∧ eventFilter 0 (bits 0x3FF 0 12) = none := by decide +kernel
theorem witness_control_filters : eventFilter 0 (bits (2 ^ 24 + 63 * 2 ^ 16 + 0x101) 0 12) = some (none, true) ∧
    bits (2 ^ 24 + 63 * 2 ^ 16 + 0x101) 24 4 = 1 ∧ bits (2 ^ 24 + 63 * 2 ^ 16 + 0x101) 16 8 = 63 ∧
    eventFilter 0 (bits (2 * 2 ^ 24 + 67 * 2 ^ 16 + 0x103) 0 12) = some (some 68, false) ∧ bits (2 * 2 ^ 24 + 67 * 2 ^ 16 + 0x103) 24 4 = 2 ∧
    bits (2 * 2 ^ 24 + 67 * 2 ^ 16 + 0x103) 16 8 = 67 := by decide +kernel
theorem witness_counter_value : writeAbort (unit []) (ctrKey Obj.counterValue 7 15) 9 = none ∧
    (∀ v ∈ [1, 2], writeAbort (unit []) Obj.counterCommand v = none) := by decide +kernel
theorem witness_snapshot : ∀ e ∈ [0, 1], let s := unit [(Obj.snapshotEnable, e)]
    s.gtc % s.get Obj.snapshotTicks = 0 ∧ s.get Obj.snapshotEnable = e ∧ ({ s with gtc := 1 } : State).gtc % s.get Obj.snapshotTicks ≠ 0 := by
  decide +kernel

/-! Witnesses of SelftestCommandsComplete -/

/-- A unit with a self-test in course where one is given, and some objects set. -/
def testUnit (t : Selftest) (l : List (Nat × Nat)) : State := { unit l with selftest := t, gtc := 10 ^ 12 }
theorem witness_lbist : (∀ v ∈ [1, 2, 3, 4], writeAbort (testUnit {} []) Obj.selftestCommand v = none) ∧ (testUnit {} []).allEmpty = true ∧
    (testUnit {} []).selftest.command = 0 := by decide +kernel
theorem witness_lbist_busy : (∀ v ∈ [1, 2, 3, 4], writeAbort (testUnit { command := 2 } []) Obj.selftestCommand v = none) ∧
    (testUnit { command := 2 } []).allEmpty = true ∧ (testUnit { command := 2 } []).selftest.command ≠ 0 := by decide +kernel
theorem witness_lbist_slots : (∀ v ∈ [1, 3], writeAbort (slotUnit {}) Obj.selftestCommand v = none) ∧ (slotUnit {}).allEmpty = false := by decide +kernel
/-- Island 1 as its test wants it. -/
def goodReading (s : State) : IslandReading :=
  { domain := 1, locked := true, railMv := s.get (inst Obj.railPlannedMv (islandRail 1)), coldest := 0, hottest := 420 }
theorem witness_conditions : let s := testUnit {} [(Obj.selftestIslandMask, 1), (inst Obj.railPlannedMv (islandRail 1), 700)]
    s.testConditions [goodReading s] = 0 ∧ s.maskedIslands = [1] ∧ s.testConditions ([1].map (readingOf [goodReading s])) = 0 ∧
      s.testConditions ([1].map (readingOf [])) = 3 := by decide +kernel
theorem witness_island_complete : let s := testUnit { command := 1, testing := [(1, 0)] } [(inst Obj.railPlannedMv (islandRail 1), 700)]
    s.selftest.testing.find? (fun t => t.1 == 1) = some (1, 0) ∧ s.selftest.stopping = false ∧ s.testConditions [goodReading s] = 0 ∧
      0 + s.get Obj.lbistPatterns * (5 * islandChain 1 + 20) ≤ s.gtc ∧ s.testConditions [readingOf [] 1] ≠ 0 := by decide +kernel
theorem witness_march : (∀ a ∈ (testUnit {} [(Obj.selftestArrayMask, 33)]).maskedArrays, a = 0 ∨ 16 ≤ a) ∧
    (2 : Nat) ∈ (testUnit {} [(Obj.selftestArrayMask, 4)]).maskedArrays ∧ (2 : Nat) ≠ 0 ∧ 2 < 16 ∧
    writeAbort (testUnit {} [(Obj.selftestArrayMask, 4)]) Obj.selftestCommand 3 = none := by decide +kernel
theorem witness_march_word : let s := testUnit { command := 2, arrays := [(0, 0, 0)] } []
    s.selftest.arrays.find? (fun x => x.1 == 0) = some (0, 0, 0) ∧ s.selftest.command = 2 ∧
      s.get Obj.marchPreserveCycles * (domainRatio (arrayDomain 0)).2 ≤ (s.gtc - 0) * (domainRatio (arrayDomain 0)).1 := by decide +kernel
theorem witness_march_complete : let s := testUnit { command := 3, arrays := [(0, 0, 0)] } []
    s.selftest.command = 3 ∧ ∃ x ∈ s.selftest.arrays, x.1 = 0 := by decide +kernel

/-! Witnesses of AgeingAndRailsComplete -/

theorem witness_path_delay : let s := unit [(Obj.powerState, 1)]
    s.gtc % 1000000 = 0 ∧ s.hubRuns = true ∧ (1 : Nat) ∈ testIslands := by decide +kernel
theorem witness_margin_plan : let s := { unit [(Obj.powerState, 1)] with gtc := 10 ^ 14 }
    s.hubRuns = true ∧ s.power.lastPlan + s.get Obj.planIntervalTicks ≤ s.gtc ∧ s.power.lastPoll + s.get Obj.powerPollTicks ≤ s.gtc ∧
      writeAbort s Obj.plannerCommand 1 = none ∧ s.railTested 0 = false ∧ (findKey 0 s.power.stepTicks).isNone = true := by decide +kernel
/-- Island 1 sampled with a slack. -/
def slackUnit (slack : Nat) : State := unit [(inst Obj.pathDelayPs 0, 100), (inst Obj.slackPs 0, slack), (Obj.targetSlackPs, 30)]
theorem witness_plan_one : ∀ x ∈ [29, 30, 41, 42], (slackUnit x).railSlack (islandRail 1) = some (x : Int) ∧
    (slackUnit x).railTested (islandRail 1) = false ∧ (slackUnit x).get Obj.targetSlackPs = 30 := by decide +kernel
theorem witness_avs_step : let s := unit [(Obj.powerState, 1), (inst Obj.railPlannedMv 7, 700)]
    s.hubRuns = true ∧ s.railTested 7 = false ∧ s.railNow 7 = 800 ∧ (findKey 7 s.power.stepTicks).isNone = true := by decide +kernel

/-! Witnesses of PowerCommandsComplete -/

/-- A unit in the middle of something, with PowerState and another object given. -/
def powerUnit (c : Course) (l : List (Nat × Nat)) : State :=
  let s := unit l
  { s with power := { s.power with course := c, retainReq := c == .retained } }
theorem witness_power_fall : (powerUnit .retained [(Obj.powerState, 2)]).get Obj.powerState = 2 ∧ (powerUnit .retained []).power.retainReq = true ∧
    (powerUnit .none []).power.failN = true ∧ (powerUnit .none []).power.halted = false ∧ (powerUnit .none [(Obj.powerState, 1)]).get Obj.powerState ≠ 2 ∧
    (powerUnit .flush []).power.course = .flush ∧ (powerUnit .shutdown []).power.course = .shutdown ∧ (powerUnit .waking []).power.course = .waking := by
  decide +kernel
theorem witness_power_command : let s := powerUnit .none [(Obj.powerState, 1)]
    (∀ v ∈ [1, 2, 3], writeAbort s Obj.powerCommand v = none) ∧ s.power.course = .none ∧ (∀ i ∈ allSlots, s.jobState i = 0 ∨ 6 ≤ s.jobState i) ∧
      s.store.objects = [] ∧ s.get Obj.fwState ≠ 1 ∧ s.get Obj.fwState ≠ 3 ∧ s.selftest.command = 0 ∧ s.allEmpty = true := by decide +kernel
theorem witness_power_refused : let s := powerUnit .none [(Obj.powerState, 1), (inst Obj.jobState 9, 5)]
    (∀ v ∈ [1, 3], writeAbort s Obj.powerCommand v = none ∧ writeAbort (powerUnit .entering [(Obj.powerState, 1)]) Obj.powerCommand v = none) ∧
      9 ∈ allSlots ∧ s.jobState 9 = 5 ∧ s.allEmpty = false ∧ (powerUnit .entering []).power.course ≠ .none := by decide +kernel
theorem witness_power_busy : writeAbort (powerUnit .none [(Obj.powerState, 1), (Obj.fwState, 1)]) Obj.powerCommand 3 = none ∧
    ¬ ((powerUnit .none [(Obj.powerState, 1), (Obj.fwState, 1)]).get Obj.fwState ≠ 1) := by decide +kernel
theorem witness_retain_entry : (powerUnit .entering []).power.course = .entering ∧ (powerUnit .entering []).store.campaign = none ∧
    (powerUnit .retained [(Obj.powerState, 2)]).power.course = .retained ∧ (powerUnit .retained []).power.halted = false ∧
    writeAbort (powerUnit .retained [(Obj.powerState, 2)]) Obj.powerCommand 2 = none := by decide +kernel

/-! Witnesses of HoldUpAndTemperatureComplete -/

theorem witness_holdup : let s := { unit [(Obj.powerState, 1)] with gtc := 10 ^ 15 }
    s.get Obj.bootState = 3 ∧ s.hubRuns = true ∧ s.power.measuring = none ∧ s.power.failN = true ∧
      s.get Obj.holdUpLastTestTick + s.get Obj.holdUpCapTicks ≤ s.gtc ∧ s.store.gateTick = none ∧ writeAbort s Obj.holdUpCommand 1 = none := by
  decide +kernel
/-- A measurement in course, with the readings it has. -/
def measureUnit (m : HoldUpTest) : State :=
  let s := unit [(Obj.powerState, 1)]
  { s with gtc := 10 ^ 12, power := { s.power with measuring := some m, restoring := some (1, 0) } }
theorem witness_holdup_phase : ∀ m ∈ [({ t0 := 0 } : HoldUpTest), { t0 := 0, v0 := some 5 }, { t0 := 0, v0 := some 5, va := some 4 }],
    (measureUnit m).power.measuring = some m ∧ m.t0 + 120000 ≤ (measureUnit m).gtc ∧
      m.t0 + 100000 + (measureUnit m).get Obj.holdUpTestTicks ≤ (measureUnit m).gtc ∧ writeAbort (measureUnit m) Obj.holdUpCommand 1 = none ∧
      (measureUnit m).power.restoring = some (1, 0) := by decide +kernel
theorem witness_thermal : (unit []).gtc % 100000 = 0 ∧ ({ unit [] with gtc := 1 } : State).gtc % 100000 ≠ 0 ∧ (unit []).power.thermTripN = true ∧
    (unit []).power.tripAfter = false ∧ (0 : Int) < 4 * ((unit []).get Obj.tempWarnC : Int) := by decide +kernel

/-! Witnesses of EveryStepKeepsDictionaryCanonical -/

theorem witness_dictionary_step : ∃ t, State.reset.DictOk ∧ Sys2Proof.Machine.step State.reset = .next t :=
  ⟨_, State.reset_dictOk, rfl⟩

/-- e is 2.718281828… and its FP32 code 0x402DF854; tanh 1 is 0.761594156…, 0x3F42F7D6; ln 2 is 0x3F317218; FP32(cos π) is −1. -/
theorem test_elementary : exp32 f1 = 0x402DF854 ∧ tanh32 f1 = 0x3F42F7D6 ∧ ln32 f2 = 0x3F317218 ∧ cos32 0x40490FDB = 0xBF800000 := by
  decide +kernel
/-- The periodic Hann window of 4 is 0, 1/2, 1, 1/2 (R176). -/
theorem test_hann : (List.range 4).map (hann 4) = [0, 0x3F000000, 0x3F800000, 0x3F000000] := by decide +kernel
end Sys2Proof.Tests
end

section
/-! The commands of a slot's life (R26 to R35): what each does once the checks of R514 let its write through, and what a slot that
enters a state leaves as it was. -/

namespace Sys2Proof.Machine

/-! ## Writes that are let through -/

theorem next_flow {t u : State} (h : t = u) : (.next t.flow : Host.Outcome State Fault Refusal) = .next u.flow := by rw [h]

section Accepted
variable {s : State} {slot : Nat}

theorem exec_stagingOpen_accepted (h : Accepts s (inst Obj.stagingOpen slot) 1) :
    exec (.stagingOpen slot) s = .next (stagingOpen slot s) := congrArg Host.Outcome.next (writeCommand_accepted h)

theorem exec_validate_accepted (h : Accepts s (inst Obj.jobCommand slot) 1) (r d : Bool) :
    exec (.validate slot r d) s = .next (validate slot r d s) := congrArg Host.Outcome.next (writeCommand_accepted h)

theorem exec_arm_accepted (h : Accepts s (inst Obj.jobCommand slot) 2) : exec (.arm slot) s = .next (arm slot s) :=
  congrArg Host.Outcome.next (writeCommand_accepted h)

theorem exec_jobRelease_accepted (h : Accepts s (inst Obj.jobCommand slot) 6) :
    exec (.jobRelease slot) s = .next (jobRelease slot s).flow :=
  next_flow (writeCommand_accepted h)

theorem afterLaunch_notDue (h : s.launchDue slot = false) (eff : State → State) : afterLaunch slot eff s = eff s := by
  simp [afterLaunch, h]

theorem launchDue_eq_false (h : s.jobState slot ≠ 3) : s.launchDue slot = false := by simp [State.launchDue, h]

theorem exec_disarm_accepted (h : Accepts s (inst Obj.jobCommand slot) 3) (hd : s.launchDue slot = false) :
    exec (.disarm slot) s = .next (disarm slot s) :=
  congrArg Host.Outcome.next ((writeCommand_accepted h).trans (afterLaunch_notDue hd _))

theorem exec_stop_accepted (h : Accepts s (inst Obj.jobCommand slot) 4) (hd : s.launchDue slot = false) :
    exec (.stop slot) s = .next (stop slot s).flow :=
  next_flow ((writeCommand_accepted h).trans (afterLaunch_notDue hd _))

theorem exec_abort_accepted (h : Accepts s (inst Obj.jobCommand slot) 5) (hd : s.launchDue slot = false) :
    exec (.abort slot) s = .next (abort slot s).flow :=
  next_flow ((writeCommand_accepted h).trans (afterLaunch_notDue hd _))

end Accepted

/-! ## The commands where they are legal -/

@[simp] theorem firstCode_cons_false (code : Nat) (l : List (Bool × Nat)) : firstCode ((false, code) :: l) = code := rfl

@[simp] theorem firstCode_cons_true (code : Nat) (l : List (Bool × Nat)) : firstCode ((true, code) :: l) = firstCode l := rfl

@[simp] theorem firstCode_nil : firstCode [] = 0 := rfl

section Commands
variable {s : State} {slot : Nat}

theorem stagingOpen_empty {t : State} (h : s.jobState slot = 0) (ht : s.heapTake slot .staging stagingBytes = some t) :
    stagingOpen slot s = ((((t.clearSlot slot).setSlot slot {}).openStaging slot).enterState slot 1).ok := by
  simp [stagingOpen, h, ht]

theorem armFault_eq_zero (hdigest : s.get (inst Obj.expectedDigest slot) = s.get (inst Obj.manifestDigest slot))
    (hslice : s.get (inst Obj.launchTick slot) % s.get Obj.sliceTicks = 0)
    (hlead : s.gtc + s.get Obj.launchLeadMin ≤ s.get (inst Obj.launchTick slot)) (hsync : s.synced = true) :
    s.armFault slot = 0 := by
  simp [State.armFault, hdigest, hslice, hlead, hsync]

theorem arm_ready (h : s.jobState slot = 2) (hf : s.armFault slot = 0) :
    arm slot s = ((s.modSlot slot fun sl => { sl with joined := false }).enterState slot 3).ok := by
  simp [arm, h, hf]

theorem disarm_armed (h : s.jobState slot = 3) (hd : s.launchDue slot = false) :
    disarm slot s = ((s.unjoin slot).enterState slot 2).ok := by
  simp [disarm, h, hd]

theorem stop_armed (h : s.jobState slot = 3) : stop slot s = ((s.unjoin slot).enterState slot 2).ok := by
  simp [stop, h]

theorem stop_running (h : s.jobState slot = 4) :
    stop slot s = ((s.modSlot slot fun sl => { sl with issueDone := true }).enterState slot 5).ok := by
  simp [stop, h]

theorem abort_legal (h : s.jobState slot ∈ [3, 4, 5]) : abort slot s = ((s.unjoin slot).abortSlot slot 0x8014 0x8014).ok := by
  unfold abort
  exact if_pos (by simpa using h)

theorem jobRelease_legal (h : s.jobState slot ∈ [1, 2, 6, 7]) :
    jobRelease slot s = ((((((s.revokeWhere fun r => r.owner == slot && r.kind != .objectWindow).unpin slot).heapFreeSlot
      slot).forgetManifest slot).setSlot slot {}).enterState slot 0).ok := by
  unfold jobRelease
  exact if_pos (by simpa using h)

theorem launchTick_due (h : s.launchDue slot = true) (hj : (s.slot slot).joined = false) :
    launchTick slot s = s.launch slot := by
  simp [launchTick, h, hj]

/-! ## The commands where they are not legal -/

theorem validate_illegal (h : s.jobState slot ≠ 1) (r d : Bool) : validate slot r d s = s.refuseJob slot 0x801A := by
  simp [validate, h]

theorem arm_illegal (h : s.jobState slot ≠ 2) : arm slot s = s.refuseJob slot 0x801A := by simp [arm, h]

theorem disarm_illegal (h : s.jobState slot ≠ 3) : disarm slot s = s.refuseJob slot 0x801A := by simp [disarm, h]

theorem stop_illegal (h : s.jobState slot ∉ [3, 4]) : stop slot s = s.refuseJob slot 0x801A := by
  simp only [List.mem_cons, List.not_mem_nil, or_false, not_or] at h
  simp [stop, h]

theorem abort_illegal (h : s.jobState slot ∉ [3, 4, 5]) : abort slot s = s.refuseJob slot 0x801A := by
  unfold abort
  exact if_neg (by simpa using h)

theorem jobRelease_illegal (h : s.jobState slot ∉ [1, 2, 6, 7]) : jobRelease slot s = s.refuseJob slot 0x801A := by
  unfold jobRelease
  exact if_neg (by simpa using h)

end Commands

/-- JobState of a slot is none of the objects that count events and connections. -/
theorem jobState_not_mem_followCounters {slot : Nat} (h : slot < 64) : inst Obj.jobState slot ∉ followCounters :=
  not_mem_followCounters (by simp only [inst, Obj.jobState]; omega)

/-! ## The statements -/

/-- Settles O5: the write is let through, so exec is the command's own meaning, and that is one equation per legal state. -/
theorem slotCommandsComplete : Obligations.SlotCommandsComplete := by
  intro s slot _
  refine ⟨fun t ha h0 ht => ?_, fun ha h2 hdigest hslice hlead hsync => ?_, fun ha h3 hd => ?_, fun ha h3 hd => ?_, fun ha h4 => ?_,
    fun ha hlegal hd => ?_, fun ha hlegal => ?_, fun h3 htick hj => ?_⟩
  · rw [exec_stagingOpen_accepted ha, stagingOpen_empty h0 ht]
  · rw [exec_arm_accepted ha, arm_ready h2 (armFault_eq_zero hdigest hslice hlead hsync)]
  · rw [exec_disarm_accepted ha hd, disarm_armed h3 hd]
  · rw [exec_stop_accepted ha hd, stop_armed h3]
  · rw [exec_stop_accepted ha (launchDue_eq_false (by omega)), stop_running h4]
  · rw [exec_abort_accepted ha hd, abort_legal hlegal]
  · rw [exec_jobRelease_accepted ha, jobRelease_legal hlegal]
  · have hdue : s.launchDue slot = true := by simp [State.launchDue, h3, htick]
    exact next_flow (launchTick_due hdue hj)

/-- Settles O6: outside its legal states each command is refuseJob with 0x801A, which writes JobLastReason and the answer alone; no
launch is due in a state other than ARMED. -/
theorem illegalJobCommandsRefused : Obligations.IllegalJobCommandsRefused := by
  intro s slot r d _ t
  have ht : s.refuseJob slot 0x801A = t := rfl
  refine ⟨fun ha h => ?_, fun ha h => ?_, fun ha h => ?_, fun ha h => ?_, fun ha h => ?_, fun ha h => ?_, ?_, fun k hk => ?_⟩
  · rw [exec_validate_accepted ha, validate_illegal h, ht]
  · rw [exec_arm_accepted ha, arm_illegal h, ht]
  · rw [exec_disarm_accepted ha (launchDue_eq_false h), disarm_illegal h, ht]
  · have h3 : s.jobState slot ≠ 3 := fun e => h (by simp [e])
    rw [exec_stop_accepted ha (launchDue_eq_false h3), stop_illegal h, ht]
  · have h3 : s.jobState slot ≠ 3 := fun e => h (by simp [e])
    rw [exec_abort_accepted ha (launchDue_eq_false h3), abort_illegal h, ht]
  · rw [exec_jobRelease_accepted ha, jobRelease_illegal h, ht]
  · exact State.get_set_self s _ _
  · exact State.get_set_ne s _ _ k hk

/-- Settles O7: a change of JobState posts an event and then the connections follow, and neither touches the rest. -/
theorem enteringShowsState : Obligations.EnteringShowsState := by
  intro s slot new hslot t
  have posts : PostsOnly (s.set (inst Obj.jobState slot) new) (s.setJobState slot new) := postEvent_postsOnly _ _ _ _
  have conns : ConnsOnly (s.setJobState slot new) t := syncConns_connsOnly _
  refine ⟨?_, fun k hk hne => ?_, enterState_slots s slot new, conns.items.trans posts.items, conns.batches.trans posts.batches,
    conns.regions.trans posts.regions, conns.store.trans posts.store, conns.gtc.trans posts.gtc⟩
  · exact (enterState_get s slot new _ (jobState_not_mem_followCounters hslot)).trans (if_pos rfl)
  · exact (enterState_get s slot new k hk).trans (if_neg hne)

/-- Settles O56: nothing is listed at reset. -/
theorem resetDictionaryCanonical : Obligations.ResetDictionaryCanonical := State.reset_dictOk

end Sys2Proof.Machine
end

section
/-! Time-slicing (R36 to R39): the slice boundary as one turn of each class after another, and the two ends of a switch. -/

namespace Sys2Proof.Machine

/-- One class's turn at a slice boundary, with the slots picked before it. -/
def pickClass (acc : List Nat × State) (c : SliceClass) : List Nat × State :=
  (acc.1 ++ (acc.2.sliceClass c).1.toList, (acc.2.sliceClass c).2)

theorem filterMap_id_cons {α : Type} (a : Option α) (l : List (Option α)) :
    (a :: l).filterMap id = a.toList ++ l.filterMap id := by
  cases a <;> rfl

/-- The turns of the four classes in order: those of them that picked a slot, and the state after the last. -/
theorem foldl_pickClass (s : State) :
    let r1 := s.sliceClass .inference
    let r2 := r1.2.sliceClass .dealer
    let r3 := r2.2.sliceClass .shoe
    let r4 := r3.2.sliceClass .token
    [SliceClass.inference, .dealer, .shoe, .token].foldl pickClass ([], s) = ([r1.1, r2.1, r3.1, r4.1].filterMap id, r4.2) := by
  simp only [List.foldl_cons, List.foldl_nil, pickClass, filterMap_id_cons, List.filterMap_nil, List.append_nil, List.nil_append,
    List.append_assoc]

/-- A slice boundary at its tick is the turns of the four classes, and each slot picked counts one. -/
theorem sliceBoundary_eq_pickClass {s : State} (h : s.gtc % s.get Obj.sliceTicks = 0) :
    sliceBoundary s =
      let r := [SliceClass.inference, .dealer, .shoe, .token].foldl pickClass ([], s.shareTable)
      r.1.eraseDups.foldl (fun (t : State) i => t.bump (inst Obj.slicesHeld i)) r.2 := by
  unfold sliceBoundary
  rw [if_neg (not_not_intro h)]
  generalize [SliceClass.inference, .dealer, .shoe, .token] = classes
  refine congrArg (fun turn : List Nat × State → SliceClass → List Nat × State =>
    let r := classes.foldl turn ([], s.shareTable)
    r.1.eraseDups.foldl (fun (t : State) i => t.bump (inst Obj.slicesHeld i)) r.2) (funext fun acc => funext fun c => ?_)
  unfold pickClass
  rcases acc.2.sliceClass c with ⟨_ | p, t⟩
  · simp
  · simp

theorem boundary_off {s : State} (h : s.gtc % s.get Obj.sliceTicks ≠ 0) : boundary s = s := if_pos h

theorem boundary_on {s : State} (h : s.gtc % s.get Obj.sliceTicks = 0) : boundary s = (sliceBoundary s).startTrainings :=
  if_neg (not_not_intro h)

theorem inferenceSwitchStart_unsaved {s : State} {w : Switch} (h : s.switchOf .inference = some w) (hw : w.saving = false) :
    inferenceSwitchStart s =
      (allSlots.filter fun i => s.running i && s.hasHold .inference i && !w.holders.contains i).foldl (fun (t : State) i =>
        let t := t.setHold .inference i false
        if (t.job i).minSram = 0 then t else t.heapOrAbort i .workingSet ((t.job i).minSram * 1024))
        { s with switches := replaceFirst (fun x => x.cls == SliceClass.inference) { w with saving := true } s.switches } := by
  unfold inferenceSwitchStart
  rw [h]
  exact if_neg (by simp [hw])

/-- A class other than INFERENCE has no working sets to free at the end of its switch. -/
theorem sliceSwitchComplete_over {s : State} {c : SliceClass} {w : Switch} (hc : c ≠ .inference) (h : s.switchOf c = some w)
    (hw : s.switchOver w = true) :
    sliceSwitchComplete c s = ((({ s with switches := s.switches.filter fun x => x.cls != c }).count Obj.sliceOverrunTicks
      (s.gtc - w.since)).event 7 0x105 (s.gtc - w.since) none w.holders.head?).giveClass c w.holders := by
  simp [sliceSwitchComplete, h, hw, hc]

/-- Settles O9: at a boundary the four turns in order, of which only the slots picked are counted; the ends of a switch by its own
equations. -/
theorem sliceCommands : Obligations.SliceCommands := by
  refine ⟨fun s h => ?_, fun s h => ?_, fun s w h hw => ?_, fun s n w hn h hw => ?_⟩
  · exact next_flow (boundary_off h)
  · intro r1 r2 r3 r4
    show Host.Outcome.next (boundary s).flow = _
    rw [boundary_on h, sliceBoundary_eq_pickClass h, foldl_pickClass]
  · exact next_flow (inferenceSwitchStart_unsaved h hw)
  · have hc : sliceClassOf n ≠ .inference := by rcases hn with rfl | rfl | rfl <;> decide
    exact next_flow (sliceSwitchComplete_over hc h hw)

end Sys2Proof.Machine
end

section
/-! Passes of curation and the curation log (R248, R265, R268, R275). -/

namespace Sys2Proof.Machine

theorem passComplete_onePass {s : State} {l : List Nat} (h : s.onePass l = true) (f : State → Item → State) :
    passComplete f l s = eachItem l f { s.bump Obj.passesRun with trestleFaults := 0 } := if_pos h

/-- A Trestle's fault in a pass it may have: the row or column is faulted and recorded, the pass's items are perturbed, and the
operator is tried again or goes to the Piers. -/
theorem trestleOperatorFault_onePass {s : State} {l : List Nat} {it : Item} {rest : List Item} {line : Nat} (column permanent : Bool)
    (hl : l.filterMap s.item = it :: rest) (hs : s.get Obj.trestleState ≠ 1) (hp : s.onePass l = true) (hline : line < 264) :
    trestleOperatorFault l column line permanent s =
      let kind := if column then 7 else 6
      let f := s.elementFault kind line permanent
      let u := f.2.raiseFault
        { cls := 1, tile := 0, reason := 0x7001, unit := line, action := if f.1 = 0 then 1 else f.1, slot := it.slot
          requester := (f.2.job it.slot).requesterOf it.stage, ref := it.ref, detail0 := elementDetail kind line, detail1 := it.stage }
      let v := (it :: rest).foldl
        (fun (t : State) x => t.putItem { x with perturb := x.perturb ||| 128, faultSeq := u.lastFaultSeq }) u
      let w : State := { (v.bump Obj.trestleRetries).bump Obj.faultRecoveryCount with trestleFaults := v.trestleFaults + 1 }
      if v.trestleFaults + 1 = 3 ∨ w.get Obj.trestleState = 1 then w.bump Obj.pierMatrixOperators else w := by
  unfold trestleOperatorFault
  rw [hl]
  exact if_neg (by simp [hs, hp, hline])

theorem curationLogRelease_legal {s : State} {slot v : Nat} (hlow : s.get (inst Obj.curationLogRelease slot) ≤ v)
    (hhigh : v ≤ s.get (inst Obj.curationLogHead slot)) :
    curationLogRelease slot v s = eachItem
      (((s.accept (inst Obj.curationLogRelease slot) v).items.filter fun it => it.slot == slot && it.logWait.isSome).map Item.entry)
      (fun t it => match it.logWait with
        | some (r, text) => t.logResult it r text
        | none => t) (s.accept (inst Obj.curationLogRelease slot) v) := by
  unfold curationLogRelease
  exact if_neg (by omega)

/-- Settles O23: each command's meaning where its guards hold, and a write of CurationLogRelease that the checks of R514 refuse. -/
theorem inferencePassesComplete : Obligations.InferencePassesComplete := by
  refine ⟨fun s l h => ⟨?_, ?_⟩, fun s l it rest column permanent line hl hs hp hline => ?_, fun s slot v ha hlow hhigh => ?_,
    fun s slot v ha => ?_⟩
  · exact next_flow (passComplete_onePass h State.prefill)
  · exact next_flow (passComplete_onePass h State.stepPass)
  · exact next_flow (trestleOperatorFault_onePass column permanent hl hs hp hline)
  · exact next_flow ((writeCommand_accepted ha).trans (curationLogRelease_legal hlow hhigh))
  · exact next_flow (writeCommand_refused ha)

end Sys2Proof.Machine
end

section
/-! StepCommand and MemberCommand (R450, R451, R458): when a replay is accepted, and how the pending replacement list is edited. -/

namespace Sys2Proof.Machine

section Steps
variable {s : State} {slot : Nat}

/-! ## Writes that are let through -/

theorem exec_resume_accepted (h : Accepts s (inst Obj.stepCommand slot) 2) : exec (.resume slot) s = .next (resume slot s) :=
  congrArg Host.Outcome.next (writeCommand_accepted h)

theorem exec_join_accepted (h : Accepts s (inst Obj.stepCommand slot) 3) : exec (.join slot) s = .next (join slot s) :=
  congrArg Host.Outcome.next (writeCommand_accepted h)

theorem exec_cancel_accepted (h : Accepts s (inst Obj.stepCommand slot) 4) : exec (.cancel slot) s = .next (cancel slot s) :=
  congrArg Host.Outcome.next (writeCommand_accepted h)

theorem exec_replace_accepted (h : Accepts s (inst Obj.memberCommand slot) 1) :
    exec (.replace slot) s = .next (replaceMember slot s) := congrArg Host.Outcome.next (writeCommand_accepted h)

theorem exec_removeDomain_accepted (h : Accepts s (inst Obj.memberCommand slot) 2) :
    exec (.removeDomain slot) s = .next (removeDomain slot s) := congrArg Host.Outcome.next (writeCommand_accepted h)

theorem exec_memberClear_accepted (h : Accepts s (inst Obj.memberCommand slot) 3) :
    exec (.memberClear slot) s = .next (memberClear slot s) := congrArg Host.Outcome.next (writeCommand_accepted h)

/-! ## The conditions of R450 -/

/-- Every shard of a slot's job keeps a member under the pending list (R450). -/
def State.shardsKept (s : State) (slot : Nat) : Prop :=
  ∀ sh ∈ (s.job slot).shards, ∃ n ∈ sh.primary :: sh.alternates, ∃ x, (s.job slot).nodes[n]? = some x ∧
    standIn (s.slot slot).pendingList x.uid ≠ 0

/-- The conditions that RESUME and JOIN share (R450). -/
def State.resumeReady (s : State) (slot : Nat) : Prop :=
  s.shardsKept slot ∧ s.membershipDigest slot = s.get (inst Obj.expectedMembershipDigest slot) ∧
    ((s.job slot).epochFirst ≤ s.get (inst Obj.replayEpoch slot) ∧
      s.get (inst Obj.replayEpoch slot) < (s.job slot).epochFirst + (s.job slot).epochCount) ∧
    (∀ e ∈ List.zip (s.job slot).streams (s.replayPoints slot),
      (s.job slot).packedStream e.1 = true ∨ e.2 < (s.job slot).batchCount) ∧
    s.get (inst Obj.resumeTick slot) % s.get Obj.sliceTicks = 0 ∧
    s.gtc + s.get Obj.launchLeadMin ≤ s.get (inst Obj.resumeTick slot) ∧ s.synced = true ∧
    (s.get (inst Obj.resumeCorruptPolicy slot) ≠ 2 ∨ (s.job slot).t ≠ 0)

theorem shardsKept_iff_all (s : State) (slot : Nat) :
    s.shardsKept slot ↔ ((s.job slot).shards.all fun sh => (sh.primary :: sh.alternates).any fun n =>
      (((s.job slot).nodes[n]?).map fun x => standIn (s.slot slot).pendingList x.uid != 0).getD false) = true := by
  have node (n : Nat) : (((s.job slot).nodes[n]?).map fun x => standIn (s.slot slot).pendingList x.uid != 0).getD false = true ↔
      ∃ x, (s.job slot).nodes[n]? = some x ∧ standIn (s.slot slot).pendingList x.uid ≠ 0 := by
    cases (s.job slot).nodes[n]? <;> simp
  simp only [State.shardsKept, List.all_eq_true, List.any_eq_true, node]

/-- What RESUME asks of the slot's state, or JOIN of it and of its manifest. -/
theorem resumeFault_ready (h : s.resumeReady slot) {join : Bool}
    (hstate : (if join then s.jobState slot == 2 else s.running slot && s.stepState slot == 1) = true)
    (hmanifest : (!join || s.get (inst Obj.expectedDigest slot) == s.get (inst Obj.manifestDigest slot)) = true) :
    s.resumeFault slot join = 0 := by
  obtain ⟨hshards, hdigest, hepoch, hpoints, hslice, hlead, hsync, hpolicy⟩ := h
  have hpoints' : ((List.zip (s.job slot).streams (s.replayPoints slot)).all fun e =>
      (s.job slot).packedStream e.1 || decide (e.2 < (s.job slot).batchCount)) = true := by
    simpa only [List.all_eq_true, Bool.or_eq_true, decide_eq_true_eq] using hpoints
  have hpolicy' : (s.get (inst Obj.resumeCorruptPolicy slot) != 2 || (s.job slot).t != 0) = true := by
    simpa only [Bool.or_eq_true, bne_iff_ne] using hpolicy
  simp only [State.resumeFault, hstate, hmanifest, (shardsKept_iff_all s slot).mp hshards, hdigest, hepoch, hpoints', hslice, hlead,
    hsync, hpolicy', beq_self_eq_true, and_self, decide_true, Bool.and_self, firstCode_cons_true, firstCode_nil]

theorem resumeFault_notHalted (h : ¬ (s.running slot = true ∧ s.stepState slot = 1)) : s.resumeFault slot false = 0x7813 := by
  have hstate : (s.running slot && s.stepState slot == 1) = false := by simpa using h
  simp [State.resumeFault, hstate]

/-! ## RESUME, JOIN, CANCEL and ResumeTick -/

theorem resume_ready (h : s.resumeFault slot false = 0) : resume slot s = (s.setStepState slot 2).ok := by simp [resume, h]

theorem resume_faulty (h : s.resumeFault slot false ≠ 0) : resume slot s = s.refuseStep slot (s.resumeFault slot false) := by
  unfold resume
  split
  next h0 => exact absurd h0 h
  next => rfl

theorem join_ready (h : s.resumeFault slot true = 0) :
    join slot s = ((((s.set (inst Obj.launchTick slot) (s.get (inst Obj.resumeTick slot))).modSlot slot fun sl =>
      { sl with joined := true }).setStepState slot 2).enterState slot 3).ok := by simp [join, h]

theorem join_faulty (h : s.resumeFault slot true ≠ 0) : join slot s = s.refuseStep slot (s.resumeFault slot true) := by
  unfold join
  split
  next h0 => exact absurd h0 h
  next => rfl

theorem resumeWaits_iff : s.resumeWaits slot = true ↔ s.stepState slot = 2 ∧ s.gtc < s.get (inst Obj.resumeTick slot) := by
  simp [State.resumeWaits]

theorem cancel_waiting (h : s.resumeWaits slot = true) :
    cancel slot s = State.ok (if (s.slot slot).joined = true then (s.unjoin slot).enterState slot 2 else s.setStepState slot 1) := by
  unfold cancel
  rw [if_neg (not_not_intro h)]
  split <;> rfl

theorem cancel_notWaiting (h : ¬ s.resumeWaits slot = true) : cancel slot s = s.refused 0x801A := if_pos h

theorem resumeTick_due (h : s.stepState slot = 2) (ht : s.get (inst Obj.resumeTick slot) ≤ s.gtc) :
    resumeTick slot s = if s.running slot then s.replay slot
      else if s.jobState slot = 3 ∧ (s.slot slot).joined then s.startSpare slot else s :=
  if_neg (by omega)

theorem running_eq_false (h : s.jobState slot = 3) : s.running slot = false := by simp [State.running, h]

/-! ## The pending replacement list -/

theorem stepOpen_iff : s.stepOpen slot = true ↔ s.stepState slot = 1 ∨ s.jobState slot = 2 := by simp [State.stepOpen]

/-- The entry that REPLACE puts into the pending list (R458). -/
def State.memberEntry (s : State) (slot : Nat) : Replacement :=
  { old := s.get (inst Obj.memberOldUid slot), new := s.get (inst Obj.memberNewUid slot)
    address := if s.get (inst Obj.memberNewUid slot) = 0 then 0 else s.get (inst Obj.memberNewAddress slot) }

theorem replaceMember_fits (ho : s.stepOpen slot = true) (hold : (s.memberEntry slot).old ∈ (s.job slot).uids)
    (hnew : (s.memberEntry slot).new = 0 ∨ ((s.memberEntry slot).new ∉ s.members slot ∧
      ∀ x ∈ (s.slot slot).pendingList, x.old = (s.memberEntry slot).old ∨ x.new ≠ (s.memberEntry slot).new))
    (hpeers : s.peersFit slot (putReplacement (s.slot slot).pendingList (s.memberEntry slot)) = true) :
    replaceMember slot s = s.setPending slot (putReplacement (s.slot slot).pendingList (s.memberEntry slot)) := by
  have htaken : ¬ ((s.memberEntry slot).new ≠ 0 ∧ ((s.members slot).contains (s.memberEntry slot).new = true ∨
      ((s.slot slot).pendingList.any fun x => x.old != (s.memberEntry slot).old && x.new == (s.memberEntry slot).new) = true)) := by
    rintro ⟨hne, hmember | hentry⟩
    · exact (hnew.resolve_left hne).1 (by simpa using hmember)
    · obtain ⟨x, hx, hxnew⟩ := List.any_eq_true.mp hentry
      obtain ⟨hother, htwice⟩ : x.old ≠ (s.memberEntry slot).old ∧ x.new = (s.memberEntry slot).new := by simpa using hxnew
      exact ((hnew.resolve_left hne).2 x hx).elim hother (· htwice)
  unfold replaceMember
  refine (if_neg (not_not_intro ho)).trans (if_neg ?_)
  rintro (h | h | h)
  · exact h (by simpa [State.memberEntry] using hold)
  · exact htaken h
  · exact h hpeers

theorem replaceMember_unknown (ho : s.stepOpen slot = true) (hold : (s.memberEntry slot).old ∉ (s.job slot).uids) :
    replaceMember slot s = s.refuseMember slot 0x7814 := by
  unfold replaceMember
  exact (if_neg (not_not_intro ho)).trans (if_pos (.inl (by simpa [State.memberEntry] using hold)))

theorem replaceMember_shut (ho : ¬ s.stepOpen slot = true) : replaceMember slot s = s.refuseMember slot 0x801A := if_pos ho

theorem removeDomain_open (ho : s.stepOpen slot = true) (hv : 0 < s.get (inst Obj.memberDomainValue slot)) :
    removeDomain slot s = s.setPending slot
      (((List.zip (s.job slot).nodes (s.job slot).tags).filter fun e =>
        e.2.tag (s.get (inst Obj.memberDomainKind slot)) == s.get (inst Obj.memberDomainValue slot)).foldl
          (fun l e => putReplacement l { old := e.1.uid, new := 0, address := 0 }) (s.slot slot).pendingList) := by
  have hne : (s.get (inst Obj.memberDomainValue slot) != 0) = true := by simpa using Nat.ne_of_gt hv
  simp [removeDomain, ho, hne]

theorem removeDomain_shut (ho : ¬ s.stepOpen slot = true) : removeDomain slot s = s.refuseMember slot 0x801A := if_pos ho

theorem memberClear_open (ho : s.stepOpen slot = true) : memberClear slot s = s.setPending slot (s.slot slot).inForce :=
  if_neg (not_not_intro ho)

theorem memberClear_shut (ho : ¬ s.stepOpen slot = true) : memberClear slot s = s.refuseMember slot 0x801A := if_pos ho

end Steps

/-! ## The statement -/

/-- Settles O40: each command's meaning where it is let through; what RESUME and JOIN ask is resumeFault, the first condition of R450
that fails, and what a MemberCommand asks is stepOpen. -/
theorem replayAndMembershipComplete : Obligations.ReplayAndMembershipComplete := by
  refine ⟨fun s slot => ⟨fun ha hr hs h => ?_, fun ha hn => ?_, fun ha hf => ?_, fun ha h2 hd h => ?_, fun ha hf => ?_,
    fun ha hs ht => ?_, fun ha hn => ?_, fun hs ht hr => ?_, fun hs ht h3 hj => ?_⟩,
    fun s slot => ⟨fun ha ho => ⟨fun hold hnew hpeers => ?_, fun hold => ?_⟩, fun ha ho hv => ?_, fun ha ho => ?_, fun ha ho => ?_,
      fun ha ho => ?_, fun ha ho => ?_⟩⟩
  · rw [exec_resume_accepted ha, resume_ready (resumeFault_ready h (by simp [hr, hs]) rfl)]
  · have hf := resumeFault_notHalted hn
    rw [exec_resume_accepted ha, resume_faulty (by omega), hf]; rfl
  · rw [exec_resume_accepted ha, resume_faulty hf]; rfl
  · rw [exec_join_accepted ha, join_ready (resumeFault_ready h (by simp [h2]) (by simpa using hd))]
  · rw [exec_join_accepted ha, join_faulty hf]; rfl
  · rw [exec_cancel_accepted ha, cancel_waiting (resumeWaits_iff.mpr ⟨hs, ht⟩)]
  · rw [exec_cancel_accepted ha, cancel_notWaiting fun h => ?_]
    obtain ⟨hs, ht⟩ := resumeWaits_iff.mp h
    exact hn.elim (· hs) (Nat.not_le.mpr ht)
  · exact next_flow ((resumeTick_due hs ht).trans (if_pos hr))
  · exact next_flow ((resumeTick_due hs ht).trans ((if_neg (by simp [running_eq_false h3])).trans (if_pos ⟨h3, hj⟩)))
  · rw [exec_replace_accepted ha]
    exact congrArg Host.Outcome.next (replaceMember_fits (stepOpen_iff.mpr ho) hold hnew hpeers)
  · rw [exec_replace_accepted ha]
    exact congrArg Host.Outcome.next (replaceMember_unknown (stepOpen_iff.mpr ho) hold)
  · rw [exec_removeDomain_accepted ha]
    exact congrArg Host.Outcome.next (removeDomain_open (stepOpen_iff.mpr ho) hv)
  · rw [exec_memberClear_accepted ha]
    exact congrArg Host.Outcome.next (memberClear_open (stepOpen_iff.mpr ho))
  · rw [exec_replace_accepted ha]
    exact congrArg Host.Outcome.next (replaceMember_shut (mt stepOpen_iff.mp ho))
  · rw [exec_removeDomain_accepted ha]
    exact congrArg Host.Outcome.next (removeDomain_shut (mt stepOpen_iff.mp ho))
  · rw [exec_memberClear_accepted ha]
    exact congrArg Host.Outcome.next (memberClear_shut (mt stepOpen_iff.mp ho))

end Sys2Proof.Machine
end

section
/-! Determinism and global time (R49 to R57, R586): one tick of an idle unit, what a measured offset does to the clock, and the
changes of SyncState. -/

namespace Sys2Proof.Machine

/-! ## One tick -/

/-- Counting can change the dictionary alone. -/
def DictOnly (s t : State) : Prop := ∃ d, t = { s with dict := d }

theorem DictOnly.refl (s : State) : DictOnly s s := ⟨s.dict, rfl⟩

theorem DictOnly.trans {s t u : State} (h : DictOnly s t) (g : DictOnly t u) : DictOnly s u := by
  obtain ⟨_, rfl⟩ := h
  obtain ⟨d, rfl⟩ := g
  exact ⟨d, rfl⟩

theorem DictOnly.count (s : State) (k n : Nat) : DictOnly s (s.count k n) := ⟨_, rfl⟩

theorem DictOnly.event (s : State) (b code w : Nat) (unit slot : Option Nat) : DictOnly s (s.event b code w unit slot) :=
  (event_banksOnly s b code w unit slot).rest

theorem DictOnly.ite {p : Prop} [Decidable p] {s t u : State} (h : DictOnly s t) (g : DictOnly s u) :
    DictOnly s (if p then t else u) := by
  split
  · exact h
  · exact g

theorem DictOnly.foldl {α : Type} {f : State → α → State} (h : ∀ s a, DictOnly s (f s a)) (l : List α) (s : State) :
    DictOnly s (l.foldl f s) := by
  induction l generalizing s with
  | nil => exact .refl s
  | cons a l ih => exact (h s a).trans (ih _)

theorem countTick_dictOnly (s : State) : DictOnly s s.countTick :=
  .foldl (fun t b => (DictOnly.event t b ..).trans (.event _ b ..)) _ s

theorem tickSlot_dictOnly (s : State) (slot : Nat) : DictOnly s (s.tickSlot slot) :=
  (DictOnly.ite (.count ..) (.refl s)).trans (.ite (.count ..) (.refl _))

theorem tickShoe_dictOnly (s : State) (x : Shoe) : DictOnly s (s.tickShoe x) :=
  (DictOnly.ite (.count ..) (.refl s)).trans (.ite (.count ..) (.refl _))

theorem DictOnly.advance {s t : State} (h : DictOnly s t) :
    ∃ d, ({ t with gtc := (t.gtc + 1) % 2 ^ 64 } : State) = { s with dict := d, gtc := (s.gtc + 1) % 2 ^ 64 } := by
  obtain ⟨d, rfl⟩ := h
  exact ⟨d, rfl⟩

/-- A tick counts, and then the GTC is one more. -/
theorem tick_eq (s : State) : ∃ d, s.tick = { s with dict := d, gtc := (s.gtc + 1) % 2 ^ 64 } := by
  have counted := (countTick_dictOnly s).trans
    ((DictOnly.foldl tickSlot_dictOnly allSlots _).trans (.foldl tickShoe_dictOnly s.shoes _))
  exact DictOnly.advance (counted.trans ((DictOnly.ite (.refl _) (.count ..)).trans (.ite (.count ..) (.refl _))))

/-- Settles O2: an idle step is a tick, which keeps every field but the dictionary and the GTC. -/
theorem idleStepIsOneTick : Obligations.IdleStepIsOneTick := by
  intro s h
  obtain ⟨d, hd⟩ := tick_eq s
  refine ⟨s.tick, ?_, ?_, ?_⟩
  · unfold step; rw [h]
  · rw [hd]
  · rw [hd]; exact h

/-! ## The slewing loop -/

theorem interval_ptp {s : State} {n : Nat} (h : s.get Obj.syncSource = 1) (hn : s.geti 32 Obj.ptpSyncIntervalLog = -(n : Int)) :
    s.interval = 10 ^ 9 / 2 ^ n := by
  unfold State.interval
  rw [if_pos h, hn, Int.neg_neg, Int.toNat_natCast]
  rfl

theorem interval_other {s : State} (h : s.get Obj.syncSource ≠ 1) : s.interval = 10 ^ 9 := if_neg h

/-- Settles O10: the loop is the rule's two lines as they stand, and D is read from the source. -/
theorem slewLoopComputesCorrection : Obligations.SlewLoopComputesCorrection :=
  ⟨fun _ _ _ _ => rfl, fun _ _ h hn => interval_ptp h hn, fun _ h => interval_other (by omega)⟩

/-! ## A measurement -/

theorem toSigned_ofSigned {w : Nat} {v : Int} (hl : -(2 ^ w : Int) ≤ v) (hr : v < 2 ^ w) :
    toSigned (w + 1) (ofSigned (w + 1) v) = v := by
  have hcode : ofSigned (w + 1) v % 2 ^ (w + 1) = ofSigned (w + 1) v :=
    Nat.mod_eq_of_lt (by unfold ofSigned; have := Nat.two_pow_pos (w + 1); omega)
  unfold toSigned
  rw [hcode]
  unfold ofSigned
  rw [Nat.add_sub_cancel, Nat.pow_succ]
  have hpow : ((2 ^ w : Nat) : Int) = 2 ^ w := by push_cast; rfl
  rw [← hpow] at hl hr
  generalize 2 ^ w = p at hl hr ⊢
  by_cases hv : 0 ≤ v
  · rw [Int.emod_eq_of_lt hv (by omega), if_pos (by omega)]
    omega
  · rw [← Int.add_emod_right, Int.emod_eq_of_lt (by omega) (by omega), if_neg (by omega)]
    omega

/-- The state in which a measured offset is corrected: OffsetTicks shows it (R586), and it is kept for a loss of the source (R57). -/
def State.noted (s : State) (o : Int) : State :=
  { s.seti 32 Obj.offsetTicks o with time := { s.time with lossOffset := o.natAbs } }

theorem noted_get {s : State} {o : Int} {k : Nat} (h : k ≠ Obj.offsetTicks) : (s.noted o).get k = s.get k :=
  State.get_set_ne s _ _ _ h

theorem noted_interval (s : State) (o : Int) : (s.noted o).interval = s.interval := by
  unfold State.interval State.geti
  rw [noted_get (by decide), noted_get (by decide)]

theorem noted_jobState (s : State) (o : Int) (i : Nat) : (s.noted o).jobState i = s.jobState i :=
  noted_get (by simp only [inst, Obj.jobState, Obj.offsetTicks]; omega)

theorem noted_jobsActive (s : State) (o : Int) : (s.noted o).jobsActive = s.jobsActive := by
  simp only [State.jobsActive, noted_jobState]

theorem setFitting_fits {s : State} {w k : Nat} {v : Int} (hl : -(2 ^ (w - 1)) ≤ v) (hr : v < 2 ^ (w - 1)) :
    s.setFitting w k v = s.seti w k v := if_pos ⟨hl, hr⟩

theorem correct_step {s : State} {o : Int} (h : s.get Obj.stepThresholdTicks < o.natAbs) (hj : s.jobsActive = false) :
    s.correct o = State.countW { s with
      gtc := (((s.gtc : Int) - o) % (2 ^ 64 : Int)).toNat
      time := { s.time with corr := s.time.freq, awaitRealign := true }
      counters := { s.counters with stepped := true } } 32 Obj.gtcStepCount 1 := by
  simp [State.correct, h, hj]

theorem correct_slew {s : State} {o : Int} (h : o.natAbs ≤ s.get Obj.stepThresholdTicks ∨ s.jobsActive = true) :
    s.correct o =
      let r := slewLoop s.time.freq o s.interval (s.get Obj.slewLimitPpm * 1000)
      { s with time := { s.time with freq := r.1, corr := r.2 } } := by
  have hslews : ¬ (decide (o.natAbs > s.get Obj.stepThresholdTicks) && !s.jobsActive) = true := by
    rcases h with h | h
    · rw [decide_eq_false (Nat.not_lt.mpr h), Bool.false_and]
      exact Bool.false_ne_true
    · rw [h, Bool.not_true, Bool.and_false]
      exact Bool.false_ne_true
  unfold State.correct
  exact if_neg hslews

/-- A correction leaves every object but GtcStepCount. -/
theorem correct_get {s : State} {o : Int} {k : Nat} (h : k ≠ Obj.gtcStepCount) : (s.correct o).get k = s.get k := by
  unfold State.correct
  split
  · exact State.get_set_ne _ _ _ _ h
  · rfl

/-! ## Judging a measurement -/

/-- One more measurement is counted, inside the window or outside it (R56). -/
def State.judged (s : State) (inside : Bool) : State :=
  { s with time := { s.time with
    inside := if inside then s.time.inside + 1 else 0
    outside := if inside then 0 else s.time.outside + 1 } }

/-- What judging does where the state is not FREE: the counts, and at most one change of SyncState. -/
theorem judge_notFree {s : State} (h : s.get Obj.syncState ≠ 0) (b : Bool) :
    s.judge b =
      if s.get Obj.syncState = 3 then (s.judged b).setSyncState (if b then 2 else 1)
      else if s.get Obj.syncState = 1 ∧ 16 ≤ (s.judged b).time.inside then (s.judged b).setSyncState 2
      else if s.get Obj.syncState = 2 ∧ 4 ≤ (s.judged b).time.outside then (s.judged b).setSyncState 1
      else s.judged b := by
  unfold State.judge
  rw [if_neg h]
  rfl

/-- A FREE state first enters ACQUIRING and is then judged from there. -/
theorem judge_free {s : State} (h : s.get Obj.syncState = 0) (b : Bool) : s.judge b = (s.setSyncState 1).judge b := by
  have h1 : (s.setSyncState 1).get Obj.syncState ≠ 0 := by rw [setSyncState_get]; decide
  unfold State.judge
  rw [if_pos h, if_neg h1]

/-- Judging leaves the synchronisation objects but SyncState and SyncLossCount. -/
theorem judge_other {s : State} {b : Bool} {k : Nat} (hk : syncObject k) (h1 : k ≠ Obj.syncState) (h2 : k ≠ Obj.syncLossCount) :
    (s.judge b).get k = s.get k := by
  have notFree : ∀ t : State, t.get Obj.syncState ≠ 0 → (t.judge b).get k = t.get k := by
    intro t ht
    have counted : (t.judged b).get k = t.get k := rfl
    rw [judge_notFree ht]
    split
    · rw [setSyncState_other _ _ _ hk h1 h2, counted]
    · split
      · rw [setSyncState_other _ _ _ hk h1 h2, counted]
      · split
        · rw [setSyncState_other _ _ _ hk h1 h2, counted]
        · exact counted
  by_cases h : s.get Obj.syncState = 0
  · rw [judge_free h, notFree _ (by rw [setSyncState_get]; decide), setSyncState_other _ _ _ hk h1 h2]
  · exact notFree s h

theorem measure_eq {s : State} {o : Int} (hl : -(2 ^ 31) ≤ o) (hr : o < 2 ^ 31) :
    s.measure o = ((s.noted o).correct o).judge (decide (o.natAbs ≤ s.get Obj.syncWindowTicks)) := by
  rw [← noted_get (s := s) (o := o) (k := Obj.syncWindowTicks) (by decide)]
  unfold State.measure
  rw [setFitting_fits (w := 32) hl hr]
  rfl

/-- Settles O11: a measurement notes the offset, corrects by it and is judged, and judging leaves the clock as corrected. -/
theorem measurementStepsOrSlews : Obligations.MeasurementStepsOrSlews := by
  intro s o hl hr
  obtain ⟨hgtc, hfreq, hcorr⟩ := judge_clock ((s.noted o).correct o) (decide (o.natAbs ≤ s.get Obj.syncWindowTicks))
  rw [← measure_eq hl hr] at hgtc hfreq hcorr
  have hthreshold : (s.noted o).get Obj.stepThresholdTicks = s.get Obj.stepThresholdTicks := noted_get (by decide)
  refine ⟨?_, fun h hj => ?_, fun h => ?_⟩
  · have hshown : (s.measure o).get Obj.offsetTicks = ofSigned 32 o := by
      rw [measure_eq hl hr, judge_other ⟨by decide, by decide⟩ (by decide) (by decide), correct_get (by decide)]
      exact State.get_set_self s _ _
    unfold State.geti
    rw [hshown, toSigned_ofSigned hl hr]
  · rw [correct_step (by rwa [hthreshold]) (by rwa [noted_jobsActive])] at hgtc hfreq hcorr
    exact ⟨hgtc, hfreq, hcorr⟩
  · rw [correct_slew (by rwa [hthreshold, noted_jobsActive])] at hgtc hfreq hcorr
    refine ⟨hgtc, ?_⟩
    rw [hfreq, hcorr, noted_interval, noted_get (by decide)]
    rfl

/-! ## SyncState -/

/-- A change of SyncState starts the counts of measurements afresh, and nothing else of the clock changes. -/
theorem setSyncState_time {s : State} {new : Nat} (h : new ≠ s.get Obj.syncState) :
    (s.setSyncState new).time = { s.time with inside := 0, outside := 0 } := by
  unfold State.setSyncState
  rw [if_neg h]
  dsimp only
  split
  · rw [(disarmAll_keepsClock _).time, (postEvent_postsOnly _ _ _ _).time]
    rfl
  · exact (postEvent_postsOnly _ _ _ _).time

section Judge
variable {s : State} {b : Bool}

theorem judge_holdover (h : s.get Obj.syncState = 3) : s.judge b = (s.judged b).setSyncState (if b then 2 else 1) := by
  rw [judge_notFree (by omega), if_pos h]

theorem judge_acquiring_enough (h : s.get Obj.syncState = 1) (hc : 16 ≤ (s.judged b).time.inside) :
    s.judge b = (s.judged b).setSyncState 2 := by
  rw [judge_notFree (by omega), if_neg (by omega), if_pos ⟨h, hc⟩]

theorem judge_acquiring_few (h : s.get Obj.syncState = 1) (hc : (s.judged b).time.inside < 16) : s.judge b = s.judged b := by
  rw [judge_notFree (by omega), if_neg (by omega), if_neg (by omega), if_neg (by omega)]

theorem judge_synced_enough (h : s.get Obj.syncState = 2) (hc : 4 ≤ (s.judged b).time.outside) :
    s.judge b = (s.judged b).setSyncState 1 := by
  rw [judge_notFree (by omega), if_neg (by omega), if_neg (by omega), if_pos ⟨h, hc⟩]

theorem judge_synced_few (h : s.get Obj.syncState = 2) (hc : (s.judged b).time.outside < 4) : s.judge b = s.judged b := by
  rw [judge_notFree (by omega), if_neg (by omega), if_neg (by omega), if_neg (by omega)]

/-- A state that has just entered ACQUIRING has counted no measurement, so the one that brought it there leaves it in ACQUIRING. -/
theorem judge_free_get (h : s.get Obj.syncState = 0) : (s.judge b).get Obj.syncState = 1 := by
  have hin : (s.setSyncState 1).time.inside = 0 := by rw [setSyncState_time (by omega)]
  have hfew : ((s.setSyncState 1).judged b).time.inside < 16 := by
    cases b <;> simp [State.judged, hin]
  rw [judge_free h, judge_acquiring_few (setSyncState_get s 1) hfew]
  exact setSyncState_get s 1

end Judge

/-- The source is lost: C becomes the last F, and no Sync or edge is waited for. -/
def State.lost (s : State) : State :=
  { s with time := { s.time with seen := false, corr := s.time.freq, lossTick := s.gtc, twoStep := none } }

theorem sourceLost_synced {s : State} (h : s.get Obj.syncState = 2) : s.sourceLost = s.lost.setSyncState 3 := if_pos h

theorem sourceLost_acquiring {s : State} (h : s.get Obj.syncState = 1) : s.sourceLost = s.lost.setSyncState 0 :=
  (if_neg (show ¬ s.get Obj.syncState = 2 by omega)).trans (if_pos h)

/-- A loss of the source leaves the GTC, F and the source chosen. -/
theorem sourceLost_clock (s : State) :
    s.sourceLost.gtc = s.gtc ∧ s.sourceLost.time.freq = s.time.freq ∧ s.sourceLost.get Obj.syncSource = s.get Obj.syncSource := by
  have changed : ∀ n, (s.lost.setSyncState n).gtc = s.gtc ∧ (s.lost.setSyncState n).time.freq = s.time.freq ∧
      (s.lost.setSyncState n).get Obj.syncSource = s.get Obj.syncSource := fun n =>
    ⟨(setSyncState_clock s.lost n).1, (setSyncState_clock s.lost n).2.1,
      setSyncState_other s.lost n _ ⟨by decide, by decide⟩ (by decide) (by decide)⟩
  unfold State.sourceLost
  dsimp only
  split
  · exact changed 3
  · split
    · exact changed 0
    · exact ⟨rfl, rfl, rfl⟩

theorem refInLockLoss_seen {s : State} (h : s.get Obj.syncSource = 2) (hs : s.time.seen = true) :
    refInLockLoss s = { s with time := { s.time with refLocked := false } }.sourceLost := if_pos ⟨h, hs⟩

theorem sourceTimeout_pps {s : State} (h : s.get Obj.syncSource = 2) (hs : s.time.seen = true)
    (hgap : 10 ^ 9 + 1000 < s.gtc - s.time.lastSeen) : sourceTimeout s = s.sourceLost := by
  have hgap' : giga + 1000 < s.gtc - s.time.lastSeen := hgap
  have hsource : ¬ s.sourceLost.get Obj.syncSource = 1 := by rw [(sourceLost_clock s).2.2]; omega
  unfold sourceTimeout
  exact (if_pos (by simp [h, hs, hgap'])).trans (if_neg hsource)

theorem holdoverExpiry_expired {s : State} (h : s.get Obj.syncState = 3)
    (herr : 20 * 10 ^ 9 < s.time.lossOffset * 10 ^ 9 + (s.gtc - s.time.lossTick) * s.get Obj.holdoverDriftPpb) :
    holdoverExpiry s = s.setSyncState 0 := if_pos ⟨h, herr⟩

/-! ## SyncSource -/

theorem recordWrite_rest (s : State) (k : Nat) (b : Bytes) : s.recordWrite k b = { s with persist := (s.recordWrite k b).persist } := by
  unfold State.recordWrite
  split
  · split <;> rfl
  · rfl

theorem accept_rest (s : State) (k v : Nat) :
    s.accept k v = { s with dict := (s.set k v).dict, persist := (s.accept k v).persist, answer := {} } :=
  congrArg State.ok (recordWrite_rest (s.set k v) k _)

theorem accept_get (s : State) (k v j : Nat) : (s.accept k v).get j = if j = k then v else s.get j := by
  rw [accept_rest]
  exact State.get_set s k v j

theorem accept_gtc (s : State) (k v : Nat) : (s.accept k v).gtc = s.gtc := by rw [accept_rest]

/-- The value is taken and the clock forgets its source. -/
def State.sourceChosen (s : State) (v : Nat) : State :=
  { s.accept Obj.syncSource v with time := { (s.accept Obj.syncSource v).time with
      freq := 0, corr := 0, seen := false, inside := 0, outside := 0, twoStep := none, t3 := none, ppsSecond := none } }

theorem exec_syncSourceWrite_accepted {s : State} {v : Nat} (h : Accepts s Obj.syncSource v) :
    exec (.syncSourceWrite v) s = .next ((s.sourceChosen v).setSyncState 0) := congrArg Host.Outcome.next (writeCommand_accepted h)

/-- Settles O12: each change is one of setSyncState, whose SyncState reads what was entered. -/
theorem syncStateTransitions : Obligations.SyncStateTransitions := by
  refine ⟨fun s b h => judge_free_get h, fun s h hc => ?_, fun s h hc => ?_, fun s h hc => ?_, fun s h hc => ?_, fun s b h => ?_,
    fun s h => ?_, fun s h => ?_, fun s h herr => ?_, fun s v ha => ?_, fun s h hs => ?_, fun s h hs hgap => ?_⟩
  · rw [judge_acquiring_enough (b := true) h (Nat.le_of_eq hc.symm), setSyncState_get]
  · rw [judge_acquiring_few (b := true) h hc]; exact h
  · rw [judge_synced_enough (b := false) h (Nat.le_of_eq hc.symm), setSyncState_get]
  · rw [judge_synced_few (b := false) h hc]; exact h
  · rw [judge_holdover h, setSyncState_get]
  · rw [sourceLost_synced h, setSyncState_get]
  · rw [sourceLost_acquiring h, setSyncState_get]
  · exact ⟨_, congrArg Host.Outcome.next (holdoverExpiry_expired h herr), setSyncState_get s 0, (setSyncState_clock s 0).1⟩
  · obtain ⟨hgtc, hfreq, hcorr⟩ := setSyncState_clock (s.sourceChosen v) 0
    refine ⟨_, exec_syncSourceWrite_accepted ha, setSyncState_get _ 0, ?_, hfreq, hcorr, hgtc.trans (accept_gtc s _ v)⟩
    rw [setSyncState_other _ _ _ ⟨by decide, by decide⟩ (by decide) (by decide)]
    exact (accept_get s _ v _).trans (if_pos rfl)
  · exact congrArg Host.Outcome.next (refInLockLoss_seen h hs)
  · obtain ⟨hgtc, hfreq, -⟩ := sourceLost_clock s
    exact ⟨_, congrArg Host.Outcome.next (sourceTimeout_pps h hs hgap), rfl, hgtc, hfreq⟩

end Sys2Proof.Machine
end

section
/-! PTP, PPS_IN and the realignment of the islands (R50, R52, R54, R58): each message that is taken, as its rule's measurement. -/

namespace Sys2Proof.Machine

section Messages
variable {s : State}

/-- A message that PTP takes from the chosen transmitter passes the guard of its command. -/
theorem ptp_taken {port transport domain sender : Nat} (ht : s.ptpTakes port transport domain = true) (hc : s.ptpChosen sender = true) :
    (s.ptpTakes port transport domain && s.ptpChosen sender) = true := by rw [ht, hc]; rfl

theorem ptpSync_oneStep {m : PtpMessage} (ht : s.ptpTakes m.port m.transport m.domain = true) (hc : s.ptpChosen m.sender = true) :
    ptpSync m false s =
      State.syncExchange { s with time := { s.time with lastSeen := s.gtc, seen := true } } (m.origin + m.correction) s.gtc := by
  unfold ptpSync
  rw [if_pos (ptp_taken ht hc)]
  simp only [Bool.false_eq_true, if_false]

theorem ptpSync_twoStep {m : PtpMessage} (ht : s.ptpTakes m.port m.transport m.domain = true) (hc : s.ptpChosen m.sender = true) :
    ptpSync m true s = { s with time := { s.time with lastSeen := s.gtc, seen := true, twoStep := some { m := m, t2 := s.gtc } } } :=
  if_pos (ptp_taken ht hc)

theorem ptpFollowUp_matching {m : PtpMessage} {p : PtpPending} (hp : s.time.twoStep = some p) (hsender : p.m.sender = m.sender)
    (hseq : p.m.seq = m.seq) (ht : s.ptpTakes m.port m.transport m.domain = true) (hc : s.ptpChosen m.sender = true) :
    ptpFollowUp m s = s.syncExchange (m.origin + m.correction + p.m.correction) p.t2 := by
  simp [ptpFollowUp, hp, hsender, hseq, ht, hc]

theorem delayReqSend_ready (hs : s.get Obj.syncSource = 1) (hp : 2 ≤ s.get (inst Obj.portState (s.get Obj.ptpPort)))
    (hm : s.time.masters ≠ []) :
    delayReqSend s = State.send
      { s with time := { s.time with t3 := some s.gtc, delaySeq := (s.time.delaySeq + 1) % 65536 } }
      (.frame (s.get Obj.ptpPort) 5 (leBytes 2 ((s.time.delaySeq + 1) % 65536))) := if_pos ⟨hs, hp, hm⟩

/-- The mean path delay that a Delay_Resp gives (R54). -/
def State.delayMean (s : State) (m : PtpDelayResp) (t3 : Nat) : Int :=
  Int.tdiv (s.time.t2mt1 + (s.sourceTicks (m.receipt - m.correction) - t3)) 2

theorem ptpDelayResp_answering {m : PtpDelayResp} {t3 : Nat} (h3 : s.time.t3 = some t3) (hus : m.forUs = true)
    (hseq : m.seq = s.time.delaySeq) (ht : s.ptpTakes m.port m.transport m.domain = true) (hc : s.ptpChosen m.sender = true)
    (hl : 0 ≤ s.delayMean m t3) (hr : s.delayMean m t3 < 2 ^ 32) :
    ptpDelayResp m s = State.set { s with time := { s.time with t3 := none } } Obj.ptpMeanPathDelay (s.delayMean m t3).toNat := by
  have hguard : (s.ptpTakes m.port m.transport m.domain && s.ptpChosen m.sender && m.forUs && m.seq == s.time.delaySeq) = true := by
    simp [ht, hc, hus, hseq]
  unfold ptpDelayResp
  rw [h3]
  exact (if_pos hguard).trans (if_pos ⟨hl, hr⟩)

/-- An Announce takes the place of its transmitter's last among those heard (R54). -/
def State.heard (s : State) (d : PtpDataSet) : State :=
  { s with time := { s.time with masters := (s.time.masters.filter fun (x : PtpDataSet) => x.sender != d.sender) ++ [d] } }

theorem ptpAnnounce_taken {d : PtpDataSet} (ht : s.ptpTakes d.port d.transport d.domain = true) :
    ptpAnnounce d s = (s.heard d).chooseMaster := if_pos ht

theorem chooseMaster_time (s : State) : s.chooseMaster.time = s.time := by
  unfold State.chooseMaster
  split <;> rfl

theorem chooseMaster_parent {b : PtpDataSet} (h : bestMaster s.time.masters = some b) :
    s.chooseMaster.get Obj.ptpParentIdentity = b.sender := by
  unfold State.chooseMaster
  rw [h]
  exact State.get_set_self s _ _

theorem giga_cast : ((giga : Nat) : Int) = 10 ^ 9 := by decide

/-- A PPS_IN edge in lock begins a second (R50). -/
def State.secondBegun (s : State) (second : Nat) : State :=
  { s with time := { s.time with refLocked := true, ppsSecond := some second } }

/-- The edge that begins a second measures the GTC against it, and the source is seen (R50, R56). -/
def State.edgeMeasured (s : State) (second : Nat) : State :=
  let t := s.measure ((s.gtc : Int) - s.sourceTicks ((second : Int) * giga))
  { t with time := { t.time with lastSeen := t.gtc, seen := true } }

/-- An edge in its window and in lock begins the second after the last. -/
theorem ppsInEdge_inTime {v : Nat} (hs : s.get Obj.syncSource = 2) (hpending : s.time.ppsPending = none)
    (hv : s.time.ppsSecond = some v) (hl : giga - 1000 ≤ s.gtc - s.time.lastSeen) (hr : s.gtc - s.time.lastSeen ≤ giga + 1000) :
    ppsInEdge true s = (s.secondBegun (v + 1)).edgeMeasured (v + 1) := by
  have hwindow : ¬ (s.time.seen && !(decide (giga - 1000 ≤ s.gtc - s.time.lastSeen) &&
      decide (s.gtc - s.time.lastSeen ≤ giga + 1000))) = true := by rw [decide_eq_true hl, decide_eq_true hr]; simp
  unfold ppsInEdge
  rw [if_neg (not_not_intro hs)]
  extract_lets source locked gap kept second source' begun
  have hkept : kept = locked := if_neg hwindow
  have hsecond : second = some (v + 1) := by
    have hk : kept.time.ppsPending = none := by rw [hkept]; exact hpending
    have hk' : kept.time.ppsSecond = some v := by rw [hkept]; exact hv
    simp only [second, hk, hk', Option.map_some]
  have hbegun : begun = s.secondBegun (v + 1) := by
    simp only [begun, source', hsecond, hkept, locked, source, State.secondBegun, hpending]
  rw [hsecond, hbegun]
  rfl

end Messages

/-- Settles O13: each message by the equation of its command where its guard holds. -/
theorem ptpMessagesComplete : Obligations.PtpMessagesComplete := by
  refine ⟨fun s m ht hc => ⟨?_, ?_⟩, fun s m p hp hsender hseq ht hc => ?_, fun s hs hp hm => ?_,
    fun s m t3 h3 hus hseq ht hc hl hr => ?_, fun s d ht => ?_, fun s v hs _ hpending hv hl hr => ?_, fun s => rfl⟩
  · exact congrArg Host.Outcome.next (ptpSync_oneStep ht hc)
  · exact congrArg Host.Outcome.next (ptpSync_twoStep ht hc)
  · show Host.Outcome.next (ptpFollowUp m s) = _
    rw [ptpFollowUp_matching hp hsender hseq ht hc]
    rfl
  · exact ⟨_, congrArg Host.Outcome.next (delayReqSend_ready hs hp hm), rfl, rfl, rfl, rfl⟩
  · exact congrArg Host.Outcome.next (ptpDelayResp_answering h3 hus hseq ht hc hl hr)
  · refine ⟨_, congrArg Host.Outcome.next (ptpAnnounce_taken ht), ?_, fun b hb => ?_⟩
    · rw [chooseMaster_time]
      exact List.mem_append_right _ (List.mem_singleton_self d)
    · rw [chooseMaster_time] at hb
      exact chooseMaster_parent hb
  · rw [← giga_cast]
    exact ⟨_, congrArg Host.Outcome.next (ppsInEdge_inTime hs hpending hv hl hr), rfl⟩

end Sys2Proof.Machine
end

section
/-! The GDDR7 channels (R308 to R313): each command of a channel where its guards hold. -/

namespace Sys2Proof.Machine

theorem event_gtc (s : State) (b code w : Nat) (unit slot : Option Nat) : (s.event b code w unit slot).gtc = s.gtc := by
  obtain ⟨d, hd⟩ := DictOnly.event s b code w unit slot
  rw [hd]

section Channel
variable {s : State} {c : Nat}

/-! ## Holds and trainings -/

theorem refreshStart_due (hc : c < 96) (ht : s.refreshTick c = true) (hst : s.channelState c ≠ 3) (hp : s.power.selfRefresh = false)
    (hr : (s.channel c).refreshing = none) :
    refreshStart c s =
      let t := ((s.modChannel c fun x => { x with refreshing := some s.gtc }).bump Obj.gddrRefreshCount).event (memBank c) 0x102 1 (some c)
      if 4 * t.get Obj.retrainErrorLimit ≤ t.linkReplays c ∧ (t.channel c).training = none ∧ t.mayTrain c = true then
        t.startTraining c
      else t := by
  unfold refreshStart
  rw [if_neg (by simp [ht, hst, hp, hr]; omega)]
  simp only [Option.isNone_iff_eq_none]

theorem refreshEnd_over {since : Nat} (hr : (s.channel c).refreshing = some since) (ht : since + s.get Obj.refreshHoldTicks ≤ s.gtc)
    (first : Option Nat) (held : List Nat) :
    refreshEnd c first held s =
      (s.modChannel c fun x => { x with refreshing := none }).endHold c Obj.gddrRefreshStallTicks 0x103 0 first held := by
  unfold refreshEnd
  rw [hr]
  exact if_neg (Nat.not_lt.mpr ht)

theorem hotScheduleChange_pending {hot : Bool} (hh : (s.channel c).hotPending = some hot) (ht : s.gtc % 3900 = 0) :
    hotScheduleChange c s = (s.set (inst Obj.channelHot c) (ofBool hot)).modChannel c fun x => { x with hotPending := none } := by
  unfold hotScheduleChange
  rw [hh]
  exact if_neg (not_not_intro ht)

/-- A channel's training is over, with no outcome yet. -/
def State.trained (s : State) (c : Nat) : State := s.modChannel c fun x => { x with training := none }

/-- A training whose hold delayed nothing, of a channel that stays in its ChannelState. -/
theorem retrainComplete_eq {since : Nat} (ht : (s.channel c).training = some since) (hst : s.channelState c ≠ 1) (ok : Bool)
    (frames : Nat) (lost : List MemoryUse) :
    retrainComplete c ok none [] frames lost s =
      if ok then
        ((((s.trained c).countW 32 (inst Obj.channelRetrains c) 1).set (inst Obj.channelLastTrainTick c) s.gtc).modChannel c fun x =>
          { x with trainTemperature := (s.trained c).geti 32 (inst Obj.channelTemperature c), trainFails := 0, replays := [] }).repairFrames
            c
      else if ((s.trained c).channel c).trainFails + 1 < 3 then
        (s.trained c).modChannel c fun x => { x with trainFails := x.trainFails + 1 }
      else (s.trained c).retireUnreadable c frames lost := by
  have hkept : ¬ (s.modChannel c fun x => { x with training := none }).channelState c = 1 := hst
  unfold retrainComplete
  rw [ht]
  dsimp only
  rw [if_neg hkept]
  rfl

theorem retrainComplete_failed {since : Nat} (ht : (s.channel c).training = some since) (hst : s.channelState c ≠ 1) (frames : Nat)
    (lost : List MemoryUse) (hf : ((s.trained c).channel c).trainFails < 2) :
    retrainComplete c false none [] frames lost s = (s.trained c).modChannel c fun x => { x with trainFails := x.trainFails + 1 } := by
  rw [retrainComplete_eq ht hst, if_neg Bool.false_ne_true, if_pos (by omega)]

theorem retireUnreadable_eq (s : State) (c frames : Nat) (lost : List MemoryUse) :
    s.retireUnreadable c frames lost =
      lost.foldl (fun (u : State) d => u.dataLost c 0 d) (((s.findHomes frames).2.retired' c).count Obj.lostFrames frames) := by
  unfold State.retireUnreadable
  rcases s.findHomes frames with ⟨left, t⟩
  rfl

theorem retrainComplete_failedThird {since : Nat} (ht : (s.channel c).training = some since) (hst : s.channelState c ≠ 1) (frames : Nat)
    (lost : List MemoryUse) (hf : 2 ≤ ((s.trained c).channel c).trainFails) :
    retrainComplete c false none [] frames lost s =
      lost.foldl (fun (u : State) d => u.dataLost c 0 d)
        ((((s.trained c).findHomes frames).2.retired' c).count Obj.lostFrames frames) := by
  rw [retrainComplete_eq ht hst, if_neg Bool.false_ne_true, if_neg (by omega), retireUnreadable_eq]

/-! ## Errors -/

/-- The corrected errors of a frame, one more than were counted. -/
def State.frameErrors (s : State) (c frame : Nat) : Nat := (findKey frame (s.channel c).corrected).getD 0 + 1

/-- A corrected error is counted on its channel and its frame. -/
def State.countCorrected (s : State) (c frame : Nat) : State :=
  ((s.bump Obj.gddrCorrectedErrors).bump (inst Obj.channelCorrected c)).modChannel c fun x =>
    { x with corrected := putKey frame (s.frameErrors c frame) x.corrected }

theorem countCorrected_threshold (s : State) (c frame : Nat) :
    (s.countCorrected c frame).get Obj.rowRepairThreshold = s.get Obj.rowRepairThreshold := by
  have hne : Obj.rowRepairThreshold ≠ inst Obj.channelCorrected c := by
    simp only [inst, Obj.rowRepairThreshold, Obj.channelCorrected]; omega
  show ((s.bump Obj.gddrCorrectedErrors).bump (inst Obj.channelCorrected c)).get Obj.rowRepairThreshold = _
  rw [State.get_bump, if_neg hne, State.get_bump, if_neg (by decide)]

theorem gddrCorrectedError_eq (hc : c < 96) (frame : Nat) :
    gddrCorrectedError c frame s =
      if s.get Obj.rowRepairThreshold ≤ s.frameErrors c frame then (s.countCorrected c frame).repairDue c frame
      else s.countCorrected c frame := by
  unfold gddrCorrectedError
  rw [if_neg (Nat.not_le.mpr hc), ← countCorrected_threshold s c frame]
  rfl

theorem gddrUncorrectableRead_eq (hc : c < 96) (frame : Nat) (u : MemoryUse) :
    gddrUncorrectableRead c frame u s =
      let recent := ((s.channel c).uncorrectable.filter fun t => s.gtc ≤ t + 10 ^ 10) ++ [s.gtc]
      let t := (((s.bump Obj.gddrUncorrectedErrors).bump (inst Obj.channelUncorrected c)).modChannel c fun x =>
        { x with uncorrectable := recent }).dataLost c frame u
      if 16 < recent.length ∨ t.get Obj.rowRepairFramesLeft = 0 then t.retireReadable c else t.repairDue c frame := if_neg (by omega)

theorem gddrLinkCrcFailure_eq (hc : c < 96) (ticks : Nat) (held : List Nat) :
    gddrLinkCrcFailure c ticks held s =
      (((((s.bump Obj.gddrLinkReplays).bump Obj.gddrLinkReplayCount).count Obj.gddrLinkReplayTicks ticks).event (memBank c) 0x106 1
        (some c)).markPerturb held 6).modChannel c fun x =>
          { x with replays := (x.replays.filter fun t => s.gtc ≤ t + 10 ^ 9) ++ [s.gtc] } := by
  unfold gddrLinkCrcFailure
  rw [if_neg (by omega)]
  dsimp only
  have hgtc : ((((s.bump Obj.gddrLinkReplays).bump Obj.gddrLinkReplayCount).count Obj.gddrLinkReplayTicks ticks).event (memBank c) 0x106 1
      (some c)).gtc = s.gtc := event_gtc ..
  simp only [State.markPerturb, hgtc]

/-! ## Retirement -/

theorem exec_retireChannel_accepted (h : Accepts s Obj.retireChannel c) :
    exec (.retireChannel c) s = .next (s.retireReadable c).ok := congrArg Host.Outcome.next (writeCommand_accepted h)

theorem retireReadable_readable (h : s.channelState c < 2) : s.retireReadable c = s.set (inst Obj.channelState c) 2 :=
  if_neg (by omega)

theorem retireReadable_retiring (h : 2 ≤ s.channelState c) : s.retireReadable c = s := if_pos h

theorem channelMigrationComplete_homed {frames : Nat} (h : s.channelState c = 2) (hf : (s.findHomes (min frames 129706)).1 = 0)
    (homeless : List Nat) : channelMigrationComplete c frames homeless s = (s.findHomes (min frames 129706)).2.retired' c := by
  unfold channelMigrationComplete
  rw [if_neg (not_not_intro h)]
  dsimp only
  rw [if_pos hf]

theorem channelMigrationComplete_homeless {frames : Nat} (h : s.channelState c = 2) (hf : (s.findHomes (min frames 129706)).1 ≠ 0)
    (homeless : List Nat) : channelMigrationComplete c frames homeless s =
      (s.findHomes (min frames 129706)).2.degrade (homeless.take (s.findHomes (min frames 129706)).1) := by
  unfold channelMigrationComplete
  rw [if_neg (not_not_intro h)]
  dsimp only
  rw [if_neg hf]

end Channel

/-- Settles O29: each command by its equation, and each outcome by the branch that its hypothesis picks. -/
theorem channelCommandsComplete : Obligations.ChannelCommandsComplete := by
  refine ⟨fun s c hc ht hst hp hr => ?_, fun s c since hr ht => ⟨?_, fun first held => ?_⟩, fun s c hot hh ht => ?_,
    fun s c since frames lost ht hst => ⟨?_, fun hfew => ?_, fun hmany => ?_⟩, fun s c frame hc => ⟨fun hn => ?_, fun hn => ?_⟩,
    fun s c frame u hc => ?_, fun s c ticks held hc => ?_, fun s c ha => ⟨fun h => ?_, fun h => ?_⟩,
    fun s c frames homeless h => ⟨fun h0 => ?_, fun h0 => ?_⟩⟩
  · exact congrArg Host.Outcome.next (refreshStart_due hc ht hst hp hr)
  · exact congrArg Host.Outcome.next (refreshEnd_over hr ht none [])
  · exact congrArg Host.Outcome.next (refreshEnd_over hr ht (some first) held)
  · exact congrArg Host.Outcome.next (hotScheduleChange_pending hh ht)
  · exact next_flow ((retrainComplete_eq ht hst true frames lost).trans (if_pos rfl))
  · exact next_flow (retrainComplete_failed ht hst frames lost hfew)
  · exact next_flow (retrainComplete_failedThird ht hst frames lost hmany)
  · exact congrArg Host.Outcome.next ((gddrCorrectedError_eq hc frame).trans (if_neg (Nat.not_le.mpr hn)))
  · exact congrArg Host.Outcome.next ((gddrCorrectedError_eq hc frame).trans (if_pos hn))
  · exact next_flow (gddrUncorrectableRead_eq hc frame u)
  · exact congrArg Host.Outcome.next (gddrLinkCrcFailure_eq hc ticks held)
  · rw [exec_retireChannel_accepted ha, retireReadable_readable h]; rfl
  · rw [exec_retireChannel_accepted ha, retireReadable_retiring h]; rfl
  · exact congrArg Host.Outcome.next (channelMigrationComplete_homed h h0 homeless)
  · exact congrArg Host.Outcome.next (channelMigrationComplete_homeless h h0 homeless)

end Sys2Proof.Machine
end

section
/-! Shards and the sample index (R72 to R103): the ends of an open, of a scan and of a read, and issue, each where its guards hold. -/

namespace Sys2Proof.Machine

section Reads
variable {s : State} {e : Nat} {it : Item}

/-! ## The reads of an item's record -/

theorem onItem_some (h : s.item e = some it) (f : Item → State) : s.onItem e f = f it := by
  unfold State.onItem
  rw [h]

theorem recordReadComplete_read {o : ShardOpen} {sh : ShardRec} {b : Bytes} {x : IndexEntry} (hi : s.item e = some it)
    (hr : it.reading = true) (ho : (s.mediaCode e).2.readingFrom it myUid = some (o, sh)) (hc : (s.mediaCode e).1 = 0)
    (hb : (s.mediaCode e).2.sealedObject sh.objectId = some b) (hx : o.entryAt (it.sample - sh.first) = .ok x) :
    recordReadComplete e s = (s.mediaCode e).2.takeRecord it o sh.first sh.format (slice x.offset x.recordBytes b) := by
  refine (onItem_some hi _).trans ((if_neg (not_not_intro hr)).trans ?_)
  dsimp only
  rw [ho]
  refine (if_neg (not_not_intro hc)).trans ?_
  rw [hb, hx]

theorem recordReadComplete_mediaFailure {o : ShardOpen × ShardRec} (hi : s.item e = some it) (hr : it.reading = true)
    (ho : (s.mediaCode e).2.readingFrom it myUid = some o) (hc : (s.mediaCode e).1 ≠ 0) :
    recordReadComplete e s = (s.mediaCode e).2.nextCopy it (s.mediaCode e).1 := by
  refine (onItem_some hi _).trans ((if_neg (not_not_intro hr)).trans ?_)
  dsimp only
  rw [ho]
  exact if_pos hc

theorem peerRecordReadComplete_read {o : ShardOpen} {sh : ShardRec} {p : Nat × Nat} (hi : s.item e = some it)
    (hp : it.peerRead = some p) (ho : s.readingFrom it p.1 = some (o, sh)) (r : Bytes) :
    peerRecordReadComplete e (some r) s = s.takeRecord it o sh.first sh.format r := by
  refine (onItem_some hi _).trans ?_
  rw [hp]
  dsimp only
  rw [ho]

theorem peerRecordReadComplete_failed {p : Nat × Nat} (hi : s.item e = some it) (hp : it.peerRead = some p) :
    peerRecordReadComplete e none s = s.nextCopy it 0 := by
  refine (onItem_some hi _).trans ?_
  rw [hp]
  dsimp only
  split
  next h => cases h
  next => rfl

theorem peerFetchTimeout_reading {p : Nat × Nat} (hi : s.item e = some it) (hp : it.peerRead = some p) :
    peerFetchTimeout e s = if p.2 + s.get Obj.peerFetchTimeoutTicks < s.gtc then s.nextCopy it 0 else s := by
  refine (onItem_some hi _).trans ?_
  rw [hp]

end Reads

/-! ## The open of a copy -/

/-- The open of a Folien copy of `count` records ends: with its index the items that wait go on (R72), with a shard fault they try
their next copies (R91). -/
def State.openEnded (s : State) (slot : Nat) (o : ShardOpen) (count : Nat) : Except Nat (List IndexEntry × Bool) → State
  | .error code => (eachItem o.waiters (fun t it => t.nextCopy it code) (s.shardFault slot o code)).wakeOpens
  | .ok (entries, tagged) =>
    (eachItem o.waiters (fun t it => tryCopies it.copies it t)
      ((s.putShard slot { o with opening := false, entries := entries, tagged := tagged, endAt := count, waiters := [] }).bump
        (inst Obj.shardsOpened slot))).wakeOpens

/-- A scan and the members it met are counted (R83). -/
def State.countScan (s : State) (f : TarScan) : State :=
  ((s.bump Obj.tarScans).count Obj.tarMembersSkipped f.skipped).count Obj.tarMembersExcess f.excess

theorem countScan_get (s : State) (f : TarScan) :
    (s.countScan f).get Obj.tarScans = satAdd counterMax (s.get Obj.tarScans) 1 ∧
    (s.countScan f).get Obj.tarMembersExcess = satAdd counterMax (s.get Obj.tarMembersExcess) f.excess ∧
    (s.countScan f).get Obj.tarMembersSkipped = satAdd counterMax (s.get Obj.tarMembersSkipped) f.skipped := by
  simp [State.countScan, State.get_count, State.get_bump, Obj.tarScans, Obj.tarMembersExcess, Obj.tarMembersSkipped]

/-- A tar copy is indexed: its index takes heap, and the items that wait go on (R83). -/
def State.openScanned (s : State) (slot : Nat) (o : ShardOpen) (f : TarScan) : State :=
  (eachItem o.waiters (fun t it => tryCopies it.copies it t)
    (((s.putShard slot
      { o with
        opening := false, entries := f.entries, endAt := f.entries.length, waiters := []
        endCode := if f.code = 0 then 0x1044 else f.code }).bump (inst Obj.shardsOpened slot)).heapOrAbort slot .tarIndices
          (32 * f.entries.length))).wakeOpens

section Opens
variable {s : State} {slot shard node : Nat} {r : Option Bytes} {o : ShardOpen} {sh : ShardRec} {b : Bytes}

theorem shardOpenComplete_folien (ho : s.opening slot shard node = some (o, sh)) (hf : sh.format = 0)
    (hb : s.copyBytes node sh.objectId r = some b) :
    shardOpenComplete slot shard node 0 r s =
      s.openEnded slot o sh.count (openFolien (s.job slot) shard sh (s.get Obj.maxRecordBytes) b) := by
  unfold shardOpenComplete
  rw [ho]
  refine (if_neg (not_not_intro hf)).trans ((if_neg (not_not_intro rfl)).trans ?_)
  rw [hb]
  rfl

theorem tarScanComplete_scanned (ho : s.opening slot shard node = some (o, sh)) (hf : sh.format = 1)
    (hb : s.copyBytes node sh.objectId r = some b) :
    tarScanComplete slot shard node 0 r s =
      (s.countScan (scanTar sh.count (s.get Obj.maxRecordBytes) b)).openScanned slot o
        (scanTar sh.count (s.get Obj.maxRecordBytes) b) := by
  unfold tarScanComplete
  rw [ho]
  refine (if_neg (not_not_intro hf)).trans ((if_neg (not_not_intro rfl)).trans ?_)
  rw [hb]
  rfl

end Opens

/-! ## Issue -/

theorem itemIssue_room {s : State} {slot : Nat} (h : s.mayIssue slot = true) :
    itemIssue slot s = issueScan (((s.job slot).issued + 1) * (s.job slot).epochCount + 1) slot s := if_pos h

/-- Settles O15: each command by its equation where its guards hold, the end of an open by what its index came to. -/
theorem recordReadsComplete : Obligations.RecordReadsComplete := by
  refine ⟨fun s e it o sh b x hi hr ho hc hb hx => ?_, fun s e it o hi hr ho hc => ?_,
    fun s e it o sh p r hi hp ho => ⟨?_, ?_⟩, fun s e it p hi hp => ?_, fun s slot shard node r o sh b ho hf hb => ?_,
    fun s slot shard node r o sh b ho hf hb => ?_, fun s slot h => ?_⟩
  · exact next_flow (recordReadComplete_read hi hr ho hc hb hx)
  · exact next_flow (recordReadComplete_mediaFailure hi hr ho hc)
  · exact next_flow (peerRecordReadComplete_read hi hp ho r)
  · exact next_flow (peerRecordReadComplete_failed hi hp)
  · exact next_flow (peerFetchTimeout_reading hi hp)
  · refine next_flow ((shardOpenComplete_folien ho hf hb).trans ?_)
    cases openFolien (s.job slot) shard sh (s.get Obj.maxRecordBytes) b with
    | error code => rfl
    | ok index => rfl
  · obtain ⟨hscans, hexcess, hskipped⟩ := countScan_get s (scanTar sh.count (s.get Obj.maxRecordBytes) b)
    exact ⟨_, hscans, hexcess, hskipped, next_flow (tarScanComplete_scanned ho hf hb)⟩
  · exact next_flow (itemIssue_room h)

end Sys2Proof.Machine
end

section
/-! READY, PREPARE and RELEASE and the read of a prepared sample (R104 to R109, R434, R587): each where its guards hold. -/

namespace Sys2Proof.Machine

section PeerMessages
variable {s : State} {uid : Nat} {b : Bytes}

/-! ## Messages with an illegal field -/

theorem peerReady_illegal (h : s.itemMessageOk 1 b = false) : peerReady uid b s = s.ignoreMessage := by
  simp [peerReady, h]

theorem peerPrepare_illegal (h : s.itemMessageOk 2 b = false) : peerPrepare uid b s = s.ignoreMessage := by
  simp [peerPrepare, h]

theorem peerRelease_illegal (h : s.itemMessageOk 3 b = false) : peerRelease uid b s = s.ignoreMessage := by
  simp [peerRelease, h]

/-! ## Legal messages -/

/-- What a READY of a sender offers (R105). -/
def offerOf (uid : Nat) (b : Bytes) : Offer :=
  { uid := uid, ref := field b 0 8, flags := byteAt b 9, status := field b 0x0A 2, key := field b 0x0C 4, addr := field b 0x10 8
    length := field b 0x18 4, crc := field b 0x1C 4 }

theorem peerReady_waited (h : s.itemMessageOk 1 b = true)
    (hahead : s.positionAhead (refSlot (field b 0 8)) (refEpoch (field b 0 8)) (refPosition (field b 0 8)) = true)
    (hfill : s.fill (refSlot (field b 0 8)) (refEpoch (field b 0 8)) (refPosition (field b 0 8)) = none) :
    peerReady uid b s =
      { s with offers := (s.offers.filter fun x => !(x.ref == field b 0 8 && x.uid == uid)) ++ [offerOf uid b] } := by
  simp [peerReady, offerOf, h, hahead, hfill]

theorem peerPrepare_talon (h : s.itemMessageOk 2 b = true) (hn : field b 0x10 8 < (s.job (refSlot (field b 0 8))).n)
    (htalon : field b 0x10 8 ≠ 2 ^ 64 - 1) :
    peerPrepare uid b s = s.prepare (refSlot (field b 0 8)) (refEpoch (field b 0 8)) (refPosition (field b 0 8))
      (some (field b 0x10 8, field b 0x18 4)) uid :=
  (if_neg (not_not_intro h)).trans ((if_neg htalon).trans (if_neg (Nat.not_le.mpr hn)))

theorem peerRelease_legal (h : s.itemMessageOk 3 b = true) : peerRelease uid b s = s.released' uid (field b 0 8) :=
  if_neg (not_not_intro h)

end PeerMessages

/-! ## The read of a prepared sample -/

/-- The fault that a position's fourth mismatch records (R106, R434). -/
def Fill.crcFault (f : Fill) (ref : Nat) : Fault64 :=
  { cls := 2, reason := 0x7003, action := 4, slot := f.slot, ref := ref, detail1 := 2 }

/-- What the end of a read comes to when its bytes are not what the READY named (R106). -/
def State.preparedMismatch (s : State) (ref : Nat) (f : Fill) (o : Offer) : State :=
  let t := s.bump Obj.preparedCrcErrors
  let g := { f with crcErrors := f.crcErrors + 1 }
  if f.crcErrors < 2 then (t.putFill g).peerRead o.uid o.key o.addr o.length
  else if f.crcErrors = 2 then (t.putFill { g with reading := none }).sendPrepare o.uid ref (if f.st = 3 then f.talon else none)
  else
    let u := t.raiseFault (f.crcFault ref)
    let h := { g with faultSeq := u.lastFaultSeq }
    if f.st = 3 then (u.sendRelease o.uid ref).tryFailed h true else (u.sendRelease o.uid ref).needFill h 0x8805 false

section PreparedRead
variable {s : State} {ref : Nat} {data : Bytes} {f : Fill} {o : Offer} (valid : Nat)
  (hf : s.fill (refSlot ref) (refEpoch ref) (refPosition ref) = some f) (hr : f.reading = some o) (ho : o.ref = ref)
include hf hr ho

theorem preparedReadComplete_whole (hdata : data.length = o.length ∧ crc32c data = o.crc) :
    preparedReadComplete o.uid ref data valid s = (s.place f data valid).sendRelease o.uid ref := by
  simp [preparedReadComplete, hf, hr, ho, hdata]

/-- The model counts the mismatch before it compares: at most 2 counted is fewer than 2 before, 3 counted is 2 before. -/
theorem preparedReadComplete_mismatch (hdata : ¬ (data.length = o.length ∧ crc32c data = o.crc)) :
    preparedReadComplete o.uid ref data valid s = s.preparedMismatch ref f o := by
  have hagain : f.crcErrors + 1 ≤ 2 ↔ f.crcErrors < 2 := by omega
  have hafresh : f.crcErrors + 1 = 3 ↔ f.crcErrors = 2 := by omega
  simp only [preparedReadComplete, State.preparedMismatch, Fill.crcFault, hf, hr, ho, hdata, hagain, hafresh, ne_eq, not_true_eq_false,
    or_self, if_false]

end PreparedRead

/-- Settles O18: each message by its equation where it is legal and where it is not, the end of a read by whether its bytes are
those that the READY named. -/
theorem peerMessagesComplete : Obligations.PeerMessagesComplete := by
  refine ⟨fun s uid b h hahead hfill => ?_, fun s uid b h hn htalon => ?_, fun s uid b h => ?_,
    fun s uid b => ⟨fun h => ?_, fun h => ?_, fun h => ?_⟩, fun s uid ref valid data f o hf hr hu ho => ?_⟩
  · exact next_flow (peerReady_waited h hahead hfill)
  · exact next_flow (peerPrepare_talon h hn htalon)
  · exact next_flow (peerRelease_legal h)
  · exact next_flow (peerReady_illegal h)
  · exact next_flow (peerPrepare_illegal h)
  · exact next_flow (peerRelease_illegal h)
  · subst hu
    refine next_flow ?_
    by_cases hdata : data.length = o.length ∧ crc32c data = o.crc
    · exact (preparedReadComplete_whole valid hf hr ho hdata).trans (if_pos hdata).symm
    · exact (preparedReadComplete_mismatch valid hf hr ho hdata).trans (if_neg hdata).symm

end Sys2Proof.Machine
end

section
/-! The exchange and the build of a census (R110 to R113, R444): each message, read and time limit where its guards hold. -/

namespace Sys2Proof.Machine

section Messages
variable {s : State} {uid slot : Nat} {b : Bytes} {c : Census}

/-! ## Messages with an illegal field -/

theorem censusOfferReceived_illegal (h : censusLegal 1 b = false) : censusOfferReceived uid b s = s.ignoreMessage := by
  simp [censusOfferReceived, h]

theorem censusRequestReceived_illegal (h : censusLegal 3 b = false) : censusRequestReceived uid b s = s.ignoreMessage := by
  simp [censusRequestReceived, h]

theorem censusFullReceived_illegal (h : censusLegal 2 b = false) : censusFullReceived uid b s = s.ignoreMessage := by
  simp [censusFullReceived, h]

/-! ## Legal messages that name a census -/

theorem censusOfferReceived_sameBuild (h : censusLegal 1 b = true) (hn : s.namedCensus b = some (slot, c))
    (hc : s.census slot c.epoch = some c) (hst : c.state = 1) (hl : c.contributions ≠ []) (hb : field b 8 4 = c.restarts) :
    censusOfferReceived uid b s =
      (s.putCensus slot { c with contributions := (c.contributions.filter fun y => y.uid != uid) ++ [contributionOf uid b] }).readContribution
        (contributionOf uid b) := by
  simp [censusOfferReceived, h, hn, hc, hst, hl, hb]

theorem censusOfferReceived_stale (h : censusLegal 1 b = true) (hn : s.namedCensus b = some (slot, c))
    (hold : field b 8 4 < c.restarts ∨ c.state = 3) : censusOfferReceived uid b s = s := by
  simp [censusOfferReceived, h, hn, hold]

theorem censusRequestReceived_ready (h : censusLegal 3 b = true) (hn : s.namedCensus b = some (slot, c)) (hst : c.state = 2) :
    censusRequestReceived uid b s = s.sendFull slot c uid := by
  simp [censusRequestReceived, h, hn, hst]

theorem censusRequestReceived_building (h : censusLegal 3 b = true) (hn : s.namedCensus b = some (slot, c)) (hst : c.state = 1) :
    censusRequestReceived uid b s = s.putCensus slot { c with requests := c.requests.filter (· != uid) ++ [uid] } := by
  simp [censusRequestReceived, h, hn, hst]

theorem censusFullReceived_joining (h : censusLegal 2 b = true) (hn : s.namedCensus b = some (slot, c)) (hst : c.state = 1)
    (hl : c.contributions = []) :
    censusFullReceived uid b s =
      if c.fulls = [] then
        (s.putCensus slot { c with fulls := c.fulls ++ [contributionOf uid b] }).readContribution (contributionOf uid b)
      else s.putCensus slot { c with fulls := c.fulls ++ [contributionOf uid b] } := by
  simp [censusFullReceived, h, hn, hst, hl]

end Messages

/-! ## The reads and the time limit of a build -/

/-- A contribution read whole joins its build, which is merged when no other is missing (R112, R113). -/
def State.joinContribution (s : State) (slot uid : Nat) (c : Census) (text dir : List CensusRec) : State :=
  let d := { c with contributions := c.contributions.map fun (y : Contribution) =>
    if y.uid = uid then { y with text := some text, dir := dir } else y }
  (s.putCensus slot d).mergeCensus slot d

section Build
variable {s : State} {slot epoch uid : Nat} {c : Census}

section Contribution
variable {x : Contribution} (hc : s.census slot epoch = some c) (hst : c.state = 1) (hu : uid ≠ myUid)
  (hx : c.contributions.find? (fun x => x.uid == uid && x.text.isNone) = some x)
include hc hst hu hx

theorem censusContributionReadComplete_failed :
    censusContributionReadComplete slot epoch uid none s = s.readContribution x := by
  simp [censusContributionReadComplete, hc, hst, hu, hx]

theorem censusContributionReadComplete_malformed {b : Bytes} (hread : readRecs (s.job slot) x.textRecords x.dirRecords b = none) :
    censusContributionReadComplete slot epoch uid (some b) s = s.restartCensus slot c 1 := by
  simp [censusContributionReadComplete, hc, hst, hu, hx, hread]

theorem censusContributionReadComplete_wellFormed {b : Bytes} {text dir : List CensusRec}
    (hread : readRecs (s.job slot) x.textRecords x.dirRecords b = some (text, dir)) :
    censusContributionReadComplete slot epoch uid (some b) s =
      if digestNat b = x.digest then s.joinContribution slot uid c text dir else s.restartCensus slot c 1 := by
  simp [censusContributionReadComplete, State.joinContribution, hc, hst, hu, hx, hread]

end Contribution

theorem censusTimeout_building (hc : s.census slot epoch = some c) (hst : c.state = 1) (hl : c.contributions ≠ []) :
    censusTimeout slot epoch s =
      if s.censusMissing slot c ≠ [] ∧ c.started + s.get Obj.censusTimeoutTicks ≤ s.gtc then s.restartCensus slot c 1 else s := by
  simp [censusTimeout, hc, hst, hl]

theorem restartCensus_again (h : c.restarts < 2) :
    s.restartCensus slot c 1 = (s.countW 32 (inst Obj.censusRestarts slot) 1).buildCensus slot c.epoch (c.restarts + 1)
      (if c.dirOnly = true then some c.text else none) :=
  if_neg (by omega)

theorem restartCensus_failed (h : c.restarts = 2) :
    s.restartCensus slot c 1 = ((s.putCensus slot { c with state := 3 }).showCensus slot { c with state := 3 }).raiseAbort slot
      0x7821 c.epoch 0xFF noRef 0x8804 0 :=
  if_pos (by omega)

end Build

/-! ## The read of a whole census -/

/-- The records of a whole census, where its bytes are what every FULL names (R113). -/
def fullRecords (j : Job) (x : Contribution) (rest : List Contribution) (data : Option Bytes) :
    Option (List CensusRec × List CensusRec) :=
  data.bind fun b => if digestNat b = x.digest ∧ (rest.all fun y => y.digest == x.digest) = true then
    readRecs j x.textRecords x.dirRecords b else none

section Full
variable {s : State} {slot epoch : Nat} {c : Census} {x : Contribution} {rest : List Contribution} {data : Option Bytes}
  (hc : s.census slot epoch = some c) (hst : c.state = 1) (hf : c.fulls = x :: rest)
include hc hst hf

theorem censusFullReadComplete_good {text dir : List CensusRec}
    (hr : fullRecords (s.job slot) x rest data = some (text, dir)) :
    censusFullReadComplete slot epoch data s = s.finishCensus slot { c with fulls := [] } text dir := by
  unfold fullRecords at hr
  simp only [censusFullReadComplete, hc, hst, hf, hr, ne_eq, not_true_eq_false, if_false]

theorem censusFullReadComplete_bad (hr : fullRecords (s.job slot) x rest data = none) :
    censusFullReadComplete slot epoch data s =
      (s.putCensus slot { c with fulls := rest ++ [x] }).readContribution (rest.headD x) := by
  unfold fullRecords at hr
  simp only [censusFullReadComplete, hc, hst, hf, hr, ne_eq, not_true_eq_false, if_false]

end Full

/-- Settles O19: each message, read and time limit by its equation where its guards hold, the end of a read by what its bytes came
to. -/
theorem censusMessagesComplete : Obligations.CensusMessagesComplete := by
  refine ⟨fun s uid b slot c h hn hc => ⟨fun hst hl hb => ?_, fun hold => ?_⟩,
    fun s slot epoch uid c x b hc hst hu hx => ⟨?_, ?_⟩, fun s slot epoch c hc hst hl => ?_, fun s slot c h => ?_,
    fun s slot c h => ?_, fun s uid b slot c h hn => ⟨fun hst => ?_, fun hst => ?_⟩, fun s uid b slot c h hn hst hl => ?_,
    fun s slot epoch c x rest data hc hst hf => ?_, fun s uid b => ⟨fun h => ?_, fun h => ?_, fun h => ?_⟩⟩
  · exact next_flow (censusOfferReceived_sameBuild h hn hc hst hl hb)
  · exact next_flow (censusOfferReceived_stale h hn hold)
  · exact next_flow (censusContributionReadComplete_failed hc hst hu hx)
  · cases hread : readRecs (s.job slot) x.textRecords x.dirRecords b with
    | none => exact next_flow (censusContributionReadComplete_malformed hc hst hu hx hread)
    | some r => exact next_flow (censusContributionReadComplete_wellFormed hc hst hu hx hread)
  · exact next_flow (censusTimeout_building hc hst hl)
  · exact restartCensus_again h
  · exact restartCensus_failed h
  · exact next_flow (censusRequestReceived_ready h hn hst)
  · exact next_flow (censusRequestReceived_building h hn hst)
  · exact next_flow (censusFullReceived_joining h hn hst hl)
  · cases hr : fullRecords (s.job slot) x rest data with
    | none =>
      refine next_flow ((censusFullReadComplete_bad hc hst hf hr).trans ?_)
      unfold fullRecords at hr
      rw [hr]
    | some r =>
      refine next_flow ((censusFullReadComplete_good hc hst hf hr).trans ?_)
      unfold fullRecords at hr
      rw [hr]
  · exact next_flow (censusOfferReceived_illegal h)
  · exact next_flow (censusRequestReceived_illegal h)
  · exact next_flow (censusFullReceived_illegal h)

end Sys2Proof.Machine
end

section
/-! The ends of decompression and decode (R126 to R129, R142 to R147, R154, R528): each engine's end where its guards hold. -/

namespace Sys2Proof.Machine

section Decoders
variable {s : State} {e : Nat} {it : Item}

/-! ## Decompression -/

/-- OUTPUT_LIMIT for an item: its stage's, or where that is 0 or absent MaxRecordBytes (R127). -/
def State.outputLimitOf (s : State) (it : Item) : Nat :=
  if it.stage ≠ 255 ∧ (s.job it.slot).outputLimit ≠ 0 then (s.job it.slot).outputLimit else s.get Obj.maxRecordBytes

/-- MAX_RATIO for an item: its stage's, or where that is 0 or absent DefaultMaxRatio (R127). -/
def State.maxRatioOf (s : State) (it : Item) : Nat :=
  if it.stage ≠ 255 ∧ (s.job it.slot).maxRatio ≠ 0 then (s.job it.slot).maxRatio else s.get Obj.defaultMaxRatio

/-- What an item's frame decompresses to, or the code of the check it misses (R126). -/
def State.decompressed (s : State) (it : Item) : Except Nat Bytes :=
  decompressFrame it.framing (if it.uncompressed = 0 then none else some it.uncompressed)
    (s.outputLimitOf it) (s.maxRatioOf it) it.data

/-- What the end of a frame comes to: the output, unframed and counted, or the failure with its code (R126, R127). -/
def State.decompressEnd (s : State) (it : Item) : Except Nat Bytes → State
  | .error code => (((s.attemptDone it).engineEvent it 0x105 it.data.length).countLimit code).failItem it code
  | .ok out =>
    ((((s.attemptDone it).engineEvent it 0x105 it.data.length).count Obj.bytesDecompressed out.length).engineEvent it 0x106
      out.length).output { it with framing := 0, uncompressed := out.length } out ((s.job it.slot).requesterOf it.stage)

theorem decompressComplete_ended (hi : s.item e = some it) (h : it.runsOn [4] = true) :
    decompressComplete e s = s.decompressEnd it (s.decompressed it) :=
  (onItem_some hi _).trans (if_neg (not_not_intro h))

/-! ## The end of an attempt to decode -/

theorem decodeDone_fails {code : Nat}
    (hd : decodePayload ((s.attemptDone it).decodeSettings (s.job it.slot)) it.kind it.sample it.data = .error code) :
    s.decodeDone it = ((s.attemptDone it).countLimit code).failItem it code := by
  simp only [State.decodeDone, hd]

/-- LongestDecodeTicks of the slot takes in the ticks of both attempts, an escalated one on a Dealer and this one (R154, log 72). -/
def State.noteLongest (s : State) (it : Item) : State :=
  s.set (inst Obj.longestDecodeTicks it.slot)
    (max (s.get (inst Obj.longestDecodeTicks it.slot)) (it.measured + s.elapsed it))

/-- The counts of an output: its pixels, and a text that came in UTF-16 (R154, R528). -/
def State.countDecoded (s : State) (it : Item) (d : Decoded) : State :=
  let w := if d.pixels = 0 then s else s.engineEvent it 0x102 d.pixels
  if it.kind = 0x21 ∨ it.kind = 0x22 ∨ it.kind = 0x23 then w.bump Obj.utf16Conversions else w

theorem decodeDone_outputs {d : Decoded}
    (hd : decodePayload ((s.attemptDone it).decodeSettings (s.job it.slot)) it.kind it.sample it.data = .ok d) :
    s.decodeDone it = (((s.attemptDone it).noteLongest it).countDecoded it d).output
      { it with measured := if it.slow then it.measured else (s.attemptDone it).elapsed it } d.bytes
        ((s.job it.slot).requesterOf it.stage) := by
  simp only [State.decodeDone, State.noteLongest, State.countDecoded, hd]

/-! ## The decoders -/

section Decode
variable (hi : s.item e = some it) (hat : s.atDecode it = true)
include hi hat

theorem decodeComplete_onDealer (h : it.runsOn [1, 2] = true) : decodeComplete e s = s.decodeDone it :=
  (onItem_some hi _).trans (if_pos ⟨h, hat⟩)

theorem slowLaneDecodeComplete_onSlowLane (h : it.runsOn [8] = true) :
    slowLaneDecodeComplete e s = (((s.bump Obj.slowLaneItems).bump (inst Obj.slotSlowLaneItems it.slot)).count
      Obj.slowLaneBusyTicks (s.elapsed it)).decodeDone it :=
  (onItem_some hi _).trans (if_pos ⟨h, hat⟩)

theorem workLimitExceeded_beyond (h : it.runsOn [1, 2, 8] = true)
    (hd : decodePayload (s.decodeSettings (s.job it.slot)) it.kind it.sample it.data = .error 0x2051) :
    workLimitExceeded e s = s.decodeDone it := by
  simp only [workLimitExceeded, onItem_some hi, h, hat, hd, beq_self_eq_true, and_self, if_true]

/-- An item leaves its Dealer for the slow lane's queue (R147). -/
def State.escalate (s : State) (it : Item) : State :=
  (((s.engineEvent it 0x100 (s.elapsed it)).bump Obj.escalations).bump (inst Obj.slotEscalations it.slot)).putItem
    { it with engine := none, slow := true, flags := it.flags ||| 2, measured := s.elapsed it }

theorem decodeBudgetExpired_spent (h : it.runsOn [1, 2] = true) (hheld : s.holdsFor 1 it.slot = true)
    (hspent : s.budget it ≤ s.elapsed it) (hlane : 0 < s.get Obj.slowLanePiers) :
    decodeBudgetExpired e s =
      if (s.escalate it).enginesOf 8 = [] then
        (s.escalate it).failItem { it with engine := none, slow := true, flags := it.flags ||| 2, measured := s.elapsed it } 0x7050
      else s.escalate it :=
  (onItem_some hi _).trans (if_pos ⟨h, hat, hheld, hspent, hlane⟩)

end Decode

end Decoders

/-- Settles O16: each engine's end by its equation where its guards hold, a frame and a payload by whether they decode. -/
theorem decodersComplete : Obligations.DecodersComplete := by
  refine ⟨fun s e it hi h => ?_, fun s e it hi hat => ⟨fun h => ?_, fun h => ?_, fun h hd => ?_⟩,
    fun s it code hd => decodeDone_fails hd, fun s it d hd => decodeDone_outputs hd,
    fun s e it hi h hat hheld hspent hlane => ?_⟩
  · exact next_flow (decompressComplete_ended hi h)
  · exact next_flow (decodeComplete_onDealer hi hat h)
  · exact next_flow (slowLaneDecodeComplete_onSlowLane hi hat h)
  · exact next_flow (workLimitExceeded_beyond hi hat h hd)
  · exact next_flow (decodeBudgetExpired_spent hi hat h hheld hspent hlane)

end Sys2Proof.Machine
end

section
/-! Batches and their consumers (R149, R194 to R207): a batch's start, its slices done, credits, stalls and late positions, each where
its guards hold. -/

namespace Sys2Proof.Machine

/-! ## The start of a batch -/

/-- An own batch starts with its places, each a position and the class of its sample (R196): it takes the least free Shoe slot with
that slot's next generation, and a position that no other batch has begun to fill begins to be filled. -/
def State.startBatch (s : State) (x : Shoe) (st : StreamRec) (slot stream epoch index : Nat) (places : List (Nat × Nat)) : State :=
  let k := leastFree st.depth ((s.shoeBatches x).map Batch.shoeSlot)
  let gen := (findKey k x.uses).getD 0 + 1
  let fresh := places.filter fun e => (s.fill slot epoch e.1).isNone
  State.count
    { s with
      fills := s.fills ++ fresh.map fun (e : Nat × Nat) => s.newFill slot epoch e.1 e.2
      batches := s.batches ++ [{ slot := slot, stream := stream, epoch := epoch, index := index, positions := places.map Prod.fst
                                 shoeSlot := k, generation := gen }]
      shoes := modifyWhere (fun (y : Shoe) => y.slot == slot && y.stream == stream)
        (fun (y : Shoe) => { y with epoch := epoch, next := index + 1, uses := putKey k gen y.uses }) s.shoes }
    (inst Obj.replayUnrecorded slot)
    (fresh.filter fun e => decide (s.get (inst Obj.replayGeneration slot) ≠ 0 ∧ (s.job slot).orderMode = 1) &&
      (s.job slot).assemblerAt (s.slot slot).oldForce index != myUid && (s.recorded slot (sampleRef slot epoch e.1)).isNone).length

theorem running_of_jobState {s : State} {slot : Nat} (h : s.jobState slot = 4) : s.running slot = true := by
  simp [State.running, h]

theorem batchStart_unpacked {s : State} {slot stream epoch index : Nat} {classes : List Nat} {x : Shoe} {st : StreamRec}
    (hshoe : s.shoe slot stream = some x) (hst : (s.job slot).streams[stream]? = some st)
    (hnext : s.nextBatchOf x = some (epoch, index)) (hpacked : (s.job slot).packedStream st = false) (hrun : s.jobState slot = 4)
    (hlen : classes.length = ((s.job slot).batchPositions index).length) (htakes : s.shoeTakes x st = true) :
    batchStart slot stream classes s = s.startBatch x st slot stream epoch index
      ((List.zip ((s.job slot).batchPositions index) classes).filter fun e => bit st.classMask e.2) := by
  simp [batchStart, State.startBatch, hshoe, hst, hnext, hpacked, hrun, running_of_jobState hrun, hlen, htakes]

/-! ## Slices done -/

/-- Slice `i` of a batch is done: acknowledged under PUSH (R194), released under PULL (R206). -/
def State.sliceDone (s : State) (b : Batch) (i : Nat) (x : SliceState) : State :=
  let d := { b with slices := b.slices.set i { x with stage := 2, since := s.gtc } }
  if (d.slices.all fun y => y.stage == 2) = true then (s.putBatch d).leaveShoe d else s.putBatch d

theorem pushSliceAcknowledged_written {s : State} {slot stream epoch index i : Nat} {b : Batch} {x : SliceState}
    (hb : s.batches.find? (fun b => b.slot == slot && b.stream == stream && b.epoch == epoch && b.index == index) = some b)
    (hx : b.slices[i]? = some x) (hst : x.stage = 1) (hpush : s.deliveryOf b = 0) :
    pushSliceAcknowledged slot stream epoch index i s = s.sliceDone b i x := by
  simp [pushSliceAcknowledged, State.sliceDone, hb, hx, hst, hpush]

/-! ## The messages of a consumer -/

/-- Does a credit miss one of its checks: a reserved bit is set, its count is 0, or it names a stream that is not its consumer's or
an entry that this node does not serve (R204)? -/
def State.creditUnfit (s : State) (slot consumer imm : Nat) : Prop :=
  bits imm 26 2 ≠ 0 ∨ bits imm 0 16 = 0 ∨ (s.job slot).consumes consumer (bits imm 28 4) = false ∨
    s.assemblerOf slot (bits imm 16 10) ≠ myUid ∨ (s.job slot).assemblers.length ≤ bits imm 16 10

/-- A credit of `count` slots joins its account, as far as that many slots are written and not yet freed (R204). -/
def State.takeCredit (s : State) (c : Credit) (count : Nat) : State :=
  let n := min count (c.written - c.freed)
  (if n < count then s.bump Obj.creditErrors else s).putCredit
    { c with credits := c.credits + n, freed := c.freed + n, lastReturn := s.gtc }

theorem ite_bump_gtc (s : State) (k : Nat) (p : Prop) [Decidable p] : (if p then s.bump k else s).gtc = s.gtc := by
  split <;> rfl

/-- No message comes unsealed on a sealed stream where the stream is unsealed or the message came sealed. -/
theorem not_plain_on_sealedStream {j : Job} {stream : Nat} {sealedOk : Bool} (h : j.sealedStream stream = false ∨ sealedOk = true) :
    ¬ (j.sealedStream stream = true ∧ ¬ sealedOk = true) :=
  fun ⟨hsealed, hplain⟩ => h.elim (fun hopen => Bool.false_ne_true (hopen.symm.trans hsealed)) hplain

section Messages
variable {s : State} {slot consumer imm : Nat} {sealedOk : Bool} (hrun : s.running slot = true)
  (hseal : (s.job slot).sealedStream (bits imm 28 4) = false ∨ sealedOk = true)
include hrun hseal

theorem creditReturn_unfit (h : s.creditUnfit slot consumer imm) :
    creditReturn slot consumer imm sealedOk s = s.bump Obj.creditErrors := by
  rw [State.creditUnfit, ← Bool.not_eq_true] at h
  simp only [creditReturn, hrun, not_plain_on_sealedStream hseal, h, not_true_eq_false, if_false, if_true]

theorem creditReturn_fit (h : ¬ s.creditUnfit slot consumer imm) :
    creditReturn slot consumer imm sealedOk s =
      s.takeCredit (s.credit slot (bits imm 28 4) (bits imm 16 10) consumer) (bits imm 0 16) := by
  rw [State.creditUnfit, ← Bool.not_eq_true] at h
  simp only [creditReturn, State.takeCredit, hrun, not_plain_on_sealedStream hseal, h, ite_bump_gtc, not_true_eq_false, if_false]

theorem pullRelease_shown {b : Batch} {i : Nat} {x : SliceState}
    (hb : s.batches.find? (fun b => b.slot == slot && b.stream == bits imm 28 4 && b.ready.isSome &&
      b.index % 2 ^ 28 == bits imm 0 28 && s.deliveryOf b == 1) = some b)
    (hi : b.slices.findIdx? (fun x => x.consumer == consumer) = some i) (hx : b.slices[i]? = some x) (hst : x.stage ≠ 2)
    (hopened : b.opened = true) :
    pullRelease slot consumer imm sealedOk s = s.sliceDone b i x := by
  simp only [pullRelease, State.sliceDone, hrun, not_plain_on_sealedStream hseal, hb, hi, hx, hst, hopened, not_true_eq_false,
    or_self, if_false]

end Messages

/-! ## Stalls -/

/-- What a consumer owes of a stream, and its slices, count their time from now (R207). -/
def State.restartOwing (s : State) (slot stream consumer : Nat) : State :=
  { s with
    credits := s.credits.map fun (c : Credit) =>
      if c.slot = slot ∧ c.stream = stream ∧ c.consumer = consumer then { c with lastReturn := s.gtc } else c
    batches := s.batches.map fun (b : Batch) =>
      if b.slot = slot ∧ b.stream = stream then
        { b with slices := b.slices.map fun (x : SliceState) => if x.consumer = consumer then { x with since := s.gtc } else x }
      else b }

theorem consumerStall_due {s : State} {slot stream consumer t0 : Nat} (howing : s.owing slot stream consumer = some t0)
    (hdue : t0 + s.get Obj.consumerStallTicks ≤ s.gtc) (hrun : s.running slot = true) :
    consumerStall slot stream consumer s = ((s.bump Obj.consumerStalls).postShoe 2 slot stream
      (s.batches.filter fun b => b.slot == slot && b.stream == stream && b.ready.isSome).length consumer).restartOwing
        slot stream consumer := by
  simp only [consumerStall, State.restartOwing, howing, Nat.not_lt.mpr hdue, hrun, not_true_eq_false, or_self, if_false]

/-! ## Late positions -/

/-- A position with no substitute yet is declared late (R149): its owner is released and the position needs a substitute. -/
def State.declareLate (s : State) (f : Fill) (slot ref : Nat) : State :=
  let u := s.bump (inst Obj.lateDeclared slot)
  let owner := u.ownerOf slot f.sample
  (if owner = myUid then u.released' myUid ref else u.sendRelease owner ref).needFill f 0 true

theorem lateDeclaration_due {s : State} {slot stream position t0 : Nat} {b : Batch} {f : Fill}
    (hb : s.batches.find? (fun b => b.slot == slot && b.stream == stream && b.positions.contains position && s.mayBeLate b) = some b)
    (hf : s.fill slot b.epoch position = some f) (hlate : b.lateSince = some t0)
    (hdue : t0 + s.get Obj.relaxedGraceTicks ≤ s.gtc) (hst : f.st = 0) (hroom : s.logFull slot = false) :
    lateDeclaration slot stream position s = s.declareLate f slot (sampleRef slot b.epoch position) := by
  simp [lateDeclaration, State.declareLate, -List.contains_eq_mem, hb, hf, hlate, hdue, hst, hroom]

/-- Settles O20: each command by its equation where its guards hold, a credit by whether it meets its checks. -/
theorem deliveryStepsComplete : Obligations.DeliveryStepsComplete := by
  refine ⟨fun s slot stream epoch index i b x hb hx hst hpush => ?_, fun s slot consumer imm sealedOk hrun hseal => ?_,
    fun s slot consumer imm sealedOk b i x hrun hseal hb hi hx hst hopened => ?_,
    fun s slot stream consumer t0 howing hdue hrun => ?_,
    fun s slot stream epoch index classes x st hshoe hst hnext hpacked hrun hlen htakes => ?_,
    fun s slot stream position t0 b f hb hf hlate hdue hst hroom => ?_, fun s => rfl⟩
  · exact next_flow (pushSliceAcknowledged_written hb hx hst hpush)
  · refine next_flow ?_
    by_cases h : s.creditUnfit slot consumer imm
    · exact (creditReturn_unfit hrun hseal h).trans (if_pos h).symm
    · exact (creditReturn_fit hrun hseal h).trans (if_neg h).symm
  · exact next_flow (pullRelease_shown hrun hseal hb hi hx hst hopened)
  · exact next_flow (consumerStall_due howing hdue hrun)
  · exact next_flow (batchStart_unpacked hshoe hst hnext hpacked hrun hlen htakes)
  · exact next_flow (lateDeclaration_due hb hf hlate hdue hst hroom)

end Sys2Proof.Machine
end

section
/-! The ends of TRANSFORM and TOKENIZE (R157, R178, R218 to R220, R432, R528): each engine's end where its guards hold. -/

namespace Sys2Proof.Machine

section Engines
variable {s : State} {e : Nat} {it : Item}

/-! ## An input that fails its MAGIC or CRC check -/

/-- The fault of an input that fails its check, 1 for MAGIC and 2 for the CRC (R178): it is made good the first time. TILE and UNIT
are the engine's (log 87). -/
def State.inputFault (s : State) (it : Item) (check : Nat) : Fault64 :=
  { cls := 2, reason := 0x7003, tile := (it.engine.map fun e => 1 + e.2 / 64).getD 0xFF, unit := (it.engine.map Prod.snd).getD 0
    action := if it.checks = 0 then 1 else 4, slot := it.slot, requester := (s.job it.slot).requesterOf it.stage, ref := it.ref
    detail0 := (it.chain.map Chain.name).getD 0, detail1 := check }

/-- A damaged input is counted and recorded (R178). -/
def State.noteDamaged (s : State) (it : Item) (check : Nat) : State :=
  (s.bump Obj.transformInputErrors).raiseFault (s.inputFault it check)

theorem inputCorrupt_first {check : Nat} (h : it.checks = 0) :
    s.inputCorrupt it check = (s.noteDamaged it check).retryItem { it with checks := 1 } true false := if_pos h

theorem inputCorrupt_again {check : Nat} (h : it.checks ≠ 0) :
    s.inputCorrupt it check =
      (s.noteDamaged it check).failItem { it with faultSeq := (s.noteDamaged it check).lastFaultSeq } 0x3012 := if_neg h

/-! ## TRANSFORM -/

/-- What a warp engine comes to: the pixels as the output, counted, or the failure with its code (R157, R178). -/
def State.warpEnd (s : State) (it : Item) (st : StageRec) : Except Nat Warped → State
  | .error code => (s.attemptDone it).failItem { it with checks := 0 } code
  | .ok w =>
    let t := ((((s.attemptDone it).count Obj.warpPixelsOut w.pixels).count Obj.meshVerticesComputed w.vertices).count Obj.edgeTaps
      w.edge).engineEvent it 0x103 w.pixels
    ((if w.fallback then t.bump (inst Obj.cropFallbacks it.slot) else t).count (inst Obj.autoReduceLevels it.slot) w.auto).output
      { it with checks := 0 } w.bytes st.requester

/-- What a signal Dealer comes to: the frames as the output, counted, or the failure with its code (R178). -/
def State.signalEnd (s : State) (it : Item) (st : StageRec) : Except Nat SignalOut → State
  | .error code => (s.attemptDone it).failItem { it with checks := 0 } code
  | .ok o =>
    (((s.attemptDone it).count Obj.signalFramesOut o.frames).count Obj.melFramesOut o.mel).output
      { it with checks := 0, valid := o.valid } o.bytes st.requester

section Transform
variable {st : StageRec} (hi : s.item e = some it) (hst : s.stageRec it = some st) (h : it.runsOn [2, 3] = true) (hk : st.kind = 8)
include hi hst h hk

theorem transformComplete_damaged {check : Nat} (hc : check ≠ 0) : transformComplete e check s = s.inputCorrupt it check := by
  simp only [transformComplete, onItem_some hi, hst, h, hk, hc, ne_eq, not_true_eq_false, not_false_eq_true, or_self, if_true, if_false]

theorem transformComplete_whole :
    transformComplete e 0 s =
      if it.cls = 0 then
        s.warpEnd it st (warp (s.job it.slot) (s.get Obj.maxDecodedBytes) it.stage it.epoch it.position ((s.job it.slot).layoutOf 0)
          st.param it.data)
      else
        s.signalEnd it st (transformSignal (s.job it.slot) (s.get Obj.maxDecodedBytes) it.stage it.epoch it.position st.param
          it.data) := by
  simp only [transformComplete, onItem_some hi, hst, h, hk, ne_eq, not_true_eq_false, or_self, if_false]
  rfl

end Transform

/-! ## TOKENIZE -/

/-- The counts of a text that was tokenized, before its claim is tested, and its tokens in the annotation table (R79, R218). -/
def State.countText (s : State) (it : Item) (o : TokenOut) : State :=
  State.annotate
    ((((s.engineEvent it 0x104 o.cleaned).count Obj.textBytesTokenized o.cleaned).count Obj.illFormedSubparts o.subs).count
      (inst Obj.slotIllFormedSubparts it.slot) o.subs)
    it.slot it.sample fun (a : Annotation) => { a with tokens := o.tokens.length }

/-- The counts of a tokenized sample that becomes the output, and of one that was cut (R219, R220). -/
def State.countTokens (s : State) (it : Item) (o : TokenOut) : State :=
  let v := (((s.bump Obj.textItemsTokenized).bump (inst Obj.slotTextItems it.slot)).count Obj.tokensProduced o.tokens.length).count
    (inst Obj.slotTokens it.slot) o.tokens.length
  if o.cut then (v.bump Obj.truncatedItems).bump (inst Obj.slotTruncatedItems it.slot) else v

/-- Does a text miss the TOKEN_COUNT claimed for it, with no stage between that may have changed it (R78, R111)? -/
def State.claimUnmet (s : State) (it : Item) (o : TokenOut) : Prop :=
  it.claim ≠ 0 ∧ it.claim ≠ o.tokens.length ∧ ¬ (s.job it.slot).textMayChange

section Tokenize
variable (hi : s.item e = some it) (h : it.runsOn [5] = true)
include hi h

theorem tokenizeComplete_fails {code : Nat}
    (ht : (s.attemptDone it).tokenizeText (s.job it.slot) it.sample ((s.job it.slot).textOf it.data) = .error code) :
    tokenizeComplete e s = (s.attemptDone it).failItem it code := by
  simp only [tokenizeComplete, onItem_some hi, h, ht, not_true_eq_false, if_false]

section Tokenized
variable {o : TokenOut}
  (ht : (s.attemptDone it).tokenizeText (s.job it.slot) it.sample ((s.job it.slot).textOf it.data) = .ok o)
include ht

theorem tokenizeComplete_claimUnmet (hclaim : s.claimUnmet it o) :
    tokenizeComplete e s = ((s.attemptDone it).countText it o).failItem it 0x1028 := by
  simp only [tokenizeComplete, State.countText, onItem_some hi, h, ht, not_true_eq_false, if_false]
  exact if_pos hclaim

theorem tokenizeComplete_outputs (hclaim : ¬ s.claimUnmet it o) :
    tokenizeComplete e s = (((s.attemptDone it).countText it o).countTokens it o).output it o.bytes
      ((s.job it.slot).requesterOf it.stage) := by
  simp only [tokenizeComplete, State.countText, State.countTokens, onItem_some hi, h, ht, not_true_eq_false, if_false]
  exact if_neg hclaim

end Tokenized

end Tokenize

end Engines

/-- Settles O17: each engine's end by its equation where its guards hold, a damaged input by whether it is the first time, a
tokenized text by whether it meets its claim. -/
theorem transformAndTokenizeComplete : Obligations.TransformAndTokenizeComplete := by
  refine ⟨fun s e it st hi hst h hk hcls => ?_, fun s e it st hi hst h hk hcls => ?_, fun s e check it st hi hst h hk hc => ?_,
    fun s e code it hi h ht => ?_, fun s e it o hi h ht => ?_⟩
  · exact next_flow ((transformComplete_whole hi hst h hk).trans (if_pos hcls))
  · exact next_flow ((transformComplete_whole hi hst h hk).trans (if_neg hcls))
  · refine next_flow ((transformComplete_damaged hi hst h hk hc).trans ?_)
    by_cases hchecks : it.checks = 0
    · exact (inputCorrupt_first hchecks).trans (if_pos hchecks).symm
    · exact (inputCorrupt_again hchecks).trans (if_neg hchecks).symm
  · exact next_flow (tokenizeComplete_fails hi h ht)
  · refine next_flow ?_
    by_cases hclaim : s.claimUnmet it o
    · exact (tokenizeComplete_claimUnmet hi h ht hclaim).trans (if_pos hclaim).symm
    · exact (tokenizeComplete_outputs hi h ht hclaim).trans (if_neg hclaim).symm

end Sys2Proof.Machine
end

section
/-! The Decoded Sample Cache (R186 to R192): what the commands drop from its index, and the ends of a copy, a flash read, a fill and a
compression, each where its guards hold. -/

namespace Sys2Proof.Machine

/-! ## What leaves the index -/

/-- A visible entry stays in the index just where it is not one of those that leave; one that is being read stays, but invisible. -/
theorem mem_dropEntries_of_visible {p : CacheEntry → Bool} {l : List CacheEntry} {e : CacheEntry} (h : e.visible = true) :
    e ∈ dropEntries p l ↔ e ∈ l ∧ p e = false := by
  simp only [dropEntries, List.mem_map, List.mem_filter]
  constructor
  · rintro ⟨x, ⟨hx, -⟩, rfl⟩
    cases hp : p x
    · simpa [hp] using hx
    · simp [hp] at h
  · rintro ⟨he, hp⟩
    exact ⟨e, by simp [he, hp]⟩

theorem eq_false_of_mem_dropStored {q : FlashEntry → Bool} {l : List FlashSegment} {g : FlashSegment} {e : FlashEntry}
    (hg : g ∈ dropStored q l) (he : e ∈ g.entries) : q e = false := by
  obtain ⟨x, -, rfl⟩ := List.mem_map.mp hg
  simpa using (List.mem_filter.mp he).2

section Purge
variable (s : State) (p : CacheEntry → Bool)

theorem State.purge_entries (flash : Option (FlashEntry → Bool)) :
    (s.purge p flash).cache.entries = dropEntries p s.cache.entries := rfl

theorem State.purge_segments_none : (s.purge p none).cache.segments = s.cache.segments := rfl

theorem State.purge_segments_some (q : FlashEntry → Bool) :
    (s.purge p (some q)).cache.segments = dropStored q s.cache.segments := rfl

end Purge

/-! ## The cache commands -/

section Commands
variable {s : State}

theorem exec_cacheDropUnpinned_accepted (h : Accepts s Obj.cacheCommand 1) :
    exec .cacheDropUnpinned s = .next (cacheCommandWrite 1 s) := congrArg Host.Outcome.next (writeCommand_accepted h)

theorem exec_cacheDropAll_accepted (h : Accepts s Obj.cacheCommand 2) :
    exec .cacheDropAll s = .next (cacheCommandWrite 2 s) := congrArg Host.Outcome.next (writeCommand_accepted h)

theorem exec_cachePurgeDigest_accepted (h : Accepts s Obj.cacheCommand 3) :
    exec .cachePurgeDigest s = .next (cacheCommandWrite 3 s) := congrArg Host.Outcome.next (writeCommand_accepted h)

theorem cacheCommandWrite_busy (h : s.cacheBusy = true) (n : Nat) : cacheCommandWrite n s = s.refused 0x801A := if_pos h

section Idle
variable (h : s.cacheBusy = false)
include h

theorem cacheCommandWrite_dropUnpinned : cacheCommandWrite 1 s = (s.purge (fun e => e.pinnedBy.isNone) none).ok :=
  if_neg (Bool.eq_false_iff.mp h)

theorem cacheCommandWrite_dropAll : cacheCommandWrite 2 s = (s.purge (fun _ => true) (some fun _ => true)).ok :=
  if_neg (Bool.eq_false_iff.mp h)

theorem cacheCommandWrite_purgeDigest :
    cacheCommandWrite 3 s = (s.purge (fun e => e.digest == s.get Obj.cachePurgeDigest)
      (some fun e => e.digest == s.get Obj.cachePurgeDigest)).ok :=
  if_neg (Bool.eq_false_iff.mp h)

end Idle

end Commands

/-- Settles O21: each command purges by its own condition, and a purge leaves the visible entries that do not meet it. -/
theorem cacheDropsKeepTheRest : Obligations.CacheDropsKeepTheRest := by
  refine ⟨fun s ha h => ?_, fun s ha h => ?_, fun s ha h => ?_, fun s h => ⟨fun ha => ?_, fun ha => ?_, fun ha => ?_⟩⟩
  · refine ⟨_, (exec_cacheDropUnpinned_accepted ha).trans (congrArg _ (cacheCommandWrite_dropUnpinned h)), rfl, ?_, fun e he => ?_⟩
    · exact s.purge_segments_none _
    · rw [State.ok_cache, State.purge_entries, mem_dropEntries_of_visible he, Option.isNone_eq_false_iff, Option.isSome_iff_ne_none]
  · refine ⟨_, (exec_cacheDropAll_accepted ha).trans (congrArg _ (cacheCommandWrite_dropAll h)), rfl, fun g hg => ?_, fun e he => ?_⟩
    · exact List.eq_nil_iff_forall_not_mem.mpr fun e he => Bool.noConfusion (eq_false_of_mem_dropStored hg he)
    · exact Bool.eq_false_iff.mpr fun hv => Bool.noConfusion ((mem_dropEntries_of_visible hv).mp he).2
  · refine ⟨_, (exec_cachePurgeDigest_accepted ha).trans (congrArg _ (cacheCommandWrite_purgeDigest h)), rfl, fun g hg e he => ?_,
      fun e he => ?_⟩
    · exact beq_eq_false_iff_ne.mp (eq_false_of_mem_dropStored hg he)
    · rw [State.ok_cache, State.purge_entries, mem_dropEntries_of_visible he, beq_eq_false_iff_ne]
  · exact (exec_cacheDropUnpinned_accepted ha).trans (congrArg _ (cacheCommandWrite_busy h 1))
  · exact (exec_cacheDropAll_accepted ha).trans (congrArg _ (cacheCommandWrite_busy h 2))
  · exact (exec_cachePurgeDigest_accepted ha).trans (congrArg _ (cacheCommandWrite_busy h 3))

/-! ## Hits -/

theorem State.endRead_job (s : State) (sample dig i : Nat) : (s.endRead sample dig).job i = s.job i := rfl

/-- The entry a flash hit has read joins the GDDR7 tier where CachePromote says so and that tier has none (R189). -/
def State.promoteRead (s : State) (it : Item) (e : FlashEntry) : State :=
  if s.get Obj.cachePromote = 1 ∧ (s.gddrEntry it.sample e.digest).isNone = true then s.promote it e e.stored else s

section Hits
variable {s : State} {n : Nat} {it : Item} (hi : s.item n = some it) (hout : it.waitOut = none)
include hi hout

theorem cacheHitCopyComplete_held {e : CacheEntry} (hhit : it.hit = 1)
    (he : s.cache.entries.find? (fun e => e.hasKey it.sample (s.slotDigest it.slot) && e.readers != 0) = some e) (ok : Bool) :
    cacheHitCopyComplete n ok s =
      if ok = true ∧ copiedOk it.sample e.data = true then
        (s.endRead it.sample (s.slotDigest it.slot)).output it e.data (s.job it.slot).cacheStage.2
      else (s.endRead it.sample (s.slotDigest it.slot)).corruptEntry it := by
  simp only [cacheHitCopyComplete, onItem_some hi, hhit, hout, he, State.endRead_job, ne_eq, not_true_eq_false,
    Option.isSome_none, Bool.false_eq_true, or_self, if_false]

section Flash
variable {e : FlashEntry} (hhit : it.hit = 2) (he : s.flashEntry it.sample (s.slotDigest it.slot) = some e)
include hhit he

theorem cacheFlashReadComplete_failed : cacheFlashReadComplete n false s = s.corruptEntry it := by
  simp [cacheFlashReadComplete, onItem_some hi, hhit, hout, he]

theorem cacheFlashReadComplete_soundRaw (hraw : e.compressed = false) (hcrc : e.crcOk = true)
    (hcopied : copiedOk it.sample e.stored = true) :
    cacheFlashReadComplete n true s =
      if ((s.promoteRead it e).job it.slot).looksUp (descriptorOf e.stored).cls = true then
        (s.promoteRead it e).output { it with cls := (descriptorOf e.stored).cls, kind := (descriptorOf e.stored).kind } e.stored
          ((s.promoteRead it e).job it.slot).cacheStage.2
      else (s.promoteRead it e).fetch { it with hit := 0 } := by
  simp only [cacheFlashReadComplete, onItem_some hi, hhit, hout, he, hraw, hcrc, hcopied, ne_eq, not_true_eq_false,
    Option.isSome_none, Bool.false_eq_true, or_self, and_self, if_false, if_true]
  rfl

end Flash

end Hits

/-! ## Fills -/

/-- A fill in course is over: it gives up its reference on the chain it copied (R187). -/
def State.closeCacheFill (s : State) (n : Nat) (f : CacheFill) : State :=
  let u : State := { s with cache := { s.cache with fills := s.cache.fills.eraseIdx n } }
  ((f.chain.map u.dropChain).getD u).cacheStatus

/-- The entry that a fill made joins the GDDR7 tier, pinned where the job pins and room for it is left, and is counted (R187, R188). -/
def State.insertFill (s : State) (f : CacheFill) : State :=
  let w : State := { s with cache := { s.cache with
    entries := s.cache.entries ++ [{ f.entry with pinnedBy := s.pinFor f.slot f.entry.blocks }] } }
  ((w.bump Obj.cacheFills).bump (inst Obj.slotCacheFills f.slot)).cacheStatus

theorem cacheFillComplete_inCourse {s : State} {n : Nat} {f : CacheFill} (h : s.cache.fills[n]? = some f) :
    cacheFillComplete n s =
      if ((s.closeCacheFill n f).gddrEntry f.entry.sample f.entry.digest).isSome = true then (s.closeCacheFill n f).bump Obj.cacheFillsSkipped
      else (s.closeCacheFill n f).insertFill f := by
  obtain ⟨slot, chain, entry⟩ := f
  simp only [cacheFillComplete, h]
  cases chain with
  | none => rfl
  | some c => rfl

/-! ## Compressions -/

/-- An entry leaves the compressions in course. -/
def State.closeCompression (s : State) (n : Nat) : State :=
  { s with cache := { s.cache with compressing := s.cache.compressing.eraseIdx n } }

/-- An evicted entry goes to the flash tier as the bytes given, a raw one counted; one that no segment holds is dropped
(R189, log 71). -/
def State.storeEvicted (s : State) (e : CacheEntry) (compressed : Bool) (stored : Bytes) : State :=
  if s.get Obj.cacheSegmentBytes < 64 + stored.length ∨ s.get Obj.cacheFlashBytes = 0 then s
  else (if compressed then s else s.bump Obj.cacheStoredRaw).appendEntry
    { sample := e.sample, digest := e.digest, objectId := e.objectId, compressed := compressed, stored := stored }

section Compressions
variable {s : State} {n : Nat} {e : CacheEntry} (h : s.cache.compressing[n]? = some e)
include h

theorem cacheCompressComplete_held (hw : (s.closeCompression n).flashWritable = false) :
    cacheCompressComplete n s = (s.closeCompression n).bump Obj.cacheFlashWritesHeld := by
  simp only [cacheCompressComplete, h]
  exact if_pos (ne_true_of_eq_false hw)

section Writable
variable (hw : (s.closeCompression n).flashWritable = true)
include hw

theorem cacheCompressComplete_smaller
    (hout : (Config.zstdCompress ((s.closeCompression n).get Obj.cacheCompressLevel) e.data).length + 1 ≤ e.data.length) :
    cacheCompressComplete n s = (s.closeCompression n).storeEvicted e true
      (Config.zstdCompress ((s.closeCompression n).get Obj.cacheCompressLevel) e.data) := by
  unfold State.closeCompression at hw hout ⊢
  simp only [cacheCompressComplete, State.storeEvicted, h, hw, hout, not_true_eq_false, decide_true, if_true, if_false]

theorem cacheCompressComplete_notSmaller
    (hout : ¬ (Config.zstdCompress ((s.closeCompression n).get Obj.cacheCompressLevel) e.data).length + 1 ≤ e.data.length) :
    cacheCompressComplete n s = (s.closeCompression n).storeEvicted e false e.data := by
  unfold State.closeCompression at hw hout ⊢
  simp only [cacheCompressComplete, State.storeEvicted, h, hw, hout, not_true_eq_false, decide_false, Bool.false_eq_true, if_false]

end Writable

end Compressions

/-- Settles O22: each end by its equation where its guards hold, a compression by whether the store may be written and whether it
saves bytes. -/
theorem cacheWorkCompletes : Obligations.CacheWorkCompletes := by
  refine ⟨fun s n it e ok hi hhit hout he => ?_, fun s n it e hi hhit hout he hraw hcrc hcopied => ⟨?_, ?_⟩, fun s n f h => ?_,
    fun s n e h => next_flow ?_⟩
  · exact next_flow (cacheHitCopyComplete_held hi hout hhit he ok)
  · exact next_flow (cacheFlashReadComplete_soundRaw hi hout hhit he hraw hcrc hcopied)
  · exact next_flow (cacheFlashReadComplete_failed hi hout hhit he)
  · exact next_flow (cacheFillComplete_inCourse h)
  · cases hw : (s.closeCompression n).flashWritable with
    | false => exact (cacheCompressComplete_held h hw).trans (if_pos hw).symm
    | true =>
      refine Eq.trans ?_ (if_neg (ne_false_of_eq_true hw)).symm
      by_cases hout : (Config.zstdCompress ((s.closeCompression n).get Obj.cacheCompressLevel) e.data).length + 1 ≤ e.data.length
      · exact (cacheCompressComplete_smaller h hw hout).trans (if_pos hout).symm
      · exact (cacheCompressComplete_notSmaller h hw hout).trans (if_neg hout).symm

end Sys2Proof.Machine
end

section
/-! Images: vocabularies, control sets, bundles and kernel packages (R224 to R226, R232, R257, R258, R296, R297). The least free
number, a record replaced in a list, and then a load, the end of a build and an unload, one equation per case. -/

namespace Sys2Proof.Machine

/-! ## The least free number -/

theorem mem_of_lt_leastFrom (l : List Nat) {m : Nat} : ∀ {fuel i : Nat}, i ≤ m → m < leastFrom fuel i l → m ∈ l
  | 0, i, hi, hm => absurd hm (Nat.not_lt.mpr hi)
  | fuel + 1, i, hi, hm => by
    unfold leastFrom at hm
    split at hm
    case isTrue hc =>
      rcases Nat.eq_or_lt_of_le hi with rfl | hlt
      · exact List.contains_iff_mem.mp hc
      · exact mem_of_lt_leastFrom l hlt hm
    case isFalse => omega

/-- A search that ends in the list has used all its fuel. -/
theorem leastFrom_eq_of_mem (l : List Nat) : ∀ {fuel i : Nat}, leastFrom fuel i l ∈ l → leastFrom fuel i l = i + fuel
  | 0, _, _ => rfl
  | fuel + 1, i, h => by
    unfold leastFrom at h ⊢
    split
    case isTrue hc => rw [if_pos hc] at h; rw [leastFrom_eq_of_mem l h]; omega
    case isFalse hc => rw [if_neg hc] at h; exact absurd (List.contains_iff_mem.mpr h) hc

/-- A list that holds every number below `n` has at least `n` places: the greatest is taken out, and the others stay. -/
theorem le_length_of_forall_lt_mem : ∀ {n : Nat} {l : List Nat}, (∀ m, m < n → m ∈ l) → n ≤ l.length
  | 0, _, _ => Nat.zero_le _
  | n + 1, l, h => by
    have hn : n ∈ l := h n (Nat.lt_succ_self n)
    have hothers : n ≤ (l.erase n).length := le_length_of_forall_lt_mem fun m hm =>
      (List.mem_erase_of_ne (Nat.ne_of_lt hm)).mpr (h m (Nat.lt_succ_of_lt hm))
    have hlen : (l.erase n).length = l.length - 1 := List.length_erase_of_mem hn
    have hpos : 0 < l.length := List.length_pos_of_mem hn
    omega

/-- A list cannot hold every number from 0 to its length, so the search over its length finds a free one. -/
theorem leastFrom_length_notMem (l : List Nat) : leastFrom l.length 0 l ∉ l := by
  intro hmem
  have hend : leastFrom l.length 0 l = l.length := (leastFrom_eq_of_mem l hmem).trans (Nat.zero_add _)
  have hall : ∀ m, m < l.length + 1 → m ∈ l := fun m hm => by
    rcases Nat.lt_or_eq_of_le (Nat.le_of_lt_succ hm) with hlt | rfl
    · exact mem_of_lt_leastFrom l (Nat.zero_le m) (hend.symm ▸ hlt)
    · exact hend ▸ hmem
  exact Nat.not_succ_le_self _ (le_length_of_forall_lt_mem hall)

theorem leastFree_le (n : Nat) (l : List Nat) : leastFree n l ≤ n := Nat.min_le_left ..

theorem leastFree_notMem {n : Nat} {l : List Nat} (h : leastFree n l < n) : leastFree n l ∉ l := by
  have hfrom : leastFree n l = leastFrom l.length 0 l := by unfold leastFree at h ⊢; omega
  exact hfrom ▸ leastFrom_length_notMem l

theorem mem_of_lt_leastFree {n m : Nat} {l : List Nat} (h : m < leastFree n l) : m ∈ l :=
  mem_of_lt_leastFrom l (Nat.zero_le m) (Nat.lt_of_lt_of_le h (Nat.min_le_right ..))

/-! ## A record replaced in a list -/

section Replace
variable {α : Type} {p : α → Bool} {v a : α}

theorem mem_replaceFirst_self : ∀ {l : List α}, a ∈ l → p a = true → v ∈ replaceFirst p v l
  | b :: l, ha, hp => by
    unfold replaceFirst
    split
    case isTrue => exact List.mem_cons_self
    case isFalse hb =>
      rcases List.mem_cons.mp ha with rfl | hl
      · exact absurd hp hb
      · exact List.mem_cons_of_mem _ (mem_replaceFirst_self hl hp)

/-- A record that is not the one looked for, as the one that takes its place is, stays just where it was listed. -/
theorem mem_replaceFirst_of_not (hv : p v = true) (ha : p a = false) : ∀ {l : List α}, a ∈ replaceFirst p v l ↔ a ∈ l
  | [] => Iff.rfl
  | b :: l => by
    have hne : ∀ x, p x = true → a ≠ x := fun x hx hax => Bool.false_ne_true (ha.symm.trans (hax ▸ hx))
    unfold replaceFirst
    split
    case isTrue hb => simp [hne v hv, hne b hb]
    case isFalse => simp [mem_replaceFirst_of_not hv ha (l := l)]

end Replace

/-! ## The entries of a kind -/

/-- Is the image the one at an entry of the kind? -/
def ImageKind.isAt (c : ImageKind) (e : Nat) (x : Loaded) : Bool := x.kind == c.num && x.entry == e

theorem ImageKind.isAt_iff {c : ImageKind} {e : Nat} {x : Loaded} : c.isAt e x = true ↔ x.kind = c.num ∧ x.entry = e := by
  simp [ImageKind.isAt]

theorem ImageKind.mem_filter_not_isAt {c : ImageKind} {e : Nat} {x : Loaded} {l : List Loaded} :
    x ∈ l.filter (fun y => !c.isAt e y) ↔ x ∈ l ∧ ¬ (x.kind = c.num ∧ x.entry = e) := by
  rw [List.mem_filter, Bool.not_eq_true', ← Bool.not_eq_true, ImageKind.isAt_iff]

/-! ## Loads -/

/-- The bytes of an image that a load copies: its TOTAL_LENGTH (R224, R232, R257, R296). -/
def ImageKind.copied (c : ImageKind) (written : Bytes) : Bytes := written.take (field written 8 c.lengthBytes)

/-- The lowest EMPTY entry of a kind, the number of its entries where none is EMPTY (R226, R258). -/
def State.lowestEmpty (s : State) (c : ImageKind) : Nat :=
  leastFree c.entries ((s.images.filter fun l => l.kind == c.num).map Loaded.entry)

section Load
variable {s : State} {c : ImageKind} {written : Bytes}
  (h : ∀ l ∈ s.images, l.kind = c.num → digestNat l.bytes ≠ digestNat (c.copied written))
include h

theorem loadImage_unlisted : s.loadImage c written =
    if s.lowestEmpty c = c.entries then s.refuseLoad c c.space
    else State.ok { s with
      images := s.images ++ [({ kind := c.num, entry := s.lowestEmpty c, bytes := c.copied written } : Loaded)] } := by
  simp only [State.loadImage]
  split
  next l hl =>
    have hfound := List.find?_some hl
    simp only [Bool.and_eq_true, beq_iff_eq] at hfound
    exact absurd hfound.2 (h l (List.mem_of_find?_eq_some hl) hfound.1)
  next => rfl

theorem loadImage_free (he : s.lowestEmpty c < c.entries) : s.loadImage c written =
    { s with
      images := s.images ++ [({ kind := c.num, entry := s.lowestEmpty c, bytes := c.copied written } : Loaded)], answer := {} } :=
  (loadImage_unlisted h).trans (if_neg (Nat.ne_of_lt he))

theorem loadImage_full (he : s.lowestEmpty c = c.entries) :
    s.loadImage c written = (s.set c.lastReason c.space).refused c.space := (loadImage_unlisted h).trans (if_pos he)

end Load

theorem loadObject_sealed {s : State} {b : Bytes} (h : s.sealedObject (s.get Obj.bundleSourceObject) = some b) :
    s.loadObject = s.loadImage bundleKind b := by simp only [State.loadObject, h]

theorem loadObject_absent {s : State} (h : s.sealedObject (s.get Obj.bundleSourceObject) = none) :
    s.loadObject = (s.set Obj.bundleLastReason 0x4009).refused 0x4009 := by
  simp only [State.loadObject, h]
  rfl

theorem exec_bundleLoadObject_accepted {s : State} (h : Accepts s Obj.bundleCommand 2) :
    exec .bundleLoadObject s = .next s.loadObject := congrArg Host.Outcome.next (writeCommand_accepted h)

/-! ## The end of a build -/

theorem State.extend_get_self (s : State) (i tag : Nat) (v : Bytes) : (s.extend i tag v).get (Obj.measurement + i) =
    digestNat (leBytes 32 (s.get (Obj.measurement + i)) ++ leBytes 1 tag ++ v) := State.get_set_self ..

theorem State.extend_get_ne (s : State) {i k : Nat} (tag : Nat) (v : Bytes) (h : k ≠ Obj.measurement + i) :
    (s.extend i tag v).get k = s.get k := State.get_set_ne _ _ _ _ h

/-- The last reason is shown and the images become those listed. -/
def State.showBuild (s : State) (c : ImageKind) (code : Nat) (images : List Loaded) : State :=
  { s.set c.lastReason code with images := images }

theorem State.showBuild_get_self (s : State) (c : ImageKind) (code : Nat) (images : List Loaded) :
    (s.showBuild c code images).get c.lastReason = code := State.get_set_self ..

theorem State.showBuild_get_ne (s : State) {c : ImageKind} {k : Nat} (code : Nat) (images : List Loaded) (h : k ≠ c.lastReason) :
    (s.showBuild c code images).get k = s.get k := State.get_set_ne _ _ _ _ h

section Build
variable {s : State} {c : ImageKind} {e : Nat} {l : Loaded} {reason : State → Loaded → Nat}
  (h : s.images.find? (fun x => x.kind == c.num && x.entry == e && x.building) = some l)
include h

theorem building_mem : l ∈ s.images ∧ c.isAt e l = true := by
  have hfound := List.find?_some h
  simp only [Bool.and_eq_true, beq_iff_eq] at hfound
  exact ⟨List.mem_of_find?_eq_some h, ImageKind.isAt_iff.mpr hfound.1⟩

theorem buildImage_sound (hr : reason s l = 0) : s.buildImage c e reason =
    (s.showBuild c 0 (replaceFirst (c.isAt e) { l with building := false } s.images)).extend 3 c.tag (digest l.bytes) := by
  simp only [State.buildImage, h, hr, if_true]
  rfl

theorem buildImage_failed (hr : reason s l ≠ 0) :
    s.buildImage c e reason = s.showBuild c (reason s l) (s.images.filter fun x => !c.isAt e x) := by
  simp only [State.buildImage, h]
  exact if_neg hr

theorem mem_buildImage_other {x : Loaded} (hx : ¬ (x.kind = c.num ∧ x.entry = e)) :
    x ∈ (s.buildImage c e reason).images ↔ x ∈ s.images := by
  by_cases hr : reason s l = 0
  · rw [buildImage_sound h hr]
    have hat : c.isAt e x = false := Bool.eq_false_iff.mpr fun hat => hx (ImageKind.isAt_iff.mp hat)
    exact mem_replaceFirst_of_not (v := { l with building := false }) (building_mem h).2 hat
  · rw [buildImage_failed h hr]
    exact ImageKind.mem_filter_not_isAt.trans (and_iff_left hx)

theorem buildImage_get_lastReason (hne : c.lastReason ≠ Obj.measurement + 3) :
    (s.buildImage c e reason).get c.lastReason = reason s l := by
  by_cases hr : reason s l = 0
  · rw [buildImage_sound h hr, State.extend_get_ne _ _ _ hne, State.showBuild_get_self, hr]
  · rw [buildImage_failed h hr, State.showBuild_get_self]

theorem buildImage_failed_empties (hr : reason s l ≠ 0) {x : Loaded} (hx : x ∈ (s.buildImage c e reason).images) :
    ¬ (x.kind = c.num ∧ x.entry = e) := by
  rw [buildImage_failed h hr] at hx
  exact (ImageKind.mem_filter_not_isAt.mp hx).2

theorem buildImage_sound_loaded (hr : reason s l = 0) : { l with building := false } ∈ (s.buildImage c e reason).images := by
  rw [buildImage_sound h hr]
  exact mem_replaceFirst_self (building_mem h).1 (building_mem h).2

theorem buildImage_sound_measured (hr : reason s l = 0) (hne : c.lastReason ≠ Obj.measurement + 3) :
    (s.buildImage c e reason).get (Obj.measurement + 3) =
      digestNat (leBytes 32 (s.get (Obj.measurement + 3)) ++ leBytes 1 c.tag ++ digest l.bytes) := by
  rw [buildImage_sound h hr, State.extend_get_self, State.showBuild_get_ne _ _ _ hne.symm]

end Build

/-- Each kind's end of a build is buildImage with the kind's own checks, and no kind's last reason is M3. -/
theorem exec_buildComplete {s : State} {e : Nat} {l : Loaded} {c : ImageKind} {i : Instr} {code : Nat}
    (h : i = .vocabBuildComplete e ∧ c = vocabKind ∧ code = s.vocabReason l ∨
      i = .controlBuildComplete e ∧ c = controlKind ∧ code = s.controlReason l ∨
      i = .bundleLoadComplete e ∧ c = bundleKind ∧ code = s.bundleLoadReason l ∨
      i = .kernelBuildComplete e ∧ c = kernelKind ∧ code = s.kernelReason l) :
    ∃ reason : State → Loaded → Nat, exec i s = .next (s.buildImage c e reason) ∧ code = reason s l ∧
      c.lastReason ≠ Obj.measurement + 3 := by
  rcases h with ⟨rfl, rfl, rfl⟩ | ⟨rfl, rfl, rfl⟩ | ⟨rfl, rfl, rfl⟩ | ⟨rfl, rfl, rfl⟩
  · exact ⟨State.vocabReason, rfl, rfl, by decide⟩
  · exact ⟨State.controlReason, rfl, rfl, by decide⟩
  · exact ⟨State.bundleLoadReason, rfl, rfl, by decide⟩
  · exact ⟨State.kernelReason, rfl, rfl, by decide⟩

/-! ## Unloads -/

section Unload
variable {s : State} {c : ImageKind}

theorem unloadImage_unknown (h : s.loadedImage c.num (s.get c.select) = none) :
    s.unloadImage c = (s.set c.lastReason c.unknown).refused c.unknown := by
  simp only [State.unloadImage, h]
  rfl

variable {l : Loaded} (h : s.loadedImage c.num (s.get c.select) = some l)
include h

theorem unloadImage_inUse (hu : s.usersOf c.num (s.get c.select) ≠ [] ∨ (c.num = 0 ∧ s.controlsOf (s.get c.select) ≠ [])) :
    s.unloadImage c = (s.set c.lastReason c.inUse).refused c.inUse := by
  simp only [State.unloadImage, h]
  exact if_pos hu

theorem unloadImage_unused (hu : ¬ (s.usersOf c.num (s.get c.select) ≠ [] ∨ (c.num = 0 ∧ s.controlsOf (s.get c.select) ≠ []))) :
    s.unloadImage c = (State.set { s with images := s.images.filter fun x => !c.isAt l.entry x } c.lastReason 0).ok := by
  simp only [State.unloadImage, h]
  exact if_neg hu

end Unload

/-! ## The statements -/

/-- Settles O24: a load is one equation with an entry free and one with none (log 92), the entry being the least number that no image of
the kind holds; a build's end replaces or drops the images at its own entry alone. -/
theorem imagesLoad : Obligations.ImagesLoad := by
  refine ⟨fun s => ⟨fun ha => ?_, fun ha => ?_, fun ha => ?_, fun ha => ?_, fun b ha hb => ?_, fun ha hb => ?_⟩,
    fun s c written h => ⟨loadImage_free h, loadImage_full h⟩,
    fun n l => ⟨leastFree_le n l, leastFree_notMem, fun m => mem_of_lt_leastFree⟩, fun s e l c i code h hi => ?_⟩
  · exact congrArg Host.Outcome.next (writeCommand_accepted ha)
  · exact congrArg Host.Outcome.next (writeCommand_accepted ha)
  · exact congrArg Host.Outcome.next (writeCommand_accepted ha)
  · exact congrArg Host.Outcome.next (writeCommand_accepted ha)
  · rw [exec_bundleLoadObject_accepted ha, loadObject_sealed hb]
  · rw [exec_bundleLoadObject_accepted ha, loadObject_absent hb]
  · obtain ⟨reason, hexec, rfl, hne⟩ := exec_buildComplete hi
    exact ⟨s.buildImage c e reason, hexec, buildImage_get_lastReason h hne, fun x => mem_buildImage_other h,
      fun hr x => buildImage_failed_empties h hr, fun hr => ⟨buildImage_sound_loaded h hr, buildImage_sound_measured h hr hne⟩⟩

/-- Settles O25: an unload is one equation for an unknown digest (log 92), one for an image in use and one for an image that nothing
references, which drops the images at its entry alone. -/
theorem imagesUnload : Obligations.ImagesUnload := by
  refine ⟨fun s => ⟨fun ha => ?_, fun ha => ?_, fun ha => ?_, fun ha => ?_⟩, fun s c l h hu hc => ?_, fun s c => unloadImage_unknown,
    fun s c l => unloadImage_inUse⟩
  · exact congrArg Host.Outcome.next (writeCommand_accepted ha)
  · exact congrArg Host.Outcome.next (writeCommand_accepted ha)
  · exact congrArg Host.Outcome.next (writeCommand_accepted ha)
  · exact congrArg Host.Outcome.next (writeCommand_accepted ha)
  · have hunused : ¬ (s.usersOf c.num (s.get c.select) ≠ [] ∨ (c.num = 0 ∧ s.controlsOf (s.get c.select) ≠ [])) := by
      rintro (huse | ⟨h0, hcontrols⟩)
      · exact huse hu
      · exact hcontrols (hc h0)
    exact ⟨_, unloadImage_unused h hunused, rfl, State.get_set_self .., fun x => ImageKind.mem_filter_not_isAt⟩

end Sys2Proof.Machine
end

section
/-! Kernel items (R277 to R293): how a pool Pier takes one, each service call that runs free, DMA, and how an item ends in a KERNEL
stage. What a kernel did between its calls is the operand of each call (log 89). -/

namespace Sys2Proof.Machine

/-! ## The start of an item -/

/-- The free pool Piers that may take an item: not the one it was abandoned on, where the pool has another (R278, log 70). -/
def State.piersFor (s : State) (it : Item) : List Nat :=
  if s.pierRoles.2.1.length ≤ 1 then s.freePiers else s.freePiers.filter fun n => it.avoid != some (8, n)

/-- The ticks since the fault that an item now recovers from are counted. -/
def State.countRecovery (s : State) (it : Item) : State :=
  match it.faultAt with
  | some f => s.count Obj.faultRecoveryTicks (s.gtc - f)
  | none => s

theorem State.countRecovery_gtc (s : State) (it : Item) : (s.countRecovery it).gtc = s.gtc := by
  unfold State.countRecovery
  split <;> rfl

/-- A kernel at entry on a Pier (R283). -/
def State.entryKernel (s : State) (it : Item) (pier : Nat) : KernelRun :=
  let p := s.kernelPackage it
  { entry := it.entry, pier := pier, since := s.gtc, regs := entryRegs p.1 p.2, descriptor := s.itemDescriptor it p.1 p.2
    spad := Memory.write [] spadBase (slice (field p.2 0x20 4) (field p.2 0x24 4) p.2) }

/-- A kernel is listed after those that run. -/
def State.addKernel (s : State) (k : KernelRun) : State := { s with kernels := s.kernels ++ [k] }

theorem kernelItemStart_takes {s : State} {it : Item} {n : Nat} {rest : List Nat} (hi : s.nextKernelItem = some it)
    (hn : s.piersFor it = n :: rest) (hw : s.imageWhole (s.job it.slot) (s.kernelPackage it).1 = true) :
    kernelItemStart s =
      ((s.countRecovery it).putItem { it with engine := some (8, n), engineSince := s.gtc, faultAt := none }).addKernel
        (s.entryKernel it n) := by
  unfold State.piersFor at hn
  rw [← s.countRecovery_gtc it]
  simp only [kernelItemStart, hi, hn, hw, not_true_eq_false, if_false]
  rfl

/-! ## A kernel as it makes a call

A stretch and a call change a kernel's registers, instructions and scratchpad alone. -/

section Called
variable (it : Item) (k : KernelRun) (w : KernelStep)

@[simp] theorem KernelRun.calledBy_regs : (k.calledBy w).regs = w.regs := rfl
@[simp] theorem KernelRun.calledBy_handles : (k.calledBy w).handles = k.handles := rfl
@[simp] theorem KernelRun.calledBy_chains : (k.calledBy w).chains = k.chains := rfl
@[simp] theorem KernelRun.calledBy_dmas : (k.calledBy w).dmas = k.dmas := rfl
@[simp] theorem KernelRun.calledBy_freeHandle : (k.calledBy w).freeHandle = k.freeHandle := rfl
@[simp] theorem KernelRun.ranBy_insns : (k.ranBy w).insns = k.insns + w.insns := rfl
@[simp] theorem targetOf_calledBy (h : Nat) : targetOf it (k.calledBy w) h = targetOf it k h := rfl
@[simp] theorem targetBytes_calledBy (x : Nat) : targetBytes it (k.calledBy w) x = targetBytes it k x := rfl
@[simp] theorem targetChain_calledBy (x : Nat) : targetChain it (k.calledBy w) x = targetChain it k x := rfl

@[simp] theorem State.ranBy_kernelPackage (s : State) : (s.ranBy it k w).kernelPackage it = s.kernelPackage it :=
  retired_kernelPackage ..

/-- MaxDecodedBytes is no counter, so a call leaves it. -/
@[simp] theorem State.calledBy_get_maxDecodedBytes (s : State) :
    (s.calledBy it k w).get Obj.maxDecodedBytes = s.get Obj.maxDecodedBytes := by
  refine calledBy_get s it k w _ ?_ (by decide)
  rintro ⟨b, n, h⟩
  simp only [Obj.maxDecodedBytes, Obj.counterValue, Obj.counterOverflowed, Obj.bankOverflows, ctrKey, inst] at h
  omega

end Called

section Calls
variable {s : State} {e : Nat} {it : Item} {k : KernelRun} {w : KernelStep}

theorem RunsFree.kernel_eq (h : RunsFree s e it k w) : s.kernel e = some k := by
  obtain ⟨-, hk, -⟩ := h
  exact hk

theorem CallsFree.runsFree {call : Nat} (h : CallsFree s e it k w call) : RunsFree s e it k w := by
  obtain ⟨hrun, -⟩ := h
  exact hrun

/-- A call whose words in the scratchpad no outstanding DMA meets is not held back (R289). -/
theorem CallsFree.not_held {call addr len : Nat} (h : CallsFree s e it k w call) (hm : k.meets addr len = false) :
    ¬ (s.kernel e).any (fun k => k.meets addr len) = true := by
  simp [h.runsFree.kernel_eq, hm]

/-! ## Service calls that return -/

theorem chainAlloc_legal (h : CallsFree s e it k w 1) (hfree : k.freeHandle.isSome = true) (hpos : 0 < regArg w.regs 0)
    (hmax : regArg w.regs 0 ≤ s.get Obj.maxDecodedBytes) :
    chainAlloc e w s =
      ((s.calledBy it k w).putKernel { k.calledBy w with
          allocating := some (regArg w.regs 0, (s.calledBy it k w).gtc) }).requestBuffers
        (((s.calledBy it k w).job it.slot).requesterOf it.stage) (chainBuffers (regArg w.regs 0)) e := by
  refine (serviceCall_free h _).trans ((if_neg ?_).trans (if_neg ?_))
  · simp only [KernelRun.calledBy_regs, State.calledBy_get_maxDecodedBytes]
    omega
  · simp [Option.isSome_iff_ne_none.mp hfree]

section ChainLength
variable (h : CallsFree s e it k w 2)
include h

theorem chainLength_held {x : Nat} (hx : targetOf it k (regArg w.regs 0) = some x) :
    chainLength e w s = (s.calledBy it k w).putKernel ((k.calledBy w).answer (some (targetBytes it k x).length)) := by
  refine (serviceCall_free h _).trans ?_
  simp only [KernelRun.calledBy_regs, targetOf_calledBy, hx, targetBytes_calledBy]

theorem chainLength_notHeld (hx : targetOf it k (regArg w.regs 0) = none) :
    chainLength e w s = (s.calledBy it k w).kernelFail it (k.calledBy w) 0x4811 := by
  refine (serviceCall_free h _).trans ?_
  simp only [KernelRun.calledBy_regs, targetOf_calledBy, hx]

end ChainLength

/-- Does a buffer of the chain behind a target have 255 references, so that none can be added (R286)? -/
def State.chainFull (s : State) (it : Item) (k : KernelRun) (target : Nat) : Bool :=
  ((targetChain it k target).map fun c => c.all.any fun h => (s.pool.find h).any (·.count == 255)).getD false

/-- The chain behind a target, where there is one, has a reference more. -/
def State.addTarget (s : State) (it : Item) (k : KernelRun) (target : Nat) : State :=
  ((targetChain it k target).map s.addChain).getD s

theorem kernelRefAdd_held {x n : Nat} (h : CallsFree s e it k w 3) (hx : targetOf it k (regArg w.regs 0) = some x)
    (hn : k.freeHandle = some n) :
    kernelRefAdd e w s =
      if (s.calledBy it k w).chainFull it k x = true then (s.calledBy it k w).kernelFail it (k.calledBy w) 0x4817
      else ((s.calledBy it k w).addTarget it k x).putKernel
        (KernelRun.answer { k.calledBy w with handles := k.handles ++ [({ num := n, target := x } : KernelHandle)] } (some n)) := by
  refine (serviceCall_free h _).trans ?_
  simp only [KernelRun.calledBy_regs, targetOf_calledBy, hx, KernelRun.calledBy_freeHandle, hn, targetChain_calledBy]
  refine ite_congr rfl (fun _ => rfl) fun _ => congrArg (State.putKernel · _) ?_
  unfold State.addTarget
  cases targetChain it k x with
  | some c => rfl
  | none => rfl

/-- The chains of a kernel that has given back a handle on a target: all, but the target only where a handle left names it. -/
def KernelRun.chainsNamed (k : KernelRun) (left : List KernelHandle) (target : Nat) : List KernelChain :=
  k.chains.filter fun c => c.id != target || left.any fun y => y.target == target

theorem kernelRefDrop_held {x : KernelHandle} (h : CallsFree s e it k w 4)
    (hx : k.handles.find? (fun x => x.num == regArg w.regs 0) = some x)
    (hd : (k.dmas.any fun d => d.handle == regArg w.regs 0) = false) :
    kernelRefDrop e w s = ((s.calledBy it k w).dropTarget it (k.calledBy w) x.target).putKernel (KernelRun.answer
      { k.calledBy w with
        handles := k.handles.filter fun y => y.num != regArg w.regs 0
        chains := k.chainsNamed (k.handles.filter fun y => y.num != regArg w.regs 0) x.target } none) := by
  refine (serviceCall_free h _).trans ?_
  simp only [KernelRun.calledBy_regs, KernelRun.calledBy_handles, hx, KernelRun.calledBy_dmas, hd, Bool.false_eq_true, if_false]
  rfl

/-- The words of RNG (R287): draws of the position being filled. -/
def State.drawWords (s : State) (it : Item) (first count : Nat) : Bytes :=
  (List.range count).flatMap fun i => leBytes 4 (draw (s.job it.slot).seed it.epoch it.position it.stage (first + i))

theorem rng_legal (h : CallsFree s e it k w 7) (hm : k.meets (regArg w.regs 2) (4 * regArg w.regs 1) = false)
    (hpos : 0 < regArg w.regs 1) (hcount : regArg w.regs 1 ≤ 4096) (hdraw : regArg w.regs 0 + regArg w.regs 1 ≤ 2 ^ 36)
    (halign : regArg w.regs 2 % 4 = 0) (hin : inSpad (s.kernelPackage it).2 (regArg w.regs 2) (4 * regArg w.regs 1) = true) :
    rng e w s = (s.calledBy it k w).putKernel (KernelRun.answer { k.calledBy w with
      spad := Memory.write (k.calledBy w).spad (regArg w.regs 2)
        ((s.calledBy it k w).drawWords it (regArg w.regs 0) (regArg w.regs 1)) } none) := by
  refine (if_neg (h.not_held hm)).trans ((serviceCall_free h _).trans (if_neg ?_))
  rintro (hbad | hbad | hbad | hbad | hbad)
  · omega
  · omega
  · omega
  · exact hbad halign
  · exact hbad hin

/-! ## DMA -/

/-- The 32 bytes at the address that a DMA_SUBMIT gives (R288). -/
def KernelRun.submitted (k : KernelRun) (w : KernelStep) : Bytes := Memory.bytes (k.calledBy w).spad (regArg w.regs 0) 32

theorem dmaSubmit_legal {x : Nat} {d : KernelDma} (h : CallsFree s e it k w 5) (hm : k.meets (regArg w.regs 0) 32 = false)
    (halign : regArg w.regs 0 % 8 = 0) (hin : inSpad (s.kernelPackage it).2 (regArg w.regs 0) 32 = true)
    (hx : targetOf it k (field (k.submitted w) 4 4) = some x) (hd : dmaOf (k.submitted w) x (s.calledBy it k w).gtc = d)
    (hlegal : dmaIllegal (k.calledBy w) (s.kernelPackage it).2 (k.submitted w) = false)
    (hrange : 9 ≤ x ∨ d.write = false → d.offset + (d.rows - 1) * d.stride + d.length ≤ (targetBytes it k x).length)
    (hwrite : d.write = true → 9 ≤ x ∧ (s.calledBy it k w).targetRefs it (k.calledBy w) x ≤ 1) :
    dmaSubmit e w s = (s.calledBy it k w).putKernel (KernelRun.answer { k.calledBy w with dmas := k.dmas ++ [d] } none) := by
  have hplace : ¬ (regArg w.regs 0 % 8 ≠ 0 ∨ ¬ inSpad (s.kernelPackage it).2 (regArg w.regs 0) 32 = true) := by
    simp [halign, hin]
  have hwithin : ¬ ((9 ≤ x ∨ ¬ d.write = true) ∧
      (targetBytes it k x).length < d.offset + (d.rows - 1) * d.stride + d.length) := by
    rintro ⟨hown, hout⟩
    exact Nat.not_lt.mpr (hrange (hown.imp_right Bool.eq_false_iff.mpr)) hout
  have hsole : ¬ (d.write = true ∧ (¬ 9 ≤ x ∨ 1 < (s.calledBy it k w).targetRefs it (k.calledBy w) x)) := by
    rintro ⟨hw, hbad⟩
    obtain ⟨hown, hrefs⟩ := hwrite hw
    exact hbad.elim (fun hn => hn hown) (Nat.not_lt.mpr hrefs)
  subst hd
  refine (if_neg (h.not_held hm)).trans ((serviceCall_free h _).trans ((if_neg hplace).trans ?_))
  unfold KernelRun.submitted at *
  simp only [targetOf_calledBy, hx, hlegal, Bool.false_eq_true, if_false]
  exact (if_neg hwithin).trans (if_neg hsole)

theorem dmaWait_legal (h : CallsFree s e it k w 6) (htag : regArg w.regs 0 ≤ 15 ∨ regArg w.regs 0 = 0xFF) :
    dmaWait e w s =
      if (k.dmas.any fun d => d.named (regArg w.regs 0)) = true then
        (s.calledBy it k w).putKernel { k.calledBy w with waiting := some (regArg w.regs 0) }
      else (s.calledBy it k w).putKernel ((k.calledBy w).answer none) := by
  refine (serviceCall_free h _).trans (if_neg ?_)
  simp only [KernelRun.calledBy_regs]
  omega

/-- A kernel whose DMA has moved its rows, with the DMAs left (R288): a WRITE's into a chain, a READ's into the scratchpad. -/
def KernelRun.moved (k : KernelRun) (it : Item) (d : KernelDma) (left : List KernelDma) : KernelRun :=
  if d.write then
    { k with
      dmas := left
      chains := modifyWhere (fun (c : KernelChain) => c.id == d.target) (fun c => { c with data := d.intoChain k.spad c.data }) k.chains }
  else { k with dmas := left, spad := d.intoSpad (targetBytes it k d.target) k.spad }

section Running
variable (hi : s.item e = some it) (hk : s.kernel e = some k)
include hi hk

theorem dmaComplete_begun {tag : Nat} {d : KernelDma} (hd : k.dmas.find? (fun d => d.tag == tag) = some d)
    (hfirst : ((k.dmas.takeWhile fun d => d.tag != tag).any fun x =>
      x.handle == d.handle || decide (x.spad < d.spad + d.rows * d.length ∧ d.spad < x.spad + x.rows * x.length)) = false) :
    dmaComplete e tag s =
      (s.count Obj.kernelDmaBytes (d.rows * d.length)).dmaEnded it (k.moved it d (k.dmas.filter fun x => x.tag != tag)) := by
  simp only [dmaComplete, hi, hk, hd, hfirst, Bool.false_eq_true, if_false, KernelRun.moved]
  split <;> rfl

theorem dmaTimeout_eq (tag : Nat) :
    dmaTimeout e tag s =
      if (k.dmas.any fun d => d.tag == tag && decide (d.since + 1000000 ≤ s.gtc)) = true then s.restartKernel it k else s := by
  simp only [dmaTimeout, hi, hk]

end Running

theorem dmaEnded_last {c : Nat} {l : List Nat} (he : k.ending = some (c, l)) (hd : k.dmas = []) :
    s.dmaEnded it k = s.endKernel it k c l := by
  simp only [State.dmaEnded, he, hd, if_true]

theorem dmaEnded_waitOver {tag : Nat} (he : k.ending = none) (hw : k.waiting = some tag)
    (hd : (k.dmas.any fun d => d.named tag) = false) :
    s.dmaEnded it k = s.putKernel (KernelRun.answer { k with waiting := none } none) := by
  simp only [State.dmaEnded, he, hw, hd, Bool.false_eq_true, if_false]

/-! ## How an item ends -/

theorem endingCall_free {call : Nat} (h : CallsFree s e it k w call) :
    s.endingCall e call w =
      if k.dmas = [] then (s.calledBy it k w).endKernel it (k.calledBy w) call ((List.range 4).map (regArg w.regs))
      else (s.calledBy it k w).putKernel { k.calledBy w with ending := some (call, (List.range 4).map (regArg w.regs)) } :=
  serviceCall_free h _

/-- Each of EMIT, PASS, FAIL and REJECT is the ending call of its number. -/
theorem exec_endingCall {call : Nat} {i : Instr} (s : State)
    (hi : i = .emit e w ∧ call = 8 ∨ i = .pass e w ∧ call = 9 ∨ i = .fail e w ∧ call = 10 ∨ i = .reject e w ∧ call = 11) :
    exec i s = .next (s.endingCall e call w).flow := by
  rcases hi with ⟨rfl, rfl⟩ | ⟨rfl, rfl⟩ | ⟨rfl, rfl⟩ | ⟨rfl, rfl⟩ <;> rfl

section Endings
variable (s it k) (a : Nat) (l : List Nat)

theorem endKernel_pass : s.endKernel it k 9 l = (k.handles.foldl (fun (t : State) h => t.dropTarget it k h.target) s).leaveKernel it k :=
  rfl

theorem endKernel_fail :
    s.endKernel it k 10 (a :: l) = s.kernelFail it k (if 0x4C00 ≤ a ∧ a ≤ 0x4CFF then a else 0x4811) :=
  (apply_ite (s.kernelFail it k) ..).symm

theorem endKernel_reject :
    s.endKernel it k 11 (a :: l) =
      if bit (field (s.kernelPackage it).2 0x10 4) 1 = true ∧ a ≤ 15 then
        ((s.bump (inst Obj.slotKernelRejects it.slot)).pierDone it k).failItem it (0x4880 + a)
      else s.kernelFail it k 0x4819 := by
  have hnot : (¬ bit (field (s.kernelPackage it).2 0x10 4) 1 = true ∨ 15 < a) ↔
      ¬ (bit (field (s.kernelPackage it).2 0x10 4) 1 = true ∧ a ≤ 15) := by
    rw [Decidable.not_and_iff_not_or_not, Nat.not_le]
  exact (ite_congr (propext hnot) (fun _ => rfl) fun _ => rfl).trans (ite_not ..)

theorem endKernel_emit_notHeld (ha : targetOf it k a = none) : s.endKernel it k 8 (a :: l) = s.kernelFail it k 0x4811 := by
  have hemit (form valid : Nat) : s.emitKernel it k a form valid = s.kernelFail it k 0x4811 := by
    simp only [State.emitKernel, ha]
  exact hemit ..

theorem kernelFail_trap {code : Nat} (hlow : 0x4810 ≤ code) (hhigh : code ≤ 0x4819) :
    s.kernelFail it k code = (((s.bump Obj.kernelTraps).bump (inst Obj.slotKernelFailures it.slot)).pierDone it k).failItem
      { it with faultPc := k.regs.pc } code := by
  simp only [State.kernelFail, hlow, hhigh, and_self, true_or, if_true]

end Endings

theorem serviceUnknown_unlisted (h : CallsFree s e it k w (w.regs.x.getD 17 0))
    (hcall : w.regs.x.getD 17 0 = 0 ∨ 11 < w.regs.x.getD 17 0) :
    serviceUnknown e w s = (s.calledBy it k w).kernelFail it (k.calledBy w) 0x4810 :=
  (if_neg (by omega)).trans (serviceCall_free h _)

section Stretch
variable (h : RunsFree s e it k w)
include h

theorem kernelTrap_free {code : Nat} (hlow : 0x4812 ≤ code) (hhigh : code ≤ 0x4814) :
    kernelTrap e w code s = (s.ranBy it k w).kernelFail it (k.ranBy w) code :=
  (runKernel_free h _).trans (if_pos ⟨hlow, hhigh⟩)

theorem kernelLimit_reached (hlimit : k.insns + w.insns = instructionLimit (s.kernelPackage it).1 (s.kernelPackage it).2) :
    kernelLimit e w s = (s.ranBy it k w).kernelFail it (k.ranBy w) 0x4820 := by
  have hused : instructionLimit ((s.ranBy it k w).kernelPackage it).1 ((s.ranBy it k w).kernelPackage it).2 ≤ (k.ranBy w).insns := by
    rw [State.ranBy_kernelPackage, KernelRun.ranBy_insns]
    exact Nat.le_of_eq hlimit.symm
  exact (runKernel_free h _).trans (if_pos hused)

theorem noEnding_returned (hpc : w.regs.pc = 0xFF0) :
    noEnding e w s = (s.ranBy it k w).kernelFail it (k.ranBy w) 0x4821 :=
  (if_neg (not_not_intro hpc)).trans (runKernel_free h _)

end Stretch

end Calls

/-! ## The statements -/

/-- Settles O26: each call by its own meaning on the kernel as it makes it (log 89), CHAIN_LENGTH by whether the handle is held. -/
theorem kernelServicesComplete : Obligations.KernelServicesComplete := by
  refine ⟨fun s it n rest hi hn hw => ?_, fun s e it k w h hfree hpos hmax => ?_, fun s e it k w h => ?_,
    fun s e it k w x n h hx hn => ?_, fun s e it k w x h hx hd => ?_, fun s e it k w h hm hpos hcount hdraw halign hin => ?_⟩
  · exact next_flow (kernelItemStart_takes hi hn hw)
  · exact next_flow (chainAlloc_legal h hfree hpos hmax)
  · refine next_flow ?_
    cases hx : targetOf it k (regArg w.regs 0) with
    | some x => exact chainLength_held h hx
    | none => exact chainLength_notHeld h hx
  · exact next_flow (kernelRefAdd_held h hx hn)
  · exact next_flow (kernelRefDrop_held h hx hd)
  · exact next_flow (rng_legal h hm hpos hcount hdraw halign hin)

/-- Settles O27: a submission whose descriptor meets every check (log 90), a wait by whether a DMA it names is outstanding, a
completion by the way its rows go, and the time limit. -/
theorem kernelDmaCompletes : Obligations.KernelDmaCompletes := by
  refine ⟨fun s e it k w x h hm halign hin hx hlegal hrange hwrite => ?_, fun s e it k w h htag => ?_,
    fun s e tag it k d hi hk hd hfirst => ?_, fun s it k => ⟨fun c l => dmaEnded_last, fun tag => dmaEnded_waitOver⟩,
    fun s e tag it k hi hk => ?_⟩
  · exact next_flow (dmaSubmit_legal h hm halign hin hx rfl hlegal hrange hwrite)
  · exact next_flow (dmaWait_legal h htag)
  · exact next_flow ((dmaComplete_begun hi hk hd hfirst).trans (apply_ite ..))
  · exact next_flow (dmaTimeout_eq hi hk tag)

/-- Settles O28: the four ending calls are one, which waits for the DMAs outstanding (log 91), and then each ends in its own way; the
other ways to end are a failure of the stretch or call with its code (log 90). -/
theorem kernelEndingsComplete : Obligations.KernelEndingsComplete := by
  refine ⟨fun s e call it k w i h hi => ?_, fun s it k a l => ?_, fun s e it k w h hcall => ?_, fun s e it k w h => ?_,
    fun s it k code => kernelFail_trap s it k⟩
  · rw [exec_endingCall s hi, endingCall_free h]
  · exact ⟨endKernel_pass s it k (a :: l), endKernel_fail s it k a l, endKernel_reject s it k a l,
      endKernel_emit_notHeld s it k a l⟩
  · exact next_flow (serviceUnknown_unlisted h hcall)
  · exact ⟨fun code hlow hhigh => next_flow (kernelTrap_free h hlow hhigh),
      fun hlimit => next_flow (kernelLimit_reached h hlimit), fun hpc => next_flow (noEnding_returned h hpc)⟩

end Sys2Proof.Machine
end

section
/-! The Buffer Pool Manager (R320 to R325) and the SRAM faults (R308, R431): each command where its guards hold. -/

namespace Sys2Proof.Machine

section BufferPool
variable {s : State}

/-! ## Requests -/

theorem bufferAllocate_legal {r n : Nat} (hr : r < 64) (hn : 0 < n) : bufferAllocate r n s = s.requestBuffers r n commandHolder :=
  if_neg (by omega)

/-! ## Reference counts -/

theorem allocated_of_find {h : Nat} {x : Held} (hx : s.pool.find h = some x) : s.allocated h = true := by
  simp [State.allocated, hx]

section Reference
variable {h r : Nat} (hh : h < s.get Obj.poolBuffers) (hr : r < 64)
include hh hr

theorem bufferReference_allocated (ha : s.allocated h = true) (add : Bool) (e : Option Nat) :
    bufferReference add h r e s = if add then s.refAdd h else s.refDrop h :=
  (if_neg (by omega)).trans (if_pos ha)

theorem bufferReference_notAllocated (ha : s.allocated h = false) (add : Bool) (e : Option Nat) :
    bufferReference add h r e s = s.doubleFree h r (if add then 1 else 2) e :=
  (if_neg (by omega)).trans (if_neg (Bool.eq_false_iff.mp ha))

end Reference

/-- The count of an allocated buffer changes. -/
def State.recount (s : State) (h : Nat) (f : Nat → Nat) : State :=
  { s with pool := { s.pool with
      held := modifyWhere (fun y => y.handle == h) (fun y => { y with count := f y.count }) s.pool.held } }

section Held
variable {h : Nat} {x : Held} (hx : s.pool.find h = some x)
include hx

theorem refAdd_held :
    s.refAdd h = if x.count = 255 then (s.bump Obj.refOperations).bump Obj.refSaturations
      else (s.bump Obj.refOperations).recount h (· + 1) := by
  unfold State.refAdd
  rw [hx]
  rfl

theorem refDrop_held :
    s.refDrop h = if x.count ≤ 1 then (s.bump Obj.refOperations).freeBuffer x
      else (s.bump Obj.refOperations).recount h (· - 1) := by
  unfold State.refDrop
  rw [hx]
  rfl

end Held

/-! ## Refills -/

/-- A stack with a node on top has its head node out already. -/
theorem Pool.expose_of_nodes {p : Pool} {n : FreeNode} {rest : List FreeNode} (hn : p.nodes = n :: rest) : p.expose = p := by
  unfold Pool.expose
  rw [hn]

section Refill
variable {n : FreeNode} {rest : List FreeNode}

/-- A refill takes the head node's last group, or the node itself when it holds none (R321). -/
theorem Pool.refill_group {p : Pool} {g : List Nat} (hn : p.nodes = n :: rest) (hg : n.groups.getLast? = some g) :
    p.refill = { p with nodes := { n with groups := n.groups.dropLast } :: rest, cache := g.reverse ++ p.cache } := by
  simp only [Pool.refill, Pool.expose_of_nodes hn, hn, hg]

theorem Pool.refill_self {p : Pool} (hn : p.nodes = n :: rest) (hg : n.groups.getLast? = none) :
    p.refill = { p with nodes := rest, cache := n.self :: p.cache } := by
  simp only [Pool.refill, Pool.expose_of_nodes hn, hn, hg]

/-- A refill checks the node, then its group where it has one, and only then takes from it (R321, R322). -/
theorem refillComplete_due (hfew : s.pool.cache.length < 256) (hr : s.pool.rebuilding = false) (hn : s.pool.expose.nodes = n :: rest)
    (nodeOk groupOk : Bool) :
    refillComplete nodeOk groupOk s =
      if ¬ nodeOk then s.poolFault n.self 1
      else if ¬ groupOk ∧ n.groups ≠ [] then s.poolFault n.self 2
      else State.set { s with pool := s.pool.expose.refill } Obj.prefetchCacheFill s.pool.expose.refill.cache.length := by
  unfold refillComplete
  rw [if_neg (by simp [hr]; omega)]
  simp only [hn]

end Refill

/-! ## Rebuilds -/

/-- The items whose requests wait for the pool. -/
def Pool.waitingItems (p : Pool) : List Nat := (p.waiting.filter fun w => decide (w.holder < 65536)).map BufferWait.holder

/-- A rebuild that ends is counted, with the ticks it held what waits, and marks the items that waited (R64). -/
def State.countRebuild (s : State) : State :=
  (((s.bump Obj.freeListRebuilds).bump Obj.faultRecoveryCount).count Obj.faultRecoveryTicks
    (if s.pool.waiting = [] then 0 else s.gtc - s.pool.rebuildSince)).markPerturb s.pool.waitingItems 7

theorem freeListRebuildComplete_due (h : s.pool.rebuilding = true) :
    freeListRebuildComplete s = { s.countRebuild with pool := s.pool.rebuild (s.countRebuild.get Obj.poolBuffers) } :=
  if_neg (not_not_intro h)

/-! ## SRAM words -/

theorem sramUncorrectable_inEngine {e tile address bank : Nat} {it : Item} (hi : s.item e = some it) (he : it.engine ≠ none)
    (hw : it.waitOut = none) (hp : it.prepared = false)
    (hk : (s.sramRecord tile address bank (s.retryAction it) (some it)).kernel it.entry = none) (damaged : Bool) :
    sramUncorrectable tile address bank (some e) damaged false s =
      (s.sramRecord tile address bank (s.retryAction it) (some it)).retryItem it damaged false := by
  have hin : ¬ (it.engine.isNone ∨ it.waitOut.isSome ∨ it.prepared) := by simp [he, hw, hp]
  simp only [sramUncorrectable, Option.bind_some, hi, if_neg hin, hk, Bool.false_eq_true, if_false]

end BufferPool

/-- Settles O30: each command by its equation where its guards hold, a reference by the buffer's count or its want of one, a refill by
the first check that fails, or by whether the head node holds a group. -/
theorem bufferPoolCommandsComplete : Obligations.BufferPoolCommandsComplete := by
  refine ⟨fun s r n hr hn => ?_, fun s h r e x hh hr hx => ?_, fun s h r e hh hr ha => ⟨?_, ?_, rfl⟩,
    fun s n rest hfew hr hn => ⟨?_, fun groupOk => ?_, fun hg => ?_⟩, fun s h => ?_,
    fun s tile address bank damaged => ⟨fun e => rfl, rfl, fun e it hi he hw hp _ hk => ?_⟩⟩
  · exact next_flow (bufferAllocate_legal hr hn)
  · have href := bufferReference_allocated hh hr (allocated_of_find hx)
    refine ⟨fun hc => ?_, fun hc => ?_, fun hc => ?_, fun hc => ?_⟩
    · exact next_flow ((href true e).trans ((refAdd_held hx).trans (if_pos hc)))
    · exact next_flow ((href true e).trans ((refAdd_held hx).trans (if_neg hc)))
    · exact next_flow ((href false e).trans ((refDrop_held hx).trans (if_neg (Nat.not_le.mpr hc))))
    · exact next_flow ((href false e).trans ((refDrop_held hx).trans (if_pos hc)))
  · exact next_flow (bufferReference_notAllocated hh hr ha true e)
  · exact next_flow (bufferReference_notAllocated hh hr ha false e)
  · refine next_flow ((refillComplete_due hfew hr hn true true).trans ?_)
    cases hg : n.groups.getLast? with
    | some g => simp [Pool.refill_group hn hg]
    | none => simp [Pool.refill_self hn hg]
  · exact next_flow (refillComplete_due hfew hr hn false groupOk)
  · exact next_flow ((refillComplete_due hfew hr hn true false).trans (by simp [hg]))
  · exact next_flow (freeListRebuildComplete_due h)
  · exact next_flow (sramUncorrectable_inEngine hi he hw hp hk damaged)

end Sys2Proof.Machine
end

section
/-! The object commands (R339 to R341, R355): the checks in the order of log 32, the wait for the hold-up gate, and what each command
does on an object that suits it. -/

namespace Sys2Proof.Machine

/-! ## Results -/

theorem State.setAll_store (l : List (Nat × Nat)) (s : State) : (s.setAll l).store = s.store := by
  rw [State.setAll_rest]

theorem State.storeStatus_store (s : State) : s.storeStatus.store = s.store := by
  unfold State.storeStatus
  rw [apply_ite State.store, State.set_store, State.setAll_store, ite_self]

/-- The objects that follow the store (R364, R368). -/
def storeStatusObjects : List Nat :=
  [Obj.dieIndicesOpen, Obj.dataBytes, Obj.usedBytes, Obj.freeBands, Obj.objectCount, Obj.objectsOpen, Obj.discardBandsLeft, Obj.storeState]

theorem State.storeStatus_get (s : State) {k : Nat} (h : k ∉ storeStatusObjects) : s.storeStatus.get k = s.get k := by
  simp only [storeStatusObjects, List.mem_cons, List.not_mem_nil, or_false, not_or] at h
  obtain ⟨hopen, hdata, hused, hfree, hcount, hobjects, hdiscard, hstate⟩ := h
  unfold State.storeStatus
  rw [apply_ite (fun t : State => t.get k)]
  simp [State.get_set, State.setAll_cons, hopen, hdata, hused, hfree, hcount, hobjects, hdiscard, hstate]

theorem objectResult_refused {s : State} {code : Nat} (h : code ≠ 0) :
    s.objectResult code = (s.set Obj.objectLastReason code).refused code := if_neg h

theorem objectResult_ok (s : State) : s.objectResult 0 = (s.set Obj.objectLastReason 0).storeStatus.ok := rfl

/-! ## The checks -/

theorem exec_objectCommand_accepted {s : State} {n : Nat} {c : Instr}
    (hc : (c, n) ∈ [(Instr.create, 1), (.append, 2), (.sealObject, 3), (.delete, 4), (.secureDiscard, 5)])
    (ha : Accepts s Obj.objectCommand n) : exec c s = .next (objectCommand n s) := by
  simp only [List.mem_cons, Prod.mk.injEq, List.not_mem_nil, or_false] at hc
  have h : writeCommand Obj.objectCommand n (objectCommand n) s = objectCommand n s := writeCommand_accepted ha
  rcases hc with ⟨rfl, rfl⟩ | ⟨rfl, rfl⟩ | ⟨rfl, rfl⟩ | ⟨rfl, rfl⟩ | ⟨rfl, rfl⟩ <;> exact congrArg Host.Outcome.next h

/-- May command `n`, other than CREATE, be given to the selected object as it stands (R341)? -/
def State.selectedSuits (s : State) (n : Nat) : Bool :=
  (s.object s.selected).any fun o => o.st == 1 || (o.st == 2 && decide (4 ≤ n))

/-- An object command as it is accepted: an APPEND takes its bytes from the object's window (R341). -/
def State.objectWait (s : State) (n : Nat) : StoreWait :=
  { command := n
    object := s.selected
    bytes := match s.objectWindows.find? fun w => w.object == s.selected with
      | some w => if n = 2 then Memory.bytes w.cells 0 (s.get Obj.objectAppendLength) else []
      | none => []
    expected := s.get Obj.objectExpectedDigest
    since := s.gtc }

section Checks
variable {s : State} {n : Nat}

theorem objectCommand_unmounted (h : s.storeReady = false) : objectCommand n s = s.objectResult 0x5001 := if_pos (by simp [h])

section Mounted
variable (hready : s.storeReady = true)
include hready

theorem objectCommand_reserved (h : reservedObject s.selected = true) : objectCommand n s = s.objectResult 0x5010 :=
  (if_neg (not_not_intro hready)).trans (if_pos h)

section Unreserved
variable (hid : reservedObject s.selected = false)
include hid

theorem objectCommand_createKnown (h : (s.object s.selected).isSome = true) : objectCommand 1 s = s.objectResult 0x5011 := by
  unfold objectCommand
  rw [if_neg (not_not_intro hready), if_neg (Bool.eq_false_iff.mp hid), if_pos ⟨rfl, h⟩]

theorem objectCommand_wrongState (hn : n ≠ 1) (h : s.selectedSuits n = false) : objectCommand n s = s.objectResult 0x5012 := by
  unfold objectCommand
  rw [if_neg (not_not_intro hready), if_neg (Bool.eq_false_iff.mp hid), if_neg fun hc => hn hc.1, if_pos ⟨hn, Bool.eq_false_iff.mp h⟩]

theorem objectCommand_appendLength (h : s.selectedSuits 2 = true)
    (hlen : s.get Obj.objectAppendLength = 0 ∨ 67108864 < s.get Obj.objectAppendLength) :
    objectCommand 2 s = s.objectResult 0x5015 := by
  unfold objectCommand
  rw [if_neg (not_not_intro hready), if_neg (Bool.eq_false_iff.mp hid), if_neg (by omega), if_neg fun hc => hc.2 h, if_pos ⟨rfl, hlen⟩]

theorem objectCommand_passes (hobject : if n = 1 then (s.object s.selected).isSome = false else s.selectedSuits n = true)
    (hlen : n = 2 → 1 ≤ s.get Obj.objectAppendLength ∧ s.get Obj.objectAppendLength ≤ 67108864) :
    objectCommand n s = if s.gateOpen = true then runObjectCommand (s.objectWait n) s
      else State.bump { s with store := { s.store with waiting := s.store.waiting ++ [s.objectWait n] } } Obj.holdUpWaits := by
  have hknown : ¬ (n = 1 ∧ (s.object s.selected).isSome = true) := by
    rintro ⟨rfl, h⟩
    exact Bool.eq_false_iff.mp hobject h
  have hsuits : ¬ (n ≠ 1 ∧ ¬ s.selectedSuits n = true) := fun ⟨hn, h⟩ => h (by rwa [if_neg hn] at hobject)
  have hrange : ¬ (n = 2 ∧ (s.get Obj.objectAppendLength = 0 ∨ 67108864 < s.get Obj.objectAppendLength)) := by omega
  unfold objectCommand
  rw [if_neg (not_not_intro hready), if_neg (Bool.eq_false_iff.mp hid), if_neg hknown]
  exact (if_neg hsuits).trans (if_neg hrange)

end Unreserved

end Mounted

end Checks

/-! ## The commands on an object that suits them -/

section Run
variable {s : State} {w : StoreWait}

theorem runObjectCommand_create (h : w.command = 1) : runObjectCommand w s = createObject w.object s := if_pos h

theorem runObjectCommand_append (h : w.command = 2) : runObjectCommand w s = appendCommand w.object w.bytes s := by
  simp [runObjectCommand, h]

theorem runObjectCommand_seal (h : w.command = 3) : runObjectCommand w s = sealCommand w.object w.expected s := by
  simp [runObjectCommand, h]

theorem runObjectCommand_delete (h : w.command = 4) : runObjectCommand w s = deleteCommand w.object s := by
  simp [runObjectCommand, h]

theorem runObjectCommand_discard (h : w.command = 5) : runObjectCommand w s = secureDiscard w.object s := by
  simp [runObjectCommand, h]

end Run

theorem createObject_fits {s t u : State} {id : Nat} {r : Region} (hnew : s.object id = none) (hopen : s.get Obj.objectsOpen < 16)
    (hstate : s.get Obj.storeState ≠ 3) (hcount : s.get Obj.objectCount < 67108864)
    (hheap : s.heapTake 64 .objectWindow 67108864 = some t) (hregion : t.register .objectWindow none 67108864 id 0 [] = some (r, u)) :
    createObject id s = State.objectResult { u with
      objectWindows := u.objectWindows ++ [{ object := id }]
      store := { u.store with objects := u.store.objects ++ [{ object := id, st := 1 }] } } 0 := by
  unfold createObject
  rw [if_neg (by simp [hnew]), if_neg (Nat.not_le.mpr hopen), if_neg hstate, if_neg (Nat.not_le.mpr hcount), hheap]
  simp only [hregion]
  rfl

section Known
variable {s : State} {id : Nat} {o : StoreObject} (ho : s.object id = some o)
include ho

theorem appendCommand_fits {b : Bytes} (hst : o.st = 1) (hstate : s.get Obj.storeState ≠ 3) (hlen : o.data.length + b.length ≤ 2 ^ 44)
    (hunits : s.store.mappedUnits + (unitsFor (o.data.length + b.length) - o.units.length) ≤ s.userUnits) :
    appendCommand id b s = (s.appendObject o b).objectResult 0 := by
  unfold appendCommand
  rw [ho]
  exact (if_neg (not_not_intro hst)).trans ((if_neg hstate).trans ((if_neg (Nat.not_lt.mpr hlen)).trans (if_neg (Nat.not_lt.mpr hunits))))

theorem sealCommand_open (hst : o.st = 1) (expected : Nat) :
    sealCommand id expected s =
      if expected ≠ 0 ∧ expected ≠ digestNat o.data then (s.putObject { o with digest := digestNat o.data }).objectResult 0x5016
      else (((s.putObject { o with digest := digestNat o.data, st := 2 }).closeWindow id).freeWindow).objectResult 0 := by
  unfold sealCommand
  rw [ho]
  exact if_neg (not_not_intro hst)

theorem deleteCommand_known (hst : o.st ≠ 3) :
    deleteCommand id s =
      let t := ((s.unmapObject o).dropWindow o).forgetObject id
      State.objectResult { t with store := { t.store with objects := t.store.objects.filter fun x => x.object != id } } 0 := by
  unfold deleteCommand
  rw [ho]
  exact if_neg hst

theorem secureDiscard_known (hst : o.st ≠ 3) :
    secureDiscard id s =
      let t := (((s.unmapObject o).rewriteSegments id).dropWindow o).forgetObject id
      let t := (t.store.bands.filter fun b => b.st == 0 && b.mayHold id).foldl (fun (u : State) b => u.closeBand b) t
      State.objectResult
        (State.putObject { t with store := { t.store with
            bands := t.store.bands.map fun b => { b with marked := b.marked || b.mayHold id } } }
          { o with st := 3, data := [], units := [] }) 0 := by
  unfold secureDiscard
  rw [ho]
  exact if_neg hst

end Known

/-- Settles O31: a command is its first failing check, or else its own meaning on the object as it stands; a result of 0 changes what is
shown and answered alone. -/
theorem objectCommandsComplete : Obligations.ObjectCommandsComplete := by
  refine ⟨fun s n c hc ha => ?_, fun s t w r hw hnew hopen hstate hcount hheap u hregion => ?_, fun s w o ho hst => ⟨?_, ?_, ?_⟩,
    fun s w o ho hst => ⟨fun hw => ?_, fun hw => ?_⟩, fun s => ⟨?_, rfl, ?_⟩⟩
  · rw [exec_objectCommand_accepted hc ha]
    refine ⟨fun h => ?_, fun h hid => ?_, fun h hid hn hknown => ?_, fun h hid hn hsuits => ?_, fun h hid hn hsuits hlen => ?_,
      fun h hid hobject hlen => ?_⟩
    · rw [objectCommand_unmounted h, objectResult_refused (by decide)]
    · rw [objectCommand_reserved h hid, objectResult_refused (by decide)]
    · subst hn
      rw [objectCommand_createKnown h hid hknown, objectResult_refused (by decide)]
    · rw [objectCommand_wrongState h hid hn hsuits, objectResult_refused (by decide)]
    · subst hn
      rw [objectCommand_appendLength h hid hsuits hlen, objectResult_refused (by decide)]
    · exact congrArg Host.Outcome.next (objectCommand_passes h hid hobject hlen)
  · exact (runObjectCommand_create hw).trans (createObject_fits hnew hopen hstate hcount hheap hregion)
  · intro hw hstate hlen hunits
    rw [runObjectCommand_append hw, appendCommand_fits ho hst hstate hlen hunits]
  · intro hw hexpected
    have hmatches : ¬ (w.expected ≠ 0 ∧ w.expected ≠ digestNat o.data) := fun hdiffers => hexpected.elim hdiffers.1 hdiffers.2
    rw [runObjectCommand_seal hw, sealCommand_open ho hst, if_neg hmatches]
  · intro hw hset hdiffers
    rw [runObjectCommand_seal hw, sealCommand_open ho hst, if_pos ⟨hset, hdiffers⟩, objectResult_refused (by decide)]
  · exact (runObjectCommand_delete hw).trans (deleteCommand_known ho hst)
  · exact (runObjectCommand_discard hw).trans (secureDiscard_known ho hst)
  · rw [objectResult_ok]
    exact State.storeStatus_store _
  · rw [objectResult_ok, State.get_ok, State.storeStatus_get _ (by decide), State.get_set_self]

end Sys2Proof.Machine
end

section
/-! Unit reads, programs, erases, patrols and failing channel controllers of the flash store (R342 to R361): the operation that ends or
is asked for leaves its queue, and what follows from its result. -/

namespace Sys2Proof.Machine

theorem next_storeStatus {t u : State} (h : t = u) :
    (.next t.storeStatus : Host.Outcome State Fault Refusal) = .next u.storeStatus := by rw [h]

/-! ## Unit reads -/

section Requests
variable {s : State} {x : Nat} (hready : s.storeReady = true)
include hready

theorem unitReadRequest_unmapped (hu : (s.mapLookup x).store.unitAt x = none) (cls : Nat) (reader : Option Nat) :
    unitReadRequest x cls reader s = s.mapLookup x := by
  unfold unitReadRequest
  rw [if_neg (not_not_intro hready)]
  simp only [hu]

section Mapped
variable {u : PhysUnit} (hu : (s.mapLookup x).store.unitAt x = some u)
include hu

theorem unitReadRequest_buffered (hb : (s.mapLookup x).store.inBuffer u = true) (cls : Nat) (reader : Option Nat) :
    unitReadRequest x cls reader s = s.mapLookup x := by
  unfold unitReadRequest
  rw [if_neg (not_not_intro hready)]
  simp only [hu, hb, if_true]

theorem unitReadRequest_queued (hb : (s.mapLookup x).store.inBuffer u = false) (cls : Nat) (reader : Option Nat) :
    unitReadRequest x cls reader s =
      let t := s.mapLookup x
      let q : QueuedRead :=
        { channel := u.column, die := t.store.dieOf u.band, cls := cls, seq := u.seq, logical := x, reader := reader }
      let v : State := { t with store := { t.store with reads := t.store.reads ++ [q] } }
      if cls ≤ 2 then v.suspendFor u.column (t.store.dieOf u.band) else v := by
  unfold unitReadRequest
  rw [if_neg (not_not_intro hready)]
  simp only [hu, hb, Bool.false_eq_true, if_false]
  rfl

end Mapped

end Requests

/-- A read leaves its die's queue, and an operation suspended there goes on where no other foreground read waits (R353). -/
def State.takeRead (s : State) (channel die : Nat) (q : QueuedRead) : State :=
  let left := dropRead q s.store.reads
  let more := left.any fun x => x.channel == channel && x.die == die && decide (x.cls ≤ 2)
  { s with store := { s.store with
      reads := left
      ops := modifyWhere (fun o => o.channel == channel && o.die == die && o.suspended && !more)
        (fun o => { o with suspended := false, since := s.gtc }) s.store.ops } }

section Reads
variable {s : State} {c d : Nat} {bg : Bool} {r : UnitResult} {q : QueuedRead} {u : PhysUnit}
  (hq : s.store.nextRead c d bg = some q) (hu : (s.store.units.find? fun u => u.seq == q.seq) = some u)
include hq hu

theorem unitReadComplete_noReader (hreader : q.reader = none) (hcode : ((s.takeRead c d q).countRead u r false).readCode u r = 0) :
    unitReadComplete c d bg r s = (s.takeRead c d q).countRead u r false := by
  unfold State.takeRead at hcode ⊢
  simp only [unitReadComplete, hq, hu, State.modStore, hreader, hcode]
  rfl

/-- A read that cannot be decoded, or whose columns are absent, marks the item it serves and leaves it the code (R345). -/
theorem unitReadComplete_uncorrectable {e code : Nat} (hreader : q.reader = some e)
    (hcode : ((s.takeRead c d q).countRead u r false).readCode u r = code) (hfails : code = 0x5020 ∨ code = 0x5021)
    (hextra : 0 < r.levels ∨ 3 ≤ r.step ∨ 0 < r.mismatches) :
    unitReadComplete c d bg r s =
      let v := ((s.takeRead c d q).countRead u r false).markPerturb [e] 5
      { v with store := { v.store with failed := v.store.failed ++ [(e, code)] } } := by
  have hfault : code ≠ 0x5022 := by omega
  have hzero : code ≠ 0 := by omega
  unfold State.takeRead at hcode ⊢
  simp only [unitReadComplete, hq, hu, State.modStore, hreader, hcode, if_neg hfault, if_neg hzero, hextra, decide_true, if_true]

end Reads

/-! ## Programs and erases -/

/-- An operation leaves its die. -/
def State.takeOp (s : State) (o : DieOp) : State := { s with store := { s.store with ops := dropOp o s.store.ops } }

/-- The block that a band has on a channel. -/
def Band.blockOn (b : Band) (c : Nat) : Nat := ((b.blocks.find? fun x => x.1 == c).map Prod.snd).getD 0

/-- A program that ended well is counted. -/
def State.countProgram (s : State) (c : Nat) : State :=
  ((s.bump Obj.flashPrograms).bump (inst Obj.channelPrograms c)).event 6 0x101 1 (some c)

section Programs
variable {s : State} {c d : Nat} {o : DieOp} {b : Band} (ho : s.store.runningOp c d false = some o)
include ho

theorem programComplete_ok (hb : (((s.takeOp o).countProgram c).store.bands.find? fun b => b.num == o.band) = some b) (temp : Int) :
    programComplete c d true temp s =
      let u := (s.takeOp o).countProgram c
      if (b.groups.any fun x => x.1 == o.page / 256) = true then u
      else u.putBand { b with groups := b.groups ++ [(o.page / 256, u.storeTime, temp)] } := by
  unfold State.takeOp State.countProgram at hb ⊢
  simp only [programComplete, ho, State.modStore, if_true, hb]

theorem programComplete_failed (hb : (s.store.bands.find? fun b => b.num == o.band) = some b) (temp : Int) :
    programComplete c d false temp s =
      let t := (s.takeOp o).bump Obj.programFailures
      let u := (t.retireBlock c d (b.blockOn c)).judgeDie c d
      let again := u.store.units.filter fun x => x.band == b.num && x.page == o.page && u.store.valid x
      if b.use = 1 then again.foldl (fun v x => (v.placeUnit 1 x.kind x.logical x.object).getD v)
        (u.putBand { b with st := 1, relocate := true })
      else again.foldl (fun v x => (v.placeUnit 0 x.kind x.logical x.object).getD v) u := by
  have hb' : (((s.takeOp o).bump Obj.programFailures).store.bands.find? fun b => b.num == o.band) = some b := hb
  unfold State.takeOp at hb' ⊢
  simp only [programComplete, ho, State.modStore, Bool.false_eq_true, if_false, hb']
  rfl

end Programs

/-- An erase that ended well is counted, with the erase count of its block. -/
def State.countErased (s : State) (c d block : Nat) : State :=
  (((s.bump Obj.flashErases).bump (inst Obj.channelErases c)).event 6 0x102 1 (some c)).countErase c d block

/-- How often the erase of a band's block on a channel has been tried again. -/
def Band.triesOn (b : Band) (c : Nat) : Nat := ((b.erasing.find? fun e => e.1 == c).map Prod.snd).getD 0

section Erases
variable {s : State} {c d : Nat} {o : DieOp} {b : Band} (ho : s.store.runningOp c d true = some o)
  (hb : (s.store.bands.find? fun b => b.num == o.band) = some b)
include ho hb

theorem eraseComplete_ok :
    eraseComplete c d true s =
      let w := { b with erasing := b.erasing.filter fun e => e.1 != c }
      let v := (s.takeOp o).countErased c d (b.blockOn c)
      ((if w.erasing.isEmpty = true then v.freeBand w else v.putBand w).judgeDie c d).endDiscards := by
  unfold State.takeOp
  simp only [eraseComplete, ho, State.modStore, hb, Bool.not_true, Bool.false_and, Bool.false_eq_true, if_false, if_true]
  rfl

/-- On a marked band a failed erase is tried again, twice at most, though its block is retired (R349, R356). -/
theorem eraseComplete_again (hmarked : b.marked = true) (htries : b.triesOn c < 2) :
    eraseComplete c d false s =
      let u := (((s.takeOp o).bump Obj.eraseFailures).retireBlock c d (b.blockOn c)).putBand
        { b with erasing := b.erasing.map fun e => if e.1 = c then (e.1, b.triesOn c + 1) else e }
      { u with store := { u.store with ops := u.store.ops ++ [{ o with since := u.gtc, suspends := 0 }] } } := by
  unfold State.takeOp
  unfold Band.triesOn at htries ⊢
  simp only [eraseComplete, ho, State.modStore, hb, hmarked, htries, Bool.not_false, Bool.and_self, decide_true, Bool.false_eq_true,
    if_false, if_true]
  rfl

end Erases

/-! ## Patrols -/

theorem flashResult_refused {s : State} {code : Nat} (h : code ≠ 0) :
    s.flashResult code = (s.set Obj.flashLastReason code).refused code := if_neg h

theorem flashResult_ok (s : State) : s.flashResult 0 = (s.set Obj.flashLastReason 0).ok := rfl

theorem exec_patrolFull_accepted {s : State} (h : Accepts s Obj.flashCommand 2) : exec .patrolFull s = .next (patrolFull s) :=
  congrArg Host.Outcome.next (writeCommand_accepted h)

theorem exec_patrolStop_accepted {s : State} (h : Accepts s Obj.flashCommand 3) : exec .patrolStop s = .next (patrolStop s) :=
  congrArg Host.Outcome.next (writeCommand_accepted h)

theorem patrolFull_mounted {s : State} (h : s.storeReady = true) :
    patrolFull s = State.flashResult { s with store := { s.store with patrol := some 0, lastPatrol := s.gtc } } 0 := if_pos h

theorem patrolFull_unmounted {s : State} (h : s.storeReady = false) : patrolFull s = s.flashResult 0x5001 :=
  if_neg (Bool.eq_false_iff.mp h)

section Patrol
variable {s : State} {n : Nat} (hn : s.store.patrol = some n)
  (hpace : s.store.lastPatrol + giga / s.get Obj.patrolPagesPerSecond ≤ s.gtc)
include hn hpace

theorem patrolRead_over (hs : s.store.stripes[n]? = none) (results : List UnitResult) :
    patrolRead results s = { s with store := { s.store with patrol := none } } := by
  simp only [patrolRead, hn, if_neg (Nat.not_lt.mpr hpace), hs]
  rfl

theorem patrolRead_stripe {b p : Nat} (hs : s.store.stripes[n]? = some (b, p)) (results : List UnitResult) :
    patrolRead results s =
      let t : State := { s with store := { s.store with patrol := some (n + 1), lastPatrol := s.gtc } }
      patrolUnits ((t.store.validOf b).filter fun u => u.page == p) results (t.bump Obj.patrolStripes) := by
  simp only [patrolRead, hn, if_neg (Nat.not_lt.mpr hpace), hs]
  rfl

end Patrol

/-! ## Channel controllers -/

theorem channelControllerFailure_inService {s : State} {c : Nat} (hc : c < 32) (h : s.get (inst Obj.channelControllerState c) ≠ 1) :
    channelControllerFailure c s =
      s.dieIndices.foldl (fun (t : State) d => t.retireDie c d) (s.set (inst Obj.channelControllerState c) 1) :=
  if_neg (by omega)

/-- Settles O32: a request by what the map holds, each end by the result it brings to the operation that was due, a patrol by whether a
stripe is left. -/
theorem flashOperationsComplete : Obligations.FlashOperationsComplete := by
  refine ⟨fun s x cls reader hready => ⟨fun hu => ?_, fun u hu => ⟨fun hb => ?_, fun hb => ?_⟩⟩,
    fun s c d bg r q u hq hu hcode hreader => ?_, fun s c d bg r q u e code hq hu hcode hfails hreader hextra => ?_,
    fun s c d temp o b ho hb => ?_, fun s c d temp o b ho hb => ⟨fun huse => ?_, fun huse => ?_⟩,
    fun s c d o b ho hb => ⟨?_, fun hmarked htries => ?_⟩, fun s => ⟨fun ha h => ?_, fun ha h => ?_, fun ha => ?_⟩,
    fun s n results hn hpace => ⟨fun hs => ?_, fun b p hs => ?_⟩, fun s c hc h => ?_⟩
  · exact congrArg Host.Outcome.next (unitReadRequest_unmapped hready hu cls reader)
  · exact congrArg Host.Outcome.next (unitReadRequest_buffered hready hu hb cls reader)
  · exact congrArg Host.Outcome.next (unitReadRequest_queued hready hu hb cls reader)
  · exact congrArg Host.Outcome.next (unitReadComplete_noReader hq hu hreader hcode)
  · exact congrArg Host.Outcome.next (unitReadComplete_uncorrectable hq hu hreader hcode hfails hextra)
  · exact next_storeStatus (programComplete_ok ho hb temp)
  · exact next_storeStatus ((programComplete_failed ho hb temp).trans (if_pos huse))
  · exact next_storeStatus ((programComplete_failed ho hb temp).trans (if_neg huse))
  · exact congrArg Host.Outcome.next (eraseComplete_ok ho hb)
  · exact congrArg Host.Outcome.next (eraseComplete_again ho hb hmarked htries)
  · rw [exec_patrolFull_accepted ha, patrolFull_mounted h]
    rfl
  · rw [exec_patrolFull_accepted ha, patrolFull_unmounted h, flashResult_refused (by decide)]
  · exact exec_patrolStop_accepted ha
  · exact congrArg Host.Outcome.next (patrolRead_over hn hpace hs results)
  · exact congrArg Host.Outcome.next (patrolRead_stripe hn hpace hs results)
  · exact congrArg Host.Outcome.next (channelControllerFailure_inService hc h)

end Sys2Proof.Machine
end

section
/-! The upkeep of the flash store (R332 to R363): FORMAT and mount, campaigns and band erases, wear levelling, the journal and its
checkpoints, and the commands that wait for the hold-up gate. -/

namespace Sys2Proof.Machine

/-! ## FORMAT -/

theorem exec_format_accepted {s : State} (p : Population) (h : Accepts s Obj.flashCommand 1) :
    exec (.format p) s = .next (formatStore p s) :=
  congrArg Host.Outcome.next (writeCommand_accepted h)

/-- Is a slot not EMPTY, or an object not SEALED (R339)? -/
def State.formatBusy (s : State) : Bool := !s.allEmpty || s.store.objects.any fun o => o.st != 2

theorem State.formatBusy_iff {s : State} : s.formatBusy = true ↔ s.allEmpty = false ∨ ∃ o ∈ s.store.objects, o.st ≠ 2 := by
  simp [State.formatBusy]

theorem State.formatBusy_eq_false {s : State} (hslots : s.allEmpty = true) (hobjects : ∀ o ∈ s.store.objects, o.st = 2) :
    s.formatBusy = false := by
  refine Bool.eq_false_iff.mpr fun h => ?_
  rcases State.formatBusy_iff.mp h with h | ⟨o, ho, hst⟩
  · exact Bool.noConfusion (hslots.symm.trans h)
  · exact hst (hobjects o ho)

/-- The store as FORMAT leaves it, of which the erase counts and bad blocks stay (R339), with what a reading of the dies brought. -/
def State.emptyStore (s : State) : State :=
  { s with
    store := { formatted := true, erases := s.store.erases, bad := s.store.bad, retryLevels := s.store.retryLevels
               suspend := s.store.suspend, gateTick := s.store.gateTick, savedTime := s.storeTime, savedTick := s.gtc }
    cache := { s.cache with segments := [] } }

/-- Every die is in service, nothing is to be rebuilt and the store is READY. -/
def State.showFormatted (s : State) : State :=
  let dies := s.get Obj.diesPerChannel
  State.setAll ((List.range 32).foldl (fun (u : State) c => u.set (inst Obj.channelDiesInService c) dies) s.emptyStore)
    [(Obj.diesInService, 32 * dies), (Obj.rebuildUnitsLeft, 0), (Obj.storeState, 2)]

/-- The room for users that OverProvisionPermille leaves (R339). -/
def State.giveUserBytes (s : State) : State :=
  let user := 65536 * (s.dataUnits * (1000 - s.get Obj.overProvisionPermille) / 1000)
  (s.set Obj.userBytes user).modStore fun st => { st with userBytes := user }

section Format
variable {s : State} {p : Population}

theorem formatStore_busy (h : s.formatBusy = true) : formatStore p s = s.flashResult 0x5004 := if_pos h

section Idle
variable (hbusy : s.formatBusy = false)
include hbusy

theorem formatStore_population (h : s.populationReason p ≠ 0) : formatStore p s = s.flashResult (s.populationReason p) :=
  (if_neg (Bool.eq_false_iff.mp hbusy)).trans (if_pos h)

section Legal
variable (hpop : s.populationReason p = 0)
include hpop

theorem formatStore_waits (h : s.gateOpen = false) :
    formatStore p s = State.bump { s with store := { s.store with
      waiting := s.store.waiting ++ [({ command := 6, found := some p, since := s.gtc } : StoreWait)] } } Obj.holdUpWaits :=
  (if_neg (Bool.eq_false_iff.mp hbusy)).trans ((if_neg (not_not_intro hpop)).trans (if_pos (Bool.eq_false_iff.mp h)))

theorem formatStore_gateOpen (h : s.gateOpen = true) :
    formatStore p s = (s.setGeometry p).showFormatted.giveUserBytes.storeStatus.makeDurable.flashResult 0 :=
  (if_neg (Bool.eq_false_iff.mp hbusy)).trans ((if_neg (not_not_intro hpop)).trans (if_neg (not_not_intro h)))

end Legal

end Idle

end Format

/-! ## Campaigns -/

section Campaigns
variable {s : State}

section Idle
variable (hcourse : s.power.course = .none) (hcampaign : s.store.campaign = none) (hready : s.storeReady = true)
include hcourse hcampaign hready

theorem gcStart_freeBandsShort (h : s.get Obj.freeBands < s.get Obj.gcStartFreeBands) :
    gcStart s = s.store.victim.elim s fun b => s.startCampaign b (if b.marked = true then 3 else 0) := by
  unfold gcStart
  rw [if_neg (by simp [hcourse, hcampaign, hready]), if_pos h]
  cases s.store.victim <;> rfl

theorem gcStart_freeBandsEnough (h : s.get Obj.gcStartFreeBands ≤ s.get Obj.freeBands) :
    gcStart s = (s.store.bands.find? fun b => b.st == 1 && b.marked).elim
      ((s.store.bands.find? fun b => b.st == 1 && b.relocate).elim s (s.startCampaign · 2)) (s.startCampaign · 3) := by
  unfold gcStart
  rw [if_neg (by simp [hcourse, hcampaign, hready]), if_neg (Nat.not_lt.mpr h)]
  dsimp only
  cases s.store.bands.find? fun b => b.st == 1 && b.marked with
  | some b => rfl
  | none => cases s.store.bands.find? fun b => b.st == 1 && b.relocate <;> rfl

end Idle

theorem startCampaign_campaign (h : s.gateOpen = true) (b : Band) (purpose : Nat) :
    (s.startCampaign b purpose).store.campaign =
      some { band := b.num, purpose := purpose, left := (s.store.validOf b.num).map PhysUnit.seq, lastCommit := s.store.journal } := by
  unfold State.startCampaign
  rw [if_pos h]
  rfl

/-- A campaign goes on with the units it has left. -/
def State.copyNext (s : State) (c : Campaign) (rest : List Nat) : State :=
  { s with store := { s.store with campaign := some { c with left := rest, lastCommit := s.store.journal } } }

section Copies
variable {c : Campaign} {q : Nat} {rest : List Nat} {u : PhysUnit} (hc : s.store.campaign = some c) (hleft : c.left = q :: rest)
  (hu : (s.store.units.find? fun x => x.seq == q) = some u)
include hc hleft hu

theorem gcCopy_superseded (h : s.store.valid u = false) : gcCopy s = (s.bump Obj.gcUnitsCopied).copyNext c rest := by
  simp only [gcCopy, hc, hleft, State.bump_store, hu, h, Bool.false_eq_true, if_false]
  rfl

theorem gcCopy_valid (h : s.store.valid u = true) :
    gcCopy s =
      let t := s.bump Obj.gcUnitsCopied
      let v := (t.placeUnit 1 u.kind u.logical u.object).getD t
      State.copyNext (if (v.store.retiredAt (v.store.dieOf u.band)).contains u.column = true then
        v.set Obj.rebuildUnitsLeft (v.get Obj.rebuildUnitsLeft - 1) else v) c rest := by
  simp only [gcCopy, hc, hleft, State.bump_store, hu, h, if_true]
  rfl

end Copies

theorem bandErase_reclaimed {c : Campaign} {b : Band} (hc : s.store.campaign = some c)
    (hb : (s.store.bands.find? fun x => x.num == c.band) = some b) (hst : b.st = 2) (hleft : c.left = [])
    (hdurable : c.lastCommit ≤ s.store.durable)
    (hreads : (s.store.reads.any fun q => s.store.units.any fun u => u.seq == q.seq && u.band == b.num) = false) :
    bandErase s =
      let blocks := b.blocks.filter fun x => !s.store.retired.contains (x.1, b.die)
      let t := s.putBand { b with st := 3, erasing := blocks.map fun x => (x.1, 0) }
      let ops := blocks.map fun x => ({ channel := x.1, die := b.die, band := b.num, page := 0, erase := true, since := s.gtc } : DieOp)
      State.bump { t with store := { t.store with ops := t.store.ops ++ ops, campaign := none } }
        (if c.purpose = 1 then Obj.wearLevelBands else if c.purpose = 0 then Obj.gcBandsReclaimed else Obj.relocatedBands) := by
  unfold bandErase
  rw [hc]
  dsimp only
  rw [hb]
  dsimp only
  rw [if_neg (by simp only [hst, hleft, hreads, Nat.not_lt.mpr hdurable]; simp)]
  rfl

/-! ## Wear levelling -/

/-- The erase counts of the blocks of a die index (R347). -/
def State.eraseCountsAt (s : State) (die : Nat) : List Nat :=
  (List.range 32).flatMap fun c => (List.range (s.get Obj.blocksPerPlane)).map fun k => s.store.eraseCount c die k

def State.mostErases (s : State) (die : Nat) : Nat := (s.eraseCountsAt die).foldl max 0

def State.leastErases (s : State) (die : Nat) : Nat := (s.eraseCountsAt die).foldl min (s.mostErases die)

theorem wearLevelStart_spread {die : Nat} {b : Band} (hcourse : s.power.course = .none) (hcampaign : s.store.campaign = none)
    (hready : s.storeReady = true) (hspread : s.get Obj.wearSpreadLimit < s.mostErases die - s.leastErases die)
    (hb : (s.store.bands.find? fun x => x.st == 1 && x.die == die &&
      x.blocks.any fun c => s.store.eraseCount c.1 die c.2 == s.leastErases die) = some b) :
    wearLevelStart die s = s.startCampaign b 1 := by
  have hdue : ¬ (s.power.course ≠ .none ∨ s.store.campaign.isSome = true ∨ ¬ s.storeReady = true ∨
      s.mostErases die - s.leastErases die ≤ s.get Obj.wearSpreadLimit) := by
    simp only [hcourse, hcampaign, hready, Nat.not_le.mpr hspread, ne_eq, not_true_eq_false, Option.isSome_none, Bool.false_eq_true,
      or_self, not_false_eq_true]
  unfold State.leastErases State.mostErases State.eraseCountsAt at hdue hb
  simp only [wearLevelStart, if_neg hdue, hb]

end Campaigns

/-! ## The journal and its checkpoints -/

section Journal
variable {s : State}

theorem journalFlush_due (hnew : s.store.durable < s.store.journal)
    (hdue : 1048576 ≤ (s.store.journal - s.store.durable) * 32 ∨ s.store.journalSince + s.get Obj.journalFlushTicks ≤ s.gtc) :
    journalFlush s = s.makeDurable :=
  (if_neg (Nat.sub_ne_zero_of_lt hnew)).trans (if_pos hdue)

theorem checkpointCommand_due (hdue : 4294967296 ≤ s.store.checkpoint * 32) (hready : s.storeReady = true) :
    checkpointCommand s = if s.gateOpen = true then s.writeCheckpoint else s.bump Obj.holdUpWaits :=
  if_neg (by simp [journalRecordBytes, hdue, hready])

theorem flushEnergyUpdate_due (hready : s.storeReady = true) (htick : s.gtc % 100000 = 0) :
    flushEnergyUpdate s = (s.set Obj.flushEnergyMicroJoules (s.free % 2 ^ 32)).useFree := if_pos ⟨hready, htick⟩

/-- The commands that have waited too long are refused one after the other, each where its own result is shown (R358). -/
theorem holdupTimeout_refuses :
    holdupTimeout s =
      let late := fun w : StoreWait => decide (w.since + s.get Obj.holdUpWaitLimitTicks ≤ s.gtc)
      (s.store.waiting.filter late).foldl
        (fun (t : State) w => if w.found.isSome = true then (t.set Obj.flashLastReason 0x5018).refused 0x5018
          else (t.set Obj.objectLastReason 0x5018).refused 0x5018)
        { s with store := { s.store with waiting := s.store.waiting.filter fun w => !late w } } := by
  have hflash (t : State) : t.flashResult 0x5018 = (t.set Obj.flashLastReason 0x5018).refused 0x5018 := flashResult_refused (by decide)
  have hobject (t : State) : t.objectResult 0x5018 = (t.set Obj.objectLastReason 0x5018).refused 0x5018 := objectResult_refused (by decide)
  simp only [holdupTimeout, hflash, hobject]
  rfl

end Journal

/-! ## Mounts -/

theorem State.setGeometry_bands (s : State) (p : Population) : (s.setGeometry p).store.bands = s.store.bands := by
  simp only [State.setGeometry, State.modStore, State.setAll_store]

/-- Bands that were being erased are erased again (R360). -/
def State.eraseAgain (s : State) : State := (s.store.bands.filter fun b => b.st == 3).foldl (fun (t : State) b => t.freeBand b) s

/-- Nothing that was under way in the store outlives a mount, and one after an unclean stop is counted. -/
def State.forgetWork (s : State) : State :=
  let t := s.modStore fun st => { st with ops := [], reads := [], failed := [], campaign := none, patrol := none }
  if t.store.unclean = true then t.bump Obj.uncleanMounts else t

/-- The store has stopped cleanly, and the band of a campaign is CLOSED again. -/
def State.reopenBands (s : State) : State :=
  s.modStore fun st => { st with unclean := false, bands := s.store.bands.map fun b => if b.st = 2 then { b with st := 1 } else b }

/-- The dies of a channel that are not retired. -/
def State.diesServing (s : State) (c : Nat) : Nat := (s.dieIndices.filter fun d => !s.store.retired.contains (c, d)).length

/-- The store is READY with the dies it has in service. -/
def State.showMounted (s : State) : State :=
  let u := (List.range 32).foldl (fun (v : State) c => v.set (inst Obj.channelDiesInService c) (s.diesServing c)) s
  (u.setAll [(Obj.diesInService, ((List.range 32).map s.diesServing).sum), (Obj.storeState, 2), (Obj.flashLastReason, 0),
    (Obj.userBytes, u.store.userBytes)]).eraseExtremes.storeStatus.endDiscards.cacheStatus

section Mount
variable {s : State} {p : Population} (hstate : s.get Obj.storeState = 1)
include hstate

theorem mountComplete_population (hpop : s.populationReason p ≠ 0) (readable : Bool) :
    mountComplete p readable s = (s.set Obj.storeState 4).set Obj.flashLastReason (s.populationReason p) :=
  (if_neg (not_not_intro hstate)).trans (if_pos hpop)

section Legal
variable (hpop : s.populationReason p = 0)
include hpop

theorem mountComplete_unreadable : mountComplete p false s = s.set Obj.storeState 4 :=
  (if_neg (not_not_intro hstate)).trans ((if_neg (not_not_intro hpop)).trans (if_pos Bool.false_ne_true))

theorem mountComplete_readable : mountComplete p true s = (s.setGeometry p).eraseAgain.forgetWork.reopenBands.showMounted :=
  (if_neg (not_not_intro hstate)).trans ((if_neg (not_not_intro hpop)).trans (if_neg (not_not_intro rfl)))

end Legal

end Mount

theorem State.eraseAgain_noBands {s : State} (h : s.store.bands = []) : s.eraseAgain = s := by
  unfold State.eraseAgain
  rw [h]
  rfl

theorem State.forgetWork_bands (s : State) : s.forgetWork.store.bands = s.store.bands := by
  unfold State.forgetWork
  dsimp only
  split <;> rfl

theorem State.reopenBands_noBands {s : State} (h : s.store.bands = []) :
    s.reopenBands = s.modStore fun st => { st with unclean := false, bands := [] } := by
  unfold State.reopenBands
  rw [h]
  rfl

/-- Settles O33: each command by the branch that its guards pick; a mount of a store with no band has none to erase again or reopen. -/
theorem storeUpkeepComplete : Obligations.StoreUpkeepComplete := by
  refine ⟨fun s p ha => ⟨fun hbusy => ?_, fun hslots hobjects hpop => ?_, fun hslots hobjects hpop hgate => ?_,
      fun hslots hobjects hpop hgate => ?_⟩,
    fun s hcourse hcampaign hready => ⟨fun h => ?_, fun h => ?_⟩, fun s b purpose hgate => startCampaign_campaign hgate b purpose,
    fun s c q rest u hc hleft hu => ⟨fun hvalid => ?_, fun hvalid => ?_⟩, fun s c b hc hb hst hleft hdurable hreads => ?_, ?_,
    fun s hnew hdue => ?_, fun s hdue hready => ⟨fun hgate => ?_, fun hgate => ?_⟩, fun s hready htick => ?_, fun s => ?_,
    fun s p hstate => ⟨fun hpop readable => ?_, fun hpop => ?_, fun hpop hbands => ?_⟩⟩
  · rw [exec_format_accepted p ha, formatStore_busy (State.formatBusy_iff.mpr hbusy), flashResult_refused (by decide)]
  · rw [exec_format_accepted p ha, formatStore_population (State.formatBusy_eq_false hslots hobjects) hpop, flashResult_refused hpop]
  · rw [exec_format_accepted p ha, formatStore_waits (State.formatBusy_eq_false hslots hobjects) hpop hgate]
  · rw [exec_format_accepted p ha, formatStore_gateOpen (State.formatBusy_eq_false hslots hobjects) hpop hgate, flashResult_ok]
    rfl
  · refine congrArg Host.Outcome.next ((gcStart_freeBandsShort hcourse hcampaign hready h).trans ?_)
    cases s.store.victim <;> rfl
  · refine congrArg Host.Outcome.next ((gcStart_freeBandsEnough hcourse hcampaign hready h).trans ?_)
    cases s.store.bands.find? fun b => b.st == 1 && b.marked with
    | some b => rfl
    | none => cases s.store.bands.find? fun b => b.st == 1 && b.relocate <;> rfl
  · exact next_storeStatus (gcCopy_superseded hc hleft hu hvalid)
  · exact next_storeStatus (gcCopy_valid hc hleft hu hvalid)
  · exact congrArg Host.Outcome.next (bandErase_reclaimed hc hb hst hleft hdurable hreads)
  · intro s die b counts hi lo hcourse hcampaign hready hspread hb
    exact congrArg Host.Outcome.next (wearLevelStart_spread hcourse hcampaign hready hspread hb)
  · exact congrArg Host.Outcome.next (journalFlush_due hnew hdue)
  · exact congrArg Host.Outcome.next ((checkpointCommand_due hdue hready).trans (if_neg (Bool.eq_false_iff.mp hgate)))
  · exact congrArg Host.Outcome.next ((checkpointCommand_due hdue hready).trans (if_pos hgate))
  · exact congrArg Host.Outcome.next (flushEnergyUpdate_due hready htick)
  · exact congrArg Host.Outcome.next holdupTimeout_refuses
  · exact congrArg Host.Outcome.next (mountComplete_population hstate hpop readable)
  · exact congrArg Host.Outcome.next (mountComplete_unreadable hstate hpop)
  · have hnone : (s.setGeometry p).store.bands = [] := (s.setGeometry_bands p).trans hbands
    refine congrArg Host.Outcome.next ((mountComplete_readable hstate hpop).trans ?_)
    rw [State.eraseAgain_noBands hnone, State.reopenBands_noBands ((State.forgetWork_bands _).trans hnone)]
    rfl

end Sys2Proof.Machine
end

section
/-! The hold-up bank and the temperatures (R570 to R575, R581): readings, the timed points of a measurement, the energy check, and the
sampling of the sensors, of which only the warnings, the temperatures shown and the channels' schedules follow. -/

namespace Sys2Proof.Machine

/-! ## The hold-up bank -/

section HoldUp
variable {s : State}

theorem holdUpSample_running (h : s.get Obj.bootState = 3 ∨ s.boot.released.isSome = true) (l : List Nat) :
    holdUpSample l s =
      State.set { s with power := { s.power with restoring := s.power.restoring.filter fun r => sampleSum l < r.1 } } Obj.holdUpVolts
        (s.nodeMillivolts (sampleSum l)) := if_pos h

theorem holdUpDue_due (hruns : s.hubRuns = true) (hidle : s.power.measuring = none) (hfail : s.power.failN = true)
    (hdue : s.get Obj.holdUpLastTestTick + s.get Obj.holdUpCapTicks ≤ s.gtc) : holdUpDue s = s.startMeasurement :=
  if_pos ⟨hruns, Option.isNone_iff_eq_none.mpr hidle, hfail, hdue⟩

theorem exec_holdupCommandMeasure_accepted (h : Accepts s Obj.holdUpCommand 1) :
    exec .holdupCommandMeasure s = .next (holdUpCommand s) := congrArg Host.Outcome.next (writeCommand_accepted h)

theorem holdUpCommand_idle (hidle : s.power.measuring = none) (hstate : s.get Obj.powerState ≠ 2) :
    holdUpCommand s = s.startMeasurement.ok := if_neg (by simp [hidle, hstate])

theorem holdUpCommand_busy (h : s.power.measuring.isSome = true ∨ s.get Obj.powerState = 2) : holdUpCommand s = s.refused 0 := if_pos h

/-! ## The timed points of a measurement -/

/-- A measurement goes on with the readings it has. -/
def State.noteTest (s : State) (m : HoldUpTest) : State := { s with power := { s.power with measuring := some m } }

section Phases
variable {m : HoldUpTest} (hm : s.power.measuring = some m)
include hm

theorem holdUpPhase_v0 (hv0 : m.v0 = none) (hdue : m.t0 + 100000 ≤ s.gtc) (l : List Nat) :
    holdUpPhase l s = (s.noteTest { m with v0 := some (sampleSum l) }).switchBank false true := by
  simp only [holdUpPhase, hm, hv0, if_pos hdue]
  rfl

theorem holdUpPhase_va {v0 : Nat} (hv0 : m.v0 = some v0) (hva : m.va = none) (hdue : m.t0 + 120000 ≤ s.gtc) (l : List Nat) :
    holdUpPhase l s = s.noteTest { m with va := some (sampleSum l) } := by
  simp only [holdUpPhase, hm, hv0, hva, if_pos hdue]
  rfl

theorem holdUpPhase_vb {v0 va : Nat} (hv0 : m.v0 = some v0) (hva : m.va = some va)
    (hdue : m.t0 + 100000 + s.get Obj.holdUpTestTicks ≤ s.gtc) (l : List Nat) :
    holdUpPhase l s =
      let t : State := { s with power := { s.power with measuring := none, restoring := some (v0, s.gtc + giga) } }
      (t.switchBank true false).measured v0 va (sampleSum l) := by
  simp only [holdUpPhase, hm, hv0, hva, if_pos hdue]

end Phases

theorem measured_tooClose {va vb : Nat} (h : va ≤ vb + 64) (v0 : Nat) :
    s.measured v0 va vb = (s.countW 32 Obj.holdUpTests 1).bankFault := if_pos h

theorem holdUpChargeTimeout_due {v limit : Nat} (h : s.power.restoring = some (v, limit)) (hdue : limit ≤ s.gtc) :
    holdUpChargeTimeout s = State.bankFault { s with power := { s.power with restoring := none } } := by
  simp only [holdUpChargeTimeout, h, if_pos hdue]

/-- HoldUpEnergyMicroJoules takes the energy of the bank, and the gate follows its conditions (R572). -/
def State.judgeEnergy (s : State) : State :=
  let e := dmul s.bankEnergy (d64 1000000 1)
  let t := s.setFloor Obj.holdUpEnergyMicroJoules e
  let t := t.set Obj.holdUpGate (ofBool (t.gateHolds e))
  t.modStore fun x => { x with gateTick := some t.gtc }

theorem energyCheck_due (hruns : s.hubRuns = true) (hidle : s.power.measuring = none)
    (hdue : ∀ t, s.store.gateTick = some t → t + 10000000 ≤ s.gtc) :
    energyCheck s =
      let t := s.judgeEnergy
      State.resumeStore (if t.get Obj.holdUpState = 0 ∨ t.get Obj.holdUpState = 3 then t else t.showGate) := by
  have htick : s.store.gateTick.all (fun t => t + 10000000 ≤ s.gtc) = true :=
    (Option.all_eq_true ..).mpr fun t h => decide_eq_true (hdue t h)
  unfold energyCheck
  rw [if_pos ⟨hruns, Option.isNone_iff_eq_none.mpr hidle, htick⟩]
  rfl

end HoldUp

/-! ## What sampling the sensors changes -/

/-- The temperatures that sampling the sensors shows. -/
def temperatureObject (k : Nat) : Prop :=
  ∃ i, k = inst Obj.tileTempC i ∨ k = inst Obj.tileTempMaxC i ∨ k = inst Obj.channelTemperature i ∨ k = Obj.tempMaxC

/-- What showing temperatures leaves as it was: the power controller, the time and every other object. -/
structure ShowsTemperatures (s t : State) : Prop where
  power : t.power = s.power
  gtc : t.gtc = s.gtc
  get : ∀ k, ¬ temperatureObject k → t.get k = s.get k

theorem ShowsTemperatures.refl (s : State) : ShowsTemperatures s s := ⟨rfl, rfl, fun _ _ => rfl⟩

theorem ShowsTemperatures.trans {s t u : State} (h : ShowsTemperatures s t) (g : ShowsTemperatures t u) : ShowsTemperatures s u :=
  ⟨g.power.trans h.power, g.gtc.trans h.gtc, fun k hk => (g.get k hk).trans (h.get k hk)⟩

theorem ShowsTemperatures.seti (s : State) {k : Nat} (hk : temperatureObject k) (v : Int) : ShowsTemperatures s (s.seti 32 k v) :=
  ⟨rfl, rfl, fun j hj => State.get_set_ne s k _ j fun e => hj (e ▸ hk)⟩

theorem ShowsTemperatures.foldl {α : Type} {f : State → α → State} (h : ∀ s a, ShowsTemperatures s (f s a)) (l : List α)
    (s : State) : ShowsTemperatures s (l.foldl f s) := by
  induction l generalizing s with
  | nil => exact .refl s
  | cons a l ih => exact (h s a).trans (ih (f s a))

theorem not_temperatureObject_thermalWarnings : ¬ temperatureObject Obj.thermalWarnings := by
  rintro ⟨i, h⟩
  simp only [inst, Obj.thermalWarnings, Obj.tileTempC, Obj.tileTempMaxC, Obj.channelTemperature, Obj.tempMaxC] at h
  omega

theorem not_temperatureObject_tempShutdownC : ¬ temperatureObject Obj.tempShutdownC := by
  rintro ⟨i, h⟩
  simp only [inst, Obj.tempShutdownC, Obj.tileTempC, Obj.tileTempMaxC, Obj.channelTemperature, Obj.tempMaxC] at h
  omega

/-! ## Sampling the sensors -/

/-- The highest of some readings. -/
def hottest (l : List Int) : Option Int :=
  match l with
  | [] => none
  | h :: t => some (t.foldl max h)

theorem hottest_eq_max? (l : List Int) : hottest l = l.max? := by cases l <;> rfl

theorem hottest_mem {l : List Int} {v : Int} (h : hottest l = some v) : v ∈ l := List.max?_mem (hottest_eq_max? l ▸ h)

/-- The readings of a tile's own sensors. -/
def State.tileReadings (s : State) (dies : List (List Int)) (t : Nat) : List Int :=
  (dies.getD t []).take (s.get (inst Obj.tileSensorCount t))

/-- A tile's temperature and its highest follow its hottest sensor. -/
def State.showTile (s : State) (t : Nat) (reading : Option Int) : State :=
  match reading with
  | some v =>
    let u := s.seti 32 (inst Obj.tileTempC t) v
    u.seti 32 (inst Obj.tileTempMaxC t) (max v (u.geti 32 (inst Obj.tileTempMaxC t)))
  | none => s

/-- A channel's temperature follows its stack's. -/
def State.showChannel (s : State) (c : Nat) (reading : Option Int) : State :=
  match reading with
  | some v => s.channelTemperature c v
  | none => s

/-- TempMaxC follows the hottest tile, in degrees. -/
def State.showHottest (s : State) (reading : Option Int) : State :=
  match reading with
  | some v => s.seti 32 Obj.tempMaxC (v / 4)
  | none => s

/-- The sensors that became warm are counted, and which are warm is kept (R574). -/
def State.countWarm (s : State) (warm : List Nat) : State :=
  (s.countW 32 Obj.thermalWarnings (warm.filter fun k => !s.power.hot.contains k).length).modPower fun p => { p with hot := warm }

@[simp] theorem State.countWarm_power (s : State) (warm : List Nat) : (s.countWarm warm).power = { s.power with hot := warm } := rfl

@[simp] theorem State.countWarm_gtc (s : State) (warm : List Nat) : (s.countWarm warm).gtc = s.gtc := rfl

theorem State.countWarm_get (s : State) (warm : List Nat) (k : Nat) :
    (s.countWarm warm).get k = if k = Obj.thermalWarnings then
      satAdd (2 ^ 32 - 1) (s.get Obj.thermalWarnings) (warm.filter fun k => !s.power.hot.contains k).length else s.get k :=
  State.get_countW ..

/-- The hottest sensor of each tile that has any. -/
def State.tilesHottest (s : State) (dies : List (List Int)) : List Int := (List.range 8).filterMap fun t => hottest (s.tileReadings dies t)

/-- The unit as a sampling of its sensors leaves it, but for a shutdown (R574, R581). -/
def State.sampled (s : State) (dies : List (List Int)) (channels : List Int) : State :=
  let t := (List.range 8).foldl (fun (u : State) i => u.showTile i (hottest (s.tileReadings dies i)))
    (s.countWarm (s.warmSensors dies channels))
  let t := (List.range 96).foldl (fun (u : State) c => u.showChannel c channels[c]?) t
  t.showHottest (hottest (s.tilesHottest dies))

/-- Is a die at its shutdown limit, or a channel at 100 °C (R575)? -/
def State.tooHot (s : State) (dies : List (List Int)) (channels : List Int) : Prop :=
  (s.tilesHottest dies).any (fun v => decide ((4 * (s.sampled dies channels).get Obj.tempShutdownC : Nat) ≤ v)) = true ∨
    channels.any (fun v => decide (100 ≤ v)) = true

section Sampling
variable {s : State} {dies : List (List Int)} {channels : List Int}

theorem thermalSample_notDue (h : s.gtc % 100000 ≠ 0) : thermalSample dies channels s = s := if_pos h

section Due
variable (hdue : s.gtc % 100000 = 0)
include hdue

theorem thermalSample_tooHot (h : s.tooHot dies channels) :
    thermalSample dies channels s = (s.sampled dies channels).thermalShutdown :=
  (if_neg (not_not_intro hdue)).trans (if_pos h)

theorem thermalSample_cool (h : ¬ s.tooHot dies channels) : thermalSample dies channels s = s.sampled dies channels :=
  (if_neg (not_not_intro hdue)).trans (if_neg h)

end Due

theorem showTile_showsTemperatures (s : State) (t : Nat) (reading : Option Int) : ShowsTemperatures s (s.showTile t reading) := by
  cases reading with
  | none => exact .refl s
  | some v => exact (ShowsTemperatures.seti s ⟨t, .inl rfl⟩ v).trans (.seti _ ⟨t, .inr (.inl rfl)⟩ _)

theorem channelTemperature_showsTemperatures (s : State) (c : Nat) (v : Int) : ShowsTemperatures s (s.channelTemperature c v) := by
  have hshown : ShowsTemperatures s (s.seti 32 (inst Obj.channelTemperature c) v) := .seti s ⟨c, .inr (.inr (.inl rfl))⟩ v
  have hpending (t : State) (f : Channel → Channel) : ShowsTemperatures t (t.modChannel c f) := ⟨rfl, rfl, fun _ _ => rfl⟩
  unfold State.channelTemperature
  dsimp only
  split
  · exact hshown.trans (hpending _ _)
  · split
    · exact hshown.trans (hpending _ _)
    · exact hshown

theorem showChannel_showsTemperatures (s : State) (c : Nat) (reading : Option Int) : ShowsTemperatures s (s.showChannel c reading) := by
  cases reading with
  | none => exact .refl s
  | some v => exact channelTemperature_showsTemperatures s c v

theorem showHottest_showsTemperatures (s : State) (reading : Option Int) : ShowsTemperatures s (s.showHottest reading) := by
  cases reading with
  | none => exact .refl s
  | some v => exact .seti s ⟨0, .inr (.inr (.inr rfl))⟩ _

/-- After the warnings are counted, a sampling shows temperatures and does nothing more. -/
theorem sampled_showsTemperatures (s : State) (dies : List (List Int)) (channels : List Int) :
    ShowsTemperatures (s.countWarm (s.warmSensors dies channels)) (s.sampled dies channels) :=
  ((ShowsTemperatures.foldl (fun u i => showTile_showsTemperatures u i _) _ _).trans
    (.foldl (fun u c => showChannel_showsTemperatures u c _) _ _)).trans (showHottest_showsTemperatures _ _)

theorem sampled_power : (s.sampled dies channels).power = { s.power with hot := s.warmSensors dies channels } :=
  (sampled_showsTemperatures s dies channels).power.trans (s.countWarm_power _)

theorem sampled_gtc : (s.sampled dies channels).gtc = s.gtc :=
  (sampled_showsTemperatures s dies channels).gtc.trans (s.countWarm_gtc _)

theorem sampled_thermalWarnings :
    (s.sampled dies channels).get Obj.thermalWarnings = min (2 ^ 32 - 1) (s.get Obj.thermalWarnings +
      ((s.warmSensors dies channels).filter fun k => !s.power.hot.contains k).length) := by
  rw [(sampled_showsTemperatures s dies channels).get _ not_temperatureObject_thermalWarnings, State.countWarm_get, if_pos rfl, satAdd]

theorem sampled_tempShutdownC : (s.sampled dies channels).get Obj.tempShutdownC = s.get Obj.tempShutdownC := by
  rw [(sampled_showsTemperatures s dies channels).get _ not_temperatureObject_tempShutdownC, State.countWarm_get, if_neg (by decide)]

theorem tooHot_of_channel (h : ∃ v ∈ channels, 100 ≤ v) : s.tooHot dies channels := .inr (by simpa using h)

theorem not_tooHot (htiles : ∀ d ∈ List.range 8, ∀ v ∈ s.tileReadings dies d, v < 4 * (s.get Obj.tempShutdownC : Int))
    (hchannels : ∀ v ∈ channels, v < 100) : ¬ s.tooHot dies channels := by
  unfold State.tooHot
  rw [sampled_tempShutdownC]
  simp only [List.any_eq_true, decide_eq_true_eq]
  rintro (⟨v, hv, hhot⟩ | ⟨v, hv, hhot⟩)
  · obtain ⟨d, hd, hmax⟩ := List.mem_filterMap.mp hv
    have hcool := htiles d hd v (hottest_mem hmax)
    omega
  · have hcool := hchannels v hv
    omega

end Sampling

theorem thermalShutdown_armed {s : State} (hpin : s.power.thermTripN = true) (hafter : s.power.tripAfter = false) :
    s.thermalShutdown =
      let t := s.abandonTest.nodeFault 3 0
      if t.power.course = .flush then t.modPower fun p => { p with tripAfter := true }
      else (if t.mounted = true ∧ ¬ t.power.halted = true then t.powerFailFlush else t).powerOff.trip :=
  if_neg (by simp [hpin, hafter])

/-- Settles O55: each command by the branch that its guards pick; what a sampling leaves is the unit with its warnings counted and its
temperatures shown, which decides whether it is too hot by the readings alone. -/
theorem holdUpAndTemperatureComplete : Obligations.HoldUpAndTemperatureComplete := by
  refine ⟨fun s l h => ?_, fun s => rfl, fun s hruns hidle hfail hdue => ?_, fun s ha hidle hstate => ?_, fun s ha hbusy => ?_,
    fun s l m hm => ⟨fun hv0 hdue => ?_, fun hv0 hva hdue => ?_, fun v0 va hv0 hva hdue => ?_⟩, fun s v0 va vb h => ?_,
    fun s v limit h hdue => ?_, fun s hruns hidle hdue => ?_, fun s => rfl, fun s dies channels hdue => ?_,
    fun s dies channels hdue => ?_, fun s hpin hafter => ?_⟩
  · exact congrArg Host.Outcome.next (holdUpSample_running h l)
  · exact congrArg Host.Outcome.next (holdUpDue_due hruns hidle hfail hdue)
  · rw [exec_holdupCommandMeasure_accepted ha, holdUpCommand_idle hidle hstate]
  · rw [exec_holdupCommandMeasure_accepted ha, holdUpCommand_busy hbusy]
  · exact congrArg Host.Outcome.next (holdUpPhase_v0 hm hv0 hdue l)
  · obtain ⟨v0, hv0⟩ := Option.isSome_iff_exists.mp hv0
    exact congrArg Host.Outcome.next (holdUpPhase_va hm hv0 hva hdue l)
  · exact congrArg Host.Outcome.next (holdUpPhase_vb hm hv0 hva hdue l)
  · exact measured_tooClose h v0
  · exact congrArg Host.Outcome.next (holdUpChargeTimeout_due h hdue)
  · exact congrArg Host.Outcome.next (energyCheck_due hruns hidle hdue)
  · refine ⟨s.sampled dies channels, sampled_power, sampled_gtc, sampled_thermalWarnings, fun htiles hchannels => ?_, fun h => ?_⟩
    · exact congrArg Host.Outcome.next (thermalSample_cool hdue (not_tooHot htiles hchannels))
    · exact congrArg Host.Outcome.next (thermalSample_tooHot hdue (tooHot_of_channel h))
  · exact congrArg Host.Outcome.next (thermalSample_notDue hdue)
  · exact (thermalShutdown_armed hpin hafter).trans (by simp only [Bool.not_eq_true])

end Sys2Proof.Machine
end

section
/-! The step: every command answers a next state, and what reset leaves (R46, R49, R515). -/

namespace Sys2Proof.Machine

/-- Every command of the table answers a next state: its arm is one. -/
theorem exec_next (c : Instr) (s : State) : ∃ t, exec c s = .next t := by
  cases c <;> exact ⟨_, rfl⟩

/-- Settles O1: a step is exec of the front command by its definition. -/
theorem stepTakesFrontCommand : Obligations.StepTakesFrontCommand := fun _ _ _ => rfl

/-- Settles O4: an idle step is a tick, and any other step is a command's. -/
theorem everyStepSafe : Obligations.EveryStepSafe := by
  intro s
  unfold Safe step
  split
  · exact exec_next _ _
  · exact ⟨_, rfl⟩

/-- Nothing is listed at reset, so JobState is its default. -/
theorem jobState_reset {slot : Nat} (h : slot < 64) : State.reset.jobState slot = 0 := by
  show defaultOf (inst Obj.jobState slot) = 0
  decide +revert

/-- Settles O3: every field is as `State.reset` writes it, and JobState is read from an empty dictionary. -/
theorem resetState : Obligations.ResetState :=
  ⟨rfl, rfl, fun _ h => jobState_reset h, rfl, rfl, rfl, rfl, rfl, rfl, rfl⟩

end Sys2Proof.Machine
end

section
/-! Every step keeps the dictionary in canonical form (R511, R515; log entry 129). Only a write of an object, of its contents, and the
clearing of a slot touch the dictionary, and each keeps it so; every operation of the model is made of these and of changes to other
fields. One lemma for each operation, in the order of the model, says that it keeps the form; the commands follow. -/

namespace Sys2Proof.Machine

/-! ## Forms of definitions -/

theorem dictOk_ite {p : Prop} [Decidable p] {s t : State} (h : s.DictOk) (g : t.DictOk) : (if p then s else t).DictOk := by
  split
  · exact h
  · exact g

/-- Another state with the same dictionary. -/
theorem State.DictOk.same {s t : State} (h : s.DictOk) (hd : t.dict = s.dict) (hb : t.blobs = s.blobs) : t.DictOk := by
  unfold State.DictOk
  rw [hd, hb]
  exact h

theorem dictOk_foldl {α : Type} {f : State → α → State} (hf : ∀ s a, s.DictOk → (f s a).DictOk) {l : List α} {s : State} (h : s.DictOk) :
    (l.foldl f s).DictOk := by
  induction l generalizing s with
  | nil => exact h
  | cons a l ih => exact ih (hf s a h)

theorem dictOk_getD {o : Option State} {s : State} (h : s.DictOk) (ho : ∀ t, o = some t → t.DictOk) : (o.getD s).DictOk := by
  cases o with
  | none => exact h
  | some t => exact ho t rfl

theorem dictOk_of_eq {α : Type} {x : α × State} {a : α} {t : State} (h : x.2.DictOk) (hx : x = (a, t)) : t.DictOk := by
  subst hx
  exact h

/-! ## The operations on the state -/

theorem State.DictOk.setAll {s : State} {l : List (Nat × Nat)} (h : s.DictOk) : (s.setAll l).DictOk :=
  dictOk_foldl (fun _ _ ht => ht.set _ _) h

theorem State.DictOk.seti {s : State} {w k : Nat} {v : Int} (h : s.DictOk) : (s.seti w k v).DictOk := h.set _ _

theorem State.DictOk.count {s : State} {k n : Nat} (h : s.DictOk) : (s.count k n).DictOk := h.set _ _

theorem State.DictOk.bump {s : State} {k : Nat} (h : s.DictOk) : (s.bump k).DictOk := h.count

theorem State.DictOk.countW {s : State} {w k n : Nat} (h : s.DictOk) : (s.countW w k n).DictOk := h.set _ _

theorem State.DictOk.useFree {s : State} (h : s.DictOk) : s.useFree.DictOk := h.same rfl rfl

theorem State.DictOk.ok {s : State} (h : s.DictOk) : s.ok.DictOk := h.same rfl rfl

theorem State.DictOk.refuse {s : State} {abort reason : Nat} (h : s.DictOk) : (s.refuse abort reason).DictOk := h.same rfl rfl

theorem State.DictOk.refused {s : State} {reason : Nat} (h : s.DictOk) : (s.refused reason).DictOk := h.refuse

theorem State.DictOk.send {s : State} {x : Sent} (h : s.DictOk) : (s.send x).DictOk := h.same rfl rfl

theorem State.DictOk.setSlot {s : State} {i : Nat} {x : Slot} (h : s.DictOk) : (s.setSlot i x).DictOk := h.same rfl rfl

theorem State.DictOk.modSlot {s : State} {i : Nat} {f : Slot → Slot} (h : s.DictOk) : (s.modSlot i f).DictOk := h.setSlot

theorem State.DictOk.putItem {s : State} {it : Item} (h : s.DictOk) : (s.putItem it).DictOk := h.same rfl rfl

theorem State.DictOk.addItem {s : State} {it : Item} (h : s.DictOk) : (s.addItem it).DictOk := h.same rfl rfl

theorem State.DictOk.dropItem {s : State} {e : Nat} (h : s.DictOk) : (s.dropItem e).DictOk := h.same rfl rfl

theorem State.DictOk.onItem {s : State} {e : Nat} {f : Item → State} (h : s.DictOk) (hf : ∀ a0, (f a0).DictOk) :
    (s.onItem e f).DictOk := by
  unfold State.onItem
  split
  · exact hf _
  · exact h

/-! ## Frames and events -/

theorem State.DictOk.sendFrame {s : State} {function dest src tag : Nat} {payload : Bytes} (h : s.DictOk) :
    (s.sendFrame function dest src tag payload).DictOk := dictOk_ite h.send.bump h

theorem State.DictOk.sendBus {s : State} {function dest tag : Nat} {payload : Bytes} (h : s.DictOk) :
    (s.sendBus function dest tag payload).DictOk := h.sendFrame

theorem State.DictOk.sendEvent {s : State} {e : BusEvent} (h : s.DictOk) : (s.sendEvent e).DictOk := h.sendBus

theorem sendNewEvents_dictOk {s : State} {l : List BusEvent} (h : s.DictOk) : (sendNewEvents l s).DictOk := by
  induction l generalizing s with
  | nil => exact h
  | cons e l ih => exact ih (dictOk_ite h.sendEvent.bump h)

theorem State.DictOk.flushEvents {s : State} (h : s.DictOk) : s.flushEvents.DictOk := by
  unfold State.flushEvents
  split
  · extract_lets t2
    have ht2 : t2.DictOk := sendNewEvents_dictOk h
    exact ht2.same rfl rfl
  · exact h

theorem State.DictOk.postEvent {s : State} {kind subkind : Nat} {body : Bytes} (h : s.DictOk) :
    (s.postEvent kind subkind body).DictOk := by
  unfold State.postEvent
  split
  · extract_lets t2
    have ht2 : t2.DictOk := dictOk_ite h h.bump
    exact State.DictOk.flushEvents (ht2.same rfl rfl)
  · exact h

theorem State.DictOk.setJobState {s : State} {i new : Nat} (h : s.DictOk) : (s.setJobState i new).DictOk := (h.set _ _).postEvent

theorem State.DictOk.postBoot {s : State} (h : s.DictOk) : s.postBoot.DictOk := h.postEvent

theorem State.DictOk.postBus {s : State} {sub : Nat} (h : s.DictOk) : (s.postBus sub).DictOk := h.postEvent

theorem State.DictOk.postNetwork {s : State} {sub port priority : Nat} (h : s.DictOk) : (s.postNetwork sub port priority).DictOk :=
  h.postEvent

theorem State.DictOk.postShoe {s : State} {sub slot stream ready consumer : Nat} (h : s.DictOk) :
    (s.postShoe sub slot stream ready consumer).DictOk := h.postEvent

/-! ## Fault records -/

theorem newRecord_dictOk {f : Fault64} {s : State} (h : s.DictOk) : (State.raiseFault.newRecord f s).DictOk := by
  unfold State.raiseFault.newRecord
  extract_lets _ _ t2 t3
  have ht2 : t2.DictOk := dictOk_ite h (dictOk_ite h h.bump)
  have ht3 : t3.DictOk := ht2.same rfl rfl
  exact (ht3.set _ _).postEvent

theorem State.DictOk.raiseFault {s : State} {f : Fault64} (h : s.DictOk) : (s.raiseFault f).DictOk := by
  unfold State.raiseFault
  extract_lets t2
  have ht2 : t2.DictOk := h.bump
  split
  · split
    · exact ht2.same rfl rfl
    · exact newRecord_dictOk ht2
  · exact newRecord_dictOk ht2

/-! ## Writes of objects -/

theorem State.DictOk.recordWrite {s : State} {k : Nat} {value : Bytes} (h : s.DictOk) : (s.recordWrite k value).DictOk := by
  unfold State.recordWrite
  split
  · split
    · exact h
    · exact h.same rfl rfl
  · exact h

theorem writeCommand_dictOk {k v : Nat} {eff : State → State} {s : State} (h : s.DictOk) (heff : ∀ t0, t0.DictOk → (eff t0).DictOk) :
    (writeCommand k v eff s).DictOk := by
  unfold writeCommand
  split
  · exact h.refuse
  · exact heff _ h

theorem State.DictOk.accept {s : State} {k v : Nat} (h : s.DictOk) : (s.accept k v).DictOk := (h.set _ _).recordWrite.ok

/-! ## Counters and snapshots -/

theorem State.DictOk.ctrOverflow {s : State} {b n : Nat} (h : s.DictOk) : (s.ctrOverflow b n).DictOk := (h.set _ _).bump

theorem State.DictOk.ctrAdd {s : State} {b n w : Nat} (h : s.DictOk) : (s.ctrAdd b n w).DictOk :=
  dictOk_ite (h.set _ _) (dictOk_ite (dictOk_ite ((h.set _ _).set _ _) ((h.set _ _).set _ _).ctrOverflow) (h.set _ _).ctrOverflow)

theorem State.DictOk.event {s : State} {bank code weight : Nat} {unit slot : Option Nat} (h : s.DictOk) :
    (s.event bank code weight unit slot).DictOk := dictOk_ite h (dictOk_foldl (fun _ _ ht => dictOk_ite ht.ctrAdd ht) h)

theorem State.DictOk.countTick {s : State} (h : s.DictOk) : s.countTick.DictOk := dictOk_foldl (fun _ _ ht => ht.event.event) h

theorem counterControlWrite_dictOk {b n w : Nat} {s : State} (h : s.DictOk) : (counterControlWrite b n w s).DictOk := by
  unfold counterControlWrite
  split
  · extract_lets _ t2
    have ht2 : t2.DictOk := h.same rfl rfl
    exact (ht2.set _ _).ok
  · exact h.refuse

theorem counterValueWrite_dictOk {b n v : Nat} {s : State} (h : s.DictOk) : (counterValueWrite b n v s).DictOk := by
  unfold counterValueWrite
  extract_lets _ t2
  have ht2 : t2.DictOk := h.same rfl rfl
  exact ((ht2.set _ _).set _ _).ok

theorem counterCommandWrite_dictOk {v : Nat} {s : State} (h : s.DictOk) : (counterCommandWrite v s).DictOk := by
  unfold counterCommandWrite
  extract_lets _ t2
  have ht2 : t2.DictOk := h.same rfl rfl
  exact dictOk_ite (dictOk_foldl (fun _ _ h3 => ((h3.set _ _).set _ _).set _ _) ht2).ok (dictOk_foldl (fun _ _ h3 => h3.set _ _) ht2).ok

theorem portBandwidth_dictOk {w p : Nat} {range : List SnapRec} {s : State} (h : s.DictOk) : (portBandwidth w range s p).DictOk := by
  unfold portBandwidth
  extract_lets t2
  have ht2 : t2.DictOk := h.setAll
  split
  · exact dictOk_ite ht2 h.setAll
  · exact ht2

theorem takeSnapshot_dictOk {s : State} (h : s.DictOk) : (takeSnapshot s).DictOk := by
  unfold takeSnapshot
  split
  · exact h
  · split
    · exact State.DictOk.bump (h.same rfl rfl)
    · extract_lets _ _ _ _ _ t2 t3
      have ht2 : t2.DictOk := h.same rfl rfl
      have ht3 : t3.DictOk := ht2.set _ _
      exact dictOk_foldl (fun _ _ h4 => portBandwidth_dictOk h4) ht3

/-! ## Synchronisation -/

theorem State.DictOk.setFitting {s : State} {w k : Nat} {v : Int} (h : s.DictOk) : (s.setFitting w k v).DictOk :=
  dictOk_ite h.seti (h.set _ _).useFree

theorem State.DictOk.setStepState {s : State} {slot new : Nat} (h : s.DictOk) : (s.setStepState slot new).DictOk := (h.set _ _).postEvent

theorem State.DictOk.unjoin {s : State} {slot : Nat} (h : s.DictOk) : (s.unjoin slot).DictOk := dictOk_ite h.modSlot.setStepState h

theorem State.DictOk.disarmAll {s : State} (h : s.DictOk) : s.disarmAll.DictOk :=
  dictOk_foldl (fun _ _ ht => dictOk_ite (ht.set _ _).setJobState.unjoin ht) h

theorem State.DictOk.setSyncState {s : State} {new : Nat} (h : s.DictOk) : (s.setSyncState new).DictOk := by
  unfold State.setSyncState
  extract_lets _ _ t2 t3 _ t4 t5
  have ht2 : t2.DictOk := h.same rfl rfl
  have ht3 : t3.DictOk := ht2.set _ _
  have ht4 : t4.DictOk := dictOk_ite ht3.countW ht3
  have ht5 : t5.DictOk := ht4.postEvent
  exact dictOk_ite h (dictOk_ite ht5.disarmAll ht5)

theorem State.DictOk.correct {s : State} {o : Int} (h : s.DictOk) : (s.correct o).DictOk := by
  unfold State.correct
  split
  · extract_lets _ _ t2
    have ht2 : t2.DictOk := h.same rfl rfl
    exact ht2.countW
  · split
    · exact h.same rfl rfl

theorem State.DictOk.judge {s : State} {inside : Bool} (h : s.DictOk) : (s.judge inside).DictOk := by
  unfold State.judge
  extract_lets t2 _ t3
  have ht2 : t2.DictOk := dictOk_ite h.setSyncState h
  have ht3 : t3.DictOk := ht2.same rfl rfl
  exact dictOk_ite ht3.setSyncState (dictOk_ite ht3.setSyncState (dictOk_ite ht3.setSyncState ht3))

theorem State.DictOk.measure {s : State} {o : Int} (h : s.DictOk) : (s.measure o).DictOk := by
  unfold State.measure
  extract_lets t2 _ t3
  have ht2 : t2.DictOk := h.setFitting
  have ht3 : t3.DictOk := ht2.same rfl rfl
  exact ht3.correct.judge

theorem State.DictOk.sourceLost {s : State} (h : s.DictOk) : s.sourceLost.DictOk := by
  unfold State.sourceLost
  extract_lets _ t2
  have ht2 : t2.DictOk := h.same rfl rfl
  exact dictOk_ite ht2.setSyncState (dictOk_ite ht2.setSyncState ht2)

theorem State.DictOk.syncExchange {s : State} {t1 t2 : Int} (h : s.DictOk) : (s.syncExchange t1 t2).DictOk := by
  unfold State.syncExchange
  extract_lets _ _ t2
  have ht2 : t2.DictOk := h.same rfl rfl
  exact ht2.measure

theorem ptpSync_dictOk {m : PtpMessage} {twoStep : Bool} {s : State} (h : s.DictOk) : (ptpSync m twoStep s).DictOk := by
  unfold ptpSync
  split
  · extract_lets _ t2
    have ht2 : t2.DictOk := h.same rfl rfl
    split
    · exact ht2.same rfl rfl
    · exact ht2.syncExchange
  · exact h

theorem ptpFollowUp_dictOk {m : PtpMessage} {s : State} (h : s.DictOk) : (ptpFollowUp m s).DictOk := by
  unfold ptpFollowUp
  split
  · exact dictOk_ite h.syncExchange h
  · exact h

theorem delayReqSend_dictOk {s : State} (h : s.DictOk) : (delayReqSend s).DictOk := by
  unfold delayReqSend
  extract_lets
  split
  · exact State.DictOk.send (h.same rfl rfl)
  · exact h

theorem ptpDelayResp_dictOk {m : PtpDelayResp} {s : State} (h : s.DictOk) : (ptpDelayResp m s).DictOk := by
  unfold ptpDelayResp
  split
  · split
    · extract_lets _ _ _ t2
      have ht2 : t2.DictOk := h.same rfl rfl
      exact dictOk_ite (ht2.set _ _) (ht2.set _ _).useFree
    · exact h
  · exact h

theorem State.DictOk.chooseMaster {s : State} (h : s.DictOk) : s.chooseMaster.DictOk := by
  unfold State.chooseMaster
  split
  · exact h.set _ _
  · exact h

theorem ptpAnnounce_dictOk {d : PtpDataSet} {s : State} (h : s.DictOk) : (ptpAnnounce d s).DictOk := by
  unfold ptpAnnounce
  split
  · exact State.DictOk.chooseMaster (h.same rfl rfl)
  · exact h

theorem measureSeen_dictOk {s : State} {x : Time} {o : Int} (h : s.DictOk) : State.DictOk { s.measure o with time := x } := by
  have h := h.measure (o := o)
  revert h
  generalize s.measure o = t
  exact fun h => h.same rfl rfl

theorem ppsInEdge_dictOk {refLocked : Bool} {s : State} (h : s.DictOk) : (ppsInEdge refLocked s).DictOk := by
  unfold ppsInEdge
  refine dictOk_ite h ?_
  extract_lets _ t2 _ t3 second _ t4
  have ht2 : t2.DictOk := h.same rfl rfl
  have ht3 : t3.DictOk := dictOk_ite ht2.sourceLost ht2
  have ht4 : t4.DictOk := by
    clear_value t3
    exact ht3.same rfl rfl
  clear_value t4 second
  refine dictOk_ite ht4 ?_
  split
  · exact ht4
  · exact measureSeen_dictOk ht4

theorem refInLockLoss_dictOk {s : State} (h : s.DictOk) : (refInLockLoss s).DictOk := by
  unfold refInLockLoss
  extract_lets _ t2
  have ht2 : t2.DictOk := h.same rfl rfl
  exact dictOk_ite ht2.sourceLost ht2

theorem sourceTimeout_dictOk {s : State} (h : s.DictOk) : (sourceTimeout s).DictOk := by
  unfold sourceTimeout
  extract_lets _ t2
  have ht2 : t2.DictOk := h.sourceLost
  split
  · split
    · exact State.DictOk.chooseMaster (ht2.same rfl rfl)
    · exact ht2
  · exact h

theorem holdoverExpiry_dictOk {s : State} (h : s.DictOk) : (holdoverExpiry s).DictOk := dictOk_ite h.setSyncState h

theorem islandRealign_dictOk {s : State} (h : s.DictOk) : (islandRealign s).DictOk := h.same rfl rfl

theorem syncSourceWrite_dictOk {v : Nat} {s : State} (h : s.DictOk) : (syncSourceWrite v s).DictOk := by
  unfold syncSourceWrite
  extract_lets t2 _ t3
  have ht2 : t2.DictOk := h.accept
  have ht3 : t3.DictOk := ht2.same rfl rfl
  exact ht3.setSyncState

theorem ppsSecondsWrite_dictOk {v : Nat} {s : State} (h : s.DictOk) : (ppsSecondsWrite v s).DictOk := by
  unfold ppsSecondsWrite
  exact State.DictOk.ok (h.same rfl rfl)

theorem State.DictOk.markPerturb {s : State} {held : List Nat} {b : Nat} (h : s.DictOk) : (s.markPerturb held b).DictOk := h.same rfl rfl

theorem crossingWordLate_dictOk {tile crossing entered : Nat} {held : List Nat} {s : State} (h : s.DictOk) :
    (crossingWordLate tile crossing entered held s).DictOk := dictOk_ite h h.bump.bump.count.event.markPerturb.raiseFault

theorem viaductRetry_dictOk {tile link entered : Nat} {held : List Nat} {s : State} (h : s.DictOk) :
    (viaductRetry tile link entered held s).DictOk := dictOk_ite h.bump.count.event.event h.bump.count.event.event.markPerturb

/-! ## Buffers and the heap -/

theorem State.DictOk.chargeBuffers {s : State} {r n : Nat} (h : s.DictOk) : (s.chargeBuffers r n).DictOk :=
  (((h.set _ _).set _ _).set _ _).count.event

theorem grantWaits_dictOk {s : State} {l : List BufferWait} {blocked : List Nat} (h : s.DictOk) : (grantWaits l blocked s).2.DictOk := by
  induction l generalizing s blocked with
  | nil => exact h
  | cons w l ih =>
    unfold grantWaits
    split
    · exact ih (dictOk_ite h.chargeBuffers.count.event h.chargeBuffers)
    · exact ih h

theorem State.DictOk.serveBuffers {s : State} (h : s.DictOk) : s.serveBuffers.2.DictOk :=
  State.DictOk.set ((grantWaits_dictOk h).same rfl rfl) _ _

theorem State.DictOk.requestBuffers {s : State} {r n holder : Nat} (h : s.DictOk) : (s.requestBuffers r n holder).DictOk := by
  unfold State.requestBuffers
  extract_lets _ _ _ _ t2
  have ht2 : t2.DictOk := h.same rfl rfl
  exact dictOk_ite ht2.bump ht2

theorem State.DictOk.freeBuffer {s : State} {x : Held} (h : s.DictOk) : (s.freeBuffer x).DictOk := by
  unfold State.freeBuffer
  extract_lets t2 t3
  have ht2 : t2.DictOk := h.bump
  have ht3 : t3.DictOk := ht2.set _ _
  split
  · exact State.DictOk.countW (ht3.same rfl rfl)
  · exact State.DictOk.set (State.DictOk.set (ht3.same rfl rfl) _ _) _ _

theorem State.DictOk.refAdd {s : State} {hd : Nat} (h : s.DictOk) : (s.refAdd hd).DictOk := by
  unfold State.refAdd
  split
  · exact h
  · extract_lets t2
    have ht2 : t2.DictOk := h.bump
    split
    · exact ht2.bump
    · exact ht2.same rfl rfl

theorem State.DictOk.refDrop {s : State} {hd : Nat} (h : s.DictOk) : (s.refDrop hd).DictOk := by
  unfold State.refDrop
  split
  · exact h
  · extract_lets t2
    have ht2 : t2.DictOk := h.bump
    split
    · exact ht2.freeBuffer
    · exact ht2.same rfl rfl

theorem State.DictOk.dropChain {s : State} {c : Chain} (h : s.DictOk) : (s.dropChain c).DictOk :=
  dictOk_foldl (fun _ _ ht => ht.refDrop) h

theorem State.DictOk.addChain {s : State} {c : Chain} (h : s.DictOk) : (s.addChain c).DictOk := dictOk_foldl (fun _ _ ht => ht.refAdd) h

theorem State.DictOk.cancelWait {s : State} {holder : Nat} (h : s.DictOk) : (s.cancelWait holder).DictOk := by
  unfold State.cancelWait
  refine dictOk_foldl (fun t w ht => ?_) (h.same rfl rfl)
  dsimp only
  split
  · exact State.DictOk.set (State.DictOk.set (State.DictOk.set (ht.same rfl rfl) _ _) _ _) _ _
  · exact ht

theorem State.DictOk.heapTake {s t : State} {slot bytes : Nat} {kind : HeapKind} (h : s.DictOk)
    (ht : s.heapTake slot kind bytes = some t) : t.DictOk := by
  unfold State.heapTake at ht
  dsimp only at ht
  split at ht
  · obtain rfl := Option.some.inj ht
    exact h.set _ _
  · cases ht

theorem State.DictOk.heapFree {s : State} {slot : Nat} {kind : HeapKind} (h : s.DictOk) : (s.heapFree slot kind).DictOk := by
  unfold State.heapFree
  extract_lets
  exact State.DictOk.set (h.same rfl rfl) _ _

theorem State.DictOk.heapFreeSlot {s : State} {slot : Nat} (h : s.DictOk) : (s.heapFreeSlot slot).DictOk := by
  unfold State.heapFreeSlot
  extract_lets
  exact State.DictOk.set (h.same rfl rfl) _ _

theorem State.DictOk.layHeap {s : State} (h : s.DictOk) : s.layHeap.DictOk := h.set _ _

/-! ## Regions -/

theorem State.DictOk.register {s t : State} {kind : RegionKind} {base : Option Nat} {length owner part : Nat} {content : Bytes}
    {r : Region} (h : s.DictOk) (ht : s.register kind base length owner part content = some (r, t)) : t.DictOk := by
  unfold State.register at ht
  split at ht
  · cases ht
  · cases base with
    | none =>
      cases ht
      exact h.set _ _
    | some b =>
      cases ht
      exact h.set _ _

theorem State.DictOk.retireRegion {s : State} {index : Nat} (h : s.DictOk) : (s.retireRegion index).DictOk := by
  unfold State.retireRegion
  extract_lets
  exact State.DictOk.set (h.same rfl rfl) _ _

theorem State.DictOk.revokeWhere {s : State} {p : Region → Bool} (h : s.DictOk) : (s.revokeWhere p).DictOk := h.same rfl rfl

theorem State.DictOk.revoke {s : State} {kind : RegionKind} {owner part : Nat} (h : s.DictOk) : (s.revoke kind owner part).DictOk :=
  h.revokeWhere

theorem State.DictOk.revokeSlot {s : State} {owner : Nat} {kind : RegionKind} (h : s.DictOk) : (s.revokeSlot owner kind).DictOk :=
  h.revokeWhere

/-! ## The flash store -/

theorem State.DictOk.modStore {s : State} {f : Store → Store} (h : s.DictOk) : (s.modStore f).DictOk := h.same rfl rfl

theorem State.DictOk.setGeometry {s : State} {p : Population} (h : s.DictOk) : (s.setGeometry p).DictOk := h.setAll.modStore

theorem State.DictOk.storeStatus {s : State} (h : s.DictOk) : s.storeStatus.DictOk := dictOk_ite (h.setAll.set _ _) h.setAll

theorem State.DictOk.openBand {s t : State} {use : Nat} {b : Band} (h : s.DictOk) (ht : s.openBand use = some (b, t)) : t.DictOk := by
  unfold State.openBand at ht
  split at ht
  · cases ht
  · cases ht
    exact h.modStore

theorem State.DictOk.putBand {s : State} {b : Band} (h : s.DictOk) : (s.putBand b).DictOk := h.modStore

theorem State.DictOk.programStripe {s : State} {b : Band} (h : s.DictOk) : (s.programStripe b).DictOk := h.putBand.modStore

theorem State.DictOk.journalAdd {s : State} {logical : Nat} (h : s.DictOk) : (s.journalAdd logical).DictOk := h.modStore

theorem State.DictOk.placeUnit {s t : State} {use kind logical object : Nat} (h : s.DictOk)
    (ht : s.placeUnit use kind logical object = some t) : t.DictOk := by
  unfold State.placeUnit at ht
  obtain ⟨⟨b, u⟩, hu, rfl⟩ := Option.map_eq_some_iff.mp ht
  have hu : u.DictOk := by
    split at hu
    · cases hu
      exact h
    · exact h.openBand hu
  exact dictOk_ite hu.modStore.putBand.journalAdd.programStripe hu.modStore.putBand.journalAdd

theorem placeUnits_dictOk {s : State} {use kind object : Nat} {l : List Nat} (h : s.DictOk) : (placeUnits use kind object l s).DictOk :=
    by
  induction l generalizing s with
  | nil => exact h
  | cons a l ih => exact ih (dictOk_getD h fun _ => h.placeUnit)

theorem padStripe_dictOk {b : Band} {s : State} (h : s.DictOk) : (padStripe b s).DictOk := dictOk_ite h (placeUnits_dictOk h)

theorem State.DictOk.closeBand {s : State} {b : Band} (h : s.DictOk) : (s.closeBand b).DictOk := (padStripe_dictOk h).modStore

theorem State.DictOk.putObject {s : State} {o : StoreObject} (h : s.DictOk) : (s.putObject o).DictOk := h.modStore

theorem State.DictOk.appendObject {s : State} {o : StoreObject} {b : Bytes} (h : s.DictOk) : (s.appendObject o b).DictOk :=
  placeUnits_dictOk h.putObject

theorem State.DictOk.unmapObject {s : State} {o : StoreObject} (h : s.DictOk) : (s.unmapObject o).DictOk :=
  dictOk_foldl (fun _ _ ht => ht.modStore.journalAdd) h

theorem State.DictOk.cacheStatus {s : State} (h : s.DictOk) : s.cacheStatus.DictOk := h.setAll

theorem State.DictOk.purge {s : State} {p : CacheEntry → Bool} {flash : Option (FlashEntry → Bool)} (h : s.DictOk) :
    (s.purge p flash).DictOk := by
  unfold State.purge
  extract_lets _ _ t2
  have ht2 : t2.DictOk := h.same rfl rfl
  exact ht2.count.cacheStatus

theorem State.DictOk.forgetObject {s : State} {id : Nat} (h : s.DictOk) : (s.forgetObject id).DictOk := by
  unfold State.forgetObject
  extract_lets _ t2 _ t3
  have ht2 : t2.DictOk := by
    dsimp only [t2]
    refine dictOk_foldl (fun _ _ ht => ?_) h
    split
    · exact ht.dropChain
    · exact ht
  have ht3 : t3.DictOk := ht2.same rfl rfl
  exact ht3.purge

theorem State.DictOk.closeWindow {s : State} {id : Nat} (h : s.DictOk) : (s.closeWindow id).DictOk := by
  unfold State.closeWindow
  extract_lets t2
  have ht2 : t2.DictOk := h.revoke
  exact ht2.same rfl rfl

theorem State.DictOk.freeWindow {s : State} (h : s.DictOk) : s.freeWindow.DictOk := by
  unfold State.freeWindow
  extract_lets
  exact State.DictOk.set (h.same rfl rfl) _ _

theorem State.DictOk.objectResult {s : State} {code : Nat} (h : s.DictOk) : (s.objectResult code).DictOk :=
  dictOk_ite (h.set _ _).storeStatus.ok (h.set _ _).refused

theorem createObject_dictOk {id : Nat} {s : State} (h : s.DictOk) : (createObject id s).DictOk := by
  unfold createObject
  refine dictOk_ite h.objectResult (dictOk_ite h.objectResult (dictOk_ite h.objectResult (dictOk_ite h.objectResult ?_)))
  split
  · exact h.objectResult
  next t ht =>
    have ht : t.DictOk := h.heapTake ht
    split
    · exact ht.freeWindow.objectResult
    next u hu =>
      have hu : u.DictOk := ht.register hu
      exact State.DictOk.objectResult (State.DictOk.modStore (hu.same rfl rfl))

theorem appendCommand_dictOk {id : Nat} {b : Bytes} {s : State} (h : s.DictOk) : (appendCommand id b s).DictOk := by
  unfold appendCommand
  split
  · exact dictOk_ite h.objectResult (dictOk_ite h.objectResult (dictOk_ite h.objectResult (dictOk_ite h.objectResult
      h.appendObject.objectResult)))
  · exact h.objectResult

theorem sealCommand_dictOk {id expected : Nat} {s : State} (h : s.DictOk) : (sealCommand id expected s).DictOk := by
  unfold sealCommand
  split
  · exact dictOk_ite h.objectResult (dictOk_ite h.putObject.objectResult h.putObject.closeWindow.freeWindow.objectResult)
  · exact h.objectResult

theorem State.DictOk.dropWindow {s : State} {o : StoreObject} (h : s.DictOk) : (s.dropWindow o).DictOk :=
  dictOk_ite h.closeWindow.freeWindow h

theorem deleteCommand_dictOk {id : Nat} {s : State} (h : s.DictOk) : (deleteCommand id s).DictOk := by
  unfold deleteCommand
  split
  · exact dictOk_ite h.objectResult h.unmapObject.dropWindow.forgetObject.modStore.objectResult
  · exact h.objectResult

theorem State.DictOk.rewriteSegments {s : State} {id : Nat} (h : s.DictOk) : (s.rewriteSegments id).DictOk := by
  unfold State.rewriteSegments
  extract_lets
  refine dictOk_foldl (fun _ _ ht => ?_) h
  split
  · exact ht
  · exact placeUnits_dictOk ht.unmapObject.modStore.putObject

theorem secureDiscard_dictOk {id : Nat} {s : State} (h : s.DictOk) : (secureDiscard id s).DictOk := by
  unfold secureDiscard
  split
  · exact dictOk_ite h.objectResult (dictOk_foldl (fun _ _ ht => ht.closeBand)
      h.unmapObject.rewriteSegments.dropWindow.forgetObject).modStore.putObject.objectResult
  · exact h.objectResult

theorem State.DictOk.endDiscards {s : State} (h : s.DictOk) : s.endDiscards.DictOk :=
  dictOk_ite h.storeStatus (dictOk_ite h.storeStatus (dictOk_ite h.modStore (h.modStore.set _ _)).count.storeStatus)

theorem runObjectCommand_dictOk {w : StoreWait} {s : State} (h : s.DictOk) : (runObjectCommand w s).DictOk :=
  dictOk_ite (createObject_dictOk h) (dictOk_ite (appendCommand_dictOk h) (dictOk_ite (sealCommand_dictOk h) (dictOk_ite
    (deleteCommand_dictOk h) (secureDiscard_dictOk h))))

theorem objectCommand_dictOk {n : Nat} {s : State} (h : s.DictOk) : (objectCommand n s).DictOk :=
  dictOk_ite h.objectResult (dictOk_ite h.objectResult (dictOk_ite h.objectResult (dictOk_ite h.objectResult (dictOk_ite h.objectResult
    (dictOk_ite (runObjectCommand_dictOk h) h.modStore.bump)))))

theorem State.DictOk.mapLookup {s : State} {logical : Nat} (h : s.DictOk) : (s.mapLookup logical).DictOk :=
  dictOk_ite h.modStore.bump h.modStore.bump

theorem State.DictOk.suspendFor {s : State} {channel die : Nat} (h : s.DictOk) : (s.suspendFor channel die).DictOk :=
  dictOk_ite h.modStore.bump.event h

theorem unitReadRequest_dictOk {unit cls : Nat} {reader : Option Nat} {s : State} (h : s.DictOk) :
    (unitReadRequest unit cls reader s).DictOk := by
  unfold unitReadRequest
  split
  · exact h
  · extract_lets t2
    have ht2 : t2.DictOk := h.mapLookup
    split
    · exact ht2
    · exact dictOk_ite ht2 (dictOk_ite ht2.modStore.suspendFor ht2.modStore)

theorem State.DictOk.learnLevel {s : State} {die bucket level : Nat} (h : s.DictOk) : (s.learnLevel die bucket level).DictOk := h.modStore

theorem State.DictOk.countRead {s : State} {u : PhysUnit} {r : UnitResult} {patrol : Bool} (h : s.DictOk) :
    (s.countRead u r patrol).DictOk := by
  unfold State.countRead
  extract_lets _ _ t2 t3 t4 t5 t6 t7 t8
  have ht2 : t2.DictOk := h.bump.bump.event
  have ht3 : t3.DictOk := ht2.count.count
  have ht4 : t4.DictOk := dictOk_ite ht2 ht3.count.event.event
  have ht5 : t5.DictOk := ht4.count.event
  have ht6 : t6.DictOk := dictOk_ite ht5.bump ht5
  have ht7 : t7.DictOk := dictOk_ite ht6.bump ht6
  have ht8 : t8.DictOk := dictOk_ite ht7.bump ht7
  exact dictOk_ite ht8.modStore ht8

theorem unitReadComplete_dictOk {channel die : Nat} {background : Bool} {r : UnitResult} {s : State} (h : s.DictOk) :
    (unitReadComplete channel die background r s).DictOk := by
  unfold unitReadComplete
  split
  · exact h
  · extract_lets t2 _ _ t3
    have ht2 : t2.DictOk := h.modStore
    have ht3 : t3.DictOk := ht2.modStore
    split
    · exact ht3
    · extract_lets t4 _ t5 t6
      have ht4 : t4.DictOk := ht3.countRead
      have ht5 : t5.DictOk := by
        dsimp only [t5]
        split
        · exact dictOk_ite ht4.markPerturb ht4
        · exact ht4
      have ht6 : t6.DictOk := dictOk_ite ht5.raiseFault ht5
      split
      · exact dictOk_ite ht6 ht6.modStore
      · exact ht6

theorem State.DictOk.retireBlock {s : State} {channel die block : Nat} (h : s.DictOk) : (s.retireBlock channel die block).DictOk :=
  dictOk_ite h h.modStore.bump

theorem State.DictOk.retireDie {s : State} {channel die : Nat} (h : s.DictOk) : (s.retireDie channel die).DictOk :=
  dictOk_ite h h.modStore.setAll.storeStatus

theorem State.DictOk.judgeDie {s : State} {channel die : Nat} (h : s.DictOk) : (s.judgeDie channel die).DictOk := dictOk_ite h.retireDie h

theorem programComplete_dictOk {channel die : Nat} {ok : Bool} {temperature : Int} {s : State} (h : s.DictOk) :
    (programComplete channel die ok temperature s).DictOk := by
  unfold programComplete
  split
  · exact h
  · extract_lets t2 t3 _ t4
    have ht2 : t2.DictOk := h.modStore
    have ht3 : t3.DictOk := ht2.bump.bump.event
    have ht4 : t4.DictOk := ht2.bump
    split
    · split
      · exact dictOk_ite ht3 ht3.putBand
      · exact ht3
    · split
      · exact ht4
      · extract_lets _ t5 _ t6
        have ht5 : t5.DictOk := ht4.retireBlock.judgeDie
        have ht6 : t6.DictOk := ht5.putBand
        exact dictOk_ite (dictOk_foldl (fun _ _ h7 => dictOk_getD h7 (fun _ => h7.placeUnit)) ht6) (dictOk_foldl (fun _ _ h7 =>
          dictOk_getD h7 (fun _ => h7.placeUnit)) ht5)

theorem State.DictOk.eraseExtremes {s : State} (h : s.DictOk) : s.eraseExtremes.DictOk := h.setAll

theorem State.DictOk.countErase {s : State} {channel die block : Nat} (h : s.DictOk) : (s.countErase channel die block).DictOk :=
  h.modStore.eraseExtremes

theorem State.DictOk.freeBand {s : State} {b : Band} (h : s.DictOk) : (s.freeBand b).DictOk := h.modStore

theorem eraseComplete_dictOk {channel die : Nat} {ok : Bool} {s : State} (h : s.DictOk) : (eraseComplete channel die ok s).DictOk := by
  unfold eraseComplete
  split
  · exact h
  · extract_lets t2
    have ht2 : t2.DictOk := h.modStore
    split
    · exact ht2
    · extract_lets _ _ _ t3 t4 t5 t6 _ t7
      have ht3 : t3.DictOk := dictOk_ite ht2.bump.bump.event ht2.bump.retireBlock
      have ht4 : t4.DictOk := dictOk_ite ht3.countErase ht3
      have ht5 : t5.DictOk := ht4.putBand
      have ht6 : t6.DictOk := dictOk_ite ht4.modStore.bump ht4
      have ht7 : t7.DictOk := dictOk_ite ht6.freeBand ht6.putBand
      exact dictOk_ite ht5.modStore ht7.judgeDie.endDiscards

theorem channelControllerFailure_dictOk {channel : Nat} {s : State} (h : s.DictOk) : (channelControllerFailure channel s).DictOk :=
  dictOk_ite h (dictOk_foldl (fun _ _ ht => ht.retireDie) (h.set _ _))

theorem State.DictOk.startCampaign {s : State} {b : Band} {purpose : Nat} (h : s.DictOk) : (s.startCampaign b purpose).DictOk :=
  dictOk_ite h.putBand.modStore h.bump

theorem gcStart_dictOk {s : State} (h : s.DictOk) : (gcStart s).DictOk := by
  unfold gcStart
  split
  · exact h
  · extract_lets
    split
    · split
      · exact h.startCampaign
      · exact h
    · split
      · exact h.startCampaign
      · split
        · exact h.startCampaign
        · exact h

theorem wearLevelStart_dictOk {die : Nat} {s : State} (h : s.DictOk) : (wearLevelStart die s).DictOk := by
  unfold wearLevelStart
  extract_lets
  split
  · exact h
  · split
    · exact h.startCampaign
    · exact h

theorem gcCopy_dictOk {s : State} (h : s.DictOk) : (gcCopy s).DictOk := by
  unfold gcCopy
  split
  · exact h
  · split
    · exact h
    · extract_lets f1 t2
      have hf1 : ∀ u0, u0.DictOk → State.DictOk (f1 u0) := fun _ ht => ht.modStore
      have ht2 : t2.DictOk := h.bump
      split
      · exact dictOk_ite (hf1 _ (dictOk_ite ((dictOk_getD ht2 (fun _ => ht2.placeUnit)).set _ _) (dictOk_getD ht2 (fun _ =>
          ht2.placeUnit)))) (hf1 _ ht2)
      · exact hf1 _ ht2

theorem bandErase_dictOk {s : State} (h : s.DictOk) : (bandErase s).DictOk := by
  unfold bandErase
  split
  · exact h
  · split
    · exact h
    · exact dictOk_ite h h.putBand.modStore.bump

theorem State.DictOk.makeDurable {s : State} (h : s.DictOk) : s.makeDurable.DictOk := h.same rfl rfl

theorem journalFlush_dictOk {s : State} (h : s.DictOk) : (journalFlush s).DictOk := dictOk_ite h (dictOk_ite h.makeDurable h)

theorem State.DictOk.writeCheckpoint {s : State} (h : s.DictOk) : s.writeCheckpoint.DictOk :=
  (placeUnits_dictOk h).modStore.makeDurable

theorem checkpointCommand_dictOk {s : State} (h : s.DictOk) : (checkpointCommand s).DictOk :=
  dictOk_ite h (dictOk_ite h.writeCheckpoint h.bump)

theorem State.DictOk.finishStripes {s : State} (h : s.DictOk) : s.finishStripes.DictOk :=
  dictOk_foldl (fun _ _ ht => padStripe_dictOk ht) h

theorem State.DictOk.powerFailFlush {s : State} (h : s.DictOk) : s.powerFailFlush.DictOk := h.finishStripes.modStore.makeDurable

theorem flushEnergyUpdate_dictOk {s : State} (h : s.DictOk) : (flushEnergyUpdate s).DictOk := dictOk_ite (h.set _ _).useFree h

theorem State.DictOk.flashResult {s : State} {code : Nat} (h : s.DictOk) : (s.flashResult code).DictOk :=
  dictOk_ite (h.set _ _).ok (h.set _ _).refused

theorem formatStore_dictOk {found : Population} {s : State} (h : s.DictOk) : (formatStore found s).DictOk := by
  unfold formatStore
  extract_lets _ _ t2 _ _ t3 t4 t5 _ t6
  have ht2 : t2.DictOk := h.setGeometry
  have ht3 : t3.DictOk := ht2.same rfl rfl
  have ht4 : t4.DictOk := dictOk_foldl (fun _ _ h4 => h4.set _ _) ht3
  have ht5 : t5.DictOk := ht4.setAll
  have ht6 : t6.DictOk := (ht5.set _ _).modStore
  exact dictOk_ite h.flashResult (dictOk_ite h.flashResult (dictOk_ite h.modStore.bump ht6.storeStatus.makeDurable.flashResult))

theorem State.DictOk.resumeStore {s : State} (h : s.DictOk) : s.resumeStore.DictOk := by
  unfold State.resumeStore
  split
  · extract_lets
    refine dictOk_foldl (fun _ _ ht => ?_) h.modStore
    split
    · exact formatStore_dictOk ht
    · exact runObjectCommand_dictOk ht
  · exact h

theorem holdupTimeout_dictOk {s : State} (h : s.DictOk) : (holdupTimeout s).DictOk :=
  dictOk_foldl (fun _ _ ht => dictOk_ite ht.flashResult ht.objectResult) h.modStore

theorem patrolFull_dictOk {s : State} (h : s.DictOk) : (patrolFull s).DictOk := dictOk_ite h.modStore.flashResult h.flashResult

theorem patrolStop_dictOk {s : State} (h : s.DictOk) : (patrolStop s).DictOk := h.modStore.flashResult

theorem patrolUnits_dictOk {s : State} {l : List PhysUnit} {results : List UnitResult} (h : s.DictOk) :
    (patrolUnits l results s).DictOk := by
  induction l generalizing s results with
  | nil => exact h
  | cons u l ih =>
    cases results with
    | nil => exact h
    | cons r results =>
      refine ih ?_
      dsimp only
      split
      · exact dictOk_ite h.countRead.learnLevel h.countRead
      · exact h.countRead

theorem patrolRead_dictOk {results : List UnitResult} {s : State} (h : s.DictOk) : (patrolRead results s).DictOk := by
  unfold patrolRead
  split
  · exact h
  · split
    · exact h
    · split
      · exact h.modStore
      · exact patrolUnits_dictOk h.modStore.bump

theorem State.DictOk.beginMount {s : State} (h : s.DictOk) : s.beginMount.DictOk := dictOk_ite (h.set _ _) h

theorem mountComplete_dictOk {found : Population} {readable : Bool} {s : State} (h : s.DictOk) :
    (mountComplete found readable s).DictOk := by
  unfold mountComplete
  split
  · exact h
  · split
    · exact (h.set _ _).set _ _
    · split
      · exact h.set _ _
      · extract_lets t2 _ t3 t4 t5 t6 _ t7 _ t8
        have ht2 : t2.DictOk := h.setGeometry
        have ht3 : t3.DictOk := dictOk_foldl (fun _ _ h3 => h3.freeBand) ht2
        have ht4 : t4.DictOk := ht3.modStore
        have ht5 : t5.DictOk := dictOk_ite ht4.bump ht4
        have ht6 : t6.DictOk := ht5.modStore
        have ht7 : t7.DictOk := dictOk_foldl (fun _ _ h7 => h7.set _ _) ht6
        have ht8 : t8.DictOk := ht7.setAll
        exact ht8.eraseExtremes.storeStatus.endDiscards.cacheStatus

/-! ## The hold-up bank -/

theorem State.DictOk.setFloor {s : State} {k a : Nat} (h : s.DictOk) : (s.setFloor k a).DictOk := by
  unfold State.setFloor
  split
  · exact dictOk_ite (h.set _ _) (h.set _ _).useFree
  · exact (h.set _ _).useFree

theorem State.DictOk.drive {s : State} {p : Pin} {level : Bool} (h : s.DictOk) : (s.drive p level).DictOk := h.send

theorem State.DictOk.switchBank {s : State} {charger load : Bool} (h : s.DictOk) : (s.switchBank charger load).DictOk := by
  unfold State.switchBank
  extract_lets _ t2
  have ht2 : t2.DictOk := h.same rfl rfl
  exact ht2.drive.drive

theorem holdUpSample_dictOk {samples : List Nat} {s : State} (h : s.DictOk) : (holdUpSample samples s).DictOk := by
  unfold holdUpSample
  split
  · extract_lets _ _ _ t2
    have ht2 : t2.DictOk := h.same rfl rfl
    exact ht2.set _ _
  · exact h

theorem State.DictOk.startMeasurement {s : State} (h : s.DictOk) : s.startMeasurement.DictOk := by
  unfold State.startMeasurement
  extract_lets _ t2
  have ht2 : t2.DictOk := h.same rfl rfl
  exact ht2.switchBank.set _ _

theorem holdUpDue_dictOk {s : State} (h : s.DictOk) : (holdUpDue s).DictOk := dictOk_ite h.startMeasurement h

theorem holdUpCommand_dictOk {s : State} (h : s.DictOk) : (holdUpCommand s).DictOk := dictOk_ite h.refused h.startMeasurement.ok

theorem State.DictOk.bankFault {s : State} (h : s.DictOk) : s.bankFault.DictOk := h.setAll

theorem State.DictOk.showGate {s : State} (h : s.DictOk) : s.showGate.DictOk := h.set _ _

theorem State.DictOk.measured {s : State} {v0 va vb : Nat} (h : s.DictOk) : (s.measured v0 va vb).DictOk := by
  unfold State.measured
  extract_lets t2
  have ht2 : t2.DictOk := h.countW
  split
  · exact ht2.bankFault
  · split
    · exact ht2.setFloor.setFloor.showGate

theorem holdUpPhase_dictOk {samples : List Nat} {s : State} (h : s.DictOk) : (holdUpPhase samples s).DictOk := by
  unfold holdUpPhase
  split
  · exact h
  · extract_lets _ _ f1
    have hf1 : ∀ a0, State.DictOk (f1 a0) := fun _ => h.same rfl rfl
    split
    · exact dictOk_ite (hf1 _).switchBank h
    · exact dictOk_ite (hf1 _) h
    · split
      · extract_lets t2
        have ht2 : t2.DictOk := h.same rfl rfl
        exact ht2.switchBank.measured
      · exact h

theorem State.DictOk.stopMeasurement {s : State} {charger : Bool} (h : s.DictOk) : (s.stopMeasurement charger).DictOk := by
  unfold State.stopMeasurement
  split
  · exact State.DictOk.switchBank (h.same rfl rfl)
  · exact h

theorem holdUpChargeTimeout_dictOk {s : State} (h : s.DictOk) : (holdUpChargeTimeout s).DictOk := by
  unfold holdUpChargeTimeout
  split
  · split
    · exact State.DictOk.bankFault (h.same rfl rfl)
    · exact h
  · exact h

theorem energyCheck_dictOk {s : State} (h : s.DictOk) : (energyCheck s).DictOk :=
  dictOk_ite (dictOk_ite (h.setFloor.set _ _).modStore (h.setFloor.set _ _).modStore.showGate).resumeStore h

/-! ## Measurements of the registers -/

theorem State.DictOk.extend {s : State} {i tag : Nat} {v : Bytes} (h : s.DictOk) : (s.extend i tag v).DictOk := h.set _ _

/-! ## Connections -/

theorem State.DictOk.putConn {s : State} {c : Conn} (h : s.DictOk) : (s.putConn c).DictOk := h.same rfl rfl

theorem State.DictOk.onConn {s : State} {ctx : Nat} {f : Conn → State} (h : s.DictOk) (hf : ∀ a0, (f a0).DictOk) :
    (s.onConn ctx f).DictOk := by
  unfold State.onConn
  split
  · exact hf _
  · exact h

theorem State.DictOk.countConns {s : State} (h : s.DictOk) : s.countConns.DictOk :=
  dictOk_foldl (fun _ _ ht => (ht.set _ _).set _ _) (h.set _ _)

theorem State.DictOk.setPort {s : State} {p : Nat} {x : Port} (h : s.DictOk) : (s.setPort p x).DictOk := h.same rfl rfl

theorem State.DictOk.countPorts {s : State} (h : s.DictOk) : s.countPorts.DictOk := dictOk_foldl (fun _ _ ht => ht.set _ _) h

theorem State.DictOk.leaveList {s : State} {ctx : Nat} (h : s.DictOk) : (s.leaveList ctx).DictOk := h.same rfl rfl

theorem State.DictOk.countUsers {s : State} (h : s.DictOk) : s.countUsers.DictOk :=
  dictOk_foldl (fun _ _ ht => (ht.set _ _).set _ _) h

theorem State.DictOk.noteReason {s : State} {c : Conn} {reason : Nat} (h : s.DictOk) : (s.noteReason c reason).DictOk :=
  dictOk_foldl (fun _ _ ht => dictOk_ite (ht.set _ _) ht) (h.onConn (fun _ => h.putConn))

/-! ## Packets that leave -/

theorem State.DictOk.showList {s : State} {p : Nat} (h : s.DictOk) : (s.showList p).DictOk := h.set _ _

theorem State.DictOk.joinList {s : State} {c : Conn} {p : Nat} (h : s.DictOk) : (s.joinList c p).DictOk := h.putConn.setPort.showList

theorem State.DictOk.joinQueue {s : State} {ctx : Nat} (h : s.DictOk) : (s.joinQueue ctx).DictOk := by
  unfold State.joinQueue
  refine h.onConn fun _ => ?_
  split
  · split
    · extract_lets t2
      have ht2 : t2.DictOk := by
        dsimp only [t2]
        split
        · exact h.count
        · exact h
      exact ht2.joinList
    · exact dictOk_ite h.putConn h
  · exact h

theorem State.DictOk.postOn {s : State} {ctx : Nat} {m : OutMessage} {first : Bool} (h : s.DictOk) : (s.postOn ctx m first).DictOk :=
  (h.onConn (fun _ => h.putConn)).joinQueue

theorem State.DictOk.peerSend {s : State} {uid : Nat} {imm : Option Nat} {body : Bytes} (h : s.DictOk) :
    (s.peerSend uid imm body).DictOk := by
  unfold State.peerSend
  split
  · exact h.postOn
  · exact h

theorem State.DictOk.peerSendFirst {s : State} {uid : Nat} {imm : Option Nat} {body : Bytes} (h : s.DictOk) :
    (s.peerSendFirst uid imm body).DictOk := by
  unfold State.peerSendFirst
  split
  · exact h.postOn
  · exact h

theorem State.DictOk.peerRead {s : State} {uid key addr length : Nat} (h : s.DictOk) : (s.peerRead uid key addr length).DictOk := by
  unfold State.peerRead
  split
  · exact h.postOn
  · exact h

theorem State.DictOk.peerProbe {s : State} {uid : Nat} (h : s.DictOk) : (s.peerProbe uid).DictOk := by
  unfold State.peerProbe
  split
  · exact h.postOn
  · exact h

/-! ## The handshake -/

theorem State.DictOk.sendHandshake {s : State} {address port type attempt : Nat} {body : Bytes} (h : s.DictOk) :
    (s.sendHandshake address port type attempt body).DictOk := dictOk_ite h.setPort h

theorem State.DictOk.sendAttempt {s : State} {c : Conn} {type : Nat} {body : Bytes} (h : s.DictOk) :
    (s.sendAttempt c type body).DictOk := h.putConn.sendHandshake

theorem State.DictOk.startAttempt {s : State} {ctx : Nat} (h : s.DictOk) : (s.startAttempt ctx).DictOk :=
  h.onConn (fun _ => dictOk_ite h.putConn h.useFree.useFree.useFree.useFree.useFree.sendAttempt)

theorem State.DictOk.addConn {s : State} {c : Conn} (h : s.DictOk) : (s.addConn c).DictOk := h.same rfl rfl

theorem State.DictOk.dropConn {s : State} {ctx : Nat} (h : s.DictOk) : (s.dropConn ctx).DictOk := by
  unfold State.dropConn
  extract_lets t2 t3
  have ht2 : t2.DictOk := h.onConn (fun _ => dictOk_ite h.sendHandshake h)
  have ht3 : t3.DictOk := ht2.leaveList
  exact ht3.same rfl rfl

theorem State.DictOk.loseConn {s : State} {ctx reason st : Nat} {failed : Bool} (h : s.DictOk) :
    (s.loseConn ctx reason st failed).DictOk := by
  unfold State.loseConn
  refine h.onConn fun _ => ?_
  extract_lets t2 t3 _ _ _ _ t4
  have ht2 : t2.DictOk := h.noteReason
  have ht3 : t3.DictOk := ht2.leaveList
  have ht4 : t4.DictOk := dictOk_ite ht3 (dictOk_foldl (fun _ _ h4 => dictOk_ite h4.bump h4) ht3)
  split
  · exact dictOk_ite (dictOk_ite ht4.putConn.countConns ht4.putConn.startAttempt.countConns) ht4.putConn.countConns
  · exact State.DictOk.countPorts (State.DictOk.countConns (ht3.same rfl rfl))

theorem State.DictOk.establish {s : State} {ctx : Nat} (h : s.DictOk) : (s.establish ctx).DictOk :=
  h.onConn (fun _ => h.putConn.joinQueue.countConns.countPorts.countUsers)

theorem State.DictOk.reject {s : State} {address attempt reason : Nat} (h : s.DictOk) : (s.reject address attempt reason).DictOk :=
  h.bump.sendHandshake

theorem recvConnect_dictOk {address attempt : Nat} {b : Bytes} {s : State} (h : s.DictOk) : (recvConnect address attempt b s).DictOk := by
  unfold recvConnect
  split
  · split
    · exact h.sendHandshake
    · exact h
  · dsimp only
    refine dictOk_ite h (dictOk_ite h.reject (dictOk_ite h.reject (dictOk_ite h.reject (dictOk_ite h.reject ?_))))
    split
    · exact h.reject
    next ctx t ht =>
      have ht : t.DictOk := by
        split at ht
        · cases ht
          exact h
        · obtain ⟨x, _, hx⟩ := Option.map_eq_some_iff.mp ht
          cases hx
          exact h.addConn
      exact ht.useFree.useFree.useFree.useFree.sendAttempt

theorem recvAccept_dictOk {address attempt : Nat} {b : Bytes} {s : State} (h : s.DictOk) : (recvAccept address attempt b s).DictOk := by
  unfold recvAccept
  split
  · exact h
  · extract_lets _ _ _ _ _ _ _ f1 _ _ _ _ t2
    have hf1 : ∀ a0, State.DictOk (f1 a0) := fun _ => h.reject.loseConn
    have ht2 : t2.DictOk := h.useFree
    split
    · exact hf1 _
    · split
      · exact hf1 _
      · split
        · exact hf1 _
        · split
          · exact hf1 _
          · split
            · exact hf1 _
            · split
              · exact ht2.sendAttempt

theorem recvConfirm_dictOk {address attempt : Nat} {b : Bytes} {s : State} (h : s.DictOk) :
    (recvConfirm address attempt b s).DictOk := by
  unfold recvConfirm
  split
  · exact h
  · exact dictOk_ite h.reject.loseConn h.putConn.sendHandshake.establish

theorem recvReady_dictOk {address attempt : Nat} {b : Bytes} {s : State} (h : s.DictOk) : (recvReady address attempt b s).DictOk := by
  unfold recvReady
  split
  · exact h
  · exact dictOk_ite h.establish h.reject.loseConn

theorem recvReject_dictOk {address attempt : Nat} {b : Bytes} {s : State} (h : s.DictOk) : (recvReject address attempt b s).DictOk := by
  unfold recvReject
  extract_lets t2
  have ht2 : t2.DictOk := h.bump
  split
  · exact ht2
  · exact ht2.loseConn

theorem recvClose_dictOk {address attempt : Nat} {b : Bytes} {s : State} (h : s.DictOk) : (recvClose address attempt b s).DictOk := by
  unfold recvClose
  split
  · exact h.bump
  · exact dictOk_ite h.loseConn h.bump

theorem handshakeMessage_dictOk {type address : Nat} {datagrams : List Bytes} {f : Nat → Nat → Bytes → State → State} {s : State} (h :
    s.DictOk) (hf : ∀ a0 a1 a2 t3, t3.DictOk → (f a0 a1 a2 t3).DictOk) :
    (handshakeMessage type address datagrams f s).DictOk := by
  unfold handshakeMessage
  split
  · exact dictOk_ite (hf _ _ _ _ h) h
  · exact h

theorem handshakeResend_dictOk {ctx : Nat} {s : State} (h : s.DictOk) : (handshakeResend ctx s).DictOk := by
  unfold handshakeResend
  refine h.onConn fun _ => ?_
  split
  · exact h
  · exact dictOk_ite h (dictOk_ite h.loseConn h.putConn.sendHandshake)

theorem handshakeBackoff_dictOk {ctx : Nat} {s : State} (h : s.DictOk) : (handshakeBackoff ctx s).DictOk := by
  unfold handshakeBackoff
  refine h.onConn fun _ => ?_
  split
  · exact dictOk_ite h.startAttempt h
  · exact h

theorem handshakeTimeout_dictOk {ctx : Nat} {s : State} (h : s.DictOk) : (handshakeTimeout ctx s).DictOk := by
  unfold handshakeTimeout
  exact h.onConn (fun _ => dictOk_ite (dictOk_ite h.putConn (h.same rfl rfl)) h)

theorem State.DictOk.openConsumers {s : State} {i : Nat} (h : s.DictOk) : (s.openConsumers i).DictOk := by
  unfold State.openConsumers
  extract_lets
  refine dictOk_foldl (fun _ _ ht => ?_) h
  split
  · exact ht
  · split
    · exact ht
    · exact ht.addConn.startAttempt

theorem State.DictOk.syncConns {s : State} (h : s.DictOk) : s.syncConns.DictOk := by
  unfold State.syncConns
  extract_lets _ t2 t3 t4
  have ht2 : t2.DictOk := dictOk_foldl (fun _ _ ht => ht.dropConn) h
  have ht3 : t3.DictOk := dictOk_foldl (fun _ _ h3 => h3.openConsumers) ht2
  have ht4 : t4.DictOk := by
    dsimp only [t4]
    refine dictOk_foldl (fun _ _ h4 => ?_) ht3
    split
    · exact h4
    · split
      · exact h4
      · exact dictOk_ite h4.addConn.startAttempt h4.addConn
  exact ht4.countConns.countPorts.countUsers

theorem State.DictOk.closeIdle {s : State} {ctx : Nat} (h : s.DictOk) : (s.closeIdle ctx).DictOk :=
  h.onConn (fun _ => dictOk_ite h.dropConn.countConns h)

theorem State.DictOk.enterState {s : State} {i new : Nat} (h : s.DictOk) : (s.enterState i new).DictOk := h.setJobState.syncConns

/-! ## The traffic manager -/

theorem State.DictOk.addTotals {s : State} {p f bytes : Nat} (h : s.DictOk) : (s.addTotals p f bytes).DictOk := h.same rfl rfl

theorem State.DictOk.transmit {s : State} {c : Conn} {p : OutPacket} {port : Nat} (h : s.DictOk) : (s.transmit c p port).DictOk :=
  (dictOk_ite (dictOk_ite h.bump h).putConn.send.count.addTotals.event.event.event (dictOk_ite h.bump
    h).putConn.send.count.addTotals.event.event).bump

theorem sendHead_dictOk {s t : State} {port : Nat} {c : Conn} (h : s.DictOk) (ht : State.sendControl.sendHead s port c = some t) :
    t.DictOk := by
  unfold State.sendControl.sendHead at ht
  split at ht
  · exact Option.some.inj ht ▸ h.transmit
  · cases ht

theorem State.DictOk.sendControl {s t : State} {port : Nat} (h : s.DictOk) (ht : s.sendControl port = some t) : t.DictOk := by
  unfold State.sendControl at ht
  extract_lets x fifo at ht
  have hfifo : fifo = some t → t.DictOk := by
    intro hf
    dsimp only [fifo] at hf
    split at hf
    · split at hf
      · exact Option.some.inj hf ▸ h.setPort.send.bump
      · cases hf
    · cases hf
  split at ht
  · split at ht
    · split at ht
      · exact hfifo ht
      · exact sendHead_dictOk h ht
    · exact sendHead_dictOk h ht
  · exact hfifo ht

theorem State.DictOk.endVisit {s : State} {ctx port : Nat} (h : s.DictOk) : (s.endVisit ctx port).DictOk := by
  unfold State.endVisit
  extract_lets _ t2 t3
  have ht2 : t2.DictOk := h.setPort
  have ht3 : t3.DictOk := ht2.leaveList.showList
  refine ht3.onConn fun _ => ?_
  split
  · exact ht3.putConn
  · split
    · exact ht3.putConn
    · split
      · exact dictOk_ite ht3.joinList ht3.putConn
      · exact ht3.putConn

theorem State.DictOk.visit {port n : Nat} {s t : State} (h : s.DictOk) (ht : State.visit port n s = some t) : t.DictOk := by
  induction n generalizing s with
  | zero => cases ht
  | succ n ih =>
    unfold State.visit at ht
    split at ht
    · cases ht
    · split at ht
      · exact ih h.endVisit ht
      · extract_lets wire begun d at ht
        clear_value d
        split at ht
        · exact Option.some.inj ht ▸ dictOk_ite h.setPort.transmit h.setPort.transmit.endVisit
        · exact ih h.putConn.endVisit ht

theorem portFrameSelect_dictOk {port : Nat} {s : State} (h : s.DictOk) : (portFrameSelect port s).DictOk := by
  unfold portFrameSelect
  extract_lets x waits run data
  have hdata : ∀ {u v}, u.DictOk → data u = some v → v.DictOk := by
    intro u v hu hv
    obtain ⟨w, hw, rfl⟩ := Option.map_eq_some_iff.mp hv
    exact (hu.visit hw).setPort
  refine dictOk_ite (dictOk_getD h fun _ => hdata h.bump) ?_
  split
  next t ht => exact (h.sendControl ht).setPort
  · exact dictOk_getD h fun _ => hdata h

theorem shaperProfileWrite_dictOk {n sub v : Nat} {s : State} (h : s.DictOk) : (shaperProfileWrite n sub v s).DictOk :=
  dictOk_ite h.refused (dictOk_foldl (fun _ _ ht => ht.putConn) h.accept).count

theorem policerProfileWrite_dictOk {n sub v : Nat} {s : State} (h : s.DictOk) : (policerProfileWrite n sub v s).DictOk :=
  dictOk_ite h.refused (dictOk_foldl (fun _ _ ht => ht.putConn) h.accept)

theorem profileSelectorWrite_dictOk {k v : Nat} {policer : Bool} {s : State} (h : s.DictOk) :
    (profileSelectorWrite k v policer s).DictOk := dictOk_ite h.refused h.accept.countUsers

theorem dscpWrite_dictOk {k v : Nat} {s : State} (h : s.DictOk) : (dscpWrite k v s).DictOk := dictOk_ite h.refused h.accept

theorem slotSelectorWrite_dictOk {slot k v : Nat} {s : State} (h : s.DictOk) : (slotSelectorWrite slot k v s).DictOk :=
  dictOk_ite h.accept.countUsers h.refused

/-! ## Packets received -/

theorem State.DictOk.pushAck {s : State} {ctx syndrome psn : Nat} (h : s.DictOk) : (s.pushAck ctx syndrome psn).DictOk :=
  h.onConn (fun _ => h.putConn)

theorem State.DictOk.acknowledge {s : State} {ctx : Nat} (h : s.DictOk) : (s.acknowledge ctx).DictOk :=
  h.onConn (fun _ => h.putConn.pushAck)

theorem State.DictOk.sequenceNak {s : State} {ctx : Nat} (h : s.DictOk) : (s.sequenceNak ctx).DictOk :=
  h.onConn (fun _ => h.putConn.bump.pushAck)

theorem State.DictOk.fatalNak {s : State} {ctx syndrome psn reason : Nat} (h : s.DictOk) :
    (s.fatalNak ctx syndrome psn reason).DictOk := h.onConn (fun _ => h.transmit.loseConn)

theorem State.DictOk.regionWrite {s : State} {r : Region} {off : Nat} {b : Bytes} (h : s.DictOk) : (s.regionWrite r off b).DictOk := by
  unfold State.regionWrite
  split
  · exact h.modSlot
  · exact h.same rfl rfl
  · exact h

theorem State.DictOk.deliver {s : State} {ctx : Nat} (h : s.DictOk) : (s.deliver ctx).DictOk := h.onConn fun _ => h.same rfl rfl

theorem State.DictOk.ackIfDue {s : State} {ctx : Nat} {asked : Bool} (h : s.DictOk) : (s.ackIfDue ctx asked).DictOk :=
  h.onConn (fun _ => dictOk_ite h.acknowledge h)

theorem countFrame_dictOk {p : Packet} {c : Conn} {s : State} (h : s.DictOk) : (countFrame p c s).DictOk :=
  dictOk_ite h.count.addTotals.event.event.event h.count.addTotals.event.event

theorem State.DictOk.authFailed {s : State} {c : Conn} (h : s.DictOk) : (s.authFailed c).DictOk :=
  dictOk_ite h.bump.putConn.loseConn h.bump.putConn

theorem State.DictOk.meter {s t : State} {c : Conn} {p : Packet} (h : s.DictOk) (ht : s.meter c p = some t) : t.DictOk := by
  unfold State.meter at ht
  dsimp only at ht
  split at ht
  · exact Option.some.inj ht ▸ h
  · split at ht
    · exact Option.some.inj ht ▸ h.putConn.bump
    · exact Option.some.inj ht ▸ h.putConn.bump
    · cases ht

theorem State.DictOk.redFrame {s : State} {ctx psn : Nat} (h : s.DictOk) : (s.redFrame ctx psn).DictOk :=
  h.bump.bump.onConn (fun _ => (dictOk_foldl (fun _ _ ht => dictOk_ite ht.bump.bump ht) h.bump.bump).putConn.pushAck)

theorem sequenced_dictOk {ctx : Nat} {p : Packet} {c : Conn} {meterIt : Bool} {dup accept : State → State} {s : State} (h : s.DictOk)
    (hdup : ∀ t0, t0.DictOk → (dup t0).DictOk) (haccept : ∀ t0, t0.DictOk → (accept t0).DictOk) :
    (sequenced ctx p c meterIt dup accept s).DictOk := by
  unfold sequenced
  extract_lets _ _ _ t2 f3
  have ht2 : t2.DictOk := dictOk_ite (h.onConn (fun _ => h.putConn)) h
  have hf3 : ∀ u0, u0.DictOk → State.DictOk (f3 u0) := fun _ h3 => dictOk_ite (by split; exacts [haccept _ (h3.meter ‹_›), h3.redFrame])
    (haccept _ h3)
  exact dictOk_ite (hdup _ h) (dictOk_ite h.bump (dictOk_ite (dictOk_ite ht2.bump.sequenceNak (hf3 _ ht2)) (dictOk_ite (hf3 _ ht2)
    (dictOk_ite ht2 ht2.sequenceNak))))

theorem State.DictOk.duplicate {s : State} {ctx : Nat} (h : s.DictOk) : (s.duplicate ctx).DictOk := h.acknowledge

/-- The state that an admission leaves. -/
def Admit.state : Admit → State
  | .done s => s
  | .go _ s => s

theorem admitPacket_dictOk {s : State} {ctx : Nat} {p : Packet} (h : s.DictOk) : (admitPacket ctx p s).state.DictOk := by
  unfold admitPacket
  split
  · exact h
  · split
    · exact h.bump
    next c _ =>
      have counted := countFrame_dictOk (p := p) (c := c) h
      dsimp only
      split
      · exact counted.bump
      split
      · exact counted.bump
      split
      · exact counted.bump
      split
      · split
        · exact counted.bump
        · split
          · exact counted.authFailed
          split
          · exact counted.bump
          split
          · exact counted.putConn.loseConn
          · exact counted.putConn
      split
      · exact counted.bump
      · exact counted.putConn

/-- What follows an admission keeps the dictionary in canonical form where it does so from every state admitted. -/
theorem dictOk_of_admit {s : State} {ctx : Nat} {p : Packet} {f : Conn → State → State} (h : s.DictOk)
    (hf : ∀ c t, t.DictOk → (f c t).DictOk) :
    (match admitPacket ctx p s with
      | .done t => t
      | .go c t => f c t).DictOk := by
  have admitted := admitPacket_dictOk (ctx := ctx) (p := p) h
  split
  next t ht => exact (ht ▸ admitted : (Admit.done t).state.DictOk)
  next c t ht => exact hf c t (ht ▸ admitted : (Admit.go c t).state.DictOk)

theorem receiveSend_dictOk {ctx : Nat} {p : Packet} {s : State} (h : s.DictOk) : (receiveSend ctx p s).DictOk :=
  dictOk_of_admit h fun _ _ ht => dictOk_ite ht.fatalNak (dictOk_ite ht.fatalNak
    (sequenced_dictOk ht (fun _ hu => hu.duplicate) fun _ hu => hu.onConn fun _ => hu.putConn.deliver.ackIfDue))

theorem receiveWrite_dictOk {ctx : Nat} {p : Packet} {s : State} (h : s.DictOk) : (receiveWrite ctx p s).DictOk := by
  refine dictOk_of_admit h fun c t ht => dictOk_ite ht.fatalNak (dictOk_ite ht.fatalNak ?_)
  extract_lets begun
  split
  next off first key addr length _ =>
  extract_lets place refused again
  have hplace : ∀ {u v}, u.DictOk → place u = some v → v.DictOk := by
    intro u v hu hv
    dsimp only [place] at hv
    split at hv
    · exact Option.some.inj hv ▸ hu
    · split at hv
      · exact Option.some.inj hv ▸ hu.regionWrite
      · cases hv
  have hrefused : ∀ u, u.DictOk → (refused u).DictOk := by
    intro u hu
    dsimp only [refused]
    split
    · exact hu.bump.fatalNak
    · exact hu.bump.fatalNak
  refine sequenced_dictOk ht (fun u hu => State.DictOk.duplicate (dictOk_ite (dictOk_getD hu fun _ => hplace hu) hu)) fun u hu => ?_
  split
  · exact hrefused u hu
  next v hv => exact (hplace hu hv).onConn fun _ => (hplace hu hv).putConn.deliver.ackIfDue

theorem receiveReadRequest_dictOk {content : State → Region → Nat → Nat → Option Bytes} {ctx : Nat} {p : Packet} {s : State}
    (h : s.DictOk) : (receiveReadRequest content ctx p s).DictOk := by
  refine dictOk_of_admit h fun c t ht => dictOk_ite ht.fatalNak (dictOk_ite ht.fatalNak ?_)
  extract_lets answer refused
  have hanswer : ∀ {u v}, u.DictOk → answer u = some v → v.DictOk := by
    intro u v hu hv
    dsimp only [answer] at hv
    split at hv
    · cases hv
    · obtain ⟨data, _, rfl⟩ := Option.map_eq_some_iff.mp hv
      exact (hu.onConn fun _ => hu.putConn).joinQueue
  have hrefused : ∀ u, u.DictOk → (refused u).DictOk := by
    intro u hu
    dsimp only [refused]
    split
    · exact hu
    · exact hu.bump.fatalNak
  refine sequenced_dictOk ht (fun u hu => dictOk_getD (hrefused u hu) fun _ => hanswer hu) fun u hu => dictOk_ite hu.fatalNak ?_
  split
  · exact hrefused u hu
  next v hv => exact ((hanswer hu hv).onConn fun _ => (hanswer hu hv).putConn).deliver

theorem State.DictOk.resendFrom {s : State} {ctx psn : Nat} (h : s.DictOk) : (s.resendFrom ctx psn).DictOk := by
  unfold State.resendFrom
  exact (h.onConn (fun _ => by split; exacts [dictOk_ite h.putConn h.putConn.count.count.event.event.markPerturb])).joinQueue

theorem receiveAcknowledge_dictOk {ctx : Nat} {p : Packet} {s : State} (h : s.DictOk) : (receiveAcknowledge ctx p s).DictOk :=
  dictOk_of_admit h fun _ _ ht => dictOk_ite ht.fatalNak (ht.onConn fun _ => dictOk_ite ht.putConn.joinQueue.closeIdle
    (dictOk_ite (dictOk_ite ht.bump.loseConn ht.bump.putConn)
      (dictOk_ite (dictOk_ite ht.loseConn ht.putConn.resendFrom) ht.loseConn)))

theorem receiveReadResponse_dictOk {ctx : Nat} {p : Packet} {s : State} (h : s.DictOk) : (receiveReadResponse ctx p s).DictOk := by
  refine dictOk_of_admit h fun c t ht => dictOk_ite ht.fatalNak (dictOk_ite ht.fatalNak ?_)
  dsimp only
  split
  · exact ht.bump
  · split
    · exact ht.redFrame
    next u hu => exact (ht.meter hu).onConn fun _ => dictOk_ite (ht.meter hu).putConn (ht.meter hu).putConn

theorem ackDelay_dictOk {ctx : Nat} {s : State} (h : s.DictOk) : (ackDelay ctx s).DictOk := by
  unfold ackDelay
  refine h.onConn fun _ => ?_
  split
  · exact dictOk_ite h.acknowledge h
  · exact h

theorem retransmitTimeout_dictOk {ctx : Nat} {s : State} (h : s.DictOk) : (retransmitTimeout ctx s).DictOk := by
  unfold retransmitTimeout
  refine h.onConn fun _ => ?_
  split
  · exact h
  · exact dictOk_ite h (dictOk_ite h.loseConn h.putConn.resendFrom)

theorem rnrExpiry_dictOk {ctx : Nat} {s : State} (h : s.DictOk) : (rnrExpiry ctx s).DictOk := by
  unfold rnrExpiry
  refine h.onConn fun _ => ?_
  split
  · exact dictOk_ite h.putConn.resendFrom h
  · exact h

theorem reorderTimeout_dictOk {ctx : Nat} {s : State} (h : s.DictOk) : (reorderTimeout ctx s).DictOk := by
  unfold reorderTimeout
  refine h.onConn fun _ => ?_
  split
  · exact dictOk_ite h.putConn.sequenceNak h
  · exact h

/-! ## Ports -/

theorem State.DictOk.layPorts {s : State} (h : s.DictOk) : s.layPorts.DictOk := dictOk_foldl (fun _ _ ht => (ht.set _ _).set _ _) h

theorem State.DictOk.rehome {s : State} (h : s.DictOk) : s.rehome.DictOk := by
  unfold State.rehome
  extract_lets t2
  have ht2 : t2.DictOk := by
    dsimp only [t2]
    refine dictOk_foldl (fun _ _ ht => ?_) h
    split
    · exact ht.leaveList.onConn (fun _ => ht.leaveList.putConn.joinQueue)
    · split
      · exact dictOk_ite ht ht.leaveList.joinQueue
      · exact ht
  exact (dictOk_foldl (fun _ _ h3 => h3.showList) ht2).countPorts

theorem portLinkUp_dictOk {p : Nat} {s : State} (h : s.DictOk) : (portLinkUp p s).DictOk :=
  dictOk_ite ((h.set _ _).set _ _).setPort.rehome.postNetwork h

theorem portLinkDown_dictOk {p : Nat} {s : State} (h : s.DictOk) : (portLinkDown p s).DictOk :=
  dictOk_ite (h.set _ _).setPort.rehome.postNetwork h

theorem frameDiscard_dictOk {cnp : Bool} {s : State} (h : s.DictOk) : (frameDiscard cnp s).DictOk := h.bump

theorem answerFrame_dictOk {p what : Nat} {mine : Bool} {body : Bytes} {s : State} (h : s.DictOk) :
    (answerFrame p what mine body s).DictOk := dictOk_ite h.send h.bump

theorem State.DictOk.modClass {s : State} {p : Nat} {control : Bool} {f : PortClass → PortClass} (h : s.DictOk) :
    (s.modClass p control f).DictOk := h.setPort

theorem State.DictOk.resume {s : State} {p : Nat} {control : Bool} (h : s.DictOk) : (s.resume p control).DictOk := by
  unfold State.resume
  extract_lets _ _ t2
  have ht2 : t2.DictOk := h.count.event
  split
  · exact h
  · exact ht2.modClass.rehome

theorem pfcReceived_dictOk {p priority quanta : Nat} {held : List Nat} {s : State} (h : s.DictOk) :
    (pfcReceived p priority quanta held s).DictOk := by
  unfold pfcReceived
  split
  · exact h.bump
  · exact dictOk_ite (dictOk_ite h h.modClass) (dictOk_ite h.bump.resume (dictOk_ite h.bump.bump.event.markPerturb h.bump).modClass)

theorem pfcPauseExpiry_dictOk {p : Nat} {control : Bool} {s : State} (h : s.DictOk) : (pfcPauseExpiry p control s).DictOk := by
  unfold pfcPauseExpiry
  split
  · exact dictOk_ite h.resume h
  · exact h

theorem State.DictOk.sendPfc {s : State} {p quanta : Nat} {control : Bool} (h : s.DictOk) : (s.sendPfc p control quanta).DictOk :=
  h.send.bump

theorem pfcRepeat_dictOk {p fill : Nat} {control : Bool} {s : State} (h : s.DictOk) : (pfcRepeat p control fill s).DictOk := by
  unfold pfcRepeat
  extract_lets _ _ t2 t3
  have ht2 : t2.DictOk := h.modClass
  have ht3 : t3.DictOk := h.modClass
  split
  · exact dictOk_ite (dictOk_ite ht2.sendPfc ht2) (dictOk_ite (dictOk_ite ht3 ht3.sendPfc) h)

theorem State.DictOk.loseQueued {s : State} {p : Nat} {control : Bool} (h : s.DictOk) : (s.loseQueued p control).DictOk :=
  dictOk_foldl (fun _ _ ht => dictOk_ite ht.putConn ht) (dictOk_ite h.setPort h)

theorem stormReceived_dictOk {p : Nat} {control : Bool} {s : State} (h : s.DictOk) : (stormReceived p control s).DictOk :=
  dictOk_ite (h.loseQueued.modClass.set _ _).bump.rehome.postNetwork h

theorem stormSent_dictOk {p : Nat} {control : Bool} {s : State} (h : s.DictOk) : (stormSent p control s).DictOk := by
  unfold stormSent
  split
  · exact dictOk_ite h.modClass.bump.postNetwork h
  · exact h

theorem stormRecovery_dictOk {p : Nat} {control : Bool} {s : State} (h : s.DictOk) : (stormRecovery p control s).DictOk := by
  unfold stormRecovery
  split
  · exact dictOk_ite (dictOk_ite h.modClass (h.modClass.set _ _).rehome) h
  · exact h

/-! ## Items -/

theorem State.DictOk.putCensus {s : State} {slot : Nat} {c : Census} (h : s.DictOk) : (s.putCensus slot c).DictOk := h.modSlot

theorem State.DictOk.writeHistory {s : State} {slot : Nat} {r : HistoryRec} (h : s.DictOk) : (s.writeHistory slot r).DictOk :=
  dictOk_ite h.modSlot.bump.modSlot.bump h.modSlot.bump

theorem State.DictOk.noteEnd {s : State} {slot code : Nat} (h : s.DictOk) : (s.noteEnd slot code).DictOk := by
  unfold State.noteEnd
  split
  · exact h.set _ _
  · exact h

theorem State.DictOk.engineEvent {s : State} {it : Item} {code weight : Nat} (h : s.DictOk) : (s.engineEvent it code weight).DictOk := by
  unfold State.engineEvent
  split
  · exact dictOk_ite h h.event
  · exact h

theorem State.DictOk.dispatchKind {s : State} {kind : Nat} (h : s.DictOk) : (s.dispatchKind kind).DictOk := by
  unfold State.dispatchKind
  refine dictOk_foldl (fun _ _ ht => ?_) h
  split
  · extract_lets t3
    have ht3 : t3.DictOk := by
      dsimp only [t3]
      split
      · exact ht.count
      · exact ht
    exact ht3.putItem
  · exact ht

theorem State.DictOk.dispatch {s : State} (h : s.DictOk) : s.dispatch.DictOk := dictOk_foldl (fun _ _ ht => ht.dispatchKind) h

theorem State.DictOk.dropTarget {s : State} {it : Item} {k : KernelRun} {target : Nat} (h : s.DictOk) :
    (s.dropTarget it k target).DictOk := by
  unfold State.dropTarget
  split
  · exact h.dropChain
  · exact h

theorem State.DictOk.stopKernel {s : State} {it : Item} (h : s.DictOk) : (s.stopKernel it).DictOk := by
  unfold State.stopKernel
  split
  · extract_lets t2
    have ht2 : t2.DictOk := dictOk_foldl (fun _ _ ht => ht.dropTarget) h.cancelWait
    exact ht2.same rfl rfl
  · exact h

theorem State.DictOk.releaseItem {s : State} {it : Item} (h : s.DictOk) : (s.releaseItem it).DictOk := by
  unfold State.releaseItem
  extract_lets t2 t3
  have ht2 : t2.DictOk := h.stopKernel.cancelWait
  have ht3 : t3.DictOk := by
    dsimp only [t3]
    split
    · exact ht2.dropChain
    · exact ht2
  exact ht3.same rfl rfl

theorem State.DictOk.failItem {s : State} {it : Item} {code : Nat} (h : s.DictOk) : (s.failItem it code).DictOk :=
  (dictOk_ite h.bump h).releaseItem.putItem

theorem State.DictOk.arrive {s : State} {it : Item} {i kind : Nat} {st : StageRec} (h : s.DictOk) : (s.arrive it i kind st).DictOk := by
  unfold State.arrive
  extract_lets _ _ _ _ t2
  have ht2 : t2.DictOk := h.putItem
  split
  · exact ht2.failItem
  · split
    · exact dictOk_ite ht2.failItem ht2
    · exact ht2

theorem walk_dictOk {s : State} {l : List (Nat × StageRec)} {it : Item} (h : s.DictOk) : (walk l it s).DictOk := by
  induction l generalizing it with
  | nil => exact h.putItem
  | cons x l ih =>
    unfold walk
    refine dictOk_ite ih (dictOk_ite ?_ h.arrive)
    split
    · exact h.bump.bump.failItem
    · exact ih

theorem State.DictOk.goOn {s : State} {it : Item} {i : Nat} (h : s.DictOk) : (s.goOn it i).DictOk := walk_dictOk h

theorem State.DictOk.leaveSource {s : State} {it : Item} (h : s.DictOk) : (s.leaveSource it).DictOk :=
  dictOk_ite (dictOk_ite h.putItem.failItem h.putItem) h.goOn

theorem State.DictOk.output {s : State} {it : Item} {out : Bytes} {requester : Nat} (h : s.DictOk) :
    (s.output it out requester).DictOk := h.putItem.requestBuffers

theorem State.DictOk.countWait {s : State} {it : Item} (h : s.DictOk) : (s.countWait it).DictOk := by
  unfold State.countWait
  extract_lets
  split
  · exact h.count
  · exact h.count
  · exact h.count
  · exact h.count
  · exact h

/-! ## Endings -/

theorem State.DictOk.revokeKey {s : State} {key : Nat} (h : s.DictOk) : (s.revokeKey key).DictOk := h.revokeWhere

theorem State.DictOk.endOwner {s : State} {it : Item} (h : s.DictOk) : (s.endOwner it).DictOk :=
  (dictOk_ite (dictOk_foldl (fun _ _ ht => dictOk_ite ht ht.revokeKey) h).releaseItem.writeHistory.noteEnd.event (dictOk_foldl (fun _ _
    ht => dictOk_ite ht ht.revokeKey) h).releaseItem).dropItem

theorem State.DictOk.recordEnding {s : State} {slot : Nat} {r : HistoryRec} (h : s.DictOk) : (s.recordEnding slot r).DictOk :=
  h.writeHistory.bump

theorem State.DictOk.endHere {s : State} {it : Item} {ending reason : Nat} (h : s.DictOk) : (s.endHere it ending reason).DictOk :=
  dictOk_ite h.endOwner.recordEnding h.endOwner

theorem State.DictOk.putFill {s : State} {f : Fill} (h : s.DictOk) : (s.putFill f).DictOk := h.same rfl rfl

theorem State.DictOk.noteLast {s : State} {it : Item} (h : s.DictOk) : (s.noteLast it).DictOk := by
  unfold State.noteLast
  split
  · exact dictOk_ite h.putFill h
  · exact h

theorem State.DictOk.dropFill {s : State} {f : Fill} (h : s.DictOk) : (s.dropFill f).DictOk := h.same rfl rfl

theorem State.DictOk.endFill {s : State} {f : Fill} {ending reason lastState : Nat} (h : s.DictOk) :
    (s.endFill f ending reason lastState).DictOk := h.recordEnding.dropFill

theorem State.DictOk.dropBatch {s : State} {b : Batch} (h : s.DictOk) : (s.dropBatch b).DictOk := by
  unfold State.dropBatch
  extract_lets t2
  have ht2 : t2.DictOk := dictOk_foldl (fun _ _ ht => ht.refDrop) h
  exact ht2.same rfl rfl

theorem State.DictOk.endItems {s : State} {slot code : Nat} (h : s.DictOk) : (s.endItems slot code).DictOk :=
  dictOk_foldl (fun _ _ ht => ht.endFill) (dictOk_foldl (fun _ _ ht => dictOk_ite ht.noteLast.endOwner ht.endHere) h)

theorem State.DictOk.discardShoes {s : State} {slot : Nat} (h : s.DictOk) : (s.discardShoes slot).DictOk := by
  unfold State.discardShoes
  extract_lets t2
  have ht2 : t2.DictOk := dictOk_foldl (fun _ _ ht => ht.cancelWait.dropBatch) h
  exact ht2.same rfl rfl

theorem State.DictOk.abortSlot {s : State} {slot code reason : Nat} (h : s.DictOk) : (s.abortSlot slot code reason).DictOk :=
  ((dictOk_foldl (fun _ _ ht => ht.revokeSlot) h.endItems.discardShoes).set _ _).enterState

theorem State.DictOk.heapOrAbort {s : State} {slot bytes : Nat} {kind : HeapKind} (h : s.DictOk) :
    (s.heapOrAbort slot kind bytes).DictOk := by
  unfold State.heapOrAbort
  split
  · next t ht => exact (h.heapTake ht)
  · exact h.bump.abortSlot

/-! ## Collective abort -/

theorem State.DictOk.showAbort {s : State} {slot : Nat} {m : AbortMsg} {first : Bool} (h : s.DictOk) :
    (s.showAbort slot m first).DictOk := dictOk_ite h.setAll h

theorem State.DictOk.halt {s : State} {slot : Nat} {m : AbortMsg} (h : s.DictOk) : (s.halt slot m).DictOk := by
  unfold State.halt
  extract_lets _ t2 t3 t4 t5
  have ht2 : t2.DictOk := h.showAbort
  have ht3 : t3.DictOk := dictOk_ite (ht2.set _ _) ht2
  have ht4 : t4.DictOk := ht3.modSlot
  have ht5 : t5.DictOk := ht4.same rfl rfl
  exact dictOk_ite ht2 ht5.setStepState

theorem State.DictOk.raiseAbort {s : State} {slot cause epoch stream batch reason subject : Nat} (h : s.DictOk) :
    (s.raiseAbort slot cause epoch stream batch reason subject).DictOk :=
  dictOk_ite h (dictOk_foldl (fun _ _ ht => ht.peerSendFirst) h.bump.halt.modSlot)

theorem abortMessage_dictOk {uid : Nat} {b : Bytes} {s : State} (h : s.DictOk) : (abortMessage uid b s).DictOk :=
  dictOk_ite h.bump (dictOk_ite h.bump.bump h.bump).halt.peerSend

theorem abortAck_dictOk {uid : Nat} {b : Bytes} {s : State} (h : s.DictOk) : (abortAck uid b s).DictOk :=
  dictOk_ite h.bump (dictOk_ite h.modSlot h)

theorem abortProbe_dictOk {slot : Nat} {s : State} (h : s.DictOk) : (abortProbe slot s).DictOk :=
  dictOk_ite (dictOk_foldl (fun _ _ ht => ht.peerProbe) h.modSlot) h

theorem stepAbort_dictOk {slot : Nat} {s : State} (h : s.DictOk) : (stepAbort slot s).DictOk := dictOk_ite h.refused h.raiseAbort.ok

theorem keepalive_dictOk {ctx : Nat} {s : State} (h : s.DictOk) : (keepalive ctx s).DictOk :=
  h.onConn (fun _ => dictOk_ite h.putConn.peerProbe h)

theorem memberTimeout_dictOk {slot uid : Nat} {s : State} (h : s.DictOk) : (memberTimeout slot uid s).DictOk := dictOk_ite h.raiseAbort h

/-! ## Records read -/

theorem State.DictOk.putShard {s : State} {slot : Nat} {o : ShardOpen} (h : s.DictOk) : (s.putShard slot o).DictOk := h.modSlot

theorem State.DictOk.dropShard {s : State} {slot : Nat} {o : ShardOpen} (h : s.DictOk) : (s.dropShard slot o).DictOk := h.modSlot

theorem State.DictOk.shardRoom {s t : State} (h : s.DictOk) (ht : s.shardRoom = some t) : t.DictOk := by
  unfold State.shardRoom at ht
  dsimp only at ht
  split at ht
  · exact Option.some.inj ht ▸ h
  · split at ht
    · cases ht
    · obtain rfl := Option.some.inj ht
      exact h.dropShard

theorem State.DictOk.readPeer {s : State} {node length : Nat} (h : s.DictOk) : (s.readPeer node length).DictOk :=
  h.useFree.useFree.peerRead

theorem State.DictOk.tryCopy {s t : State} {it : Item} {node : Nat} (h : s.DictOk) (ht : s.tryCopy it node = .ok t) : t.DictOk := by
  unfold State.tryCopy at ht
  split at ht
  · cases ht
  · dsimp only at ht
    split at ht
    · split at ht
      · cases ht
      · split at ht
        · cases ht
          exact h.putItem.putShard
        · split at ht
          · cases ht
          · split at ht
            · cases ht
              exact h.putShard.putItem
            · cases ht
              exact h.putShard.putItem.readPeer
    · split at ht
      · cases ht
      · split at ht
        · cases ht
          exact h.putItem.bump
        next u hu =>
          cases ht
          exact dictOk_ite (h.shardRoom hu).putItem.putShard (h.shardRoom hu).putItem.putShard.readPeer

theorem tryCopies_dictOk {s : State} {l : List Nat} {it : Item} (h : s.DictOk) : (tryCopies l it s).DictOk := by
  induction l generalizing s it with
  | nil => exact h.failItem
  | cons node l ih =>
    unfold tryCopies
    split
    next t ht => exact h.tryCopy ht
    · exact ih (dictOk_ite h h.bump)

theorem State.DictOk.nextCopy {s : State} {it : Item} {code : Nat} (h : s.DictOk) : (s.nextCopy it code).DictOk :=
  tryCopies_dictOk (dictOk_ite h h.bump)

theorem State.DictOk.fetch {s : State} {it : Item} (h : s.DictOk) : (s.fetch it).DictOk := tryCopies_dictOk h

theorem eachItem_dictOk {l : List Nat} {f : State → Item → State} {s : State} (h : s.DictOk) (hf : ∀ t0 a1, t0.DictOk → (f t0 a1).DictOk)
    :
    (eachItem l f s).DictOk := dictOk_foldl (fun _ _ ht => ht.onItem (fun _ => hf _ _ ht)) h

theorem State.DictOk.wakeOpens {s : State} (h : s.DictOk) : s.wakeOpens.DictOk :=
  eachItem_dictOk h (fun _ _ ht => tryCopies_dictOk ht)

theorem State.DictOk.shardFault {s : State} {slot code : Nat} {o : ShardOpen} (h : s.DictOk) : (s.shardFault slot o code).DictOk := by
  unfold State.shardFault
  extract_lets t2
  have ht2 : t2.DictOk := h.bump.putShard
  split
  · exact dictOk_ite ht2.bump ht2
  · exact ht2

theorem State.DictOk.openFailed {s : State} {slot code : Nat} {o : ShardOpen} (h : s.DictOk) : (s.openFailed slot o code).DictOk :=
  (eachItem_dictOk h.dropShard (fun _ _ ht => ht.nextCopy)).wakeOpens

theorem shardOpenComplete_dictOk {slot shard node media : Nat} {remote : Option Bytes} {s : State} (h : s.DictOk) :
    (shardOpenComplete slot shard node media remote s).DictOk := by
  unfold shardOpenComplete
  split
  · exact h
  · split
    · exact h
    · split
      · exact h.openFailed
      · split
        · exact h.openFailed
        · split
          · exact (eachItem_dictOk h.shardFault (fun _ _ ht => ht.nextCopy)).wakeOpens
          · exact (eachItem_dictOk h.putShard.bump (fun _ _ ht => tryCopies_dictOk ht)).wakeOpens

theorem tarScanComplete_dictOk {slot shard node media : Nat} {remote : Option Bytes} {s : State} (h : s.DictOk) :
    (tarScanComplete slot shard node media remote s).DictOk := by
  unfold tarScanComplete
  split
  · exact h
  · split
    · exact h
    · split
      · exact h.openFailed
      · split
        · exact h.openFailed
        · exact (eachItem_dictOk h.bump.count.count.putShard.bump.heapOrAbort (fun _ _ ht => tryCopies_dictOk ht)).wakeOpens

theorem State.DictOk.takeRecord {s : State} {it : Item} {o : ShardOpen} {first format : Nat} {r : Bytes} (h : s.DictOk) :
    (s.takeRecord it o first format r).DictOk := by
  unfold State.takeRecord
  split
  · exact h.nextCopy
  · exact dictOk_ite (dictOk_ite h.bump.count.bump h.bump.count).nextCopy (dictOk_ite h.bump.count.nextCopy h.bump.count.output)

theorem State.DictOk.mediaCode {s : State} {entry : Nat} (h : s.DictOk) : (s.mediaCode entry).2.DictOk := h.modStore

theorem recordReadComplete_dictOk {entry : Nat} {s : State} (h : s.DictOk) : (recordReadComplete entry s).DictOk := by
  unfold recordReadComplete
  refine h.onItem fun _ => ?_
  split
  · exact h
  · split
    · next t ht =>
        split
        · exact (dictOk_of_eq h.mediaCode ht).nextCopy
        · split
          · exact (dictOk_of_eq h.mediaCode ht).nextCopy
          · split
            · exact (dictOk_of_eq h.mediaCode ht).takeRecord
            · exact (dictOk_of_eq h.mediaCode ht).nextCopy

theorem peerRecordReadComplete_dictOk {entry : Nat} {data : Option Bytes} {s : State} (h : s.DictOk) :
    (peerRecordReadComplete entry data s).DictOk := by
  unfold peerRecordReadComplete
  refine h.onItem fun _ => ?_
  split
  · exact h
  · split
    · exact h.takeRecord
    · exact h.nextCopy

theorem peerFetchTimeout_dictOk {entry : Nat} {s : State} (h : s.DictOk) : (peerFetchTimeout entry s).DictOk := by
  unfold peerFetchTimeout
  refine h.onItem fun _ => ?_
  split
  · exact h
  · exact dictOk_ite h.nextCopy h

/-! ## The sample cache -/

theorem State.DictOk.demote {s : State} {e : CacheEntry} (h : s.DictOk) : (s.demote e).DictOk := by
  unfold State.demote
  split
  · exact h
  · split
    · exact h.same rfl rfl
    · exact h.bump

theorem State.DictOk.evictOne {s t : State} (h : s.DictOk) (ht : s.evictOne = some t) : t.DictOk := by
  unfold State.evictOne at ht
  split at ht
  · cases ht
  · dsimp only at ht
    split at ht
    · obtain rfl := Option.some.inj ht
      exact State.DictOk.cacheStatus (State.DictOk.demote (State.DictOk.bump (h.same rfl rfl)))
    · cases ht

theorem makeBlocks_dictOk {s t : State} {blocks fuel : Nat} (h : s.DictOk) (ht : makeBlocks blocks fuel s = some t) : t.DictOk := by
  induction fuel generalizing s with
  | zero => cases ht
  | succ fuel ih =>
    unfold makeBlocks at ht
    split at ht
    · exact Option.some.inj ht ▸ h
    · obtain ⟨u, hu, ht⟩ := Option.bind_eq_some_iff.mp ht
      exact ih (h.evictOne hu) ht

theorem State.DictOk.cacheRoom {s t : State} {blocks : Nat} (h : s.DictOk) (ht : s.cacheRoom blocks = some t) : t.DictOk :=
  makeBlocks_dictOk h ht

theorem State.DictOk.startFill {s : State} {it : Item} (h : s.DictOk) : (s.startFill it).DictOk := by
  unfold State.startFill
  refine dictOk_ite h (dictOk_ite h.bump ?_)
  split
  next c t hc ht => exact State.DictOk.cacheStatus ((h.cacheRoom ht).addChain.same rfl rfl)
  · exact h.bump

theorem cacheFillComplete_dictOk {place : Nat} {s : State} (h : s.DictOk) : (cacheFillComplete place s).DictOk := by
  unfold cacheFillComplete
  split
  · exact h
  · extract_lets _ t2 t3 t4 _ _ _ t5
    have ht2 : t2.DictOk := h.same rfl rfl
    have ht3 : t3.DictOk := by
      dsimp only [t3]
      split
      · exact ht2.dropChain
      · exact ht2
    have ht4 : t4.DictOk := ht3.cacheStatus
    have ht5 : t5.DictOk := ht4.same rfl rfl
    exact dictOk_ite ht4.bump ht5.bump.bump.cacheStatus

theorem State.DictOk.unpin {s : State} {slot : Nat} (h : s.DictOk) : (s.unpin slot).DictOk := by
  unfold State.unpin
  exact State.DictOk.cacheStatus (h.same rfl rfl)

theorem State.DictOk.dropSegment {s : State} (h : s.DictOk) : s.dropSegment.DictOk := by
  unfold State.dropSegment
  split
  · exact h
  · extract_lets _ t2 t3
    have ht2 : t2.DictOk := h.same rfl rfl
    have ht3 : t3.DictOk := ht2.count
    split
    · exact ht3.unmapObject.modStore.cacheStatus
    · exact ht3.cacheStatus

theorem State.DictOk.openSegment {s : State} (h : s.DictOk) : s.openSegment.DictOk := by
  unfold State.openSegment
  extract_lets t2 _ t3
  have ht2 : t2.DictOk := dictOk_ite h.dropSegment h
  have ht3 : t3.DictOk := ht2.modStore
  exact State.DictOk.cacheStatus (ht3.same rfl rfl)

theorem State.DictOk.appendEntry {s : State} {e : FlashEntry} (h : s.DictOk) : (s.appendEntry e).DictOk := by
  unfold State.appendEntry
  extract_lets _ _ t2
  have ht2 : t2.DictOk := dictOk_ite h.openSegment h
  split
  · exact ht2
  · split
    · exact ht2
    · extract_lets
      exact State.DictOk.storeStatus (State.DictOk.appendObject (ht2.same rfl rfl))

theorem cacheCompressComplete_dictOk {place : Nat} {s : State} (h : s.DictOk) : (cacheCompressComplete place s).DictOk := by
  unfold cacheCompressComplete
  split
  · exact h
  · extract_lets _ t2 _ _ _ t3
    have ht2 : t2.DictOk := h.same rfl rfl
    have ht3 : t3.DictOk := dictOk_ite ht2 ht2.bump
    exact dictOk_ite ht2.bump (dictOk_ite ht2 ht3.appendEntry)

theorem State.DictOk.lookUp {s : State} {it : Item} (h : s.DictOk) : (s.lookUp it).DictOk := by
  unfold State.lookUp
  extract_lets
  split
  · exact h.fetch
  · split
    · split
      · extract_lets t2
        have ht2 : t2.DictOk := h.same rfl rfl
        exact ht2.bump.bump.putItem
      · exact h.fetch
    · exact h.bump.bump.putItem
    · exact h.bump.bump.fetch

theorem State.DictOk.endRead {s : State} {sample dig : Nat} (h : s.DictOk) : (s.endRead sample dig).DictOk := by
  unfold State.endRead
  extract_lets
  exact State.DictOk.cacheStatus (h.same rfl rfl)

theorem State.DictOk.corruptEntry {s : State} {it : Item} (h : s.DictOk) : (s.corruptEntry it).DictOk := by
  unfold State.corruptEntry
  extract_lets _ _ t2
  have ht2 : t2.DictOk := State.DictOk.cacheStatus (h.same rfl rfl)
  exact ht2.bump.fetch

theorem cacheHitCopyComplete_dictOk {entry : Nat} {ok : Bool} {s : State} (h : s.DictOk) :
    (cacheHitCopyComplete entry ok s).DictOk := by
  refine h.onItem fun it => dictOk_ite h ?_
  dsimp only
  split
  · exact dictOk_ite h.endRead.output h.endRead.corruptEntry
  · exact h.endRead.corruptEntry

theorem State.DictOk.promote {s : State} {it : Item} {e : FlashEntry} {data : Bytes} (h : s.DictOk) :
    (s.promote it e data).DictOk := by
  unfold State.promote
  extract_lets
  split
  · next t ht =>
      extract_lets
      exact State.DictOk.cacheStatus (((h.cacheRoom ht)).same rfl rfl)
  · exact h

theorem cacheFlashReadComplete_dictOk {entry : Nat} {ok : Bool} {s : State} (h : s.DictOk) :
    (cacheFlashReadComplete entry ok s).DictOk := by
  unfold cacheFlashReadComplete
  refine h.onItem fun _ => ?_
  split
  · exact h
  · split
    · exact h.corruptEntry
    · exact dictOk_ite (dictOk_ite (dictOk_ite h.promote h).output (dictOk_ite h.promote h).fetch) h.corruptEntry

theorem cacheCommandWrite_dictOk {n : Nat} {s : State} (h : s.DictOk) : (cacheCommandWrite n s).DictOk :=
  dictOk_ite h.refused (dictOk_ite h.purge (dictOk_ite h.purge h.purge)).ok

/-! ## Decode and transform -/

theorem State.DictOk.restartItem {s : State} {it : Item} {damaged fromSource : Bool} (h : s.DictOk) :
    (s.restartItem it damaged fromSource).DictOk := by
  unfold State.restartItem
  extract_lets t2 _ f1 t3
  have ht2 : t2.DictOk := h.cancelWait
  have hf1 : ∀ u0, u0.DictOk → State.DictOk (f1 u0) := fun _ h3 => State.DictOk.fetch (by split; exacts [h3.dropChain, h3])
  have ht3 : t3.DictOk := by
    dsimp only [t3]
    split
    · exact ht2.dropChain
    · exact ht2
  split
  · exact hf1 _ ht2
  · split
    · split
      · exact ht3.arrive
      · exact ht3.putItem
    · exact ht2.putItem

theorem State.DictOk.retryItem {s : State} {it : Item} {damaged fromSource : Bool} (h : s.DictOk) :
    (s.retryItem it damaged fromSource).DictOk := dictOk_ite h.failItem h.bump.restartItem

theorem State.DictOk.attemptDone {s : State} {it : Item} (h : s.DictOk) : (s.attemptDone it).DictOk := h.engineEvent.engineEvent

theorem State.DictOk.countLimit {s : State} {code : Nat} (h : s.DictOk) : (s.countLimit code).DictOk :=
  dictOk_ite h.bump (dictOk_ite h.bump h)

theorem decompressComplete_dictOk {entry : Nat} {s : State} (h : s.DictOk) : (decompressComplete entry s).DictOk := by
  unfold decompressComplete
  refine h.onItem fun _ => ?_
  split
  · exact h
  · extract_lets _ _ _ _ t2
    have ht2 : t2.DictOk := h.attemptDone.engineEvent
    split
    · exact ht2.countLimit.failItem
    · exact ht2.count.engineEvent.output

theorem State.DictOk.decodeDone {s : State} {it : Item} (h : s.DictOk) : (s.decodeDone it).DictOk := by
  unfold State.decodeDone
  extract_lets _ _ t2 _ t3
  have ht2 : t2.DictOk := h.attemptDone
  have ht3 : t3.DictOk := ht2.set _ _
  split
  · exact ht2.countLimit.failItem
  · exact (dictOk_ite (dictOk_ite ht3 ht3.engineEvent).bump (dictOk_ite ht3 ht3.engineEvent)).output

theorem decodeComplete_dictOk {entry : Nat} {s : State} (h : s.DictOk) : (decodeComplete entry s).DictOk :=
  h.onItem (fun _ => dictOk_ite h.decodeDone h)

theorem slowLaneDecodeComplete_dictOk {entry : Nat} {s : State} (h : s.DictOk) : (slowLaneDecodeComplete entry s).DictOk :=
  h.onItem (fun _ => dictOk_ite h.bump.bump.count.decodeDone h)

theorem workLimitExceeded_dictOk {entry : Nat} {s : State} (h : s.DictOk) : (workLimitExceeded entry s).DictOk :=
  h.onItem (fun _ => dictOk_ite h.decodeDone h)

theorem decodeBudgetExpired_dictOk {entry : Nat} {s : State} (h : s.DictOk) : (decodeBudgetExpired entry s).DictOk :=
  h.onItem (fun _ => dictOk_ite (dictOk_ite h.engineEvent.bump.bump.putItem.failItem h.engineEvent.bump.bump.putItem) h)

theorem State.DictOk.annotate {s : State} {slot sample : Nat} {f : Annotation → Annotation} (h : s.DictOk) :
    (s.annotate slot sample f).DictOk := dictOk_ite h h.modSlot

theorem State.DictOk.leaveDecode {s : State} {it : Item} (h : s.DictOk) : (s.leaveDecode it).DictOk :=
  dictOk_ite (dictOk_ite h.bump.bump.count (dictOk_ite h.bump.bump.count h.bump.bump)).annotate.startFill (dictOk_ite h.bump.bump.count
    (dictOk_ite h.bump.bump.count h.bump.bump)).annotate

theorem State.DictOk.inputCorrupt {s : State} {it : Item} {check : Nat} (h : s.DictOk) : (s.inputCorrupt it check).DictOk :=
  dictOk_ite h.bump.raiseFault.retryItem h.bump.raiseFault.failItem

theorem transformComplete_dictOk {entry check : Nat} {s : State} (h : s.DictOk) : (transformComplete entry check s).DictOk := by
  unfold transformComplete
  refine h.onItem fun _ => ?_
  split
  · exact h
  · split
    · exact h
    · split
      · exact h.inputCorrupt
      · extract_lets _ _ t2
        have ht2 : t2.DictOk := h.attemptDone
        split
        · split
          · exact ht2.failItem
          · exact (dictOk_ite ht2.count.count.count.engineEvent.bump ht2.count.count.count.engineEvent).count.output
        · split
          · exact ht2.failItem
          · exact ht2.count.count.output

theorem State.DictOk.leaveTransform {s : State} {it : Item} (h : s.DictOk) : (s.leaveTransform it).DictOk := h.bump

theorem tokenizeComplete_dictOk {entry : Nat} {s : State} (h : s.DictOk) : (tokenizeComplete entry s).DictOk := by
  unfold tokenizeComplete
  refine h.onItem fun _ => ?_
  split
  · exact h
  · extract_lets _ _ t2
    have ht2 : t2.DictOk := h.attemptDone
    split
    · exact ht2.failItem
    · extract_lets _ t3 t4 t5 t6 t7 t8
      have ht3 : t3.DictOk := ht2.engineEvent.count
      have ht4 : t4.DictOk := ht3.count.count
      have ht5 : t5.DictOk := ht4.annotate
      have ht6 : t6.DictOk := ht5.bump.bump.count
      have ht7 : t7.DictOk := ht6.count
      have ht8 : t8.DictOk := dictOk_ite ht7.bump.bump ht7
      exact dictOk_ite ht5.failItem ht8.output

/-! ## Censuses -/

theorem State.DictOk.readContribution {s : State} {c : Contribution} (h : s.DictOk) : (s.readContribution c).DictOk :=
  dictOk_foldl (fun _ _ ht => ht.peerRead) h

theorem State.DictOk.showCensus {s : State} {slot : Nat} {c : Census} (h : s.DictOk) : (s.showCensus slot c).DictOk :=
  dictOk_ite (h.set _ _) (h.set _ _).setAll

theorem State.DictOk.revokeCensus {s : State} {slot epoch : Nat} (h : s.DictOk) : (s.revokeCensus slot epoch).DictOk := h.revoke

theorem State.DictOk.sendFull {s : State} {slot uid : Nat} {c : Census} (h : s.DictOk) : (s.sendFull slot c uid).DictOk := h.peerSend

theorem State.DictOk.askCensus {s : State} {slot epoch : Nat} (h : s.DictOk) : (s.askCensus slot epoch).DictOk :=
  dictOk_ite h (dictOk_foldl (fun _ _ ht => ht.peerSend) h.putCensus.showCensus)

theorem State.DictOk.finishCensus {s : State} {slot : Nat} {c : Census} {text dir : List CensusRec} (h : s.DictOk) :
    (s.finishCensus slot c text dir).DictOk := by
  unfold State.finishCensus
  refine dictOk_ite h.askCensus (State.DictOk.heapOrAbort (State.DictOk.showCensus (dictOk_foldl (fun _ _ ht => ht.sendFull)
    (State.DictOk.modSlot (State.DictOk.putCensus ?_)))))
  split
  next r t ht => exact h.register ht
  · exact h

theorem State.DictOk.buildCensus {s : State} {slot epoch build : Nat} {dirOnly : Option (List CensusRec)} (h : s.DictOk) :
    (s.buildCensus slot epoch build dirOnly).DictOk := by
  unfold State.buildCensus
  extract_lets _ _ _ _ _ _ t2 _ _ _ t3
  have ht2 : t2.DictOk := h.revokeCensus
  have ht3 : t3.DictOk := ht2.putCensus.showCensus
  split
  · exact ht3.finishCensus
  · split
    · next t ht => exact dictOk_foldl (fun _ _ h5 => h5.peerSend) (ht3.register ht)
    · exact ht3

theorem State.DictOk.startCensus {s : State} {slot epoch : Nat} (h : s.DictOk) : (s.startCensus slot epoch).DictOk :=
  dictOk_ite h (dictOk_foldl (fun _ _ ht => ht.revokeCensus) h).modSlot.buildCensus

theorem State.DictOk.restartCensus {s : State} {slot skip : Nat} {c : Census} (h : s.DictOk) : (s.restartCensus slot c skip).DictOk :=
  dictOk_ite h.putCensus.showCensus.raiseAbort h.countW.buildCensus

theorem State.DictOk.mergeCensus {s : State} {slot : Nat} {c : Census} (h : s.DictOk) : (s.mergeCensus slot c).DictOk :=
  dictOk_ite h (dictOk_ite h.finishCensus h.restartCensus)

theorem State.DictOk.ignoreMessage {s : State} (h : s.DictOk) : s.ignoreMessage.DictOk := h.bump

theorem censusOfferReceived_dictOk {uid : Nat} {b : Bytes} {s : State} (h : s.DictOk) : (censusOfferReceived uid b s).DictOk := by
  unfold censusOfferReceived
  split
  · exact h.ignoreMessage
  · split
    · exact h.ignoreMessage
    · extract_lets _ t2
      have ht2 : t2.DictOk := dictOk_ite h.buildCensus (dictOk_ite h.restartCensus h)
      split
      · exact h
      · split
        · exact dictOk_ite ht2 ht2.putCensus.readContribution
        · exact ht2

theorem censusContributionReadComplete_dictOk {slot epoch uid : Nat} {data : Option Bytes} {s : State} (h : s.DictOk) :
    (censusContributionReadComplete slot epoch uid data s).DictOk := by
  unfold censusContributionReadComplete
  split
  · exact h
  · split
    · exact h
    · split
      · exact h
      · split
        · exact h.readContribution
        · split
          · exact dictOk_ite h.restartCensus h.putCensus.mergeCensus
          · exact h.restartCensus

theorem censusTimeout_dictOk {slot epoch : Nat} {s : State} (h : s.DictOk) : (censusTimeout slot epoch s).DictOk := by
  unfold censusTimeout
  split
  · exact h
  · exact dictOk_ite h.restartCensus h

theorem censusRequestReceived_dictOk {uid : Nat} {b : Bytes} {s : State} (h : s.DictOk) : (censusRequestReceived uid b s).DictOk := by
  unfold censusRequestReceived
  split
  · exact h.ignoreMessage
  · split
    · exact h.ignoreMessage
    · exact dictOk_ite h.sendFull (dictOk_ite h.putCensus h)

theorem censusFullReceived_dictOk {uid : Nat} {b : Bytes} {s : State} (h : s.DictOk) : (censusFullReceived uid b s).DictOk := by
  unfold censusFullReceived
  split
  · exact h.ignoreMessage
  · split
    · exact h.ignoreMessage
    · exact dictOk_ite h (dictOk_ite h.putCensus.readContribution h.putCensus)

theorem censusFullReadComplete_dictOk {slot epoch : Nat} {data : Option Bytes} {s : State} (h : s.DictOk) :
    (censusFullReadComplete slot epoch data s).DictOk := by
  unfold censusFullReadComplete
  split
  · exact h
  · split
    · exact h
    · refine dictOk_ite h ?_
      split
      · exact h.finishCensus
      · exact h.putCensus.readContribution

/-! ## Assembly -/

theorem State.DictOk.sendRelease {s : State} {uid ref : Nat} (h : s.DictOk) : (s.sendRelease uid ref).DictOk := h.peerSend

theorem State.DictOk.sendPrepare {s : State} {uid ref : Nat} {talon : Option (Nat × Nat)} (h : s.DictOk) :
    (s.sendPrepare uid ref talon).DictOk := h.peerSend

theorem State.DictOk.offerTo {s t : State} {it : Item} {uid : Nat} {e : Export} (h : s.DictOk)
    (ht : s.offerTo it uid = some (e, t)) : t.DictOk := by
  unfold State.offerTo at ht
  dsimp only at ht
  split at ht
  · cases ht
    exact h
  · split at ht
    · cases ht
      exact h.peerSend
    · split at ht
      next r u hu =>
        cases ht
        exact (h.register hu).peerSend
      · cases ht

theorem offerAll_dictOk {s : State} {l : List Nat} {it : Item} (h : s.DictOk) : (offerAll l it s).DictOk := by
  induction l generalizing s it with
  | nil => exact h.putItem
  | cons uid l ih =>
    unfold offerAll
    split
    next e t ht => exact ih (h.offerTo ht)
    · exact h.putItem

theorem State.DictOk.offer {s : State} {it : Item} (h : s.DictOk) : (s.offer it).DictOk := by
  unfold State.offer
  split
  · exact h
  · split
    · exact h.endOwner
    · split
      · exact offerAll_dictOk h
      · split
        · exact h
        · exact h.endHere
        · exact dictOk_ite h.endHere (dictOk_ite h.endOwner (offerAll_dictOk h))

theorem State.DictOk.releaseExport {s : State} {it : Item} {uid : Nat} (h : s.DictOk) : (s.releaseExport it uid).DictOk :=
  dictOk_ite (dictOk_foldl (fun _ _ ht => dictOk_ite ht ht.revokeKey) h).endOwner (dictOk_foldl (fun _ _ ht => dictOk_ite ht
    ht.revokeKey) h).putItem

theorem State.DictOk.stopLate {s : State} {it : Item} {uid : Nat} (h : s.DictOk) : (s.stopLate it uid).DictOk :=
  dictOk_ite h.putItem (dictOk_ite h.putItem h.endOwner)

theorem State.DictOk.released' {s : State} {uid ref : Nat} (h : s.DictOk) : (s.released' uid ref).DictOk := by
  unfold State.released'
  split
  · exact h.releaseExport
  · split
    · exact dictOk_ite h.endOwner h.stopLate
    · exact h

theorem State.DictOk.prepare {s : State} {slot epoch position asker : Nat} {talon : Option (Nat × Nat)} (h : s.DictOk) :
    (s.prepare slot epoch position talon asker).DictOk := h.addItem.lookUp

theorem State.DictOk.ignoreReady {s : State} {uid ref : Nat} (h : s.DictOk) : (s.ignoreReady uid ref).DictOk :=
  h.ignoreMessage.sendRelease

theorem peerReady_dictOk {uid : Nat} {b : Bytes} {s : State} (h : s.DictOk) : (peerReady uid b s).DictOk := by
  unfold peerReady
  split
  · exact h.ignoreMessage
  · extract_lets
    split
    · exact h.same rfl rfl
    · exact h.ignoreReady

theorem peerPrepare_dictOk {uid : Nat} {b : Bytes} {s : State} (h : s.DictOk) : (peerPrepare uid b s).DictOk := by
  unfold peerPrepare
  split
  · exact h.ignoreMessage
  · extract_lets _ _ t2
    have ht2 : t2.DictOk := dictOk_foldl (fun _ _ ht => ht.endOwner) h
    split
    · split
      · extract_lets t3 t4
        have ht3 : t3.DictOk := dictOk_foldl (fun _ _ h3 => dictOk_ite h3.revokeKey h3) ht2
        have ht4 : t4.DictOk := ht3.releaseItem
        exact dictOk_ite ht3.putItem.prepare (dictOk_ite ht4.putItem.fetch ht3)
      · exact ht2.prepare
    · exact dictOk_ite h.ignoreMessage h.prepare

theorem peerRelease_dictOk {uid : Nat} {b : Bytes} {s : State} (h : s.DictOk) : (peerRelease uid b s).DictOk :=
  dictOk_ite h.ignoreMessage h.released'

theorem batchStart_dictOk {slot stream : Nat} {classes : List Nat} {s : State} (h : s.DictOk) :
    (batchStart slot stream classes s).DictOk := by
  unfold batchStart
  split
  · split
    · exact h
    · extract_lets _ _ _ _ _ _ _ _ _ _ _ t2
      have ht2 : t2.DictOk := h.same rfl rfl
      exact dictOk_ite h ht2.count
  · exact h

theorem State.DictOk.mask {s : State} {f : Fill} {ending : Nat} (h : s.DictOk) : (s.mask f ending).DictOk := h.putFill.bump

theorem State.DictOk.needFill {s : State} {f : Fill} {code : Nat} {timing : Bool} (h : s.DictOk) :
    (s.needFill f code timing).DictOk := dictOk_ite h.putFill (dictOk_ite h.mask h.putFill)

theorem State.DictOk.place {s : State} {f : Fill} {data : Bytes} {valid : Nat} (h : s.DictOk) : (s.place f data valid).DictOk :=
  (dictOk_ite h.bump h).putFill

theorem State.DictOk.tryFailed {s : State} {f : Fill} {corrupt : Bool} (h : s.DictOk) : (s.tryFailed f corrupt).DictOk := h.bump.putFill

theorem State.DictOk.search {s : State} {f : Fill} (h : s.DictOk) : (s.search f).DictOk := by
  unfold State.search
  extract_lets _ f1
  have hf1 : ∀ a0 a1 u2, u2.DictOk → State.DictOk (f1 a0 a1 u2) := fun _ _ _ ht => ht.count.count
  split
  · exact h
  · split
    · exact h.mask
    · split
      · exact (hf1 _ _ _ h).mask
      · exact dictOk_ite (hf1 _ _ _ h).putFill.prepare (hf1 _ _ _ h).putFill.sendPrepare

theorem State.DictOk.takeLocal {s : State} {f : Fill} {it : Item} (h : s.DictOk) : (s.takeLocal f it).DictOk :=
  (dictOk_ite (dictOk_ite h.tryFailed h.needFill) h.place).releaseExport

theorem State.DictOk.takeOffer {s : State} {f : Fill} {o : Offer} (h : s.DictOk) : (s.takeOffer f o).DictOk := by
  unfold State.takeOffer
  extract_lets t2
  have ht2 : t2.DictOk := h.same rfl rfl
  exact dictOk_ite (dictOk_ite ht2.tryFailed ht2.needFill).sendRelease ht2.putFill.peerRead

theorem State.DictOk.serveFill {s : State} {f : Fill} (h : s.DictOk) : (s.serveFill f).DictOk := by
  unfold State.serveFill
  extract_lets
  split
  · exact h.search
  · split
    · exact h
    · split
      · exact h.takeLocal
      · split
        · exact h.takeOffer
        · exact h

theorem State.DictOk.serveFills {s : State} (h : s.DictOk) : s.serveFills.DictOk := by
  unfold State.serveFills
  refine dictOk_foldl (fun _ _ ht => ?_) h
  split
  · exact ht.serveFill
  · exact ht

theorem State.DictOk.sweepOffers {s : State} (h : s.DictOk) : s.sweepOffers.DictOk := by
  unfold State.sweepOffers
  extract_lets _ _ t2 t3
  have ht2 : t2.DictOk := h.same rfl rfl
  have ht3 : t3.DictOk := dictOk_foldl (fun _ _ h3 => h3.ignoreReady) ht2
  exact dictOk_foldl (fun _ _ h4 => h4.releaseExport) ht3

theorem preparedReadComplete_dictOk {uid ref valid : Nat} {data : Bytes} {s : State} (h : s.DictOk) :
    (preparedReadComplete uid ref data valid s).DictOk := by
  unfold preparedReadComplete
  split
  · exact h
  · split
    · exact h
    · split
      · exact h
      · exact dictOk_ite h.place.sendRelease (dictOk_ite h.bump.putFill.peerRead (dictOk_ite h.bump.putFill.sendPrepare (dictOk_ite
          h.bump.raiseFault.sendRelease.tryFailed h.bump.raiseFault.sendRelease.needFill)))

theorem State.DictOk.trackLate {s : State} (h : s.DictOk) : s.trackLate.DictOk := h.same rfl rfl

theorem lateDeclaration_dictOk {slot stream position : Nat} {s : State} (h : s.DictOk) :
    (lateDeclaration slot stream position s).DictOk := by
  unfold lateDeclaration
  split
  · exact h
  · split
    · exact h
    · exact dictOk_ite h (dictOk_ite h.bump (dictOk_ite (dictOk_ite h.bump.released' h.bump.sendRelease).tryFailed (dictOk_ite
        h.bump.released' h.bump.sendRelease).needFill))

/-! ## Delivery -/

theorem State.DictOk.putBatch {s : State} {b : Batch} (h : s.DictOk) : (s.putBatch b).DictOk := h.same rfl rfl

theorem State.DictOk.startBuilds {s : State} (h : s.DictOk) : s.startBuilds.DictOk :=
  dictOk_foldl (fun _ _ ht => ht.putBatch.requestBuffers) h

theorem State.DictOk.finishBuild {s : State} {b : Batch} {buffers : List Nat} (h : s.DictOk) : (s.finishBuild b buffers).DictOk :=
  h.putBatch.bump

theorem State.DictOk.endDelivered {s : State} {b : Batch} (h : s.DictOk) : (s.endDelivered b).DictOk := by
  unfold State.endDelivered
  refine dictOk_foldl (fun _ _ ht => ?_) h
  split
  · exact ht
  · exact dictOk_ite ht (dictOk_ite (dictOk_ite ht.endFill ht.endFill) ht.endFill)

theorem State.DictOk.showNext {s : State} {slot : Nat} (h : s.DictOk) : (s.showNext slot).DictOk := by
  unfold State.showNext
  split
  · exact h
  · exact h.set _ _

theorem State.DictOk.followNext {s : State} {slot : Nat} (h : s.DictOk) : (s.followNext slot).DictOk :=
  dictOk_ite h.showNext (h.showNext.modSlot.set _ _)

theorem State.DictOk.leaveShoe {s : State} {b : Batch} (h : s.DictOk) : (s.leaveShoe b).DictOk := by
  unfold State.leaveShoe
  extract_lets t2 t3 t4 t5
  have ht2 : t2.DictOk := h.bump.set _ _
  have ht3 : t3.DictOk := ht2.endDelivered
  have ht4 : t4.DictOk := ht3.same rfl rfl
  have ht5 : t5.DictOk := ht4.dropBatch.followNext
  split
  · exact ht5.raiseAbort
  · exact ht5

theorem State.DictOk.putCredit {s : State} {c : Credit} (h : s.DictOk) : (s.putCredit c).DictOk := h.same rfl rfl

theorem State.DictOk.pushSlice {s : State} {b : Batch} {i : Nat} (h : s.DictOk) : (s.pushSlice b i).DictOk := by
  unfold State.pushSlice
  extract_lets
  split
  · exact h
  · split
    · exact h
    · extract_lets
      split
      · exact dictOk_ite h (dictOk_ite h h.postOn).postOn.putCredit.putBatch
      · exact h

theorem State.DictOk.deliverReady {s : State} (h : s.DictOk) : s.deliverReady.DictOk :=
  dictOk_foldl (fun _ _ ht => dictOk_ite ht (dictOk_ite (dictOk_foldl (fun _ _ h3 => h3.pushSlice) ht) (dictOk_ite ht.putBatch ht))) h

theorem State.DictOk.raiseWithheld {s : State} (h : s.DictOk) : s.raiseWithheld.DictOk := by
  unfold State.raiseWithheld
  refine dictOk_foldl (fun _ _ ht => ?_) h
  split
  · exact ht.putBatch.raiseAbort
  · exact ht

theorem pushSliceAcknowledged_dictOk {slot stream epoch index slice : Nat} {s : State} (h : s.DictOk) :
    (pushSliceAcknowledged slot stream epoch index slice s).DictOk := by
  unfold pushSliceAcknowledged
  split
  · exact h
  · split
    · exact h
    · exact dictOk_ite h (dictOk_ite h.putBatch.leaveShoe h.putBatch)

theorem creditReturn_dictOk {slot consumer imm : Nat} {sealed_ : Bool} {s : State} (h : s.DictOk) :
    (creditReturn slot consumer imm sealed_ s).DictOk := dictOk_ite h (dictOk_ite h (dictOk_ite h.bump (dictOk_ite h.bump h).putCredit))

theorem pullRelease_dictOk {slot consumer imm : Nat} {sealed_ : Bool} {s : State} (h : s.DictOk) :
    (pullRelease slot consumer imm sealed_ s).DictOk := by
  unfold pullRelease
  extract_lets
  split
  · exact h
  · split
    · exact h
    · split
      · exact h.bump
      · split
        · exact h.bump
        · split
          · exact h
          · exact dictOk_ite h.bump (dictOk_ite h.putBatch.leaveShoe h.putBatch)

theorem consumerStall_dictOk {slot stream consumer : Nat} {s : State} (h : s.DictOk) :
    (consumerStall slot stream consumer s).DictOk := by
  unfold consumerStall
  split
  · exact h
  · split
    · exact h
    · extract_lets _ t2
      have ht2 : t2.DictOk := h.bump.postShoe
      exact ht2.same rfl rfl

theorem State.DictOk.alarm {s : State} {x : Shoe} (h : s.DictOk) : (s.alarm x).DictOk := by
  unfold State.alarm
  split
  · exact h
  · extract_lets _ _ _ _ t2 t3 t4
    have ht2 : t2.DictOk := (h.set _ _).bump
    have ht3 : t3.DictOk := ht2.postShoe
    have ht4 : t4.DictOk := h.set _ _
    split
    · split
      · exact ht3.same rfl rfl
      · exact ht2
    · exact dictOk_ite (dictOk_ite ht4.postShoe ht4) h

theorem State.DictOk.alarms {s : State} (h : s.DictOk) : s.alarms.DictOk := dictOk_foldl (fun _ _ ht => ht.alarm) h

/-! ## Issue -/

theorem State.DictOk.issueItem {s : State} {slot epoch position x : Nat} (h : s.DictOk) :
    (s.issueItem slot epoch position x).DictOk := h.addItem.event.lookUp

theorem State.DictOk.endEpoch {s : State} {slot epoch : Nat} (h : s.DictOk) : (s.endEpoch slot epoch).DictOk :=
  dictOk_ite (h.set _ _).modSlot h.modSlot.enterState

theorem issueScan_dictOk {s : State} {fuel slot : Nat} (h : s.DictOk) : (issueScan fuel slot s).DictOk := by
  induction fuel generalizing s with
  | zero => exact h
  | succ fuel ih =>
    unfold issueScan
    have counted := (dictOk_ite (p := (s.slot slot).nextPosition = 0)
      (h.startCensus (slot := slot) (epoch := s.get (inst Obj.currentEpoch slot) + 1)) h).bump (k := Obj.riffleEvaluations)
    exact dictOk_ite h.modSlot (dictOk_ite h (dictOk_ite (ih h.endEpoch)
      (dictOk_ite counted.count.event.modSlot.issueItem (ih counted.count.event.modSlot))))

theorem itemIssue_dictOk {slot : Nat} {s : State} (h : s.DictOk) : (itemIssue slot s).DictOk := dictOk_ite (issueScan_dictOk h) h

theorem State.DictOk.issueFirst {s : State} {slot : Nat} (h : s.DictOk) : (s.issueFirst slot).DictOk :=
  dictOk_foldl (fun _ _ ht => itemIssue_dictOk ht) h

theorem State.DictOk.dropUnissued {s : State} {slot : Nat} (h : s.DictOk) : (s.dropUnissued slot).DictOk := by
  unfold State.dropUnissued
  refine dictOk_foldl (fun _ _ ht => ?_) (dictOk_foldl (fun _ _ ht => dictOk_foldl (fun _ _ hu => ?_) ht.cancelWait.dropBatch) h)
  · split
    · exact dictOk_ite ht.endHere ht
    · exact ht
  · split
    · exact dictOk_ite hu hu.endFill
    · exact hu

theorem State.DictOk.drain {s : State} {slot : Nat} (h : s.DictOk) : (s.drain slot).DictOk := by
  unfold State.drain
  split
  · exact h
  · extract_lets t2 t3 t4
    have ht2 : t2.DictOk := dictOk_ite h.dropUnissued h
    have ht3 : t3.DictOk := dictOk_foldl (fun _ _ h3 => h3.revokeSlot) ht2
    have ht4 : t4.DictOk := ht3.same rfl rfl
    exact dictOk_ite ht4.enterState ht2

/-! ## Curation -/

theorem State.DictOk.appendLog {s t : State} {slot : Nat} {r : Bytes} (h : s.DictOk) (ht : s.appendLog slot r = some t) : t.DictOk := by
  unfold State.appendLog at ht
  split at ht
  · exact Option.some.inj ht ▸ h
  · extract_lets size head n room pad ring ring2 u at ht
    clear_value ring2
    split at ht
    · cases ht
    · obtain rfl := Option.some.inj ht
      exact State.DictOk.set (h.same rfl rfl) _ _

theorem State.DictOk.logResult {s : State} {it : Item} {r : Bytes} {text : Option Bytes} (h : s.DictOk) :
    (s.logResult it r text).DictOk := by
  unfold State.logResult
  dsimp only
  split
  · exact h
  next st _ =>
    split
    · exact h.putItem
    next t ht =>
      have ht : t.DictOk := by
        split at ht
        · exact h.appendLog ht
        · exact Option.some.inj ht ▸ h
      split
      · exact ht.bump.output
      · exact ht.bump.putItem.goOn

theorem curationLogRelease_dictOk {slot value : Nat} {s : State} (h : s.DictOk) : (curationLogRelease slot value s).DictOk := by
  unfold curationLogRelease
  extract_lets _ t2
  have ht2 : t2.DictOk := h.accept
  split
  · exact h.refused
  · refine eachItem_dictOk ht2 fun _ _ h3 => ?_
    split
    · exact h3.logResult
    · exact h3

theorem State.DictOk.countPass {s : State} {slot phase rows : Nat} {img : Bytes} (h : s.DictOk) :
    (s.countPass slot img phase rows).DictOk := dictOk_ite h.count.event.count h.count.event

theorem State.DictOk.scored {s : State} {it : Item} {st : StageRec} {img : Bytes} {row : List F32} (h : s.DictOk) :
    (s.scored it st img row).DictOk := dictOk_ite h.failItem h.bump.logResult

theorem State.DictOk.putGeneration {s : State} {g : Generation} (h : s.DictOk) : (s.putGeneration g).DictOk := h.same rfl rfl

theorem State.DictOk.endGeneration {s : State} {it : Item} {st : StageRec} {g : Generation} {cause : Nat} (h : s.DictOk) :
    (s.endGeneration it st g cause).DictOk := by
  unfold State.endGeneration
  split
  · extract_lets _ t2 t3 t4 _ t5
    have ht2 : t2.DictOk := h.count.count.count
    have ht3 : t3.DictOk := dictOk_ite ht2.bump (dictOk_ite ht2.bump ht2)
    have ht4 : t4.DictOk := ht3.same rfl rfl
    have ht5 : t5.DictOk := ht4.bump
    exact dictOk_ite (dictOk_ite ht5.failItem ht5.logResult) ht5.logResult

theorem State.DictOk.turn {s : State} {it : Item} {st : StageRec} {g : Generation} (h : s.DictOk) : (s.turn it st g).DictOk := by
  unfold State.turn
  extract_lets j p control set vocab bans forced abandon t2 g2 method u chosen
  have ht2 : t2.DictOk := dictOk_ite h.bump h
  clear_value t2 chosen
  refine dictOk_ite h.endGeneration (dictOk_ite ht2.endGeneration ?_)
  split
  · exact State.DictOk.failItem (ht2.same rfl rfl)
  · have ht3 := ht2.bump (k := Obj.generationSteps)
    have counted := dictOk_ite (p := forced.isSome = true) (ht3.bump (k := Obj.forcedTokens))
      (dictOk_ite (p := ((List.range g2.logits.length).any fun x => bans x) = true) (ht3.bump (k := Obj.maskedSteps)) ht3)
    exact dictOk_ite (dictOk_ite counted counted.bump.count.count).endGeneration
      (dictOk_ite (dictOk_ite counted counted.bump.count.count).endGeneration
        (dictOk_ite counted counted.bump.count.count).putGeneration)

theorem State.DictOk.prefill {s : State} {it : Item} (h : s.DictOk) : (s.prefill it).DictOk := by
  unfold State.prefill
  split
  · exact h
  · extract_lets
    split
    · exact h
    · split
      · exact h.failItem
      · split
        · exact h.failItem
        · extract_lets t2
          have ht2 : t2.DictOk := h.countPass
          split
          · exact ht2.failItem
          · exact dictOk_ite ht2.scored ht2.turn

theorem State.DictOk.stepPass {s : State} {it : Item} (h : s.DictOk) : (s.stepPass it).DictOk := by
  unfold State.stepPass
  split
  · extract_lets _ _ t2
    have ht2 : t2.DictOk := h.countPass
    split
    · exact State.DictOk.failItem (ht2.same rfl rfl)
    · exact ht2.turn
  · exact h

theorem passComplete_dictOk {f : State → Item → State} {entries : List Nat} {s : State} (h : s.DictOk) (hf : ∀ t0 a1, t0.DictOk → (f t0
    a1).DictOk) :
    (passComplete f entries s).DictOk := by
  unfold passComplete
  split
  · extract_lets t2 t3
    have ht2 : t2.DictOk := h.bump
    have ht3 : t3.DictOk := ht2.same rfl rfl
    exact eachItem_dictOk ht3 hf
  · exact h

theorem prefillPassComplete_dictOk {entries : List Nat} {s : State} (h : s.DictOk) : (prefillPassComplete entries s).DictOk :=
  passComplete_dictOk h (fun _ _ ht => ht.prefill)

theorem stepPassComplete_dictOk {entries : List Nat} {s : State} (h : s.DictOk) : (stepPassComplete entries s).DictOk :=
  passComplete_dictOk h (fun _ _ ht => ht.stepPass)

/-! ## Elements -/

theorem State.DictOk.journalRepair {s : State} {entry : Nat} (h : s.DictOk) : (s.journalRepair entry).DictOk := by
  unfold State.journalRepair
  extract_lets t2
  have ht2 : t2.DictOk := h.countW
  split
  · exact ht2.same rfl rfl
  · exact ht2.countW

theorem State.DictOk.putElement {s : State} {e : Element} (h : s.DictOk) : (s.putElement e).DictOk := by
  unfold State.putElement
  split
  · exact h.same rfl rfl
  · exact h.same rfl rfl

theorem State.DictOk.retireElement {s : State} {kind num : Nat} (h : s.DictOk) : (s.retireElement kind num).2.DictOk := by
  unfold State.retireElement
  dsimp only
  split
  · exact h
  · split
    · exact h.putElement.journalRepair
    · split
      · exact dictOk_ite h.putElement.journalRepair h.putElement.journalRepair.putElement
      · exact dictOk_ite (h.putElement.journalRepair.set _ _) h.putElement.journalRepair

theorem State.DictOk.elementFault {s : State} {kind num : Nat} {permanent : Bool} (h : s.DictOk) :
    (s.elementFault kind num permanent).2.DictOk := by
  unfold State.elementFault
  dsimp only
  split
  · exact h.putElement.retireElement
  · exact h.putElement

theorem State.DictOk.lastElement {s : State} {kind num action : Nat} (h : s.DictOk) : (s.lastElement kind num action).DictOk :=
  dictOk_ite (dictOk_ite h (dictOk_foldl (fun _ _ ht => ht.failItem) h.raiseFault)) h

theorem State.DictOk.engineFault {s : State} {it : Item} {kind num : Nat} {permanent : Bool} (h : s.DictOk) :
    (s.engineFault it kind num permanent).DictOk := by
  unfold State.engineFault
  split
  · next t ht => exact (dictOk_ite (dictOk_of_eq h.elementFault ht).raiseFault.bump (dictOk_of_eq h.elementFault
      ht).raiseFault).retryItem.lastElement

theorem trestleOperatorFault_dictOk {entries : List Nat} {column permanent : Bool} {line : Nat} {s : State} (h : s.DictOk) :
    (trestleOperatorFault entries column line permanent s).DictOk := by
  unfold trestleOperatorFault
  dsimp only
  split
  · exact h
  · refine dictOk_ite h ?_
    generalize hu : List.foldl _ _ _ = u
    have hu : u.DictOk := hu ▸ dictOk_foldl (fun _ _ ht => ht.putItem) h.elementFault.raiseFault
    exact dictOk_ite (State.DictOk.bump (hu.bump.bump.same rfl rfl)) (hu.bump.bump.same rfl rfl)

theorem State.DictOk.nodeFault {s : State} {cause link : Nat} (h : s.DictOk) : (s.nodeFault cause link).DictOk :=
  dictOk_foldl (fun _ _ ht => dictOk_ite ht.abortSlot ht) (dictOk_foldl (fun _ _ ht => ht.raiseAbort) h.raiseFault)

theorem viaductLaneFailure_dictOk {tile link lane : Nat} {s : State} (h : s.DictOk) : (viaductLaneFailure tile link lane s).DictOk := by
  unfold viaductLaneFailure
  extract_lets _ _ t2 t3 t4
  have ht2 : t2.DictOk := h.raiseFault
  have ht3 : t3.DictOk := h.same rfl rfl
  have ht4 : t4.DictOk := ht3.raiseFault
  exact dictOk_ite ht2.nodeFault ht4.journalRepair

theorem State.DictOk.sramRecord {s : State} {tile address bank action : Nat} {it : Option Item} (h : s.DictOk) :
    (s.sramRecord tile address bank action it).DictOk := by
  unfold State.sramRecord
  extract_lets
  split
  · exact h.raiseFault
  · exact h.raiseFault

/-! ## Kernels -/

theorem State.DictOk.putKernel {s : State} {k : KernelRun} (h : s.DictOk) : (s.putKernel k).DictOk := h.same rfl rfl

theorem kernelItemStart_dictOk {s : State} (h : s.DictOk) : (kernelItemStart s).DictOk := by
  unfold kernelItemStart
  split
  · exact h
  · extract_lets _ _ t2
    have ht2 : t2.DictOk := by
      dsimp only [t2]
      split
      · exact h.count
      · exact h
    split
    · exact h
    · split
      · split
        · exact h.failItem
        · extract_lets _ _ t3
          have ht3 : t3.DictOk := ht2.putItem
          exact ht3.same rfl rfl

theorem State.DictOk.pierDone {s : State} {it : Item} {k : KernelRun} (h : s.DictOk) : (s.pierDone it k).DictOk := h.event

theorem State.DictOk.kernelFail {s : State} {it : Item} {k : KernelRun} {code : Nat} (h : s.DictOk) :
    (s.kernelFail it k code).DictOk := (dictOk_ite h.bump (dictOk_ite h.bump h)).bump.pierDone.failItem

theorem State.DictOk.leaveKernel {s : State} {it : Item} {k : KernelRun} (h : s.DictOk) : (s.leaveKernel it k).DictOk :=
  State.DictOk.goOn (State.DictOk.putItem (h.bump.bump.pierDone.same rfl rfl))

theorem State.DictOk.passKernel {s : State} {it : Item} {k : KernelRun} (h : s.DictOk) : (s.passKernel it k).DictOk :=
  (dictOk_foldl (fun _ _ ht => ht.dropTarget) h).leaveKernel

theorem State.DictOk.emitKernel {s : State} {it : Item} {k : KernelRun} {handle form valid : Nat} (h : s.DictOk) :
    (s.emitKernel it k handle form valid).DictOk := by
  unfold State.emitKernel
  extract_lets _ _ _ t2 t3
  have ht2 : t2.DictOk := dictOk_foldl (fun _ _ ht => ht.dropTarget) h
  have ht3 : t3.DictOk := by
    dsimp only [t3]
    split
    · exact ht2
    · split
      · exact ht2.dropChain
      · exact ht2
  split
  · split
    · exact h.kernelFail
    · exact dictOk_ite h.kernelFail (dictOk_ite h.kernelFail (dictOk_ite h.kernelFail (dictOk_ite h.kernelFail ht3.leaveKernel)))

theorem State.DictOk.endKernel {s : State} {it : Item} {k : KernelRun} {call : Nat} {args : List Nat} (h : s.DictOk) :
    (s.endKernel it k call args).DictOk := by
  unfold State.endKernel
  extract_lets
  split
  · split
    · exact h.emitKernel
    · exact h.passKernel
    · exact dictOk_ite h.kernelFail h.kernelFail
    · exact dictOk_ite h.kernelFail h.bump.pierDone.failItem

theorem State.DictOk.retired {s : State} {it : Item} {k : KernelRun} {n : Nat} (h : s.DictOk) : (s.retired it k n).DictOk := h.count.event

theorem State.DictOk.runKernel {s : State} {entry : Nat} {w : KernelStep} {f : Item → KernelRun → State → State} (h : s.DictOk) (hf : ∀
    a0 a1 t2, t2.DictOk → (f a0 a1 t2).DictOk) :
    (s.runKernel entry w f).DictOk := by
  unfold State.runKernel
  split
  · split
    · exact dictOk_ite h (dictOk_ite h.putKernel.retired.kernelFail (dictOk_ite h.putKernel.retired.kernelFail (hf _ _ _
        h.putKernel.retired)))
  · exact h

theorem State.DictOk.serviceCall {s : State} {entry call : Nat} {w : KernelStep} {f : Item → KernelRun → Bytes → State → State} (h :
    s.DictOk) (hf : ∀ a0 a1 a2 t3, t3.DictOk → (f a0 a1 a2 t3).DictOk) :
    (s.serviceCall entry call w f).DictOk := by
  unfold State.serviceCall
  split
  · exact h
  · refine h.runKernel fun _ _ _ ht => ?_
    split
    · exact dictOk_ite ht.kernelFail (hf _ _ _ _ ht.putKernel.retired)

theorem chainAlloc_dictOk {entry : Nat} {w : KernelStep} {s : State} (h : s.DictOk) : (chainAlloc entry w s).DictOk :=
  h.serviceCall (fun _ _ _ _ ht => dictOk_ite ht.kernelFail (dictOk_ite ht.kernelFail ht.putKernel.requestBuffers))

theorem State.DictOk.chainAllocated {s t : State} {it : Item} {got : List Nat} (h : s.DictOk)
    (ht : s.chainAllocated it got = some t) : t.DictOk := by
  unfold State.chainAllocated at ht
  split at ht
  · split at ht
    · obtain rfl := Option.some.inj ht
      exact h.putKernel.count
    · cases ht
  · cases ht

theorem chainLength_dictOk {entry : Nat} {w : KernelStep} {s : State} (h : s.DictOk) : (chainLength entry w s).DictOk := by
  unfold chainLength
  refine h.serviceCall fun _ _ _ _ ht => ?_
  split
  · exact ht.putKernel
  · exact ht.kernelFail

theorem kernelRefAdd_dictOk {entry : Nat} {w : KernelStep} {s : State} (h : s.DictOk) : (kernelRefAdd entry w s).DictOk := by
  refine h.serviceCall fun _ _ _ _ ht => ?_
  split
  · exact ht.kernelFail
  · dsimp only
    split
    · refine dictOk_ite ht.kernelFail (State.DictOk.putKernel ?_)
      split
      · exact ht.addChain
      · exact ht
    · exact ht.kernelFail

theorem kernelRefDrop_dictOk {entry : Nat} {w : KernelStep} {s : State} (h : s.DictOk) : (kernelRefDrop entry w s).DictOk := by
  unfold kernelRefDrop
  refine h.serviceCall fun _ _ _ _ ht => ?_
  extract_lets
  split
  · exact dictOk_ite ht.kernelFail ht.dropTarget.putKernel
  · exact ht.kernelFail

theorem dmaSubmit_dictOk {entry : Nat} {w : KernelStep} {s : State} (h : s.DictOk) : (dmaSubmit entry w s).DictOk := by
  unfold dmaSubmit
  extract_lets
  split
  · exact h
  · refine h.serviceCall fun _ _ _ _ ht => ?_
    split
    · exact ht.kernelFail
    · extract_lets
      split
      · exact ht.kernelFail
      · exact dictOk_ite ht.kernelFail (dictOk_ite ht.kernelFail (dictOk_ite ht.kernelFail ht.putKernel))

theorem dmaWait_dictOk {entry : Nat} {w : KernelStep} {s : State} (h : s.DictOk) : (dmaWait entry w s).DictOk :=
  h.serviceCall (fun _ _ _ _ ht => dictOk_ite ht.kernelFail (dictOk_ite ht.putKernel ht.putKernel))

theorem State.DictOk.dmaEnded {s : State} {it : Item} {k : KernelRun} (h : s.DictOk) : (s.dmaEnded it k).DictOk := by
  unfold State.dmaEnded
  split
  · exact dictOk_ite h.endKernel h.putKernel
  · split
    · exact dictOk_ite h.putKernel h.putKernel
    · exact h.putKernel

theorem dmaComplete_dictOk {entry tag : Nat} {s : State} (h : s.DictOk) : (dmaComplete entry tag s).DictOk := by
  unfold dmaComplete
  split
  · extract_lets
    split
    · exact h
    · exact dictOk_ite h (dictOk_ite h.count.dmaEnded h.count.dmaEnded)
  · exact h

theorem State.DictOk.restartKernel {s : State} {it : Item} {k : KernelRun} (h : s.DictOk) : (s.restartKernel it k).DictOk :=
  (dictOk_ite h.pierDone.stopKernel.bump h.pierDone.stopKernel.bump).retryItem

theorem dmaTimeout_dictOk {entry tag : Nat} {s : State} (h : s.DictOk) : (dmaTimeout entry tag s).DictOk := by
  unfold dmaTimeout
  split
  · exact dictOk_ite h.restartKernel h
  · exact h

theorem State.DictOk.pierFault {s : State} {it : Item} {k : KernelRun} {permanent : Bool} (h : s.DictOk) :
    (s.pierFault it k permanent).DictOk := by
  unfold State.pierFault
  split
  · next t ht => exact dictOk_ite (dictOk_foldl (fun _ _ h3 => h3.failItem) (dictOk_of_eq h.elementFault
      ht).raiseFault.restartKernel.raiseFault) (dictOk_of_eq h.elementFault ht).raiseFault.restartKernel

theorem rng_dictOk {entry : Nat} {w : KernelStep} {s : State} (h : s.DictOk) : (rng entry w s).DictOk :=
  dictOk_ite h (h.serviceCall (fun _ _ _ _ ht => dictOk_ite ht.kernelFail ht.putKernel))

theorem State.DictOk.endingCall {s : State} {entry call : Nat} {w : KernelStep} (h : s.DictOk) : (s.endingCall entry call w).DictOk :=
  h.serviceCall (fun _ _ _ _ ht => dictOk_ite ht.endKernel ht.putKernel)

theorem emit_dictOk {entry : Nat} {w : KernelStep} {s : State} (h : s.DictOk) : (emit entry w s).DictOk := h.endingCall

theorem pass_dictOk {entry : Nat} {w : KernelStep} {s : State} (h : s.DictOk) : (pass entry w s).DictOk := h.endingCall

theorem fail_dictOk {entry : Nat} {w : KernelStep} {s : State} (h : s.DictOk) : (fail entry w s).DictOk := h.endingCall

theorem reject_dictOk {entry : Nat} {w : KernelStep} {s : State} (h : s.DictOk) : (reject entry w s).DictOk := h.endingCall

theorem serviceUnknown_dictOk {entry : Nat} {w : KernelStep} {s : State} (h : s.DictOk) : (serviceUnknown entry w s).DictOk :=
  dictOk_ite h (h.serviceCall (fun _ _ _ _ ht => ht.kernelFail))

theorem kernelTrap_dictOk {entry code : Nat} {w : KernelStep} {s : State} (h : s.DictOk) : (kernelTrap entry w code s).DictOk :=
  h.runKernel (fun _ _ _ ht => dictOk_ite ht.kernelFail ht)

theorem kernelLimit_dictOk {entry : Nat} {w : KernelStep} {s : State} (h : s.DictOk) : (kernelLimit entry w s).DictOk := by
  unfold kernelLimit
  refine h.runKernel fun _ _ _ ht => ?_
  split
  · exact dictOk_ite ht.kernelFail ht

theorem noEnding_dictOk {entry : Nat} {w : KernelStep} {s : State} (h : s.DictOk) : (noEnding entry w s).DictOk :=
  dictOk_ite h (h.runKernel (fun _ _ _ ht => ht.kernelFail))

/-! ## What faults do -/

theorem itemEngineFault_dictOk {entry : Nat} {permanent : Bool} {s : State} (h : s.DictOk) :
    (itemEngineFault entry permanent s).DictOk := by
  unfold itemEngineFault
  split
  · split
    · exact h.pierFault
    · exact dictOk_ite h.engineFault h
    · exact h
  · exact h

theorem sramUncorrectable_dictOk {tile address bank : Nat} {entry : Option Nat} {damaged firmware : Bool} {s : State} (h : s.DictOk) :
    (sramUncorrectable tile address bank entry damaged firmware s).DictOk := by
  unfold sramUncorrectable
  split
  · exact h.sramRecord.nodeFault
  · split
    · split
      · exact h.sramRecord
      · extract_lets t2
        have ht2 : t2.DictOk := h.sramRecord
        split
        · exact ht2.restartKernel
        · exact ht2.retryItem
    · exact h.sramRecord

/-! ## Replay -/

theorem State.DictOk.afterPlan {s : State} {slot : Nat} (h : s.DictOk) : (s.afterPlan slot).DictOk := by
  unfold State.afterPlan
  split
  · exact h
  · extract_lets t2 t3 t4 t5 t6
    have ht2 : t2.DictOk := by
      dsimp only [t2]
      split
      · split
        · exact h.modSlot.issueFirst
        · exact h
      · exact h
    have ht3 : t3.DictOk := ht2.modSlot
    have ht4 : t4.DictOk := ht3.set _ _
    have ht5 : t5.DictOk := ht4.modSlot
    have ht6 : t6.DictOk := ht5.same rfl rfl
    split
    · split
      · exact ht2
      · exact dictOk_ite ht6.setStepState ht3
    · exact ht2

theorem State.DictOk.discardBatches {s : State} {slot epoch : Nat} {points : List Nat} (h : s.DictOk) :
    (s.discardBatches slot epoch points).DictOk :=
  dictOk_foldl (fun _ _ ht => dictOk_ite ht.endFill ht.dropFill) (dictOk_foldl (fun _ _ ht => ht.cancelWait.dropBatch) h)

theorem State.DictOk.offerAgain {s : State} {it : Item} (h : s.DictOk) : (s.offerAgain it).DictOk := by
  unfold State.offerAgain
  split
  · exact h
  · split
    · exact dictOk_ite h.endHere (dictOk_ite (dictOk_foldl (fun _ _ ht => dictOk_ite ht ht.revokeKey) h).endOwner (offerAll_dictOk
        (dictOk_foldl (fun _ _ ht => dictOk_ite ht ht.revokeKey) h)))
    · exact h

theorem State.DictOk.turnItems {s : State} {slot epoch : Nat} (h : s.DictOk) : (s.turnItems slot epoch).DictOk :=
  dictOk_foldl (fun _ _ ht => dictOk_ite (dictOk_ite ht.noteLast.endOwner ht.endHere) (dictOk_ite ht.endOwner ht.offerAgain)) h

theorem State.DictOk.turnFills {s : State} {slot : Nat} {old : Nat → Nat} (h : s.DictOk) : (s.turnFills slot old).DictOk :=
  dictOk_foldl (fun _ _ ht => dictOk_ite ht (dictOk_ite (dictOk_ite ht.putFill.prepare ht.putFill.sendPrepare) ht.putFill)) h

theorem State.DictOk.decideWithheld {s : State} {policy : Nat} {f : Fill} (h : s.DictOk) : (s.decideWithheld policy f).DictOk :=
  dictOk_ite h.putFill (dictOk_ite h.mask h.putFill)

theorem State.DictOk.liftWithheld {s : State} {slot policy : Nat} (h : s.DictOk) : (s.liftWithheld slot policy).DictOk :=
  dictOk_foldl (fun _ _ ht => ht.decideWithheld) (dictOk_foldl (fun _ _ ht => (dictOk_foldl (fun _ _ h3 => h3.refDrop)
    ht.cancelWait).putBatch) h)

theorem State.DictOk.takeForce {s : State} {slot epoch : Nat} {points : List Nat} (h : s.DictOk) :
    (s.takeForce slot epoch points).DictOk := (h.modSlot.countW.set _ _).syncConns

theorem State.DictOk.turnCensuses {s : State} {slot epoch : Nat} {changed : Bool} (h : s.DictOk) :
    (s.turnCensuses slot epoch changed).DictOk := by
  unfold State.turnCensuses
  extract_lets t2 t3 t4
  have ht2 : t2.DictOk := h.modSlot
  have ht3 : t3.DictOk := dictOk_foldl (fun _ _ h3 => dictOk_ite h3.restartCensus h3) ht2
  have ht4 : t4.DictOk := ht3.startCensus.startCensus
  split
  · split
    · exact ht4.buildCensus
    · exact dictOk_ite ht4.buildCensus ht4
  · exact ht4

theorem State.DictOk.restartShoes {s : State} {slot epoch : Nat} {points : List Nat} (h : s.DictOk) :
    (s.restartShoes slot epoch points).DictOk := h.same rfl rfl

theorem State.DictOk.restartIssue {s : State} {slot : Nat} {start : Option Nat} (h : s.DictOk) : (s.restartIssue slot start).DictOk :=
  h.modSlot.issueFirst

theorem State.DictOk.replay {s : State} {slot : Nat} (h : s.DictOk) : (s.replay slot).DictOk := by
  unfold State.replay
  extract_lets epoch points before reached drains old t2 t3 start t4 t5
  have ht4 : t4.DictOk := h.takeForce.modSlot.turnItems.discardBatches
  clear_value t4
  have ht5 : t5.DictOk := ht4.same rfl rfl
  clear_value t5
  exact ht5.turnCensuses.turnFills.liftWithheld.restartShoes.showNext.setStepState.restartIssue

theorem State.DictOk.refuseStep {s : State} {slot code : Nat} (h : s.DictOk) : (s.refuseStep slot code).DictOk := (h.set _ _).refused

theorem resume_dictOk {slot : Nat} {s : State} (h : s.DictOk) : (resume slot s).DictOk := by
  unfold resume
  split
  · exact h.setStepState.ok
  · exact h.refuseStep

theorem join_dictOk {slot : Nat} {s : State} (h : s.DictOk) : (join slot s).DictOk := by
  unfold join
  split
  · exact (h.set _ _).modSlot.setStepState.enterState.ok
  · exact h.refuseStep

theorem cancel_dictOk {slot : Nat} {s : State} (h : s.DictOk) : (cancel slot s).DictOk :=
  dictOk_ite h.refused (dictOk_ite h.unjoin.enterState.ok h.setStepState.ok)

theorem State.DictOk.setPending {s : State} {slot : Nat} {l : List Replacement} (h : s.DictOk) : (s.setPending slot l).DictOk :=
  h.modSlot.syncConns.ok

theorem State.DictOk.refuseMember {s : State} {slot code : Nat} (h : s.DictOk) : (s.refuseMember slot code).DictOk := (h.set _ _).refused

theorem replaceMember_dictOk {slot : Nat} {s : State} (h : s.DictOk) : (replaceMember slot s).DictOk :=
  dictOk_ite h.refuseMember (dictOk_ite h.refuseMember h.setPending)

theorem removeDomain_dictOk {slot : Nat} {s : State} (h : s.DictOk) : (removeDomain slot s).DictOk :=
  dictOk_ite h.refuseMember h.setPending

theorem memberClear_dictOk {slot : Nat} {s : State} (h : s.DictOk) : (memberClear slot s).DictOk := dictOk_ite h.refuseMember h.setPending

/-! ## The flow of items -/

theorem State.DictOk.passStage {s : State} {it : Item} (h : s.DictOk) : (s.passStage it).DictOk := by
  unfold State.passStage
  extract_lets _ _ t2
  have ht2 : t2.DictOk := h.leaveDecode
  split
  · exact h.putItem.goOn
  · split
    · exact h.goOn
    · split
      · exact dictOk_ite ht2.endOwner ht2.goOn
      · exact h.leaveTransform.goOn
      · exact h.leaveSource
      · exact h.goOn

theorem State.DictOk.landItem {s : State} {it : Item} {out : Bytes} {handles : List Nat} (h : s.DictOk) :
    (s.landItem it out handles).DictOk := by
  unfold State.landItem
  extract_lets t2 t3
  have ht2 : t2.DictOk := h.countWait
  have ht3 : t3.DictOk := by
    dsimp only [t3]
    split
    · exact ht2.dropChain
    · exact ht2
  exact ht3.putItem.passStage

theorem State.DictOk.granted {s : State} {w : BufferWait} (h : s.DictOk) : (s.granted w).DictOk := by
  unfold State.granted
  extract_lets f1
  have hf1 : ∀ u0, u0.DictOk → State.DictOk (f1 u0) := fun _ ht => dictOk_foldl (fun _ _ h3 => h3.refDrop) ht
  split
  · split
    · split
      · exact h.landItem
      · exact dictOk_getD (hf1 _ h) (fun _ => h.chainAllocated)
    · exact hf1 _ h
  · split
    · exact h
    · split
      · exact h.finishBuild
      · exact hf1 _ h

theorem State.DictOk.round {s : State} (h : s.DictOk) : s.round.DictOk := by
  unfold State.round
  split
  · next t ht => exact (dictOk_foldl (fun _ _ h3 => h3.onItem (fun _ => h3.offer)) (dictOk_foldl (fun _ _ h3 => h3.granted) (dictOk_of_eq
      h.serveBuffers ht)).dispatch).serveFills.sweepOffers.startBuilds

theorem rounds_dictOk {s : State} {n : Nat} (h : s.DictOk) : (rounds n s).DictOk := by
  induction n generalizing s with
  | zero => exact h
  | succ n ih => exact ih h.round

theorem State.DictOk.flow {s : State} (h : s.DictOk) : s.flow.DictOk :=
  dictOk_foldl (fun _ _ ht => ht.followNext) (dictOk_foldl (fun _ _ ht => ht.drain) (dictOk_foldl (fun _ _ ht => ht.afterPlan)
    (rounds_dictOk h).raiseWithheld.deliverReady.alarms.trackLate))

/-! ## The check of a manifest -/

theorem State.DictOk.takeHeap {s t : State} {slot : Nat} {j : Job} (h : s.DictOk) (ht : s.takeHeap slot j = some t) : t.DictOk := by
  suffices ∀ (l : List (HeapKind × Nat)) (acc : Option State), (∀ u, acc = some u → u.DictOk) →
      l.foldl (fun (acc : Option State) e => acc.bind fun (u : State) => u.heapTake slot e.1 e.2) acc = some t → t.DictOk from
    this _ _ (fun u hu => Option.some.inj hu ▸ h.heapFree) ht
  intro l
  induction l with
  | nil => exact fun acc hacc he => hacc t he
  | cons e l ih =>
    refine fun acc hacc => ih _ fun u hu => ?_
    obtain ⟨v, hv, hu⟩ := Option.bind_eq_some_iff.mp hu
    exact (hacc v hv).heapTake hu

/-! ## The life of a slot -/

theorem State.DictOk.clearSlot {s : State} {slot : Nat} (h : s.DictOk) : (s.clearSlot slot).DictOk := ⟨h.1.filter _, h.2.filter _⟩

theorem State.DictOk.openStaging {s : State} {slot : Nat} (h : s.DictOk) : (s.openStaging slot).DictOk := by
  unfold State.openStaging
  extract_lets t2
  have ht2 : t2.DictOk := h.modSlot
  split
  · next t ht => exact (ht2.register ht).setAll
  · exact ht2.setAll

theorem State.DictOk.closeStaging {s : State} {slot : Nat} (h : s.DictOk) : (s.closeStaging slot).DictOk := h.modSlot.revoke.setAll

theorem State.DictOk.refuseJob {s : State} {slot code : Nat} (h : s.DictOk) : (s.refuseJob slot code).DictOk := (h.set _ _).refused

theorem stagingOpen_dictOk {slot : Nat} {s : State} (h : s.DictOk) : (stagingOpen slot s).DictOk := by
  unfold stagingOpen
  split
  · split
    · exact h.bump.refuseJob
    · next t ht => exact (h.heapTake ht).clearSlot.setSlot.openStaging.enterState.ok
  · exact dictOk_ite h.ok h.refuseJob

theorem State.DictOk.rejectManifest {s : State} {slot : Nat} {r : Reject} (h : s.DictOk) : (s.rejectManifest slot r).DictOk :=
  (dictOk_ite (h.set _ _) h).openStaging.setAll

theorem State.DictOk.acceptManifest {s : State} {slot : Nat} {raw : Bytes} (h : s.DictOk) : (s.acceptManifest slot raw).DictOk :=
  ((dictOk_getD h (fun _ => h.takeHeap)).modSlot.setAll.setBlob _ _).extend.enterState

theorem State.DictOk.checkManifest {s : State} {slot : Nat} (h : s.DictOk) : (s.checkManifest slot).DictOk := by
  unfold State.checkManifest
  extract_lets _ _ t2
  have ht2 : t2.DictOk := h.set _ _
  split
  · exact ht2.acceptManifest
  · exact (dictOk_ite (dictOk_ite (h.set _ _) h).bump (dictOk_ite (h.set _ _) h)).rejectManifest

theorem validate_dictOk {slot : Nat} {readable draining : Bool} {s : State} (h : s.DictOk) :
    (validate slot readable draining s).DictOk := by
  unfold validate
  split
  · exact h.refuseJob
  · extract_lets t2 t3 t4
    have ht2 : t2.DictOk := h.closeStaging.modSlot
    have ht3 : t3.DictOk := ht2.ok
    have ht4 : t4.DictOk := by
      dsimp only [t4]
      split
      · exact ht3.retireRegion
      · exact ht3
    exact dictOk_ite ht3 ht4.checkManifest

theorem State.DictOk.shareTable {s : State} (h : s.DictOk) : s.shareTable.DictOk := dictOk_foldl (fun _ _ ht => ht.modSlot) h

theorem State.DictOk.openShoes {s : State} {slot epoch : Nat} (h : s.DictOk) : (s.openShoes slot epoch).DictOk := by
  unfold State.openShoes
  extract_lets
  refine dictOk_foldl (fun _ _ ht => ?_) h
  extract_lets _ t3 t4
  have ht3 : t3.DictOk := ht.same rfl rfl
  have ht4 : t4.DictOk := ht3.heapOrAbort
  split
  · split
    · split
      · next t ht => exact (ht4.register ht).setAll
      · exact ht4
    · exact ht4
  · exact ht3

theorem State.DictOk.openLog {s : State} {slot : Nat} (h : s.DictOk) : (s.openLog slot).DictOk := by
  unfold State.openLog
  split
  · extract_lets
    split
    · next t ht => exact (h.register ht).setAll
    · exact h
  · exact h

theorem State.DictOk.openRecords {s : State} {slot : Nat} (h : s.DictOk) : (s.openRecords slot).DictOk := by
  unfold State.openRecords
  split
  · next t ht => exact (h.register ht)
  · exact h

theorem State.DictOk.startRunning {s : State} {slot epoch : Nat} (h : s.DictOk) : (s.startRunning slot epoch).DictOk :=
  (h.enterState.set _ _).modSlot.shareTable.openShoes.openRecords.openLog

theorem State.DictOk.startJob {s : State} {slot epoch : Nat} (h : s.DictOk) : (s.startJob slot epoch).DictOk := h.startRunning.startCensus

theorem State.DictOk.launch {s : State} {slot : Nat} (h : s.DictOk) : (s.launch slot).DictOk := h.startJob.issueFirst

theorem arm_dictOk {slot : Nat} {s : State} (h : s.DictOk) : (arm slot s).DictOk := by
  unfold arm
  split
  · exact h.refuseJob
  · split
    · exact h.modSlot.enterState.ok
    · exact h.refuseJob

theorem disarm_dictOk {slot : Nat} {s : State} (h : s.DictOk) : (disarm slot s).DictOk := dictOk_ite h.unjoin.enterState.ok h.refuseJob

theorem stop_dictOk {slot : Nat} {s : State} (h : s.DictOk) : (stop slot s).DictOk :=
  dictOk_ite h.unjoin.enterState.ok (dictOk_ite h.modSlot.enterState.ok h.refuseJob)

theorem abort_dictOk {slot : Nat} {s : State} (h : s.DictOk) : (abort slot s).DictOk := dictOk_ite h.unjoin.abortSlot.ok h.refuseJob

theorem State.DictOk.forgetManifest {s : State} {slot : Nat} (h : s.DictOk) : (s.forgetManifest slot).DictOk := h.setAll.setBlob _ _

theorem jobRelease_dictOk {slot : Nat} {s : State} (h : s.DictOk) : (jobRelease slot s).DictOk :=
  dictOk_ite h.revokeWhere.unpin.heapFreeSlot.forgetManifest.setSlot.enterState.ok h.refuseJob

/-! ## Slices -/

theorem State.DictOk.setCredit {s : State} {c : SliceClass} {slot : Nat} {v : Int} (h : s.DictOk) : (s.setCredit c slot v).DictOk :=
  h.modSlot

theorem State.DictOk.setHold {s : State} {c : SliceClass} {slot : Nat} {v : Bool} (h : s.DictOk) : (s.setHold c slot v).DictOk :=
  h.modSlot

theorem State.DictOk.giveClass {s : State} {c : SliceClass} {holders : List Nat} (h : s.DictOk) : (s.giveClass c holders).DictOk :=
  dictOk_foldl (fun _ _ ht => ht.setHold) h

theorem withSwitches_dictOk {s : State} {l : List Switch} (h : s.DictOk) : State.DictOk { s with switches := l } := h.same rfl rfl

theorem State.DictOk.switchTo {s : State} {c : SliceClass} {contenders holders : List Nat} (h : s.DictOk) :
    (s.switchTo c contenders holders).DictOk := by
  unfold State.switchTo
  refine dictOk_ite (dictOk_ite h h.giveClass) ?_
  cases c with
  | inference => exact withSwitches_dictOk h.bump.event
  | shoe => exact h.bump.event.giveClass
  | dealer => exact withSwitches_dictOk h.bump.event.giveClass
  | token => exact withSwitches_dictOk h.bump.event.giveClass

theorem State.DictOk.sliceClass {s : State} {c : SliceClass} (h : s.DictOk) : (s.sliceClass c).2.DictOk := by
  unfold State.sliceClass
  extract_lets l t w u
  have ht : t.DictOk := dictOk_foldl (fun _ _ hv => hv.setCredit) h
  have hu : u.DictOk := dictOk_foldl (fun _ _ hv => hv.setCredit) ht
  split
  · exact ht.switchTo
  · split
    · exact hu
    · exact hu.setCredit.switchTo

theorem pickClass_dictOk {acc : List Nat × State} {c : SliceClass} (h : acc.2.DictOk) : (pickClass acc c).2.DictOk := h.sliceClass

theorem foldl_pickClass_dictOk {l : List SliceClass} {acc : List Nat × State} (h : acc.2.DictOk) : (l.foldl pickClass acc).2.DictOk := by
  induction l generalizing acc with
  | nil => exact h
  | cons c l ih => exact ih (pickClass_dictOk h)

theorem sliceBoundary_dictOk {s : State} (h : s.DictOk) : (sliceBoundary s).DictOk := by
  by_cases hs : s.gtc % s.get Obj.sliceTicks = 0
  · rw [sliceBoundary_eq_pickClass hs]
    exact dictOk_foldl (fun _ _ ht => ht.bump) (foldl_pickClass_dictOk h.shareTable)
  · unfold sliceBoundary
    rw [if_pos hs]
    exact h

theorem inferenceSwitchStart_dictOk {s : State} (h : s.DictOk) : (inferenceSwitchStart s).DictOk := by
  unfold inferenceSwitchStart
  split
  · exact h
  · split
    · exact h
    · extract_lets _ t2
      have ht2 : t2.DictOk := h.same rfl rfl
      exact dictOk_foldl (fun _ _ h3 => dictOk_ite h3.setHold h3.setHold.heapOrAbort) ht2

theorem sliceSwitchComplete_dictOk {c : SliceClass} {s : State} (h : s.DictOk) : (sliceSwitchComplete c s).DictOk := by
  unfold sliceSwitchComplete
  split
  · exact h
  · split
    · exact h
    · extract_lets t2 t3 t4
      have ht2 : t2.DictOk := h.same rfl rfl
      have ht3 : t3.DictOk := ht2.count.event
      have ht4 : t4.DictOk := ht3.giveClass
      exact dictOk_ite (dictOk_foldl (fun _ _ h5 => h5.heapFree) ht4) ht4

/-! ## Memory channels -/

theorem State.DictOk.modChannel {s : State} {c : Nat} {f : Channel → Channel} (h : s.DictOk) : (s.modChannel c f).DictOk := h.same rfl rfl

theorem State.DictOk.channelTemperature {s : State} {c : Nat} {t : Int} (h : s.DictOk) : (s.channelTemperature c t).DictOk :=
  dictOk_ite h.seti.modChannel (dictOk_ite h.seti.modChannel h.seti)

theorem hotScheduleChange_dictOk {c : Nat} {s : State} (h : s.DictOk) : (hotScheduleChange c s).DictOk := by
  unfold hotScheduleChange
  split
  · exact dictOk_ite h (h.set _ _).modChannel
  · exact h

theorem State.DictOk.startTraining {s : State} {c : Nat} (h : s.DictOk) : (s.startTraining c).DictOk :=
  (dictOk_ite (h.modChannel.set _ _) h.modChannel).bump.event

theorem State.DictOk.startTrainings {s : State} (h : s.DictOk) : s.startTrainings.DictOk :=
  dictOk_foldl (fun _ _ ht => dictOk_ite ht.startTraining ht) h

theorem boundary_dictOk {s : State} (h : s.DictOk) : (boundary s).DictOk := dictOk_ite h (sliceBoundary_dictOk h).startTrainings

theorem refreshStart_dictOk {c : Nat} {s : State} (h : s.DictOk) : (refreshStart c s).DictOk :=
  dictOk_ite h (dictOk_ite h.modChannel.bump.event.startTraining h.modChannel.bump.event)

theorem State.DictOk.endHold {s : State} {c counter code b : Nat} {first : Option Nat} {held : List Nat} (h : s.DictOk) :
    (s.endHold c counter code b first held).DictOk := by
  unfold State.endHold
  split
  · exact h.count.event.markPerturb
  · exact h

theorem refreshEnd_dictOk {c : Nat} {first : Option Nat} {held : List Nat} {s : State} (h : s.DictOk) :
    (refreshEnd c first held s).DictOk := by
  unfold refreshEnd
  split
  · exact dictOk_ite h h.modChannel.endHold
  · exact h

theorem State.DictOk.restartPrepared {s : State} {it : Item} (h : s.DictOk) : (s.restartPrepared it).DictOk :=
  (dictOk_foldl (fun _ _ ht => dictOk_ite ht ht.revokeKey) h).releaseItem.fetch

theorem State.DictOk.prepareAgain {s : State} {f : Fill} (h : s.DictOk) : (s.prepareAgain f).DictOk :=
  dictOk_ite h (dictOk_ite h.putFill.prepare h.putFill.sendPrepare)

theorem State.DictOk.reassemble {s : State} {b : Batch} (h : s.DictOk) : (s.reassemble b).DictOk := by
  unfold State.reassemble
  extract_lets t2 t3
  have ht2 : t2.DictOk := dictOk_foldl (fun _ _ ht => ht.refDrop) h.cancelWait
  have ht3 : t3.DictOk := ht2.putBatch
  refine dictOk_foldl (fun _ _ h4 => ?_) ht3
  split
  · exact h4.prepareAgain
  · exact h4

theorem State.DictOk.poolFault {s : State} {handle check : Nat} (h : s.DictOk) : (s.poolFault handle check).DictOk := by
  unfold State.poolFault
  split
  · exact h
  · extract_lets t2 t3
    have ht2 : t2.DictOk := h.bump
    have ht3 : t3.DictOk := ht2.raiseFault
    exact ht3.same rfl rfl

theorem State.DictOk.damageImage {s : State} {kind entry : Nat} (h : s.DictOk) : (s.damageImage kind entry).DictOk := by
  unfold State.damageImage
  extract_lets _ t2
  have ht2 : t2.DictOk := h.same rfl rfl
  exact dictOk_foldl (fun _ _ h3 => h3.failItem) ht2

theorem State.DictOk.dataLost {s : State} {c frame : Nat} {u : MemoryUse} (h : s.DictOk) : (s.dataLost c frame u).DictOk := by
  unfold State.dataLost
  split
  · exact h.onItem (fun _ => dictOk_ite h.raiseFault.restartPrepared h.raiseFault.stopKernel.restartItem)
  · split
    · exact h.raiseFault.reassemble
    · exact h
  · split
    · extract_lets t2 _ _ t3
      have ht2 : t2.DictOk := h.raiseFault
      have ht3 : t3.DictOk := State.DictOk.cacheStatus (ht2.same rfl rfl)
      exact dictOk_foldl (fun _ _ h4 => h4.cancelWait.fetch) ht3
    · exact h
  · exact h.raiseFault
  · exact h.raiseFault
  · exact h.raiseFault.damageImage
  · exact h.poolFault

theorem State.DictOk.retireReadable {s : State} {c : Nat} (h : s.DictOk) : (s.retireReadable c).DictOk := dictOk_ite h (h.set _ _)

theorem shrinkCache_dictOk {s : State} {fuel : Nat} (h : s.DictOk) : (shrinkCache fuel s).DictOk := by
  induction fuel generalizing s with
  | zero => exact h
  | succ fuel ih =>
    unfold shrinkCache
    refine dictOk_ite h ?_
    split
    next t ht => exact ih (h.evictOne ht)
    · exact h

theorem lowerCache_dictOk {s : State} {fuel frames : Nat} (h : s.DictOk) : (lowerCache fuel frames s).2.DictOk := by
  induction fuel generalizing s frames with
  | zero => exact h
  | succ fuel ih =>
    unfold lowerCache
    split
    · exact h
    · exact ih (shrinkCache_dictOk h.setAll)

theorem State.DictOk.findHomes {s : State} {frames : Nat} (h : s.DictOk) : (s.findHomes frames).2.DictOk := lowerCache_dictOk (h.set _ _)

theorem State.DictOk.retired' {s : State} {c : Nat} (h : s.DictOk) : (s.retired' c).DictOk := h.setAll.modChannel.journalRepair

theorem State.DictOk.degrade {s : State} {buffers : List Nat} (h : s.DictOk) : (s.degrade buffers).DictOk := by
  unfold State.degrade
  extract_lets t2
  have ht2 : t2.DictOk := h.set _ _
  exact ht2.same rfl rfl

theorem State.DictOk.retireUnreadable {s : State} {c frames : Nat} {lost : List MemoryUse} (h : s.DictOk) :
    (s.retireUnreadable c frames lost).DictOk := by
  unfold State.retireUnreadable
  split
  · next t ht => exact dictOk_foldl (fun _ _ h3 => h3.dataLost) (dictOk_of_eq h.findHomes ht).retired'.count

theorem channelMigrationComplete_dictOk {c frames : Nat} {homeless : List Nat} {s : State} (h : s.DictOk) :
    (channelMigrationComplete c frames homeless s).DictOk := by
  unfold channelMigrationComplete
  split
  · exact h
  · split
    · next t ht => exact dictOk_ite (dictOk_of_eq h.findHomes ht).retired' (dictOk_of_eq h.findHomes ht).degrade

theorem State.DictOk.repairFrames {s : State} {c : Nat} (h : s.DictOk) : (s.repairFrames c).DictOk :=
  (dictOk_foldl (fun _ _ ht => ht.journalRepair) (h.set _ _).count.countW).modChannel

theorem retrainComplete_dictOk {c frames : Nat} {ok : Bool} {first : Option Nat} {held : List Nat} {lost : List MemoryUse} {s : State} (h
    : s.DictOk) :
    (retrainComplete c ok first held frames lost s).DictOk := by
  unfold retrainComplete
  split
  · exact h
  · extract_lets t2 t3 t4 _ t5
    have ht2 : t2.DictOk := h.modChannel
    have ht3 : t3.DictOk := dictOk_ite (ht2.set _ _) ht2
    have ht4 : t4.DictOk := ht3.endHold
    have ht5 : t5.DictOk := ht4.countW.set _ _
    exact dictOk_ite ht5.modChannel.repairFrames (dictOk_ite ht4.modChannel ht4.retireUnreadable)

theorem State.DictOk.repairDue {s : State} {c frame : Nat} (h : s.DictOk) : (s.repairDue c frame).DictOk := dictOk_ite h h.modChannel

theorem gddrCorrectedError_dictOk {c frame : Nat} {s : State} (h : s.DictOk) : (gddrCorrectedError c frame s).DictOk :=
  dictOk_ite h (dictOk_ite h.bump.bump.modChannel.repairDue h.bump.bump.modChannel)

theorem gddrUncorrectableRead_dictOk {c frame : Nat} {u : MemoryUse} {s : State} (h : s.DictOk) :
    (gddrUncorrectableRead c frame u s).DictOk :=
  dictOk_ite h (dictOk_ite h.bump.bump.modChannel.dataLost.retireReadable h.bump.bump.modChannel.dataLost.repairDue)

theorem gddrLinkCrcFailure_dictOk {c ticks : Nat} {held : List Nat} {s : State} (h : s.DictOk) :
    (gddrLinkCrcFailure c ticks held s).DictOk := dictOk_ite h h.bump.bump.count.event.markPerturb.modChannel

theorem retireChannel_dictOk {c : Nat} {s : State} (h : s.DictOk) : (retireChannel c s).DictOk := h.retireReadable.ok

theorem lay_dictOk {s : State} {fuel : Nat} (h : s.DictOk) : (State.retireAtPowerUp.lay fuel s).DictOk := by
  induction fuel generalizing s with
  | zero => exact h
  | succ fuel ih => exact dictOk_ite h (dictOk_ite (ih (h.set _ _)) (ih (h.set _ _)))

theorem State.DictOk.retireAtPowerUp {s : State} {c : Nat} (h : s.DictOk) : (s.retireAtPowerUp c).DictOk := lay_dictOk h.setAll

theorem freeListRebuildComplete_dictOk {s : State} (h : s.DictOk) : (freeListRebuildComplete s).DictOk := by
  unfold freeListRebuildComplete
  split
  · exact h
  · extract_lets _ t2 t3
    have ht2 : t2.DictOk := h.bump.bump
    have ht3 : t3.DictOk := ht2.count.markPerturb
    exact ht3.same rfl rfl

theorem refillComplete_dictOk {nodeOk groupOk : Bool} {s : State} (h : s.DictOk) : (refillComplete nodeOk groupOk s).DictOk := by
  unfold refillComplete
  split
  · exact h
  · extract_lets
    split
    · exact h
    · split
      · exact h.poolFault
      · split
        · exact h.poolFault
        · exact State.DictOk.set (h.same rfl rfl) _ _

theorem State.DictOk.doubleFree {s : State} {handle requester operation : Nat} {entry : Option Nat} (h : s.DictOk) :
    (s.doubleFree handle requester operation entry).DictOk := by
  unfold State.doubleFree
  extract_lets t2 t3
  have ht2 : t2.DictOk := h.bump.bump
  have ht3 : t3.DictOk := ht2.setAll
  split
  · exact ht3.raiseFault.stopKernel.retryItem
  · exact ht3.raiseFault

theorem bufferReference_dictOk {add : Bool} {handle requester : Nat} {entry : Option Nat} {s : State} (h : s.DictOk) :
    (bufferReference add handle requester entry s).DictOk := dictOk_ite h (dictOk_ite (dictOk_ite h.refAdd h.refDrop) h.doubleFree)

theorem bufferAllocate_dictOk {requester count : Nat} {s : State} (h : s.DictOk) : (bufferAllocate requester count s).DictOk :=
  dictOk_ite h h.requestBuffers

/-! ## The persistent area -/

theorem persistCommit_dictOk {refusals : Nat} {s : State} (h : s.DictOk) : (persistCommit refusals s).DictOk := by
  unfold persistCommit
  split
  · exact h
  · split
    · exact h
    · split
      · exact h
      · split
        · exact State.DictOk.countW (h.same rfl rfl)
        · exact h.same rfl rfl

theorem persistCompaction_dictOk {refusals : Nat} {s : State} (h : s.DictOk) : (persistCompaction refusals s).DictOk := by
  unfold persistCompaction
  split
  · exact h
  · split
    · exact h.countW
    · extract_lets
      exact State.DictOk.countW (h.same rfl rfl)

theorem restoreDefaults_dictOk {s : State} (h : s.DictOk) : (restoreDefaults s).DictOk := by
  unfold restoreDefaults
  split
  · exact h.refused
  · split
    · exact h.refused
    · extract_lets
      exact State.DictOk.ok (h.same rfl rfl)

theorem restoreObject_dictOk {s : State} {k : Nat} (h : s.DictOk) : (restoreObject s k).DictOk := by
  unfold restoreObject
  split
  · extract_lets t2
    have ht2 : t2.DictOk := h.countW
    split
    · exact ht2
    · split
      · exact dictOk_ite (h.set _ _) ht2
      · exact dictOk_ite (h.setBlob _ _) ht2
  · exact h

theorem applyRule_dictOk {s : State} {rule : Bool × List Nat} (h : s.DictOk) : (applyRule s rule).DictOk :=
  dictOk_ite h (dictOk_foldl (fun _ _ ht => ht.set _ _) h).countW

theorem restorePersistent_dictOk {s : State} (h : s.DictOk) : (restorePersistent s).DictOk :=
  dictOk_foldl (fun _ _ ht => applyRule_dictOk ht) (dictOk_foldl (fun _ _ ht => restoreObject_dictOk ht) h)

/-! ## Repairs -/

theorem State.DictOk.remapRow {s : State} {array bank row spare : Nat} (h : s.DictOk) : (s.remapRow array bank row spare).DictOk := by
  unfold State.remapRow
  extract_lets _ t2
  have ht2 : t2.DictOk := h.same rfl rfl
  exact ht2.set _ _

theorem State.DictOk.noteDeviceFailure {s : State} {what : Nat} (h : s.DictOk) : (s.noteDeviceFailure what).DictOk := by
  unfold State.noteDeviceFailure
  extract_lets t2
  have ht2 : t2.DictOk := h.set _ _
  exact ht2.same rfl rfl

theorem State.DictOk.elementFails {s : State} {kind num : Nat} (h : s.DictOk) : (s.elementFails kind num).DictOk := by
  unfold State.elementFails
  split
  · next t ht => exact dictOk_ite (dictOk_of_eq h.retireElement ht) (dictOk_of_eq h.retireElement ht).raiseFault.lastElement

theorem State.DictOk.badRow {s : State} {array bank row : Nat} (h : s.DictOk) : (s.badRow array bank row).2.DictOk := by
  unfold State.badRow
  dsimp only
  split
  · exact h
  · split
    · exact h.countW.remapRow.journalRepair
    · split
      · exact h.countW.elementFails
      · exact h.countW

theorem badRows_dictOk {s : State} {l : List (Nat × Nat × Nat)} (h : s.DictOk) : (badRows l s).2.DictOk := by
  induction l generalizing s with
  | nil => exact h
  | cons e l ih =>
    unfold badRows
    dsimp only
    split
    · exact ih h.badRow
    · exact h.badRow

theorem State.DictOk.trestleSlices {s : State} {rows cols : List Nat} (h : s.DictOk) : (s.trestleSlices rows cols).DictOk := by
  unfold State.trestleSlices
  extract_lets f1
  have hf1 : ∀ a0 u1 a2, u1.DictOk → State.DictOk (f1 a0 u1 a2) := fun _ _ _ ht => ht.retireElement
  split
  · exact dictOk_foldl (fun _ _ ht => hf1 _ _ _ ht) (dictOk_foldl (fun _ _ ht => hf1 _ _ _ ht) h)
  · split
    · exact dictOk_foldl (fun _ _ ht => hf1 _ _ _ ht) h
    · exact dictOk_ite (dictOk_foldl (fun _ _ ht => hf1 _ _ _ ht) h) (dictOk_foldl (fun _ _ ht => hf1 _ _ _ ht) (dictOk_foldl (fun _ _ ht
        => hf1 _ _ _ ht) h))

theorem State.DictOk.failIsland {s : State} {d : Nat} {failing : List Nat} {startup : Bool} (h : s.DictOk) :
    (s.failIsland d failing startup).DictOk := by
  unfold State.failIsland
  extract_lets
  split
  · exact h.trestleSlices
  · split
    · exact dictOk_foldl (fun _ _ ht => dictOk_ite ht.retireReadable (dictOk_ite ht ht.retireAtPowerUp.journalRepair)) h
    · refine dictOk_foldl (fun _ _ ht => ?_) h
      split
      · exact ht.elementFails
      · exact ht

theorem State.DictOk.applyEntry {s : State} {seen : List Nat} {e : Nat} (h : s.DictOk) : (s.applyEntry seen e).DictOk := by
  unfold State.applyEntry
  dsimp only
  split
  · exact dictOk_ite h.countW h.remapRow.countW
  · refine dictOk_ite h.countW (State.DictOk.countW ?_)
    split
    · exact dictOk_ite h.putElement h.putElement.putElement
    · exact dictOk_ite h.putElement (h.putElement.set _ _)
  · exact dictOk_ite h.countW (h.set _ _).countW
  · exact dictOk_ite h.countW h.retireAtPowerUp.countW
  · exact h

theorem applyEntries_dictOk {s : State} {l seen : List Nat} (h : s.DictOk) : (applyEntries l seen s).DictOk := by
  induction l generalizing s seen with
  | nil => exact h
  | cons e l ih => exact ih h.applyEntry

theorem State.DictOk.applyRepairMap {s : State} (h : s.DictOk) : s.applyRepairMap.DictOk := applyEntries_dictOk h

theorem burnFuses_dictOk {s : State} {fuel : Nat} {reads : List Bool} (h : s.DictOk) : (burnFuses fuel reads s).DictOk := by
  induction fuel generalizing s reads with
  | zero => exact h
  | succ fuel ih =>
    unfold burnFuses
    split
    · exact h
    · exact dictOk_ite h (ih (dictOk_ite (h.same rfl rfl) (State.DictOk.countW (h.same rfl rfl))))

/-! ## Boot, identity and firmware -/

theorem State.DictOk.storeLoss {s : State} (h : s.DictOk) : s.storeLoss.DictOk := dictOk_ite h.modStore h

theorem State.DictOk.restart {s : State} {cause : Nat} (_ : s.DictOk) : (s.restart cause).DictOk := by
  unfold State.restart
  extract_lets t2 _ _ t3
  have ht2 : t2.DictOk := State.reset_dictOk
  have ht3 : t3.DictOk := ht2.same rfl rfl
  exact ht3.setAll.set _ _

theorem State.DictOk.reboot {s : State} (h : s.DictOk) : s.reboot.DictOk := (dictOk_ite h.powerFailFlush h).switchBank.restart

theorem State.DictOk.setBootState {s : State} {v : Nat} (h : s.DictOk) : (s.setBootState v).DictOk := (h.set _ _).postBoot

theorem State.DictOk.modBoot {s : State} {f : Boot → Boot} (h : s.DictOk) : (s.modBoot f).DictOk := h.same rfl rfl

theorem State.DictOk.takeBusRate {s : State} (h : s.DictOk) : s.takeBusRate.DictOk := by
  unfold State.takeBusRate
  extract_lets t2
  have ht2 : t2.DictOk := restoreObject_dictOk h
  exact ht2.same rfl rfl

theorem State.DictOk.enterRecovery {s : State} {result : Nat} (h : s.DictOk) : (s.enterRecovery result).DictOk :=
  h.modBoot.setAll.takeBusRate.setBootState

theorem State.DictOk.bootFrom {s : State} {f : BootFlash} (h : s.DictOk) : (s.bootFrom f).DictOk := by
  unfold State.bootFrom
  extract_lets t2 t3 t4
  have ht2 : t2.DictOk := dictOk_ite (h.set _ _) h
  have ht3 : t3.DictOk := ht2.set _ _
  have ht4 : t4.DictOk := dictOk_ite (ht3.set _ _).setPort ht3
  exact dictOk_ite ht3.enterRecovery (dictOk_ite ht3.enterRecovery ht4.setBootState)

theorem resetRelease_dictOk {f : BootFlash} {s : State} (h : s.DictOk) : (resetRelease f s).DictOk := dictOk_ite h.bootFrom h

theorem State.DictOk.measureBoot {s : State} {image : Bytes} (h : s.DictOk) : (s.measureBoot image).DictOk := h.setAll

theorem State.DictOk.layMemory {s : State} (h : s.DictOk) : s.layMemory.DictOk := by
  unfold State.layMemory
  extract_lets _ t2
  have ht2 : t2.DictOk := h.setAll
  exact State.DictOk.layHeap (ht2.same rfl rfl)

theorem bootBodyRead_dictOk {s : State} (h : s.DictOk) : (bootBodyRead s).DictOk :=
  dictOk_ite h (dictOk_ite h.enterRecovery (restorePersistent_dictOk h.setAll.measureBoot).takeBusRate.layMemory.modBoot.startMeasurement)

theorem State.DictOk.startUp {s : State} {u : StartUp} (h : s.DictOk) : (s.startUp u).DictOk := by
  unfold State.startUp
  extract_lets t rails _ t2 lbist march parts shared t3 t4 t5
  have ht : t.DictOk := h.applyRepairMap
  clear_value t
  have ht2 : t2.DictOk := ht.same rfl rfl
  have ht4 : t4.DictOk := dictOk_foldl (fun _ _ hv => hv.failIsland) (dictOk_ite (dictOk_foldl (fun _ _ hv => hv.setAll) ht2) ht2)
  have ht5 : t5.DictOk := dictOk_ite (dictOk_foldl (fun _ _ hv => hv.set _ _) ht4) ht4
  clear_value t5 t4 shared
  split
  · exact ht4.noteDeviceFailure.modBoot
  · split
    next failure t6 h6 =>
      have ht6 : t6.DictOk := by
        split at h6
        · exact dictOk_of_eq (badRows_dictOk ht5) h6
        · cases h6
          exact ht5
      refine dictOk_ite ht6.noteDeviceFailure.modBoot (State.DictOk.layMemory (dictOk_foldl (fun _ _ hv => hv.set _ _)
        (dictOk_foldl (fun _ _ hv => hv.retireAtPowerUp.journalRepair) (dictOk_ite (burnFuses_dictOk ht6) ht6))))

theorem State.DictOk.certify {s : State} {c : Nat} (h : s.DictOk) : (s.certify c).DictOk := by
  unfold State.certify
  extract_lets _ _ _ t2 _ t3 t4 t5
  have ht2 : t2.DictOk := h.useFree.useFree
  have ht3 : t3.DictOk := ht2.modBoot
  have ht4 : t4.DictOk := ht3.same rfl rfl
  have ht5 : t5.DictOk := ht4.setAll
  exact ((ht5.setBlob _ _).setBlob _ _).setBlob _ _

theorem State.DictOk.identitySteps {s : State} {r : CounterRun} (h : s.DictOk) : (s.identitySteps r).DictOk := by
  unfold State.identitySteps
  split
  · exact h.setAll
  · exact dictOk_ite h.setAll (dictOk_ite h.setAll h.certify)

theorem hubAlive_dictOk {u : StartUp} {r : CounterRun} {s : State} (h : s.DictOk) : (hubAlive u r s).DictOk :=
  dictOk_ite h (dictOk_ite h.startUp (h.startUp.identitySteps.beginMount.layPorts.modBoot.set _ _).setBootState)

theorem watchdogExpiry_dictOk {f : BootFlash} {s : State} (h : s.DictOk) : (watchdogExpiry f s).DictOk := by
  unfold watchdogExpiry
  split
  · exact h
  · exact dictOk_ite h (dictOk_ite (h.stopMeasurement.restart.set _ _).enterRecovery (h.stopMeasurement.restart.set _ _).bootFrom)

theorem recoveryAttempt_dictOk {f : BootFlash} {s : State} (h : s.DictOk) : (recoveryAttempt f s).DictOk :=
  dictOk_ite h (dictOk_ite ((dictOk_ite (h.countW.set _ _) h.countW).set _ _).bootFrom (((dictOk_ite (h.countW.set _ _) h.countW).set _
    _).set _ _).modBoot)

theorem State.DictOk.sendRecovery {s : State} {address type offset : Nat} {body : Bytes} (h : s.DictOk) :
    (s.sendRecovery address type offset body).DictOk := dictOk_ite h h.send

theorem beacon_dictOk {s : State} (h : s.DictOk) : (beacon s).DictOk := by
  unfold beacon
  split
  · exact h
  · exact dictOk_ite h h.sendRecovery.modBoot

theorem recoveryLinkTry_dictOk {s : State} (h : s.DictOk) : (recoveryLinkTry s).DictOk := dictOk_ite h h.modBoot

theorem recoveryOffer_dictOk {server length digest : Nat} {s : State} (h : s.DictOk) :
    (recoveryOffer server length digest s).DictOk := dictOk_ite h h.modBoot

theorem State.DictOk.recoveredImage {s : State} {t : RecoveryTransfer} (h : s.DictOk) : (s.recoveredImage t).DictOk :=
  dictOk_ite h.sendRecovery.modBoot.modBoot.setAll (h.sendRecovery.modBoot.set _ _)

theorem recoveryData_dictOk {server offset : Nat} {data : Bytes} {s : State} (h : s.DictOk) :
    (recoveryData server offset data s).DictOk := by
  unfold recoveryData
  split
  · exact h
  · exact dictOk_ite h (dictOk_ite (dictOk_ite h.sendRecovery h).recoveredImage (dictOk_ite h.sendRecovery h).modBoot)

theorem recoveryAck_dictOk {s : State} (h : s.DictOk) : (recoveryAck s).DictOk := by
  unfold recoveryAck
  split
  · exact h
  · exact dictOk_ite h h.sendRecovery.modBoot

theorem recoveryTimeout_dictOk {s : State} (h : s.DictOk) : (recoveryTimeout s).DictOk := by
  unfold recoveryTimeout
  split
  · exact h
  · exact dictOk_ite h h.modBoot

theorem State.DictOk.fwBusy {s : State} (h : s.DictOk) : s.fwBusy.DictOk := (h.set _ _).refused

theorem State.DictOk.checkImage {s : State} {b : Bytes} (h : s.DictOk) : (s.checkImage b).DictOk := h.modBoot.setAll.ok

theorem stageImage_dictOk {s : State} (h : s.DictOk) : (stageImage s).DictOk := dictOk_ite h.checkImage h.fwBusy

theorem stageObject_dictOk {s : State} (h : s.DictOk) : (stageObject s).DictOk := by
  unfold stageObject
  split
  · exact h.fwBusy
  · split
    · exact h.checkImage
    · exact h.modBoot.setAll.ok

theorem fwCheckComplete_dictOk {s : State} (h : s.DictOk) : (fwCheckComplete s).DictOk := by
  unfold fwCheckComplete
  split
  · exact h
  · exact dictOk_ite (h.modBoot.set _ _).modBoot.setAll (dictOk_ite (((h.modBoot.set _ _).set _ _).set _ _) ((h.modBoot.set _ _).set _ _))

theorem State.DictOk.beginInstall {s : State} (h : s.DictOk) : s.beginInstall.DictOk := h.modBoot.setAll

theorem install_dictOk {s : State} (h : s.DictOk) : (install s).DictOk :=
  dictOk_ite h.fwBusy (dictOk_ite h.modBoot.ok h.beginInstall.ok)

theorem installComplete_dictOk {ok : Bool} {programmed : Nat} {s : State} (h : s.DictOk) : (installComplete ok programmed s).DictOk := by
  unfold installComplete
  split
  · exact h
  · exact dictOk_ite h (dictOk_ite (dictOk_ite (h.setAll.set _ _) h.setAll) (dictOk_ite (h.modBoot.setAll.set _
      _).setAll.setPort.setBootState h.modBoot.setAll))

theorem rebootCommand_dictOk {s : State} (h : s.DictOk) : (rebootCommand s).DictOk :=
  dictOk_ite h.fwBusy (dictOk_ite h.modBoot.ok h.ok.reboot)

theorem State.DictOk.islandsOpen {s : State} (h : s.DictOk) : s.islandsOpen.DictOk := by
  unfold State.islandsOpen
  split
  · exact h
  · split
    · exact h
    · exact h.modBoot.beginInstall
    · exact h.modBoot.reboot

theorem commitSvn_dictOk {burned : Nat} {s : State} (h : s.DictOk) : (commitSvn burned s).DictOk :=
  dictOk_ite h.fwBusy ((h.set _ _).set _ _).ok

theorem bindBootFlash_dictOk {counters : List Nat} {advanced : Bool} {s : State} (h : s.DictOk) :
    (bindBootFlash counters advanced s).DictOk := by
  unfold bindBootFlash
  extract_lets _ t2
  have ht2 : t2.DictOk := h.set _ _
  split
  · exact h.refused
  · split
    · exact h.refused
    · exact ht2.identitySteps.syncConns.ok

theorem quoteCommand_dictOk {s : State} (h : s.DictOk) : (quoteCommand s).DictOk :=
  dictOk_ite (h.set _ _).refused (dictOk_ite (h.set _ _).refused (dictOk_ite (h.set _ _).refused (h.modBoot.set _ _).ok))

theorem quoteComplete_dictOk {s : State} (h : s.DictOk) : (quoteComplete s).DictOk := by
  unfold quoteComplete
  split
  · exact h
  · exact ((h.modBoot.setBlob _ _).set _ _).countW

theorem measureCommand_dictOk {s : State} (h : s.DictOk) : (measureCommand s).DictOk := h.extend.ok

theorem State.DictOk.setRevoked {s : State} {l : List Nat} {tag uid : Nat} (h : s.DictOk) : (s.setRevoked l tag uid).DictOk :=
  ((h.setBlob _ _).set _ _).recordWrite.extend

theorem State.DictOk.closeRevoked {s : State} {uid : Nat} (h : s.DictOk) : (s.closeRevoked uid).DictOk :=
  dictOk_foldl (fun _ _ ht => ht.sendHandshake.loseConn) h

theorem revokeAdd_dictOk {s : State} (h : s.DictOk) : (revokeAdd s).DictOk :=
  dictOk_ite h.ok (dictOk_ite h.refused h.setRevoked.closeRevoked.ok)

theorem revokeRemove_dictOk {s : State} (h : s.DictOk) : (revokeRemove s).DictOk := dictOk_ite h.setRevoked.ok h.refused

theorem revokeClear_dictOk {s : State} (h : s.DictOk) : (revokeClear s).DictOk := h.setRevoked.ok

/-! ## Job commands -/

theorem State.DictOk.startSpare {s : State} {slot : Nat} (h : s.DictOk) : (s.startSpare slot).DictOk := by
  unfold State.startSpare
  extract_lets _ _ t2 t3 t4 _ t5 t6
  have ht2 : t2.DictOk := h.takeForce.startRunning
  have ht3 : t3.DictOk := ht2.buildCensus
  have ht4 : t4.DictOk := by
    dsimp only [t4]
    split
    · split
      · exact dictOk_ite ht3.putCensus ht3
      · exact ht3
    · exact ht2.askCensus
  have ht5 : t5.DictOk := dictOk_ite ht4.askCensus ht4
  have ht6 : t6.DictOk := ht5.restartShoes
  exact ht6.setStepState.restartIssue

theorem resumeTick_dictOk {slot : Nat} {s : State} (h : s.DictOk) : (resumeTick slot s).DictOk :=
  dictOk_ite h (dictOk_ite h.replay (dictOk_ite h.startSpare h))

theorem launchTick_dictOk {slot : Nat} {s : State} (h : s.DictOk) : (launchTick slot s).DictOk :=
  dictOk_ite h (dictOk_ite (resumeTick_dictOk h) h.launch)

theorem afterLaunch_dictOk {slot : Nat} {eff : State → State} {s : State} (h : s.DictOk) (heff : ∀ t0, t0.DictOk → (eff t0).DictOk) :
    (afterLaunch slot eff s).DictOk := dictOk_ite (heff _ (launchTick_dictOk h).flow) (heff _ h)

theorem jobCommand_dictOk {slot n : Nat} {eff : State → State} {s : State} (h : s.DictOk) (heff : ∀ t0, t0.DictOk → (eff t0).DictOk) :
    (jobCommand slot n eff s).DictOk := writeCommand_dictOk h heff

theorem stepCommand_dictOk {slot n : Nat} {eff : State → State} {s : State} (h : s.DictOk) (heff : ∀ t0, t0.DictOk → (eff t0).DictOk) :
    (stepCommand slot n eff s).DictOk := writeCommand_dictOk h heff

theorem memberCommand_dictOk {slot n : Nat} {eff : State → State} {s : State} (h : s.DictOk) (heff : ∀ t0, t0.DictOk → (eff t0).DictOk) :
    (memberCommand slot n eff s).DictOk := writeCommand_dictOk h heff

/-! ## Commands of the network -/

theorem revokeDrained_dictOk {index : Nat} {s : State} (h : s.DictOk) : (revokeDrained index s).DictOk := by
  unfold revokeDrained
  split
  · exact h
  · exact dictOk_ite h.retireRegion.checkManifest h.retireRegion

theorem revokeOverrun_dictOk {index outstanding : Nat} {s : State} (h : s.DictOk) : (revokeOverrun index outstanding s).DictOk := by
  unfold revokeOverrun
  split
  · exact h
  · split
    · extract_lets t2
      have ht2 : t2.DictOk := h.same rfl rfl
      exact ht2.raiseFault
    · exact h

/-! ## Self-test -/

theorem State.DictOk.modTest {s : State} {f : Selftest → Selftest} (h : s.DictOk) : (s.modTest f).DictOk := h.same rfl rfl

theorem State.DictOk.testBusy {s : State} (h : s.DictOk) : s.testBusy.DictOk := (h.set _ _).refused

theorem State.DictOk.startIslands {s : State} {fuel : Nat} (h : s.DictOk) : (State.startIslands fuel s).DictOk := by
  induction fuel generalizing s with
  | zero => exact h
  | succ fuel ih =>
    unfold State.startIslands
    split
    · exact h
    · exact dictOk_ite h (ih (h.same rfl rfl))

theorem State.DictOk.endTest {s : State} (h : s.DictOk) : s.endTest.DictOk := by
  unfold State.endTest
  split
  · exact h
  · extract_lets _ t2
    have ht2 : t2.DictOk := h.setAll.bump
    exact State.DictOk.islandsOpen (ht2.same rfl rfl)

theorem lbist_dictOk {readings : List IslandReading} {s : State} (h : s.DictOk) : (lbist readings s).DictOk := by
  unfold lbist
  split
  · exact h.refused
  · split
    · exact h.testBusy
    · extract_lets _ _ t2
      have ht2 : t2.DictOk := h.same rfl rfl
      exact dictOk_ite (h.set _ _).ok (ht2.set _ _).startIslands.endTest.ok

theorem lbistIslandComplete_dictOk {r : IslandReading} {failing : List Nat} {s : State} (h : s.DictOk) :
    (lbistIslandComplete r failing s).DictOk := by
  unfold lbistIslandComplete
  split
  · exact h
  · extract_lets _ _ t2 t3 _ t4 t5
    have ht2 : t2.DictOk := h.same rfl rfl
    have ht3 : t3.DictOk := ht2.modTest
    have ht4 : t4.DictOk := ht3.setAll
    have ht5 : t5.DictOk := ht4.failIsland
    exact dictOk_ite h (dictOk_ite ht3.modTest.startIslands.endTest (dictOk_ite ht5.noteDeviceFailure.reboot
      ht5.modTest.startIslands.endTest))

theorem marchPreserve_dictOk {s : State} (h : s.DictOk) : (marchPreserve s).DictOk := by
  unfold marchPreserve
  split
  · exact h.testBusy
  · extract_lets
    exact State.DictOk.ok (State.DictOk.endTest (State.DictOk.set (h.same rfl rfl) _ _))

theorem marchDestructive_dictOk {s : State} (h : s.DictOk) : (marchDestructive s).DictOk := by
  unfold marchDestructive
  split
  · exact h.refused
  · split
    · exact h.testBusy
    · split
      · exact h.refused
      · extract_lets
        exact State.DictOk.ok (State.DictOk.endTest (State.DictOk.set (h.same rfl rfl) _ _))

theorem State.DictOk.spareRows {s : State} {array : Nat} {rows : List (Nat × Nat)} (h : s.DictOk) : (s.spareRows array rows).DictOk := by
  unfold State.spareRows
  split
  · next t ht =>
      extract_lets t3
      have ht3 : t3.DictOk := dictOk_ite (dictOk_of_eq (badRows_dictOk h) ht) (dictOk_of_eq (badRows_dictOk h) ht).modTest
      exact dictOk_ite ht3 ht3.noteDeviceFailure.reboot

theorem marchWordTest_dictOk {array : Nat} {banks : List Nat} {s : State} (h : s.DictOk) : (marchWordTest array banks s).DictOk := by
  unfold marchWordTest
  split
  · exact h
  · split
    · exact dictOk_ite h (dictOk_ite (h.modTest.set _ _) h.modTest).spareRows

theorem marchComplete_dictOk {array : Nat} {rows : List (Nat × Nat)} {s : State} (h : s.DictOk) : (marchComplete array rows s).DictOk :=
  dictOk_ite h (h.modTest.set _ _).spareRows.endTest

theorem selftestStop_dictOk {s : State} (h : s.DictOk) : (selftestStop s).DictOk := dictOk_ite h.ok h.modTest.endTest.ok

theorem State.DictOk.abandonTest {s : State} (h : s.DictOk) : s.abandonTest.DictOk := by
  unfold State.abandonTest
  split
  · exact State.DictOk.set (h.same rfl rfl) _ _
  · exact h

theorem State.DictOk.showAgeing {s : State} (h : s.DictOk) : s.showAgeing.DictOk := h.set _ _

theorem State.DictOk.planRail {s : State} {rail mv : Nat} (h : s.DictOk) : (s.planRail rail mv).DictOk :=
  dictOk_ite h (h.set _ _).recordWrite.countW

theorem pathDelaySample_dictOk {delays : List (Nat × Nat)} {s : State} (h : s.DictOk) : (pathDelaySample delays s).DictOk :=
  dictOk_ite h (dictOk_foldl (fun _ _ ht => dictOk_ite ht ht.planRail) (dictOk_foldl (fun _ _ ht => (ht.set _ _).seti.seti) h)).showAgeing

theorem State.DictOk.planOne {s : State} {rail : Nat} (h : s.DictOk) : (s.planOne rail).DictOk := by
  unfold State.planOne
  split
  · exact h
  · exact dictOk_ite h (dictOk_ite h.planRail (dictOk_ite h.planRail h))

theorem State.DictOk.plan {s : State} (h : s.DictOk) : s.plan.DictOk := by
  unfold State.plan
  extract_lets _ t2
  have ht2 : t2.DictOk := h.same rfl rfl
  exact (dictOk_foldl (fun _ _ h3 => h3.planOne) ht2).showAgeing

theorem marginPlan_dictOk {s : State} (h : s.DictOk) : (marginPlan s).DictOk := dictOk_ite h.plan h

theorem planNow_dictOk {s : State} (h : s.DictOk) : (planNow s).DictOk := h.plan.ok

theorem State.DictOk.writeRail {s : State} {rail mv : Nat} (h : s.DictOk) : (s.writeRail rail mv).DictOk := by
  unfold State.writeRail
  extract_lets
  exact State.DictOk.send (h.same rfl rfl)

theorem avsStep_dictOk {rail : Nat} {s : State} (h : s.DictOk) : (avsStep rail s).DictOk := dictOk_ite h h.writeRail

/-! ## Power -/

theorem State.DictOk.modPower {s : State} {f : Power → Power} (h : s.DictOk) : (s.modPower f).DictOk := h.same rfl rfl

theorem pmbusPoll_dictOk {rails : List RailReading} {s : State} (h : s.DictOk) : (pmbusPoll rails s).DictOk :=
  dictOk_ite h (dictOk_foldl (fun _ _ ht => ht.setAll) h.modPower).setAll

theorem pmbAlert_dictOk {status : List Nat} {s : State} (h : s.DictOk) : (pmbAlert status s).DictOk :=
  dictOk_ite h (dictOk_foldl (fun _ _ ht => dictOk_ite (ht.set _ _) (ht.set _ _).countW.send) h)

theorem resetAssert_dictOk {s : State} (h : s.DictOk) : (resetAssert s).DictOk :=
  (dictOk_ite h.stopMeasurement.powerFailFlush h.stopMeasurement).restart.drive.drive.drive.drive

theorem pwrgdFall_dictOk {s : State} (h : s.DictOk) : (pwrgdFall s).DictOk := by
  unfold pwrgdFall
  split
  · exact h.modPower
  · extract_lets _ t2 t3
    have ht2 : t2.DictOk := h.storeLoss.restart
    have ht3 : t3.DictOk := ht2.same rfl rfl
    exact ht3.setAll

theorem State.DictOk.dataPathReset {s : State} (h : s.DictOk) : s.dataPathReset.DictOk := by
  unfold State.dataPathReset
  extract_lets t2
  have ht2 : t2.DictOk := h.same rfl rfl
  exact (dictOk_foldl (fun _ _ h3 => dictOk_ite h3 (h3.set _ _)) ht2).countConns.countPorts

theorem State.DictOk.powerOff {s : State} (h : s.DictOk) : s.powerOff.DictOk := h.modPower.drive

theorem pwrFail_dictOk {s : State} (h : s.DictOk) : (pwrFail s).DictOk :=
  dictOk_ite h (dictOk_ite h.modPower.powerOff h.modPower.stopMeasurement.abandonTest.dataPathReset.modPower)

theorem State.DictOk.trip {s : State} (h : s.DictOk) : s.trip.DictOk := h.modPower.drive

theorem flushComplete_dictOk {s : State} (h : s.DictOk) : (flushComplete s).DictOk :=
  dictOk_ite h (dictOk_ite (dictOk_ite h.powerFailFlush h).powerOff.trip (dictOk_ite h.powerFailFlush h).powerOff)

theorem State.DictOk.powerRefused {s : State} {result : Nat} (h : s.DictOk) : (s.powerRefused result).DictOk := (h.set _ _).refused

theorem State.DictOk.closeNetwork {s : State} (h : s.DictOk) : s.closeNetwork.DictOk := by
  unfold State.closeNetwork
  extract_lets _ t2 t3
  have ht2 : t2.DictOk := dictOk_foldl (fun _ _ ht => dictOk_ite ht.leaveList.sendHandshake ht.leaveList) h
  have ht3 : t3.DictOk := ht2.same rfl rfl
  exact (dictOk_foldl (fun _ _ h4 => dictOk_ite h4 (portLinkDown_dictOk h4)) ht3).countConns.countPorts

theorem retainCommand_dictOk {s : State} (h : s.DictOk) : (retainCommand s).DictOk :=
  dictOk_ite h.powerRefused (dictOk_ite h.powerRefused (h.closeNetwork.modPower.set _ _).ok)

theorem retainEntered_dictOk {s : State} (h : s.DictOk) : (retainEntered s).DictOk :=
  dictOk_ite h ((dictOk_ite h.makeDurable.writeRail.modPower.drive.countW.sourceLost h.makeDurable.writeRail.modPower.drive.countW).set _
    _)

theorem State.DictOk.retrainOnWake {s : State} {c : Nat} (h : s.DictOk) : (s.retrainOnWake c).DictOk :=
  dictOk_ite h (h.countW.set _ _).modChannel.repairFrames

theorem State.DictOk.finishWake {s : State} (h : s.DictOk) : s.finishWake.DictOk := by
  unfold State.finishWake
  extract_lets t u v
  have hv : v.DictOk := dictOk_foldl (fun _ _ hw => hw.retrainOnWake) (State.DictOk.modPower (State.DictOk.writeRail h))
  clear_value v
  exact (hv.set _ _).flushEvents

theorem State.DictOk.wake {s : State} (h : s.DictOk) : s.wake.DictOk := dictOk_ite h.modPower.drive.finishWake h.modPower.drive

theorem wakeCommand_dictOk {s : State} (h : s.DictOk) : (wakeCommand s).DictOk := dictOk_ite (h.set _ _).ok.wake h.powerRefused

theorem wakeFall_dictOk {s : State} (h : s.DictOk) : (wakeFall s).DictOk := dictOk_ite h.wake h

theorem pwrgdRise_dictOk {s : State} (h : s.DictOk) : (pwrgdRise s).DictOk := dictOk_ite h.modPower.finishWake h.modPower

theorem shutdownCommand_dictOk {s : State} (h : s.DictOk) : (shutdownCommand s).DictOk :=
  dictOk_ite h.powerRefused (dictOk_ite h.powerRefused (h.modPower.set _ _).ok)

theorem shutdownComplete_dictOk {s : State} (h : s.DictOk) : (shutdownComplete s).DictOk :=
  dictOk_ite h (dictOk_ite h.finishStripes.writeCheckpoint.powerFailFlush h).powerOff

theorem State.DictOk.thermalShutdown {s : State} (h : s.DictOk) : s.thermalShutdown.DictOk :=
  dictOk_ite h (dictOk_ite h.abandonTest.nodeFault.modPower (dictOk_ite h.abandonTest.nodeFault.powerFailFlush
    h.abandonTest.nodeFault).powerOff.trip)

theorem thermalSample_dictOk {dies : List (List Int)} {channels : List Int} {s : State} (h : s.DictOk) :
    (thermalSample dies channels s).DictOk := by
  unfold thermalSample
  split
  · exact h
  · extract_lets _ _ _ t2 t3 t4 t5 _ t6
    have ht2 : t2.DictOk := h.countW
    have ht3 : t3.DictOk := ht2.modPower
    have ht4 : t4.DictOk := by
      dsimp only [t4]
      refine dictOk_foldl (fun _ _ h4 => ?_) ht3
      split
      · exact h4.seti.seti
      · exact h4
    have ht5 : t5.DictOk := by
      dsimp only [t5]
      refine dictOk_foldl (fun _ _ h5 => ?_) ht4
      split
      · exact h5.channelTemperature
      · exact h5
    have ht6 : t6.DictOk := by
      dsimp only [t6]
      split
      · exact ht5.seti
      · exact ht5
    exact dictOk_ite ht6.thermalShutdown ht6

theorem hardwareTrip_dictOk {s : State} (h : s.DictOk) : (hardwareTrip s).DictOk := h.modPower.trip

/-! ## Images -/

theorem State.DictOk.refuseLoad {s : State} {c : ImageKind} {code : Nat} (h : s.DictOk) : (s.refuseLoad c code).DictOk :=
  (h.set _ _).refused

theorem State.DictOk.loadImage {s : State} {c : ImageKind} {written : Bytes} (h : s.DictOk) : (s.loadImage c written).DictOk := by
  unfold State.loadImage
  extract_lets
  split
  · extract_lets t2
    have ht2 : t2.DictOk := h.same rfl rfl
    exact (dictOk_ite ht2 (ht2.set _ _)).ok
  · split
    · exact h.refuseLoad
    · exact State.DictOk.ok (h.same rfl rfl)

theorem State.DictOk.buildImage {s : State} {c : ImageKind} {entry : Nat} {reason : State → Loaded → Nat} (h : s.DictOk) :
    (s.buildImage c entry reason).DictOk := by
  unfold State.buildImage
  split
  · extract_lets _ _ t2
    have ht2 : t2.DictOk := h.set _ _
    split
    · exact State.DictOk.extend (ht2.same rfl rfl)
    · exact ht2.same rfl rfl
  · exact h

theorem State.DictOk.unloadImage {s : State} {c : ImageKind} (h : s.DictOk) : (s.unloadImage c).DictOk := by
  unfold State.unloadImage
  extract_lets
  split
  · exact h.refuseLoad
  · split
    · exact h.refuseLoad
    · exact State.DictOk.ok (State.DictOk.set (h.same rfl rfl) _ _)

theorem State.DictOk.loadObject {s : State} (h : s.DictOk) : s.loadObject.DictOk := by
  unfold State.loadObject
  split
  · exact h.loadImage
  · exact h.refuseLoad

/-! ## Writes by the owner -/

theorem jobCommandWrite_dictOk {o : Outside} {slot v : Nat} {s : State} (h : s.DictOk) : (jobCommandWrite o slot v s).DictOk := by
  unfold jobCommandWrite
  split
  · exact validate_dictOk h
  · exact arm_dictOk h
  · exact afterLaunch_dictOk h (fun _ ht => disarm_dictOk ht)
  · exact (afterLaunch_dictOk h (fun _ ht => stop_dictOk ht)).flow
  · exact (afterLaunch_dictOk h (fun _ ht => abort_dictOk ht)).flow
  · exact (jobRelease_dictOk h).flow

theorem stepCommandWrite_dictOk {slot v : Nat} {s : State} (h : s.DictOk) : (stepCommandWrite slot v s).DictOk := by
  unfold stepCommandWrite
  split
  · exact (stepAbort_dictOk h).flow
  · exact resume_dictOk h
  · exact join_dictOk h
  · exact cancel_dictOk h

theorem memberCommandWrite_dictOk {slot v : Nat} {s : State} (h : s.DictOk) : (memberCommandWrite slot v s).DictOk := by
  unfold memberCommandWrite
  split
  · exact replaceMember_dictOk h
  · exact removeDomain_dictOk h
  · exact memberClear_dictOk h

theorem imageCommandWrite_dictOk {c : ImageKind} {v : Nat} {s : State} (h : s.DictOk) : (imageCommandWrite c v s).DictOk :=
  dictOk_ite h.loadImage (dictOk_ite h.loadObject h.unloadImage)

theorem flashCommandWrite_dictOk {o : Outside} {v : Nat} {s : State} (h : s.DictOk) : (flashCommandWrite o v s).DictOk := by
  unfold flashCommandWrite
  split
  · exact formatStore_dictOk h
  · exact patrolFull_dictOk h
  · exact patrolStop_dictOk h

theorem fwCommandWrite_dictOk {o : Outside} {v : Nat} {s : State} (h : s.DictOk) : (fwCommandWrite o v s).DictOk := by
  unfold fwCommandWrite
  split
  · exact stageImage_dictOk h
  · exact stageObject_dictOk h
  · exact install_dictOk h
  · exact rebootCommand_dictOk h
  · exact commitSvn_dictOk h

theorem revokeCommandWrite_dictOk {v : Nat} {s : State} (h : s.DictOk) : (revokeCommandWrite v s).DictOk := by
  unfold revokeCommandWrite
  split
  · exact revokeAdd_dictOk h
  · exact revokeRemove_dictOk h
  · exact revokeClear_dictOk h

theorem selftestCommandWrite_dictOk {o : Outside} {v : Nat} {s : State} (h : s.DictOk) : (selftestCommandWrite o v s).DictOk := by
  unfold selftestCommandWrite
  split
  · exact lbist_dictOk h
  · exact marchPreserve_dictOk h
  · exact marchDestructive_dictOk h
  · exact selftestStop_dictOk h

theorem powerCommandWrite_dictOk {v : Nat} {s : State} (h : s.DictOk) : (powerCommandWrite v s).DictOk := by
  unfold powerCommandWrite
  split
  · exact retainCommand_dictOk h
  · exact wakeCommand_dictOk h
  · exact shutdownCommand_dictOk h

theorem State.DictOk.acceptWhen {s : State} {legal : Bool} {k v : Nat} (h : s.DictOk) : (s.acceptWhen legal k v).DictOk :=
  dictOk_ite h.accept h.refused

theorem pierCountWrite_dictOk {k v : Nat} {s : State} (h : s.DictOk) : (pierCountWrite k v s).DictOk := dictOk_ite h.refused h.accept

theorem poolBytesWrite_dictOk {v : Nat} {s : State} (h : s.DictOk) : (poolBytesWrite v s).DictOk :=
  dictOk_ite h.refused h.accept.layMemory.ok

theorem cacheBytesWrite_dictOk {v : Nat} {s : State} (h : s.DictOk) : (cacheBytesWrite v s).DictOk :=
  (shrinkCache_dictOk h.accept.layHeap).ok

/-- Every owner of an object keeps the dictionary in canonical form, in the order of the list of owners. -/
theorem owners_dictOk (o : Outside) : (owners o).Forall fun e => ∀ {i v : Nat} {s : State}, s.DictOk → (e.2.2 i v s).DictOk := by
  dsimp only [owners, List.Forall]
  refine ⟨fun h => jobCommandWrite_dictOk h, fun h => stagingOpen_dictOk h, fun h => h.acceptWhen, fun h => h.acceptWhen, fun h =>
    h.acceptWhen,
    fun h => slotSelectorWrite_dictOk h, fun h => slotSelectorWrite_dictOk h, fun h => slotSelectorWrite_dictOk h,
    fun h => (curationLogRelease_dictOk h).flow, fun h => stepCommandWrite_dictOk h, fun h => memberCommandWrite_dictOk h,
    ?_⟩
  refine ⟨fun h => syncSourceWrite_dictOk h, fun h => ppsSecondsWrite_dictOk h, fun h => pierCountWrite_dictOk h,
    fun h => pierCountWrite_dictOk h, fun h => cacheBytesWrite_dictOk h, fun h => cacheCommandWrite_dictOk h,
    fun h => imageCommandWrite_dictOk h, fun h => imageCommandWrite_dictOk h, fun h => imageCommandWrite_dictOk h,
    fun h => imageCommandWrite_dictOk h, fun h => h.accept.layHeap.ok, fun h => poolBytesWrite_dictOk h, fun h => retireChannel_dictOk h,
    fun h => flashCommandWrite_dictOk h, fun h => objectCommand_dictOk h, fun h => h.accept.layPorts.ok, fun h => dscpWrite_dictOk h,
    ?_⟩
  refine ⟨fun h => dscpWrite_dictOk h, fun h => profileSelectorWrite_dictOk h, fun h => profileSelectorWrite_dictOk h,
    fun h => profileSelectorWrite_dictOk h, fun h => profileSelectorWrite_dictOk h, fun h => shaperProfileWrite_dictOk h,
    fun h => shaperProfileWrite_dictOk h, fun h => policerProfileWrite_dictOk h, fun h => policerProfileWrite_dictOk h,
    fun h => policerProfileWrite_dictOk h, fun h => policerProfileWrite_dictOk h, fun h => policerProfileWrite_dictOk h,
    fun h => policerProfileWrite_dictOk h, ?_⟩
  exact ⟨fun h => fwCommandWrite_dictOk h, fun h => bindBootFlash_dictOk h,
    fun h => quoteCommand_dictOk h, fun h => measureCommand_dictOk h, fun h => revokeCommandWrite_dictOk h,
    fun h => restoreDefaults_dictOk h, fun h => counterControlWrite_dictOk h, fun h => counterValueWrite_dictOk h,
    fun h => counterCommandWrite_dictOk h, fun h => selftestCommandWrite_dictOk h, fun h => planNow_dictOk h,
    fun h => powerCommandWrite_dictOk h, fun h => holdUpCommand_dictOk h⟩

theorem ownerWrite_dictOk {o : Outside} {k v : Nat} {s : State} (h : s.DictOk) : (ownerWrite o k v s).DictOk := by
  unfold ownerWrite
  split
  next f hf =>
    obtain ⟨e, he, hf⟩ := List.exists_of_findSome?_eq_some hf
    obtain ⟨i, _, rfl⟩ := Option.map_eq_some_iff.mp hf
    exact List.forall_iff_forall_mem.mp (owners_dictOk o) e he h
  · split
    · exact h.acceptWhen
    · exact h.accept

theorem stagingWrite_dictOk {slot offset : Nat} {b : Bytes} {s : State} (h : s.DictOk) : (stagingWrite slot offset b s).DictOk :=
  dictOk_ite h.modSlot.ok h.refused

theorem objectDataWrite_dictOk {offset : Nat} {b : Bytes} {s : State} (h : s.DictOk) : (objectDataWrite offset b s).DictOk := by
  unfold objectDataWrite
  extract_lets
  split
  · exact State.DictOk.ok (h.same rfl rfl)
  · exact h.refused

theorem nandProfileWrite_dictOk {offset : Nat} {b : Bytes} {s : State} (h : s.DictOk) : (nandProfileWrite offset b s).DictOk :=
  dictOk_ite (h.setBlob _ _).recordWrite.ok h.refuse

theorem domainWrite_dictOk {k offset : Nat} {b : Bytes} {s : State} (h : s.DictOk) : (domainWrite k offset b s).DictOk := by
  unfold domainWrite
  split
  · exact stagingWrite_dictOk h
  · exact dictOk_ite (objectDataWrite_dictOk h) (dictOk_ite (nandProfileWrite_dictOk h) (h.setBlob _ _).ok)

theorem stringWrite_dictOk {k limit : Nat} {b : Bytes} {s : State} (h : s.DictOk) : (stringWrite k limit b s).DictOk :=
  dictOk_ite (h.setBlob _ _).recordWrite.ok h.refuse

theorem writeObject_dictOk {o : Outside} {sv : Option WriteService} {k offset : Nat} {value : Bytes} {s : State} (h : s.DictOk) :
    (writeObject o sv k offset value s).DictOk := by
  unfold writeObject
  split
  · exact h.refuse
  · split
    · exact h.refuse
    · split
      · exact dictOk_ite h.refuse (domainWrite_dictOk h)
      · exact dictOk_ite h.refuse (stringWrite_dictOk h)
      · split
        · exact h.refuse
        · exact dictOk_ite h.refuse (ownerWrite_dictOk h)

/-! ## Reads -/

theorem State.DictOk.noteRead {s : State} {k : Nat} (h : s.DictOk) : (s.noteRead k).DictOk := by
  unfold State.noteRead
  split
  · exact h.same rfl rfl
  · split
    · exact h.same rfl rfl
    · exact h

/-! ## The bus -/

theorem hear_dictOk {f : BusFrame} {eff : State → State} {s : State} (h : s.DictOk) (heff : ∀ t0, t0.DictOk → (eff t0).DictOk) :
    (hear f eff s).DictOk := dictOk_ite h (dictOk_ite h.bump (dictOk_ite h (heff _ h.bump)))

theorem State.DictOk.modBus {s : State} {f : Bus → Bus} (h : s.DictOk) : (s.modBus f).DictOk := h.same rfl rfl

theorem State.DictOk.driveChain {s : State} {level : Bool} (h : s.DictOk) : (s.driveChain level).DictOk := h.modBus.drive

theorem State.DictOk.sendHello {s : State} (h : s.DictOk) : s.sendHello.DictOk := h.modBus.sendFrame

theorem State.DictOk.noteConflict {s : State} (h : s.DictOk) : s.noteConflict.DictOk := h.modBus.countW

theorem State.DictOk.noteAbort {s : State} {code : Nat} (h : s.DictOk) : (s.noteAbort code).DictOk := (h.set _ _).bump

theorem control_dictOk {f : BusFrame} {op : Nat} {fields : List (Nat × Nat)} {legal : Bool} {eff : State → State} {s : State} (h :
    s.DictOk) (heff : ∀ t0, t0.DictOk → (eff t0).DictOk) :
    (control f op fields legal eff s).DictOk := hear_dictOk h (fun _ ht => dictOk_ite (heff _ ht) ht)

theorem busWalk_dictOk {f : BusFrame} {s : State} (h : s.DictOk) : (busWalk f s).DictOk :=
  control_dictOk h (fun _ ht => (dictOk_foldl (fun _ _ h3 => h3.noteAbort) ht).setAll.countW.modBus.driveChain)

theorem walkEnd_dictOk {f : BusFrame} {s : State} (h : s.DictOk) : (walkEnd f s).DictOk := control_dictOk h (fun _ ht => ht.set _ _)

theorem rateSwitch_dictOk {f : BusFrame} {s : State} (h : s.DictOk) : (rateSwitch f s).DictOk :=
  control_dictOk h (fun _ ht => ht.modBus)

theorem rateSwitchApply_dictOk {s : State} (h : s.DictOk) : (rateSwitchApply s).DictOk := by
  unfold rateSwitchApply
  split
  · exact dictOk_ite h h.modBus.flushEvents
  · exact h

theorem eventAck_dictOk {f : BusFrame} {s : State} (h : s.DictOk) : (eventAck f s).DictOk := control_dictOk h (fun _ ht => ht.modBus)

theorem helloQuery_dictOk {f : BusFrame} {s : State} (h : s.DictOk) : (helloQuery f s).DictOk :=
  control_dictOk h (fun _ ht => dictOk_ite ht ht.sendHello)

theorem walkEligible_dictOk {outcome : ClaimEnd} {contested : Bool} {s : State} (h : s.DictOk) :
    (walkEligible outcome contested s).DictOk := by
  unfold walkEligible
  split
  · exact h
  · split
    · exact h.modBus.driveChain.sendHello
    · split
      · exact dictOk_ite h.sendFrame.modBus.noteConflict h.sendFrame.modBus
      · exact h.noteConflict
      · exact h.modBus.useFree

theorem claimReceived_dictOk {f : BusFrame} {s : State} (h : s.DictOk) : (claimReceived f s).DictOk :=
  hear_dictOk h (fun _ ht => dictOk_ite (dictOk_ite ht.modBus.noteConflict ht.modBus) ht)

theorem claimHoldExpiry_dictOk {s : State} (h : s.DictOk) : (claimHoldExpiry s).DictOk := by
  unfold claimHoldExpiry
  split
  · exact dictOk_ite h h.setAll.modBus.driveChain.flushEvents
  · exact h

theorem claimBackoff_dictOk {s : State} (h : s.DictOk) : (claimBackoff s).DictOk := by
  unfold claimBackoff
  split
  · exact dictOk_ite h h.modBus
  · exact h

theorem chainInFall_dictOk {s : State} (h : s.DictOk) : (chainInFall s).DictOk :=
  dictOk_ite ((h.set _ _).modBus.set _ _).postBus (h.set _ _).modBus

theorem chainInRise_dictOk {s : State} (h : s.DictOk) : (chainInRise s).DictOk :=
  dictOk_ite ((h.set _ _).modBus.set _ _).postBus (h.set _ _).modBus

theorem addressConflict_dictOk {f : BusFrame} {s : State} (h : s.DictOk) : (addressConflict f s).DictOk :=
  dictOk_ite h h.setAll.noteConflict.sendHello

theorem hello_dictOk {s : State} (h : s.DictOk) : (hello s).DictOk := dictOk_ite h h.sendHello

theorem State.DictOk.respond {s : State} {num key abort len reason : Nat} {data : Bytes} (h : s.DictOk) :
    (s.respond num key abort len reason data).DictOk := dictOk_ite h.sendBus h

theorem State.DictOk.abortTransfer {s : State} {num key abort reason : Nat} (h : s.DictOk) :
    (s.abortTransfer num key abort reason).DictOk := h.noteAbort.refuse.respond

theorem State.DictOk.answerWrite {s : State} {num key len : Nat} (h : s.DictOk) : (s.answerWrite num key len).DictOk :=
  dictOk_ite h.bump.respond h.noteAbort.respond

theorem State.DictOk.putTransfer {s : State} {t : Transfer} (h : s.DictOk) : (s.putTransfer t).DictOk := h.modBus

theorem State.DictOk.dropTransfer {s : State} {num : Nat} (h : s.DictOk) : (s.dropTransfer num).DictOk := h.modBus

theorem request_dictOk {f : BusFrame} {command : Nat} {eff : BusRequest → State → State} {s : State} (h : s.DictOk) (heff : ∀ a0 t1,
    t1.DictOk → (eff a0 t1).DictOk) :
    (request f command eff s).DictOk :=
  hear_dictOk h (fun _ ht => dictOk_ite ht (dictOk_ite ht.abortTransfer (dictOk_ite ht (dictOk_ite ht.abortTransfer (heff _ _ ht)))))

theorem bdpRead_dictOk {f : BusFrame} {s : State} (h : s.DictOk) : (bdpRead f s).DictOk := by
  unfold bdpRead
  refine request_dictOk h fun _ _ ht => ?_
  split
  · exact ht.abortTransfer
  · extract_lets _ t3
    have ht3 : t3.DictOk := ht.noteRead.bump
    split
    · exact ht.abortTransfer
    · exact State.DictOk.respond (ht3.same rfl rfl)

theorem bdpWrite_dictOk {f : BusFrame} {o : Outside} {s : State} (h : s.DictOk) : (bdpWrite f o s).DictOk := by
  unfold bdpWrite
  refine request_dictOk h fun _ _ ht => ?_
  extract_lets
  split
  · exact ht.abortTransfer
  · exact (writeObject_dictOk ht).answerWrite

theorem State.DictOk.openTransfer {s : State} {t : Transfer} (h : s.DictOk) : (s.openTransfer t).DictOk := h.modBus

theorem openWrite_dictOk {f : BusFrame} {command : Nat} {sv : Service} {ws : WriteService} {s : State} (h : s.DictOk) :
    (openWrite f command sv ws s).DictOk := by
  unfold openWrite
  refine request_dictOk h fun _ _ ht => ?_
  split
  · exact ht.abortTransfer
  · exact dictOk_ite ht.abortTransfer ht.openTransfer

theorem State.DictOk.sendSegment {s : State} {t : Transfer} (h : s.DictOk) : (s.sendSegment t).DictOk := h.sendBus

theorem State.DictOk.sendBlock {s : State} {t : Transfer} (h : s.DictOk) : (s.sendBlock t).DictOk :=
  dictOk_foldl (fun _ _ ht => ht.sendBus) h

theorem openRead_dictOk {f : BusFrame} {command : Nat} {sv : Service} {s : State} (h : s.DictOk) : (openRead f command sv s).DictOk := by
  unfold openRead
  refine request_dictOk h fun _ _ ht => ?_
  split
  · exact ht.abortTransfer
  · extract_lets _ _ _ t3 t4
    have ht3 : t3.DictOk := ht.noteRead.respond
    have ht4 : t4.DictOk := ht3.same rfl rfl
    exact dictOk_ite ht.abortTransfer (dictOk_ite ht.abortTransfer (dictOk_ite ht4.bump (dictOk_ite ht4.openTransfer.sendBlock
      ht4.openTransfer.sendSegment)))

theorem bdpAbort_dictOk {f : BusFrame} {s : State} (h : s.DictOk) : (bdpAbort f s).DictOk :=
  request_dictOk h (fun _ _ ht => dictOk_ite ht.dropTransfer.bump ht)

theorem State.DictOk.completeWrite {s : State} {o : Outside} {ws : WriteService} {t : Transfer} (h : s.DictOk) :
    (s.completeWrite o ws t).DictOk := dictOk_ite h.dropTransfer.abortTransfer (writeObject_dictOk h.dropTransfer).answerWrite

theorem segment_dictOk {f : BusFrame} {o : Outside} {s : State} (h : s.DictOk) : (segment f o s).DictOk := by
  unfold segment
  refine hear_dictOk h fun _ ht => ?_
  split
  · exact dictOk_ite ht (dictOk_ite ht.dropTransfer.abortTransfer (dictOk_ite ht.completeWrite (dictOk_ite ht.dropTransfer.abortTransfer
      ht.putTransfer.respond)))
  · exact ht

theorem segReadResponse_dictOk {f : BusFrame} {s : State} (h : s.DictOk) : (segReadResponse f s).DictOk := by
  unfold segReadResponse
  refine hear_dictOk h fun _ ht => ?_
  split
  · exact dictOk_ite ht (dictOk_ite ht.dropTransfer.bump (dictOk_ite ht.dropTransfer.bump ht.putTransfer.sendSegment))
  · exact ht

theorem State.DictOk.ackBlock {s : State} {t : Transfer} (h : s.DictOk) : (s.ackBlock t).DictOk := h.sendBus

theorem State.DictOk.takeBlock {s : State} {o : Outside} {t : Transfer} (h : s.DictOk) : (s.takeBlock o t).DictOk := by
  unfold State.takeBlock
  extract_lets _ t2 t3 t4
  have ht2 : t2.DictOk := dictOk_ite (domainWrite_dictOk h) h
  have ht3 : t3.DictOk := ht2.ackBlock
  have ht4 : t4.DictOk := ht3.dropTransfer
  exact dictOk_ite ht2.dropTransfer.abortTransfer (dictOk_ite ht3.putTransfer (dictOk_ite (dictOk_ite ht4.abortTransfer
    ht4.ok.answerWrite) ht3.completeWrite))

theorem block_dictOk {f : BusFrame} {o : Outside} {s : State} (h : s.DictOk) : (block f o s).DictOk := by
  unfold block
  refine hear_dictOk h fun _ ht => ?_
  split
  · exact dictOk_ite ht (dictOk_ite ht.putTransfer (dictOk_ite ht.putTransfer.ackBlock ht.takeBlock))
  · exact ht

theorem blockAck_dictOk {f : BusFrame} {s : State} (h : s.DictOk) : (blockAck f s).DictOk := by
  unfold blockAck
  refine hear_dictOk h fun _ ht => ?_
  split
  · exact dictOk_ite ht (dictOk_ite ht.putTransfer.sendBlock (dictOk_ite ht.dropTransfer.bump ht.putTransfer.sendBlock))
  · exact ht

theorem bdpTimeout_dictOk {num : Nat} {s : State} (h : s.DictOk) : (bdpTimeout num s).DictOk := by
  unfold bdpTimeout
  split
  · exact dictOk_ite h h.dropTransfer.abortTransfer
  · exact h

theorem eventRepeat_dictOk {s : State} (h : s.DictOk) : (eventRepeat s).DictOk :=
  dictOk_ite (dictOk_foldl (fun _ _ ht => ht.sendEvent) h).modBus h

theorem busOffRecovery_dictOk {s : State} (h : s.DictOk) : (busOffRecovery s).DictOk := dictOk_ite h.modBus.setAll.postBus.flushEvents h

theorem errorFrame_dictOk {transmit receive : Nat} {off : Bool} {s : State} (h : s.DictOk) :
    (errorFrame transmit receive off s).DictOk := dictOk_ite h (dictOk_ite h.bump.setAll.modBus.countW h.bump.setAll)

/-! ## A tick -/

theorem State.DictOk.tickShoe {s : State} {x : Shoe} (h : s.DictOk) : (s.tickShoe x).DictOk :=
  dictOk_ite (dictOk_ite h.bump h).bump (dictOk_ite h.bump h)

theorem State.DictOk.tickSlot {s : State} {slot : Nat} (h : s.DictOk) : (s.tickSlot slot).DictOk :=
  dictOk_ite (dictOk_ite h.bump h).bump (dictOk_ite h.bump h)

theorem State.DictOk.tick {s : State} (h : s.DictOk) : s.tick.DictOk := by
  unfold State.tick
  extract_lets t2 t3 t4
  have ht2 : t2.DictOk := dictOk_foldl (fun _ _ ht => ht.tickShoe) (dictOk_foldl (fun _ _ ht => ht.tickSlot) h.countTick)
  have ht3 : t3.DictOk := dictOk_ite ht2 ht2.count
  have ht4 : t4.DictOk := dictOk_ite ht3.bump ht3
  exact ht4.same rfl rfl

/-- Every state that an outcome answers has its dictionary in canonical form. -/
def AnswersDictOk (o : Host.Outcome State Fault Refusal) : Prop := ∀ t, o = .next t → t.DictOk

theorem AnswersDictOk.next {t : State} (h : t.DictOk) : AnswersDictOk (.next t) := fun _ ht => Host.Outcome.next.inj ht ▸ h

/-- Every command keeps the dictionary in canonical form: each is an operation of the model, which does. -/
theorem exec_dictOk {s : State} (h : s.DictOk) (c : Instr) : AnswersDictOk (exec c s) := by
  cases c with
  | stagingOpen => exact .next (writeCommand_dictOk h (fun _ ht => stagingOpen_dictOk ht))
  | validate => exact .next (jobCommand_dictOk h (fun _ ht => validate_dictOk ht))
  | arm => exact .next (jobCommand_dictOk h (fun _ ht => arm_dictOk ht))
  | disarm => exact .next (jobCommand_dictOk h (fun _ ht => afterLaunch_dictOk ht (fun _ h3 => disarm_dictOk h3)))
  | stop => exact .next (jobCommand_dictOk h (fun _ ht => afterLaunch_dictOk ht (fun _ h3 => stop_dictOk h3))).flow
  | abort => exact .next (jobCommand_dictOk h (fun _ ht => afterLaunch_dictOk ht (fun _ h3 => abort_dictOk h3))).flow
  | jobRelease => exact .next (jobCommand_dictOk h (fun _ ht => jobRelease_dictOk ht)).flow
  | launch => exact .next (launchTick_dictOk h).flow
  | sliceBoundary => exact .next (boundary_dictOk h).flow
  | inferenceSwitchStart => exact .next (inferenceSwitchStart_dictOk h).flow
  | sliceSwitchComplete => exact .next (sliceSwitchComplete_dictOk h).flow
  | syncSourceWrite => exact .next (writeCommand_dictOk h (fun _ ht => syncSourceWrite_dictOk ht))
  | ptpSync => exact .next (ptpSync_dictOk h)
  | ptpFollowUp => exact .next (ptpFollowUp_dictOk h)
  | ptpDelayResp => exact .next (ptpDelayResp_dictOk h)
  | ptpAnnounce => exact .next (ptpAnnounce_dictOk h)
  | ppsInEdge => exact .next (ppsInEdge_dictOk h)
  | islandRealign => exact .next (islandRealign_dictOk h)
  | sourceLost => exact .next (sourceTimeout_dictOk h)
  | refInLockLoss => exact .next (refInLockLoss_dictOk h)
  | holdoverExpiry => exact .next (holdoverExpiry_dictOk h)
  | crossingWordLate => exact .next (crossingWordLate_dictOk h)
  | viaductFlitCrcError => exact .next (viaductRetry_dictOk h)
  | viaductLaneFailure => exact .next (viaductLaneFailure_dictOk h).flow
  | itemIssue => exact .next (itemIssue_dictOk h).flow
  | cacheHitCopyComplete => exact .next (cacheHitCopyComplete_dictOk h).flow
  | shardOpenComplete => exact .next (shardOpenComplete_dictOk h).flow
  | tarScanComplete => exact .next (tarScanComplete_dictOk h).flow
  | recordReadComplete => exact .next (recordReadComplete_dictOk h).flow
  | peerRecordReadComplete => exact .next (peerRecordReadComplete_dictOk h).flow
  | peerFetchTimeout => exact .next (peerFetchTimeout_dictOk h).flow
  | decompressComplete => exact .next (decompressComplete_dictOk h).flow
  | decodeComplete => exact .next (decodeComplete_dictOk h).flow
  | decodeBudgetExpired => exact .next (decodeBudgetExpired_dictOk h).flow
  | slowLaneDecodeComplete => exact .next (slowLaneDecodeComplete_dictOk h).flow
  | workLimitExceeded => exact .next (workLimitExceeded_dictOk h).flow
  | cacheFillComplete => exact .next (cacheFillComplete_dictOk h).flow
  | cacheCompressComplete => exact .next (cacheCompressComplete_dictOk h).flow
  | cacheFlashReadComplete => exact .next (cacheFlashReadComplete_dictOk h).flow
  | cacheDropUnpinned => exact .next (writeCommand_dictOk h (fun _ ht => cacheCommandWrite_dictOk ht))
  | cacheDropAll => exact .next (writeCommand_dictOk h (fun _ ht => cacheCommandWrite_dictOk ht))
  | cachePurgeDigest => exact .next (writeCommand_dictOk h (fun _ ht => cacheCommandWrite_dictOk ht))
  | transformComplete => exact .next (transformComplete_dictOk h).flow
  | prefillPassComplete => exact .next (prefillPassComplete_dictOk h).flow
  | stepPassComplete => exact .next (stepPassComplete_dictOk h).flow
  | trestleOperatorFault => exact .next (trestleOperatorFault_dictOk h).flow
  | curationLogRelease => exact .next (writeCommand_dictOk h (fun _ ht => curationLogRelease_dictOk ht)).flow
  | tokenizeComplete => exact .next (tokenizeComplete_dictOk h).flow
  | peerReady => exact .next (peerReady_dictOk h).flow
  | preparedReadComplete => exact .next (preparedReadComplete_dictOk h).flow
  | peerPrepare => exact .next (peerPrepare_dictOk h).flow
  | peerRelease => exact .next (peerRelease_dictOk h).flow
  | batchStart => exact .next (batchStart_dictOk h).flow
  | pushSliceAcknowledged => exact .next (pushSliceAcknowledged_dictOk h).flow
  | creditReturn => exact .next (creditReturn_dictOk h).flow
  | pullRelease => exact .next (pullRelease_dictOk h).flow
  | consumerStall => exact .next (consumerStall_dictOk h).flow
  | lateDeclaration => exact .next (lateDeclaration_dictOk h).flow
  | censusOfferReceived => exact .next (censusOfferReceived_dictOk h).flow
  | censusContributionReadComplete => exact .next (censusContributionReadComplete_dictOk h).flow
  | censusTimeout => exact .next (censusTimeout_dictOk h).flow
  | censusRequestReceived => exact .next (censusRequestReceived_dictOk h).flow
  | censusFullReceived => exact .next (censusFullReceived_dictOk h).flow
  | censusFullReadComplete => exact .next (censusFullReadComplete_dictOk h).flow
  | vocabLoad => exact .next (writeCommand_dictOk h (fun _ ht => ht.loadImage))
  | vocabBuildComplete => exact .next h.buildImage
  | vocabUnload => exact .next (writeCommand_dictOk h (fun _ ht => ht.unloadImage))
  | controlLoad => exact .next (writeCommand_dictOk h (fun _ ht => ht.loadImage))
  | controlBuildComplete => exact .next h.buildImage
  | controlUnload => exact .next (writeCommand_dictOk h (fun _ ht => ht.unloadImage))
  | bundleLoadImage => exact .next (writeCommand_dictOk h (fun _ ht => ht.loadImage))
  | bundleLoadObject => exact .next (writeCommand_dictOk h (fun _ ht => ht.loadObject))
  | bundleLoadComplete => exact .next h.buildImage
  | bundleUnload => exact .next (writeCommand_dictOk h (fun _ ht => ht.unloadImage))
  | kernelLoad => exact .next (writeCommand_dictOk h (fun _ ht => ht.loadImage))
  | kernelBuildComplete => exact .next h.buildImage
  | kernelUnload => exact .next (writeCommand_dictOk h (fun _ ht => ht.unloadImage))
  | kernelItemStart => exact .next (kernelItemStart_dictOk h).flow
  | chainAlloc => exact .next (chainAlloc_dictOk h).flow
  | chainLength => exact .next (chainLength_dictOk h).flow
  | refAdd => exact .next (kernelRefAdd_dictOk h).flow
  | refDrop => exact .next (kernelRefDrop_dictOk h).flow
  | dmaSubmit => exact .next (dmaSubmit_dictOk h).flow
  | dmaWait => exact .next (dmaWait_dictOk h).flow
  | dmaComplete => exact .next (dmaComplete_dictOk h).flow
  | dmaTimeout => exact .next (dmaTimeout_dictOk h).flow
  | rng => exact .next (rng_dictOk h).flow
  | emit => exact .next (emit_dictOk h).flow
  | pass => exact .next (pass_dictOk h).flow
  | fail => exact .next (fail_dictOk h).flow
  | reject => exact .next (reject_dictOk h).flow
  | serviceUnknown => exact .next (serviceUnknown_dictOk h).flow
  | kernelTrap => exact .next (kernelTrap_dictOk h).flow
  | instructionLimit => exact .next (kernelLimit_dictOk h).flow
  | noEnding => exact .next (noEnding_dictOk h).flow
  | refreshStart => exact .next (refreshStart_dictOk h)
  | refreshEnd => exact .next (refreshEnd_dictOk h)
  | hotScheduleChange => exact .next (hotScheduleChange_dictOk h)
  | retrainComplete => exact .next (retrainComplete_dictOk h).flow
  | gddrCorrectedError => exact .next (gddrCorrectedError_dictOk h)
  | gddrUncorrectableRead => exact .next (gddrUncorrectableRead_dictOk h).flow
  | gddrLinkCrcFailure => exact .next (gddrLinkCrcFailure_dictOk h)
  | retireChannel => exact .next (writeCommand_dictOk h (fun _ ht => retireChannel_dictOk ht))
  | channelMigrationComplete => exact .next (channelMigrationComplete_dictOk h)
  | sramUncorrectable => exact .next (sramUncorrectable_dictOk h).flow
  | bufferAllocate => exact .next (bufferAllocate_dictOk h).flow
  | freeListRebuildComplete => exact .next (freeListRebuildComplete_dictOk h).flow
  | bufferGrant => exact .next h.flow
  | bufferRefAdd => exact .next (bufferReference_dictOk h).flow
  | bufferRefDrop => exact .next (bufferReference_dictOk h).flow
  | format => exact .next (writeCommand_dictOk h (fun _ ht => formatStore_dictOk ht))
  | patrolFull => exact .next (writeCommand_dictOk h (fun _ ht => patrolFull_dictOk ht))
  | patrolStop => exact .next (writeCommand_dictOk h (fun _ ht => patrolStop_dictOk ht))
  | patrolRead => exact .next (patrolRead_dictOk h)
  | create => exact .next (writeCommand_dictOk h (fun _ ht => objectCommand_dictOk ht))
  | append => exact .next (writeCommand_dictOk h (fun _ ht => objectCommand_dictOk ht))
  | sealObject => exact .next (writeCommand_dictOk h (fun _ ht => objectCommand_dictOk ht))
  | delete => exact .next (writeCommand_dictOk h (fun _ ht => objectCommand_dictOk ht))
  | secureDiscard => exact .next (writeCommand_dictOk h (fun _ ht => objectCommand_dictOk ht))
  | unitReadRequest => exact .next (unitReadRequest_dictOk h)
  | unitReadComplete => exact .next (unitReadComplete_dictOk h)
  | programComplete => exact .next (programComplete_dictOk h).storeStatus
  | eraseComplete => exact .next (eraseComplete_dictOk h)
  | gcCampaignStart => exact .next (gcStart_dictOk h)
  | gcCopyComplete => exact .next (gcCopy_dictOk h).storeStatus
  | bandErase => exact .next (bandErase_dictOk h)
  | wearLevelStart => exact .next (wearLevelStart_dictOk h)
  | journalFlush => exact .next (journalFlush_dictOk h)
  | checkpoint => exact .next (checkpointCommand_dictOk h)
  | flushEnergyUpdate => exact .next (flushEnergyUpdate_dictOk h)
  | holdupWaitTimeout => exact .next (holdupTimeout_dictOk h)
  | mountComplete => exact .next (mountComplete_dictOk h)
  | portLinkUp => exact .next (portLinkUp_dictOk h)
  | portLinkDown => exact .next (portLinkDown_dictOk h)
  | arpRequest => exact .next (answerFrame_dictOk h)
  | neighborSolicitation => exact .next (answerFrame_dictOk h)
  | echoRequest => exact .next (answerFrame_dictOk h)
  | frameDiscard => exact .next (frameDiscard_dictOk h.addTotals)
  | pfcFrameReceived => exact .next (pfcReceived_dictOk h)
  | pfcRepeat => exact .next (pfcRepeat_dictOk h)
  | pauseStormReceived => exact .next (stormReceived_dictOk h)
  | pauseStormSent => exact .next (stormSent_dictOk h)
  | stormRecoveryExpiry => exact .next (stormRecovery_dictOk h)
  | receiveSend => exact .next (receiveSend_dictOk h)
  | receiveWrite => exact .next (receiveWrite_dictOk h)
  | receiveReadRequest => exact .next (receiveReadRequest_dictOk h)
  | receiveReadResponse => exact .next (receiveReadResponse_dictOk h)
  | receiveAcknowledge => exact .next (receiveAcknowledge_dictOk h)
  | ackDelayExpiry => exact .next (ackDelay_dictOk h)
  | retransmitTimeout => exact .next (retransmitTimeout_dictOk h)
  | rnrTimerExpiry => exact .next (rnrExpiry_dictOk h)
  | reorderTimeout => exact .next (reorderTimeout_dictOk h)
  | revokeDrainComplete => exact .next (revokeDrained_dictOk h)
  | revokeDrainOverrun => exact .next (revokeOverrun_dictOk h)
  | connect => exact .next (handshakeMessage_dictOk h (fun _ _ _ _ ht => recvConnect_dictOk ht))
  | accept => exact .next (handshakeMessage_dictOk h (fun _ _ _ _ ht => recvAccept_dictOk ht)).flow
  | confirm => exact .next (handshakeMessage_dictOk h (fun _ _ _ _ ht => recvConfirm_dictOk ht)).flow
  | handshakeReady => exact .next (handshakeMessage_dictOk h (fun _ _ _ _ ht => recvReady_dictOk ht)).flow
  | handshakeReject => exact .next (handshakeMessage_dictOk h (fun _ _ _ _ ht => recvReject_dictOk ht))
  | close => exact .next (handshakeMessage_dictOk h (fun _ _ _ _ ht => recvClose_dictOk ht))
  | handshakeResend => exact .next (handshakeResend_dictOk h)
  | handshakeBackoffExpiry => exact .next (handshakeBackoff_dictOk h)
  | handshakeTimeout => exact .next (handshakeTimeout_dictOk h)
  | portFrameSelect => exact .next (portFrameSelect_dictOk h)
  | queueRejoin => exact .next h.joinQueue
  | shaperProfileWrite => exact .next (writeCommand_dictOk h (fun _ ht => shaperProfileWrite_dictOk ht))
  | policerProfileWrite => exact .next (writeCommand_dictOk h (fun _ ht => policerProfileWrite_dictOk ht))
  | keepalive => exact .next (keepalive_dictOk h)
  | memberTimeout => exact .next (memberTimeout_dictOk h).flow
  | engineFault => exact .next (itemEngineFault_dictOk h).flow
  | nodeFault => exact .next h.nodeFault.flow
  | stepAbort => exact .next (stepCommand_dictOk h (fun _ ht => stepAbort_dictOk ht)).flow
  | abortMessage => exact .next (abortMessage_dictOk h).flow
  | abortAck => exact .next (abortAck_dictOk h)
  | abortProbe => exact .next (abortProbe_dictOk h)
  | resume => exact .next (stepCommand_dictOk h (fun _ ht => resume_dictOk ht))
  | join => exact .next (stepCommand_dictOk h (fun _ ht => join_dictOk ht))
  | cancel => exact .next (stepCommand_dictOk h (fun _ ht => cancel_dictOk ht))
  | resumeTick => exact .next (resumeTick_dictOk h).flow
  | replace => exact .next (memberCommand_dictOk h (fun _ ht => replaceMember_dictOk ht))
  | removeDomain => exact .next (memberCommand_dictOk h (fun _ ht => removeDomain_dictOk ht))
  | memberClear => exact .next (memberCommand_dictOk h (fun _ ht => memberClear_dictOk ht))
  | resetRelease => exact .next (resetRelease_dictOk h)
  | bootBodyReadComplete => exact .next (bootBodyRead_dictOk h)
  | hubAlive => exact .next (hubAlive_dictOk h)
  | bootWatchdogExpiry => exact .next (watchdogExpiry_dictOk h)
  | recoveryAttempt => exact .next (recoveryAttempt_dictOk h)
  | beacon => exact .next (beacon_dictOk h)
  | recoveryLinkTry => exact .next (recoveryLinkTry_dictOk h)
  | offer => exact .next (recoveryOffer_dictOk h)
  | data => exact .next (recoveryData_dictOk h)
  | recoveryAckTimer => exact .next (recoveryAck_dictOk h)
  | recoveryTransferTimeout => exact .next (recoveryTimeout_dictOk h)
  | stageImage => exact .next (writeCommand_dictOk h (fun _ ht => stageImage_dictOk ht))
  | stageObject => exact .next (writeCommand_dictOk h (fun _ ht => stageObject_dictOk ht))
  | fwCheckComplete => exact .next (fwCheckComplete_dictOk h)
  | install => exact .next (writeCommand_dictOk h (fun _ ht => install_dictOk ht))
  | installComplete => exact .next (installComplete_dictOk h)
  | reboot => exact .next (writeCommand_dictOk h (fun _ ht => rebootCommand_dictOk ht))
  | commitSvn => exact .next (writeCommand_dictOk h (fun _ ht => commitSvn_dictOk ht))
  | bindBootFlash => exact .next (writeCommand_dictOk h (fun _ ht => bindBootFlash_dictOk ht))
  | quote => exact .next (writeCommand_dictOk h (fun _ ht => quoteCommand_dictOk ht))
  | quoteComplete => exact .next (quoteComplete_dictOk h)
  | measure => exact .next (writeCommand_dictOk h (fun _ ht => measureCommand_dictOk ht))
  | revokeAdd => exact .next (writeCommand_dictOk h (fun _ ht => revokeAdd_dictOk ht))
  | revokeRemove => exact .next (writeCommand_dictOk h (fun _ ht => revokeRemove_dictOk ht))
  | revokeClear => exact .next (writeCommand_dictOk h (fun _ ht => revokeClear_dictOk ht))
  | walk => exact .next (busWalk_dictOk h)
  | walkEnd => exact .next (walkEnd_dictOk h)
  | rateSwitch => exact .next (rateSwitch_dictOk h)
  | rateSwitchApply => exact .next (rateSwitchApply_dictOk h)
  | eventAck => exact .next (eventAck_dictOk h)
  | helloQuery => exact .next (helloQuery_dictOk h)
  | walkEligible => exact .next (walkEligible_dictOk h)
  | claimReceived => exact .next (claimReceived_dictOk h)
  | claimHoldExpiry => exact .next (claimHoldExpiry_dictOk h)
  | claimCollisionBackoff => exact .next (claimBackoff_dictOk h)
  | chainInFall => exact .next (chainInFall_dictOk h)
  | addressConflict => exact .next (addressConflict_dictOk h)
  | hello => exact .next (hello_dictOk h)
  | bdpRead => exact .next (bdpRead_dictOk h)
  | bdpWrite => exact .next (bdpWrite_dictOk h)
  | segWrite => exact .next (openWrite_dictOk h)
  | segRead => exact .next (openRead_dictOk h)
  | stageWrite => exact .next (openWrite_dictOk h)
  | stageRead => exact .next (openRead_dictOk h)
  | bdpAbort => exact .next (bdpAbort_dictOk h)
  | segment => exact .next (segment_dictOk h)
  | block => exact .next (block_dictOk h)
  | blockAck => exact .next (blockAck_dictOk h)
  | bdpTimeout => exact .next (bdpTimeout_dictOk h)
  | eventRepeat => exact .next (eventRepeat_dictOk h)
  | busOffRecovery => exact .next (busOffRecovery_dictOk h)
  | registerWrite => exact .next (writeObject_dictOk h)
  | persistCommit => exact .next (persistCommit_dictOk h)
  | persistCompaction => exact .next (persistCompaction_dictOk h)
  | restoreDefaults => exact .next (writeCommand_dictOk h (fun _ ht => restoreDefaults_dictOk ht))
  | snapshot => exact .next (takeSnapshot_dictOk h)
  | clearAll => exact .next (writeCommand_dictOk h (fun _ ht => counterCommandWrite_dictOk ht))
  | stopAll => exact .next (writeCommand_dictOk h (fun _ ht => counterCommandWrite_dictOk ht))
  | counterControlWrite => exact .next (writeCommand_dictOk h (fun _ ht => counterControlWrite_dictOk ht))
  | counterValueWrite => exact .next (writeCommand_dictOk h (fun _ ht => counterValueWrite_dictOk ht))
  | lbist => exact .next (writeCommand_dictOk h (fun _ ht => lbist_dictOk ht))
  | lbistIslandComplete => exact .next (lbistIslandComplete_dictOk h)
  | marchPreserve => exact .next (writeCommand_dictOk h (fun _ ht => marchPreserve_dictOk ht))
  | marchDestructive => exact .next (writeCommand_dictOk h (fun _ ht => marchDestructive_dictOk ht))
  | marchWordTest => exact .next (marchWordTest_dictOk h)
  | marchComplete => exact .next (marchComplete_dictOk h)
  | selftestStop => exact .next (writeCommand_dictOk h (fun _ ht => selftestStop_dictOk ht))
  | pathDelaySample => exact .next (pathDelaySample_dictOk h)
  | marginPlan => exact .next (marginPlan_dictOk h)
  | planNow => exact .next (writeCommand_dictOk h (fun _ ht => planNow_dictOk ht))
  | avsStep => exact .next (avsStep_dictOk h)
  | pmbusPoll => exact .next (pmbusPoll_dictOk h)
  | pmbAlert => exact .next (pmbAlert_dictOk h)
  | pwrgdFall => exact .next (pwrgdFall_dictOk h)
  | resetNAssert => exact .next (resetAssert_dictOk h)
  | pwrFailNFall => exact .next (pwrFail_dictOk h)
  | powerFailFlushComplete => exact .next (flushComplete_dictOk h)
  | retain => exact .next (writeCommand_dictOk h (fun _ ht => retainCommand_dictOk ht))
  | retainEntryComplete => exact .next (retainEntered_dictOk h)
  | wake => exact .next (writeCommand_dictOk h (fun _ ht => wakeCommand_dictOk ht))
  | wakeNFall => exact .next (wakeFall_dictOk h)
  | shutdown => exact .next (writeCommand_dictOk h (fun _ ht => shutdownCommand_dictOk ht))
  | shutdownComplete => exact .next (shutdownComplete_dictOk h)
  | holdupSenseSample => exact .next (holdUpSample_dictOk h)
  | holdupMeasureDue => exact .next (holdUpDue_dictOk h)
  | holdupCommandMeasure => exact .next (writeCommand_dictOk h (fun _ ht => holdUpCommand_dictOk ht))
  | holdupMeasurePhase => exact .next (holdUpPhase_dictOk h)
  | holdupChargeTimeout => exact .next (holdUpChargeTimeout_dictOk h)
  | energyCheck => exact .next (energyCheck_dictOk h)
  | thermalSample => exact .next (thermalSample_dictOk h)
  | hardwareTrip => exact .next (hardwareTrip_dictOk h)
  | chainInRise => exact .next (chainInRise_dictOk h)
  | delayReqSend => exact .next (delayReqSend_dictOk h)
  | pfcPauseExpiry => exact .next (pfcPauseExpiry_dictOk h)
  | pwrgdRise => exact .next (pwrgdRise_dictOk h)
  | channelControllerFailure => exact .next (channelControllerFailure_dictOk h)
  | segReadResponse => exact .next (segReadResponse_dictOk h)
  | errorFrame => exact .next (errorFrame_dictOk h)
  | refillComplete => exact .next (refillComplete_dictOk h).flow

/-- Settles O57: the front command is carried out on the state without it, which has the same dictionary, and an idle step is a tick. -/
theorem everyStepKeepsDictionaryCanonical : Obligations.EveryStepKeepsDictionaryCanonical := by
  intro s t h ht
  unfold step at ht
  split at ht
  next c rest _ =>
    have hs : State.DictOk { s with pending := rest } := h.same rfl rfl
    exact exec_dictOk hs c t ht
  · exact Host.Outcome.next.inj ht ▸ h.tick

end Sys2Proof.Machine
end

section
/-! The packets of RC connections (R377, R378, R387 to R391, R397 to R400, R420, R423): admission, sequencing, and what each kind of
packet does once it is admitted. -/

namespace Sys2Proof.Machine

theorem onConn_some {s : State} {ctx : Nat} {c : Conn} (h : s.conn ctx = some c) (f : Conn → State) : s.onConn ctx f = f c := by
  simp only [State.onConn, h]

/-! ## Admission and sequencing -/

theorem admitPacket_plain {s : State} {ctx : Nat} {p : Packet} {c : Conn} (htest : s.netTested = false) (hc : s.conn ctx = some c)
    (hst : c.st = 2) (hicrc : p.icrcOk = true) (hrc : p.rc = true) (hkey : p.pkey = 0xFFFF) (hmode : c.sealMode = false)
    (hseal : p.sealed = none) :
    admitPacket ctx p s = .go { c with carried := (countFrame p c s).gtc }
      ((countFrame p c s).putConn { c with carried := (countFrame p c s).gtc }) := by
  simp only [admitPacket, htest, hc, hst, hicrc, hrc, hkey, hmode, hseal]
  rfl

/-- A packet that its connection's meter does not turn red is accepted (R420, R423). -/
def State.metered (s : State) (ctx : Nat) (p : Packet) (c : Conn) (accept : State → State) : State :=
  match s.meter c p with
  | some t => accept t
  | none => s.redFrame ctx p.psn

section Sequenced
variable {ctx : Nat} {p : Packet} {c : Conn} {s : State} {dup accept : State → State} {meterIt : Bool}

theorem psnAhead_of_dist_zero {a x : Nat} (h : psnDist a x = 0) : psnAhead a x = false := by simp [psnAhead, h]

theorem dist_ne_zero_of_psnAhead {a x : Nat} (h : psnAhead a x = true) : psnDist a x ≠ 0 := by
  intro h0
  simp [psnAhead_of_dist_zero h0] at h

theorem sequenced_behind (hne : psnDist p.psn c.ePsn ≠ 0) (hbehind : psnAhead p.psn c.ePsn = false) :
    sequenced ctx p c meterIt dup accept s = dup s := by
  simp [sequenced, hne, hbehind]

section NotSprayed
variable (hred : c.red = none) (hspray : c.sprayMode = false)
include hred hspray

theorem sequenced_unmetered (h0 : psnDist p.psn c.ePsn = 0) : sequenced ctx p c false dup accept s = accept s := by
  simp [sequenced, h0, hred, hspray]

theorem sequenced_metered (h0 : psnDist p.psn c.ePsn = 0) : sequenced ctx p c true dup accept s = s.metered ctx p c accept := by
  simp only [sequenced, h0, hred, hspray]
  rfl

theorem sequenced_gap (hahead : psnAhead p.psn c.ePsn = true) :
    sequenced ctx p c meterIt dup accept s = if c.nakSent = true then s else s.sequenceNak ctx := by
  simp [sequenced, dist_ne_zero_of_psnAhead hahead, hahead, hred, hspray]

end NotSprayed

end Sequenced

/-! ## SENDs -/

/-- What an accepted SEND packet does: it is marked, delivered and acknowledged when due. -/
def State.acceptSend (u : State) (ctx : Nat) (p : Packet) : State :=
  u.onConn ctx fun d =>
    let m : InMessage := { firstPsn := p.psn, lastPsn := p.psn, isSend := true, imm := p.imm, body := p.payload }
    let d := if (d.inbound.any fun x => x.firstPsn == p.psn) = true then d else { d with inbound := d.inbound ++ [m] }
    ((u.putConn (d.mark p.psn 1 u.gtc)).deliver ctx).ackIfDue ctx p.ackReq

section Admitted
variable {s t : State} {ctx : Nat} {p : Packet} {c : Conn} (hgo : admitPacket ctx p s = .go c t) (hlen : lengthsOk p = true)
include hgo hlen

theorem receiveSend_legal (hop : p.opcode = 4 ∨ p.opcode = 5) :
    receiveSend ctx p s = sequenced ctx p c (p.payload != []) (fun s => s.duplicate ctx) (fun s => s.acceptSend ctx p) t := by
  unfold receiveSend
  simp only [hgo]
  rw [if_neg (by omega), if_neg (by simp [hlen])]
  rfl

/-! ## WRITEs -/

/-- What a WRITE packet of the first kind does once its bytes are placed. -/
def State.acceptWrite (v : State) (ctx : Nat) (p : Packet) : State :=
  v.onConn ctx fun d =>
    let last := psnAdd p.psn (packetCount p.length - 1)
    let m : InMessage := { firstPsn := p.psn, lastPsn := last, isSend := false, key := p.key, addr := p.addr, length := p.length }
    let inbound := if (d.inbound.any fun m => m.firstPsn == p.psn && !m.isSend) = true then d.inbound else d.inbound ++ [m]
    let inbound := inbound.map fun m => if m.firstPsn = p.psn ∧ ¬ m.isSend ∧ p.imm.isSome then { m with imm := p.imm } else m
    ((v.putConn (Conn.mark { d with inbound := inbound } p.psn 1 v.gtc)).deliver ctx).ackIfDue ctx p.ackReq

section Write
variable {u : State} (hred : c.red = none) (hspray : c.sprayMode = false) (hop : p.opcode = 0x0A) (hseal : p.sealed = none)
  (h0 : psnDist p.psn c.ePsn = 0) (hmeter : t.meter c p = some u) (hpos : 0 < p.length)
include hred hspray hop hseal h0 hmeter hpos

theorem receiveWrite_placed {r : Region} (hr : u.checkAccess c true p.key p.addr p.length = .ok r) :
    receiveWrite ctx p s = (u.regionWrite r (p.addr - r.base) p.payload).acceptWrite ctx p := by
  unfold receiveWrite
  simp only [hgo, hlen, hop]
  simp only [isWriteOpcode, hasReth, placeOf, hseal]
  simp [sequenced_metered hred hspray h0, State.metered, hmeter, hpos.ne', hr, State.acceptWrite]

theorem receiveWrite_refused {code : Nat} (hr : u.checkAccess c true p.key p.addr p.length = .error code) :
    receiveWrite ctx p s = (u.bump Obj.remoteAccessErrors).fatalNak ctx synAccess p.psn code := by
  unfold receiveWrite
  simp only [hgo, hlen, hop]
  simp only [isWriteOpcode, hasReth, placeOf, hseal]
  simp [sequenced_metered hred hspray h0, State.metered, hmeter, hpos.ne', hr]

end Write

/-! ## READ requests and responses -/

section Read
variable (hred : c.red = none) (hspray : c.sprayMode = false) (hop : p.opcode = 0x0C)
  (h0 : psnDist p.psn c.ePsn = 0) (hdepth : c.readsAnswering < t.get Obj.readDepth)
include hred hspray hop h0 hdepth

theorem receiveReadRequest_answered {content : State → Region → Nat → Nat → Option Bytes} {r : Region} {data : Bytes}
    (hr : t.checkAccess c false p.key p.addr p.length = .ok r) (hdata : content t r (p.addr - r.base) p.length = some data) :
    receiveReadRequest content ctx p s =
      let u := (t.onConn ctx fun d => t.putConn { d with
        dataQ := d.dataQ ++ readResponses p.psn data t.gtc d.msn (creditCode (t.freeEntries d)) }).joinQueue ctx
      (u.onConn ctx fun d => u.putConn (Conn.mark { d with msn := d.msn + 1 } p.psn (packetCount p.length) u.gtc)).deliver ctx := by
  unfold receiveReadRequest
  simp only [hgo, hlen, hop]
  simp [sequenced_unmetered hred hspray h0, hr, hdata, Nat.not_le.mpr hdepth]

theorem receiveReadRequest_refused {content : State → Region → Nat → Nat → Option Bytes} {code : Nat}
    (hr : t.checkAccess c false p.key p.addr p.length = .error code) :
    receiveReadRequest content ctx p s = (t.bump Obj.remoteAccessErrors).fatalNak ctx synAccess p.psn code := by
  unfold receiveReadRequest
  simp only [hgo, hlen, hop]
  simp [sequenced_unmetered hred hspray h0, hr, Nat.not_le.mpr hdepth]

end Read

theorem receiveReadResponse_placed {u : State} {r : ReadOut} (hlow : 0x0D ≤ p.opcode) (hhigh : p.opcode ≤ 0x10) (hseal : p.sealed = none)
    (hfirst : (c.readsOut.find? fun r => decide (psnDist p.psn r.firstPsn < packetCount r.length)) = some r)
    (hr : (c.readsOut.find? fun x => x.firstPsn == r.firstPsn) = some r) (hmeter : t.meter c p = some u) :
    receiveReadResponse ctx p s = u.onConn ctx fun d =>
      let r' := { r with data := overwrite r.data (mtu * psnDist p.psn r.firstPsn) p.payload }
      let d := { d with readsOut := replaceFirst (fun x => x.firstPsn == r.firstPsn) r' d.readsOut }
      let last := psnAdd r.firstPsn (packetCount r.length - 1)
      if p.psn = last then
        let d := d.acked last (creditCode d.credits) u.gtc
        u.putConn { d with messages := d.messages.filter fun m => m.firstPsn != r.firstPsn }
      else u.putConn { d with progress := u.gtc } := by
  unfold receiveReadResponse
  simp only [hgo]
  rw [if_neg (by omega), if_neg (by simp [hlen])]
  simp only [hseal, hfirst, hr, hmeter, Option.map_some, Option.bind_some]

end Admitted

/-! ## Acknowledgements -/

/-- What an Acknowledge packet does to its connection, by its syndrome. -/
def State.takeAck (t : State) (ctx : Nat) (p : Packet) (d : Conn) : State :=
  if p.syndrome < 32 then ((t.putConn (d.acked p.psn p.syndrome t.gtc)).joinQueue ctx).closeIdle ctx
  else if p.syndrome < 64 then
    let u := t.bump Obj.rnrNaksReceived
    if u.get Obj.rnrRetryLimit < 7 ∧ u.get Obj.rnrRetryLimit < d.rnrRetries + 1 then u.loseConn ctx 0x6021 3 false
    else u.putConn { d.acked (psnAdd p.psn (psnMod - 1)) (creditCode d.credits) u.gtc with
      rnrRetries := d.rnrRetries + 1, rnrUntil := some (p.psn, u.gtc + rnrTicks (p.syndrome % 32)) }
  else if p.syndrome = synSequence then
    if t.get Obj.retryLimit ≤ d.retries then t.loseConn ctx 0x6020 3 false
    else
      let moved := d.unacked.any fun q => !(q.psn == p.psn || psnAhead q.psn p.psn)
      (t.putConn { d.acked (psnAdd p.psn (psnMod - 1)) (creditCode d.credits) t.gtc with
        retries := if moved = true then 1 else d.retries + 1 }).resendFrom ctx p.psn
  else t.loseConn ctx 0x6022 3 false

theorem receiveAcknowledge_taken {s t : State} {ctx : Nat} {p : Packet} {c d : Conn} (hgo : admitPacket ctx p s = .go c t)
    (hop : p.opcode = 0x11) (hd : t.conn ctx = some d) : receiveAcknowledge ctx p s = t.takeAck ctx p d := by
  unfold receiveAcknowledge
  simp only [hgo]
  rw [if_neg (not_not_intro hop), onConn_some hd]
  rfl

section Acknowledge
variable {t : State} {ctx : Nat} {p : Packet} {d : Conn}

theorem takeAck_ack (h : p.syndrome < 32) :
    t.takeAck ctx p d = ((t.putConn (d.acked p.psn p.syndrome t.gtc)).joinQueue ctx).closeIdle ctx := if_pos h

theorem takeAck_rnr (hlow : 32 ≤ p.syndrome) (hhigh : p.syndrome < 64) :
    t.takeAck ctx p d =
      let u := t.bump Obj.rnrNaksReceived
      if u.get Obj.rnrRetryLimit < 7 ∧ u.get Obj.rnrRetryLimit < d.rnrRetries + 1 then u.loseConn ctx 0x6021 3 false
      else u.putConn { d.acked (psnAdd p.psn (psnMod - 1)) (creditCode d.credits) u.gtc with
        rnrRetries := d.rnrRetries + 1, rnrUntil := some (p.psn, u.gtc + rnrTicks (p.syndrome % 32)) } :=
  (if_neg (Nat.not_lt.mpr hlow)).trans (if_pos hhigh)

theorem takeAck_sequence (h : p.syndrome = 96) :
    t.takeAck ctx p d = if t.get Obj.retryLimit ≤ d.retries then t.loseConn ctx 0x6020 3 false
      else
        let moved := d.unacked.any fun q => !(q.psn == p.psn || psnAhead q.psn p.psn)
        (t.putConn { d.acked (psnAdd p.psn (psnMod - 1)) (creditCode d.credits) t.gtc with
          retries := if moved = true then 1 else d.retries + 1 }).resendFrom ctx p.psn :=
  (if_neg (by omega)).trans ((if_neg (by omega)).trans (if_pos h))

end Acknowledge

/-- Settles O35: an admitted packet goes on by the branch of `sequenced` that its PSN picks, and an Acknowledge by its syndrome. -/
theorem packetsComplete : Obligations.PacketsComplete := by
  refine ⟨fun s ctx p c htest hc hst hicrc hrc hkey hmode hseal => admitPacket_plain htest hc hst hicrc hrc hkey hmode hseal,
    fun s t ctx p c hgo hred hspray hop hlen => ?_,
    fun s t u ctx p c hgo hred hspray hop hseal hlen h0 hmeter => ⟨fun r hpos hr => ?_, fun code hpos hr => ?_⟩,
    fun s t ctx p c hgo hred hspray hop hlen h0 hdepth => ⟨fun r data hr hdata => ?_, fun code hr => ?_⟩,
    fun s t u ctx p c r hgo hlow hhigh hlen hseal hfirst hr hmeter => ?_,
    fun s t ctx p c d hgo hop hd => ⟨fun h => ?_, fun hlow hhigh => ⟨fun hlimit hpast => ?_, fun hwithin => ?_⟩,
      fun h hpast => ?_, fun h hwithin => ?_⟩⟩
  · have hsend : exec (.receiveSend ctx p) s = .next _ := congrArg Host.Outcome.next (receiveSend_legal hgo hlen hop)
    refine ⟨fun h0 hnil => ?_, fun h0 hne => ?_, fun hne hbehind => ?_, fun hahead => ?_⟩
    · rw [hsend, show (p.payload != []) = false by simp [hnil], sequenced_unmetered hred hspray h0]
      rfl
    · rw [hsend, show (p.payload != []) = true by simp [hne], sequenced_metered hred hspray h0]
      rfl
    · rw [hsend, sequenced_behind hne hbehind]
      rfl
    · rw [hsend, sequenced_gap hred hspray hahead]
  · exact congrArg Host.Outcome.next (receiveWrite_placed hgo hlen hred hspray hop hseal h0 hmeter hpos hr)
  · exact congrArg Host.Outcome.next (receiveWrite_refused hgo hlen hred hspray hop hseal h0 hmeter hpos hr)
  · exact congrArg Host.Outcome.next (receiveReadRequest_answered hgo hlen hred hspray hop h0 hdepth hr hdata)
  · exact congrArg Host.Outcome.next (receiveReadRequest_refused hgo hlen hred hspray hop h0 hdepth hr)
  · exact congrArg Host.Outcome.next (receiveReadResponse_placed hgo hlen hlow hhigh hseal hfirst hr hmeter)
  all_goals refine congrArg Host.Outcome.next ((receiveAcknowledge_taken hgo hop hd).trans ?_)
  · exact takeAck_ack h
  · exact (takeAck_rnr hlow hhigh).trans (if_pos ⟨hlimit, hpast⟩)
  · exact (takeAck_rnr hlow hhigh).trans (if_neg (by omega))
  · exact (takeAck_sequence h).trans (if_pos hpast)
  · exact (takeAck_sequence h).trans (if_neg (Nat.not_le.mpr hwithin))

end Sys2Proof.Machine
end

section
/-! The commands of an Ethernet port (R370 to R376, R466): links, the frames the device answers itself, PFC and its watchdog. -/

namespace Sys2Proof.Machine

section Port
variable {s : State} {p : Nat}

/-! ## Links and answered frames -/

theorem portLinkUp_down (hruns : s.portRuns p = true) (hexists : s.portExists p = true) (hdown : s.get (inst Obj.portState p) < 2) :
    portLinkUp p s =
      ((((s.set (inst Obj.portState p) 2).set (inst Obj.portRateGbps p) (s.portRate p)).setPort p {}).rehome).postNetwork 4 p 0 :=
  if_pos (by simp [hruns, hexists, hdown])

theorem portLinkDown_up (hup : 2 ≤ s.get (inst Obj.portState p)) :
    portLinkDown p s = (((s.set (inst Obj.portState p) 1).setPort p {}).rehome).postNetwork 3 p 0 := if_pos hup

theorem answerFrame_mine {mine : Bool} (hmine : mine = true) (hup : 2 ≤ s.get (inst Obj.portState p)) (what : Nat) (b : Bytes) :
    answerFrame p what mine b s = { s with sent := s.sent ++ [.frame p what b] } := if_pos (by simp [hmine, hup])

theorem answerFrame_notMine {mine : Bool} (hmine : mine = false) (what : Nat) (b : Bytes) :
    answerFrame p what mine b s = s.bump Obj.framesDiscarded := if_neg (by simp [hmine])

theorem isOwn_of_eq {target : Nat} (h0 : target ≠ 0) (h : s.ownAddress = target ∨ s.get Obj.deviceAddressV4 = target) :
    s.isOwn target = true := by
  obtain h | h := h <;> simp [State.isOwn, h, h0]

theorem isOwn_of_ne {target : Nat} (h6 : s.ownAddress ≠ target) (h4 : s.get Obj.deviceAddressV4 ≠ target) : s.isOwn target = false := by
  simp [State.isOwn, h6.symm, h4.symm]

/-! ## Received pauses -/

section Pause
variable {priority quanta : Nat} {held : List Nat}

theorem pfcReceived_noClass (h : s.classOf priority = none) : pfcReceived p priority quanta held s = s.bump Obj.framesDiscarded := by
  simp only [pfcReceived, h]

section Class
variable {k : Bool} (hk : s.classOf priority = some k)
include hk

theorem pfcReceived_stormed (hst : ((s.portAt p).cls k).stormedUntil ≠ none) :
    pfcReceived p priority quanta held s = if quanta = 0 then s
      else s.modClass p k fun c => { c with stormedUntil := some (s.gtc + s.get Obj.pfcRecoveryTicks) } := by
  simp only [pfcReceived, hk, if_pos (Option.isSome_iff_ne_none.mpr hst)]

variable (hst : ((s.portAt p).cls k).stormedUntil = none)
include hst

theorem pfcReceived_lifted (hq : quanta = 0) :
    pfcReceived p priority quanta held s = (s.bump (inst Obj.portPauseReceived p)).resume p k := by
  simp [pfcReceived, hk, hst, hq]

variable (hq : quanta ≠ 0)
include hq

theorem pfcReceived_renewed (hp : ((s.portAt p).cls k).pausedUntil ≠ none) :
    pfcReceived p priority quanta held s =
      let t := s.bump (inst Obj.portPauseReceived p)
      t.modClass p k fun c => { c with pausedUntil := some (t.gtc + t.pauseTicks p quanta) } := by
  have hp : ((s.portAt p).cls k).pausedUntil.isNone = false := Option.isNone_eq_false_iff.mpr (Option.isSome_iff_ne_none.mpr hp)
  simp [pfcReceived, hk, hst, hq, hp]

theorem pfcReceived_fresh (hp : ((s.portAt p).cls k).pausedUntil = none) :
    pfcReceived p priority quanta held s =
      let u := (((s.bump (inst Obj.portPauseReceived p)).bump Obj.netPauseCount).event 5 0x106 1 (some p)).markPerturb held 3
      u.modClass p k fun c => { c with pausedUntil := some (u.gtc + u.pauseTicks p quanta), pausedSince := u.gtc } := by
  simp [pfcReceived, hk, hst, hq, hp]

end Class

end Pause

variable {k : Bool}

theorem pfcPauseExpiry_due {t : Nat} (h : ((s.portAt p).cls k).pausedUntil = some t) (hdue : t ≤ s.gtc) :
    pfcPauseExpiry p k s =
      let ticks := s.gtc - ((s.portAt p).cls k).pausedSince
      (((s.count Obj.netPauseTicks ticks).event 5 0x107 ticks (some p)).modClass p k fun c => { c with pausedUntil := none }).rehome := by
  simp only [pfcPauseExpiry, h, if_pos hdue, State.resume]

/-! ## Sent pauses -/

/-- What a change of a class makes of a port depends on the class alone. -/
theorem modClass_congr {f g : PortClass → PortClass} (h : f ((s.portAt p).cls k) = g ((s.portAt p).cls k)) :
    s.modClass p k f = s.modClass p k g := by
  cases k with
  | false => exact congrArg (fun c => s.setPort p { s.portAt p with data := c }) h
  | true => exact congrArg (fun c => s.setPort p { s.portAt p with control := c }) h

section Fill
variable {fill : Nat}

theorem pfcRepeat_between (hxoff : fill ≤ (s.pfcLevels p k).1) (hxon : (s.pfcLevels p k).2 ≤ fill) : pfcRepeat p k fill s = s :=
  (if_neg (Nat.not_lt.mpr hxoff)).trans (if_neg fun h => Nat.not_lt.mpr hxon h.1)

theorem pfcRepeat_xoff (hfill : (s.pfcLevels p k).1 < fill) (hsil : ((s.portAt p).cls k).silenced = false)
    (hdue : ((s.portAt p).cls k).xoffSince = none ∨ ((s.portAt p).cls k).pfcSent + 20000 ≤ s.gtc) :
    pfcRepeat p k fill s =
      (s.modClass p k fun c => { c with xoffSince := some (c.xoffSince.getD s.gtc), pfcSent := s.gtc }).sendPfc p k 0xFFFF := by
  have hdue : (((s.portAt p).cls k).xoffSince.isNone || decide (((s.portAt p).cls k).pfcSent + 20000 ≤ s.gtc)) = true := by
    simpa using hdue
  refine (if_pos hfill).trans ((if_pos (by simp [hdue, hsil])).trans (congrArg (·.sendPfc p k 0xFFFF) (modClass_congr ?_)))
  simp [hdue, hsil]

theorem pfcRepeat_xon (hxoff : fill ≤ (s.pfcLevels p k).1) (hxon : fill < (s.pfcLevels p k).2)
    (hsent : ((s.portAt p).cls k).xoffSince ≠ none) (hsil : ((s.portAt p).cls k).silenced = false) :
    pfcRepeat p k fill s = (s.modClass p k fun c => { c with xoffSince := none, silenced := false }).sendPfc p k 0 :=
  (if_neg (Nat.not_lt.mpr hxoff)).trans ((if_pos ⟨hxon, Option.isSome_iff_ne_none.mpr hsent⟩).trans (if_neg (by simp [hsil])))

end Fill

/-! ## The watchdog -/

theorem stormReceived_held (hp : ((s.portAt p).cls k).pausedUntil ≠ none)
    (hdue : ((s.portAt p).cls k).pausedSince + s.get Obj.pfcWatchdogTicks ≤ s.gtc) :
    stormReceived p k s =
      let t := s.loseQueued p k
      let u := t.modClass p k fun c => { c with pausedUntil := none, stormedUntil := some (t.gtc + t.get Obj.pfcRecoveryTicks) }
      (((u.set (inst Obj.portState p) 3).bump Obj.pfcStorms).rehome).postNetwork 1 p (u.priorityOf k) :=
  if_pos ⟨Option.isSome_iff_ne_none.mpr hp, hdue⟩

theorem stormSent_held {t : Nat} (h : ((s.portAt p).cls k).xoffSince = some t) (hdue : t + s.get Obj.pfcWatchdogTicks ≤ s.gtc)
    (hsil : ((s.portAt p).cls k).silenced = false) :
    stormSent p k s =
      ((s.modClass p k fun c => { c with silenced := true }).bump Obj.pfcStorms).postNetwork 2 p (s.priorityOf k) := by
  simp only [stormSent, h]
  exact if_pos ⟨hdue, by simp [hsil]⟩

theorem stormRecovery_over {t : Nat} (h : ((s.portAt p).cls k).stormedUntil = some t) (hdue : t ≤ s.gtc) :
    stormRecovery p k s =
      let u := s.modClass p k fun c => { c with stormedUntil := none }
      if ((u.portAt p).data.stormedUntil.isSome || (u.portAt p).control.stormedUntil.isSome) = true then u
      else (u.set (inst Obj.portState p) 2).rehome := by
  simp only [stormRecovery, h, if_pos hdue]

end Port

/-- Settles O34: each command by the branch that its guards pick. -/
theorem portCommandsComplete : Obligations.PortCommandsComplete := by
  refine ⟨fun s p hruns hexists hdown => ?_, fun s p hup => ?_, fun s p target b hup => ⟨fun h0 h => ?_, fun h0 h => ?_, fun h0 h => ?_,
    fun h => ?_, fun h => ?_, fun h6 h4 => ?_⟩, fun s p => ⟨rfl, rfl⟩, fun s p priority quanta held => ⟨fun h => ?_, fun k hk =>
    ⟨fun hst hq => ?_, fun hst hq => ?_, fun hst hq => ?_, fun hst hq hp => ?_, fun hst hq hp => ?_⟩⟩, fun s p k t h hdue => ?_,
    fun s p fill k => ⟨fun hxoff hxon => ?_, fun hfill hsil hdue => ?_, fun hxoff hxon hsent hsil => ?_⟩, fun s p k hp hdue => ?_,
    fun s p k t h hdue hsil => ?_, fun s p k t h hdue => ?_⟩
  all_goals refine congrArg Host.Outcome.next ?_
  · exact portLinkUp_down hruns hexists hdown
  · exact portLinkDown_up hup
  · exact answerFrame_mine (by simp [h, h0]) hup 1 b
  · exact answerFrame_mine (by simp [h, h0]) hup 2 b
  · exact answerFrame_mine (isOwn_of_eq h0 h) hup 3 b
  · exact answerFrame_notMine (by simp [h.symm]) 1 b
  · exact answerFrame_notMine (by simp [h.symm]) 2 b
  · exact answerFrame_notMine (isOwn_of_ne h6 h4) 3 b
  · exact pfcReceived_noClass h
  · exact (pfcReceived_stormed hk hst).trans (if_neg hq)
  · exact (pfcReceived_stormed hk hst).trans (if_pos hq)
  · exact pfcReceived_lifted hk hst hq
  · exact pfcReceived_renewed hk hst hq hp
  · exact pfcReceived_fresh hk hst hq hp
  · exact pfcPauseExpiry_due h hdue
  · exact pfcRepeat_between hxoff hxon
  · exact pfcRepeat_xoff hfill hsil hdue
  · exact pfcRepeat_xon hxoff hxon hsent hsil
  · exact stormReceived_held hp hdue
  · exact stormSent_held h hdue hsil
  · exact stormRecovery_over h hdue

end Sys2Proof.Machine
end

section
/-! The timers of a connection (R380, R387, R388, R399), and the end of a revocation (R392, R431). -/

namespace Sys2Proof.Machine


section Timers
variable {s : State} {ctx : Nat} {c : Conn} (hc : s.conn ctx = some c)
include hc

/-! ## The transport's timers -/

theorem acknowledge_conn : s.acknowledge ctx = (State.putConn s { c with arrivals := 0, oldest := none }).pushAck ctx
    (synAck (creditCode (s.freeEntries c))) (psnAdd c.ePsn (psnMod - 1)) := onConn_some hc _

theorem ackDelay_due {t : Nat} (h : c.oldest = some t) (hdue : t + s.get Obj.ackDelayTicks ≤ s.gtc) :
    ackDelay ctx s = s.acknowledge ctx := by
  rw [ackDelay, onConn_some hc]
  simp only [h, if_pos hdue]

theorem retransmitTimeout_due {p : OutPacket} {rest : List OutPacket} (h : c.unacked = p :: rest) (hst : c.st = 2)
    (hdue : c.progress + s.get Obj.retransmitTimeoutTicks ≤ s.gtc) :
    retransmitTimeout ctx s = if s.get Obj.retryLimit ≤ c.retries then s.loseConn ctx 0x6020 3 false
      else (s.putConn { c with retries := c.retries + 1 }).resendFrom ctx p.psn := by
  rw [retransmitTimeout, onConn_some hc]
  simp only [h]
  exact if_neg (by omega)

theorem rnrExpiry_due {psn t : Nat} (h : c.rnrUntil = some (psn, t)) (hdue : t ≤ s.gtc) :
    rnrExpiry ctx s = (s.putConn { c with rnrUntil := none }).resendFrom ctx psn := by
  rw [rnrExpiry, onConn_some hc]
  simp only [h, if_pos hdue]

theorem reorderTimeout_due {t : Nat} (h : c.gapSince = some t) (hspray : c.sprayMode = true)
    (hdue : t + s.get Obj.reorderTimeoutTicks ≤ s.gtc) :
    reorderTimeout ctx s = (s.putConn { c with gapSince := some s.gtc }).sequenceNak ctx := by
  rw [reorderTimeout, onConn_some hc]
  simp only [h]
  exact if_pos ⟨hspray, hdue⟩

/-! ## The handshake's timers -/

theorem handshakeResend_due {t : Nat} {body : Bytes} (h : c.lastMessage = some (t, body))
    (hdue : c.lastSend + s.get Obj.handshakeRetryTicks ≤ s.gtc) :
    handshakeResend ctx s = if 8 ≤ c.sends then s.loseConn ctx 0x6030 3 true
      else (s.putConn { c with sends := c.sends + 1, lastSend := s.gtc }).sendHandshake c.address c.port t c.attempt body := by
  rw [handshakeResend, onConn_some hc]
  simp only [h]
  exact if_neg (Nat.not_lt.mpr hdue)

theorem handshakeBackoff_due {t : Nat} (h : c.retryAt = some t) (hdue : t ≤ s.gtc) (hneed : s.connNeeded c = true) :
    handshakeBackoff ctx s = s.startAttempt ctx := by
  rw [handshakeBackoff, onConn_some hc]
  simp only [h]
  exact if_pos ⟨hdue, hneed⟩

theorem handshakeTimeout_due (hst : c.st = 1) (hresponder : c.initiator = false)
    (hdue : c.started + s.get Obj.handshakeTimeoutTicks ≤ s.gtc) :
    handshakeTimeout ctx s = if s.connNeeded c = true then s.putConn { c.strip with st := 0, attempt := 0, lastMessage := none }
      else { s with conns := s.conns.filter fun x => x.ctx != ctx } := by
  rw [handshakeTimeout, onConn_some hc]
  exact if_pos ⟨hst, by simp [hresponder], hdue⟩

end Timers

/-! ## The end of a revocation -/

section Revocation
variable {s : State} {index : Nat} {r : Region}

theorem revokeDrained_last (h : (s.regions.find? fun r => r.index == index && r.revoking.isSome) = some r) :
    revokeDrained index s =
      let left := s.regions.filter fun r => r.index != index
      let t : State := State.set { s with regions := left } Obj.regionsRegistered left.length
      if (r.kind == .staging && t.jobState r.owner == 1 && (t.slot r.owner).validating &&
        left.all fun x => !(x.kind == .staging && x.owner == r.owner)) = true then t.checkManifest r.owner else t := by
  simp only [revokeDrained, h]
  rfl

theorem revokeOverrun_due {n since : Nat} (h : (s.regions.find? fun r => r.index == index && !r.overrun) = some r)
    (hrev : r.revoking = some since) (hdue : since + s.get Obj.revokeDrainTicks ≤ s.gtc) :
    revokeOverrun index n s = State.raiseFault
      { s with regions := modifyWhere (fun x => x.index == index) (fun x => { x with overrun := true }) s.regions }
      { cls := 10, reason := 0x7040, tile := 5, slot := if r.kind = .objectWindow then 0xFF else r.owner, detail0 := r.key, detail1 := n } := by
  simp only [revokeOverrun, h, hrev]
  exact if_pos (decide_eq_true hdue)

end Revocation

/-- Settles O36: each timer that is due by the branch that the connection's or region's record picks. -/
theorem transportTimersComplete : Obligations.TransportTimersComplete := by
  refine ⟨fun s ctx c hc => ⟨fun t h hdue => ?_, fun p rest h hst hdue => ⟨fun hleft => ?_, fun hpast => ?_⟩, fun psn t h hdue => ?_,
    fun t h hspray hdue => ?_, fun t body h hdue => ⟨fun hleft => ?_, fun hpast => ?_⟩, fun t h hdue hneed => ?_,
    fun hst hresponder hdue => ⟨fun hneed => ?_, fun hneed => ?_⟩⟩, fun s index r h => ?_, fun s index n since r h hrev hdue => ?_⟩
  all_goals refine congrArg Host.Outcome.next ?_
  · exact (ackDelay_due hc h hdue).trans (acknowledge_conn hc)
  · exact (retransmitTimeout_due hc h hst hdue).trans (if_neg (Nat.not_le.mpr hleft))
  · exact (retransmitTimeout_due hc h hst hdue).trans (if_pos hpast)
  · exact rnrExpiry_due hc h hdue
  · exact reorderTimeout_due hc h hspray hdue
  · exact (handshakeResend_due hc h hdue).trans (if_neg (Nat.not_le.mpr hleft))
  · exact (handshakeResend_due hc h hdue).trans (if_pos hpast)
  · exact handshakeBackoff_due hc h hdue hneed
  · exact (handshakeTimeout_due hc hst hresponder hdue).trans (if_pos hneed)
  · exact (handshakeTimeout_due hc hst hresponder hdue).trans (if_neg (by simp [hneed]))
  · exact revokeDrained_last h
  · exact revokeOverrun_due h hrev hdue

end Sys2Proof.Machine
end

section
/-! The traffic manager's commands (R410 to R424, R443, R514): the frame a port sends, queues that join again, writes to shaper and
policer profiles, and keepalives. -/

namespace Sys2Proof.Machine

/-! ## The frame a port sends -/

/-- A port goes on with a run of CONTROL frames. -/
def State.setRun (t : State) (p n : Nat) : State := t.setPort p { t.portAt p with controlRun := n }

section Select
variable {s t : State} {p : Nat}

/-- The guard passes the turn to DATA once the run of CONTROL frames is long enough and DATA waits (R413). -/
def State.guardGrants (s : State) (p : Nat) : Prop := s.dataWaits p = true ∧ s.get Obj.controlGuardFrames ≤ (s.portAt p).controlRun

theorem not_guardGrants (h : s.dataWaits p = false ∨ (s.portAt p).controlRun < s.get Obj.controlGuardFrames) : ¬ s.guardGrants p := by
  rintro ⟨hwaits, hrun⟩
  obtain h | h := h
  · simp [h] at hwaits
  · omega

theorem portFrameSelect_granted (h : s.guardGrants p)
    (hvisit : State.visit p ((s.portAt p).active.length + 1) (s.bump (inst Obj.portGuardGrants p)) = some t) :
    portFrameSelect p s = t.setRun p 0 := by
  obtain ⟨hwaits, hrun⟩ := h
  simp only [portFrameSelect, hwaits, decide_eq_true hrun, hvisit]
  rfl

section Control
variable (h : ¬ s.guardGrants p)
include h

theorem portFrameSelect_control (hsend : s.sendControl p = some t) :
    portFrameSelect p s = t.setRun p (if s.dataWaits p = true then (s.portAt p).controlRun + 1 else 0) := by
  unfold portFrameSelect
  rw [if_neg (by simpa [State.guardGrants] using h)]
  simp only [hsend]
  rfl

theorem portFrameSelect_data (hsend : s.sendControl p = none) :
    portFrameSelect p s = ((State.visit p ((s.portAt p).active.length + 1) s).map fun t => t.setRun p 0).getD s := by
  unfold portFrameSelect
  rw [if_neg (by simpa [State.guardGrants] using h)]
  simp only [hsend]
  rfl

end Control

end Select

/-! ## Queues that join again -/

/-- The ticks for which a queue was held count once it joins again (R428). -/
def State.countHeld (s : State) (c : Conn) : State :=
  match c.heldSince with
  | some since => s.count Obj.shaperHoldTicks (s.gtc - since)
  | none => s

section Rejoin
variable {s : State} {ctx port : Nat} {c : Conn} {p : OutPacket} {rest : List OutPacket} (hc : s.conn ctx = some c) (hlist : c.onList = none)
  (hq : c.dataQ = p :: rest) (hport : s.nextPort c = some port)
include hc hlist hq hport

theorem joinQueue_eligible (he : s.eligible c p port = true) :
    s.joinQueue ctx = (s.countHeld c).joinList c port := by
  rw [State.joinQueue, onConn_some hc]
  simp only [hlist, hq, hport, if_pos he]
  rfl

theorem joinQueue_held (he : s.eligible c p port = false) (hrel : s.released c p = true) (hopen : s.classOpen port false = true)
    (hheld : c.heldSince = none) : s.joinQueue ctx = s.putConn { c with heldSince := some s.gtc } := by
  rw [State.joinQueue, onConn_some hc]
  simp only [hlist, hq, hport, he, hrel, hopen, hheld]
  rfl

end Rejoin

/-! ## Profiles and keepalives -/

section Profiles
variable {s : State} {n sub v : Nat}

theorem shaperProfileWrite_refused (h : sub = 1 ∧ v = 0 ∧ (s.conns.filter fun c => s.shaperOf c == n) ≠ []) :
    shaperProfileWrite n sub v s = s.refused 0x6C02 := by
  obtain ⟨hsub, hv, hused⟩ := h
  exact if_pos (by simp [hsub, hv, bne_iff_ne.mpr hused])

theorem shaperProfileWrite_accepted (hrate : ¬ (sub = 1 ∧ v = 0 ∧ (s.conns.filter fun c => s.shaperOf c == n) ≠ []))
    (hburst : ¬ (sub = 2 ∧ v < 4278)) :
    shaperProfileWrite n sub v s =
      let used := s.conns.filter fun c => s.shaperOf c == n
      (used.foldl (fun (t : State) c => t.putConn (t.fillShaper c)) (s.accept (shaperKey sub n) v)).count Obj.shaperResets used.length :=
  if_neg (by simpa only [Bool.or_eq_true, Bool.and_eq_true, beq_iff_eq, bne_iff_ne, decide_eq_true_eq, not_or, and_assoc] using
    ⟨hrate, hburst⟩)

theorem policerProfileWrite_refused (h : (sub = 2 ∧ v = 0 ∧ (s.conns.filter fun c => s.policerOf c == n) ≠ []) ∨
    (sub = 5 ∧ s.get (policerKey 1 n) = 1 ∧ v < s.get (policerKey 2 n))) : policerProfileWrite n sub v s = s.refused 0x6C02 := by
  refine if_pos ?_
  simp only [Bool.or_eq_true, Bool.and_eq_true, beq_iff_eq, bne_iff_ne, decide_eq_true_eq, and_assoc]
  exact h.elim (fun h => .inl (.inl (.inl h))) .inr

theorem policerProfileWrite_accepted (h : ¬ ((sub = 2 ∧ v = 0 ∧ (s.conns.filter fun c => s.policerOf c == n) ≠ []) ∨
      (sub = 5 ∧ s.get (policerKey 1 n) = 1 ∧ v < s.get (policerKey 2 n)))) (hburst : ¬ ((sub = 3 ∨ sub = 6) ∧ v < 4258))
    (hexcess : ¬ (sub = 4 ∧ 0 < v ∧ v < 4258)) :
    policerProfileWrite n sub v s = (s.conns.filter fun c => s.policerOf c == n).foldl
      (fun (t : State) c => t.putConn (t.fillMeter c)) (s.accept (policerKey sub n) v) := by
  refine if_neg ?_
  simp only [Bool.or_eq_true, Bool.and_eq_true, beq_iff_eq, bne_iff_ne, decide_eq_true_eq, not_or, and_assoc] at h hburst hexcess ⊢
  obtain ⟨hrate, hpeak⟩ := h
  exact ⟨hrate, hburst, hexcess, hpeak⟩

end Profiles

theorem keepalive_silent {s : State} {ctx : Nat} {c : Conn} (hc : s.conn ctx = some c) (hkind : c.kind = 1) (hst : c.st = 2)
    (hdue : max c.carried c.progress + s.get Obj.keepaliveTicks ≤ s.gtc) :
    keepalive ctx s = (s.putConn { c with carried := s.gtc }).peerProbe c.uid := by
  rw [keepalive, onConn_some hc]
  exact if_pos ⟨hkind, hst, hdue⟩

/-- Settles O38: the guard decides whose turn a port's frame is; every other command by the branch that its guards pick. -/
theorem trafficCommandsComplete : Obligations.TrafficCommandsComplete := by
  refine ⟨fun s p => ⟨fun t hsend hwaits => ?_, fun t hsend hwaits hrun => ?_, fun t hwaits hrun hvisit => ?_, fun t hsend hturn hvisit => ?_,
      fun hsend hturn hvisit => ?_⟩,
    fun s ctx port c p rest hc hlist hq hport => ⟨fun he => ?_, fun he hrel hopen hheld => ?_⟩,
    fun s n sub v ha => ⟨fun hbad => ?_, fun hgood hburst => ?_⟩,
    fun s n sub v ha => ⟨fun hbad => ?_, fun hgood hburst hexcess => ?_⟩, fun s ctx c hc hkind hst hdue => ?_⟩
  all_goals refine congrArg Host.Outcome.next ?_
  · exact (portFrameSelect_control (not_guardGrants (.inl hwaits)) hsend).trans (by rw [if_neg (by simp [hwaits])]; rfl)
  · exact (portFrameSelect_control (not_guardGrants (.inr hrun)) hsend).trans (by rw [if_pos hwaits]; rfl)
  · exact portFrameSelect_granted ⟨hwaits, hrun⟩ hvisit
  · rw [portFrameSelect_data (not_guardGrants hturn) hsend, hvisit]
    rfl
  · rw [portFrameSelect_data (not_guardGrants hturn) hsend, hvisit]
    rfl
  · exact joinQueue_eligible hc hlist hq hport he
  · exact joinQueue_held hc hlist hq hport he hrel hopen hheld
  · exact (writeCommand_accepted ha).trans (shaperProfileWrite_refused hbad)
  · exact (writeCommand_accepted ha).trans (shaperProfileWrite_accepted hgood hburst)
  · exact (writeCommand_accepted ha).trans (policerProfileWrite_refused hbad)
  · exact (writeCommand_accepted ha).trans (policerProfileWrite_accepted hgood hburst hexcess)
  · exact keepalive_silent hc hkind hst hdue

end Sys2Proof.Machine
end

section
/-! Collective abort (R431, R432, R443 to R447): raising one, its messages and probes, and the faults of engines and of the node. -/

namespace Sys2Proof.Machine

section Abort
variable {s : State} {slot : Nat}

/-! ## Raising an abort -/

/-- The abort that a member raises now, of no batch (R444). -/
def State.ownAbort (s : State) (slot cause subject : Nat) : AbortMsg :=
  { cause := cause, raiseTick := s.gtc, raiser := myUid, raiseSeq := (s.slot slot).raiseSeq + 1, epoch := 0, stream := 0xFF
    batch := noRef, reason := 0, subject := subject }

/-- A member that is not halted raises an abort: it halts, keeps the abort and tells every other member. -/
theorem raiseAbort_running (hruns : s.running slot = true) (hlive : s.stepState slot ≠ 1) (cause subject : Nat) :
    s.raiseAbort slot cause 0 0xFF noRef 0 subject =
      let m := s.ownAbort slot cause subject
      let t := (s.bump Obj.abortsRaised).halt slot m
      (t.others slot).foldl (fun (t : State) uid => t.peerSendFirst uid (some abortImmediate) (m.encode slot none))
        (t.modSlot slot fun x => { x with raiseSeq := m.raiseSeq, raised := some m, unacked := t.others slot, lastProbe := t.gtc }) :=
  if_neg (by simp [hruns, hlive])

theorem exec_stepAbort_accepted (h : Accepts s (inst Obj.stepCommand slot) 1) :
    exec (.stepAbort slot) s = .next (stepAbort slot s).flow := next_flow (writeCommand_accepted h)

theorem stepAbort_running (hruns : s.running slot = true) (hlive : s.stepState slot ≠ 1) :
    stepAbort slot s = (s.raiseAbort slot 0x7824 0 0xFF noRef 0 0).ok := if_neg (by simp [hruns, hlive])

theorem stepAbort_refused (h : s.running slot = false ∨ s.stepState slot = 1) : stepAbort slot s = s.refused 0x801A :=
  if_pos (by simpa using h)

theorem memberTimeout_silent {uid since : Nat} (huid : uid ∈ s.others slot) (hsilent : s.silentSince slot uid = some since)
    (hdue : since + s.get Obj.memberTimeoutTicks ≤ s.gtc) :
    memberTimeout slot uid s = s.raiseAbort slot 0x7822 0 0xFF noRef 0 uid :=
  if_pos ⟨List.contains_iff_mem.mpr huid, by simp [hsilent, hdue]⟩

/-! ## Messages and probes -/

section Messages
variable {uid : Nat} {b : Bytes}

theorem abortMessage_legal (hlegal : abortLegal b = true) (hkind : byteAt b 4 = 1) (hruns : s.running (byteAt b 5) = true) :
    abortMessage uid b s =
      let m := abortOf b
      let t := s.bump Obj.abortsReceived
      let t := (if m.raiseTick + 1000000 < s.gtc then t.bump Obj.abortsLate else t).halt (byteAt b 5) m
      t.peerSend uid (some abortImmediate) (m.encode (byteAt b 5) (some (t.slot (byteAt b 5)).haltTick)) :=
  if_neg (by simp [hlegal, hkind, hruns])

theorem abortMessage_ignored (h : abortLegal b = false ∨ byteAt b 4 ≠ 1 ∨ s.running (byteAt b 5) = false) :
    abortMessage uid b s = s.bump Obj.abortsIgnored := if_pos (by simpa using h)

theorem abortAck_ignored (h : abortLegal b = false ∨ byteAt b 4 ≠ 2 ∨ s.running (byteAt b 5) = false) :
    abortAck uid b s = s.bump Obj.abortsIgnored := if_pos (by simpa using h)

theorem abortAck_own {r : AbortMsg} (hlegal : abortLegal b = true) (hkind : byteAt b 4 = 2) (hruns : s.running (byteAt b 5) = true)
    (hr : (s.slot (byteAt b 5)).raised = some r) (hseq : r.raiseSeq = (abortOf b).raiseSeq) (hme : (abortOf b).raiser = myUid) :
    abortAck uid b s = s.modSlot (byteAt b 5) fun x => { x with unacked := x.unacked.filter (· != uid) } :=
  (if_neg (by simp [hlegal, hkind, hruns])).trans (if_pos (by simp [hr, hseq, hme]))

end Messages

theorem abortProbe_due {r : AbortMsg} (hruns : s.running slot = true) (hhalt : s.stepState slot = 1) (hr : (s.slot slot).raised = some r)
    (hleft : (s.slot slot).unacked ≠ []) (hdue : (s.slot slot).lastProbe + s.get Obj.abortRepeatTicks ≤ s.gtc) :
    abortProbe slot s = (s.slot slot).unacked.foldl State.peerProbe (s.modSlot slot fun x => { x with lastProbe := s.gtc }) :=
  if_pos ⟨hruns, hhalt, by simp [hr], hleft, hdue⟩

end Abort

/-! ## Faults of engines -/

section EngineFault
variable {s : State} {e : Nat} {it : Item} {permanent : Bool} (hi : s.item e = some it)
include hi

theorem itemEngineFault_engine {kind n : Nat} (hk : s.kernel e = none) (hengine : it.engine = some (kind, n)) (hout : it.waitOut = none)
    (hprep : it.prepared = false) : itemEngineFault e permanent s = s.engineFault it kind n permanent := by
  simp [itemEngineFault, hi, hk, hengine, hout, hprep]

theorem itemEngineFault_kernel {k : KernelRun} (hk : s.kernel e = some k) : itemEngineFault e permanent s = s.pierFault it k permanent := by
  simp only [itemEngineFault, hi, hk]

end EngineFault

/-- Settles O39: each command by the branch that its guards pick; a raised abort is the model's, spelled out for a member that is not
halted. -/
theorem collectiveAbortCommandsComplete : Obligations.CollectiveAbortCommandsComplete := by
  refine ⟨fun s slot => ⟨fun ha hruns hlive => ?_, fun ha h => ?_, fun uid since huid hsilent hdue hruns hlive => ?_⟩,
    fun s uid b => ⟨fun hlegal hkind hruns => ?_, fun h => ?_, fun h => ?_, fun r hlegal hkind hruns hr hseq hme => ?_⟩,
    fun s slot r hruns hhalt hr hleft hdue => ?_, fun s e kind n it permanent hi hk hengine hout hprep => ?_,
    fun s e it k permanent hi hk => ?_, fun s => rfl⟩
  · rw [exec_stepAbort_accepted ha, stepAbort_running hruns hlive, raiseAbort_running hruns hlive]
    rfl
  · rw [exec_stepAbort_accepted ha, stepAbort_refused h]
  · exact next_flow ((memberTimeout_silent huid hsilent hdue).trans (raiseAbort_running hruns hlive 0x7822 uid))
  · exact next_flow (abortMessage_legal hlegal hkind hruns)
  · exact next_flow (abortMessage_ignored h)
  · exact congrArg Host.Outcome.next (abortAck_ignored h)
  · exact congrArg Host.Outcome.next (abortAck_own hlegal hkind hruns hr hseq hme)
  · exact congrArg Host.Outcome.next (abortProbe_due hruns hhalt hr hleft hdue)
  · exact next_flow (itemEngineFault_engine hi hk hengine hout hprep)
  · exact next_flow (itemEngineFault_kernel hi hk)

end Sys2Proof.Machine
end

section
/-! The boot sequence (R461 to R469, R548): the release of reset, the body of the image, the HUB's report and the boot watchdog. -/

namespace Sys2Proof.Machine

section Boot
variable {s : State} {f : BootFlash}

/-- The boot flash is recorded, its size where it tells it (R463 step 2). -/
def State.noteBootFlash (s : State) (f : BootFlash) : State :=
  (if f.sfdp = true then s.set Obj.bootFlashBytes f.bytes else s).set Obj.bootFlashId (f.id % 2 ^ 24)

theorem noteBootFlash_bootState : (s.noteBootFlash f).get Obj.bootState = s.get Obj.bootState := by
  rw [State.noteBootFlash, State.get_set_ne _ _ _ _ (by decide)]
  split
  · exact State.get_set_ne _ _ _ _ (by decide)
  · rfl

theorem flashUsable_iff : flashUsable f = true ↔ f.sfdp = true ∧ 67108864 ≤ f.bytes ∧ f.fourByte = true ∧ 0 < f.counters := by
  simp [flashUsable, and_assoc]

theorem not_flashUsable (h : f.sfdp = false ∨ f.bytes < 67108864 ∨ f.fourByte = false ∨ f.counters = 0) : ¬ flashUsable f = true := by
  rw [flashUsable_iff]
  rintro ⟨hsfdp, hbytes, hfour, hcounters⟩
  obtain h | h | h | h := h
  · simp [h] at hsfdp
  · omega
  · simp [h] at hfour
  · omega

theorem resetRelease_powered (hoff : s.get Obj.bootState = 0) (hpwrgd : s.power.pwrgd = true) (hfail : s.power.failN = true)
    (hhalt : s.power.halted = false) : resetRelease f s = s.bootFrom f := if_pos ⟨hoff, hpwrgd, hfail, by simp [hhalt]⟩

theorem bootFrom_unusable (h : ¬ flashUsable f = true) : s.bootFrom f = (s.noteBootFlash f).enterRecovery 11 := if_pos h

theorem bootFrom_usable (h : flashUsable f = true) (hstate : s.get Obj.bootState ≠ 1) :
    s.bootFrom f =
      let t := s.noteBootFlash f
      if t.headerResult t.slotImage = 0 then t.setBootState 2 else t.enterRecovery (t.headerResult t.slotImage) := by
  refine (if_neg (not_not_intro h)).trans ((ite_not ..).trans ?_)
  exact congrArg (ite _ · _) (congrArg (State.setBootState · 2) (if_neg (noteBootFlash_bootState.trans_ne hstate)))

section Body
variable (hstate : s.get Obj.bootState = 2) (hnew : s.boot.released = none)
include hstate hnew

theorem bootBodyRead_verifying :
    bootBodyRead s = if imageDigestOk s.slotImage = true then
        let b := s.slotImage
        let t := s.setAll [(Obj.fwVersionMajor, field b 8 2), (Obj.fwVersionMinor, field b 0x0A 2), (Obj.fwVersionPatch, field b 0x0C 2),
          (Obj.fwSecurityVersion, field b 0x0E 2), (Obj.fwImageDigest, imageDigest b), (Obj.rootKeySlot, byteAt b 6)]
        let t := (restorePersistent (t.measureBoot b)).takeBusRate.layMemory
        (t.modBoot fun x => { x with released := some t.gtc }).startMeasurement
      else s.enterRecovery 2 :=
  (if_neg (by simp [hstate, hnew])).trans (ite_not ..)

end Body

section Alive
variable {u : StartUp} {r : CounterRun} {t0 : Nat} (hstate : s.get Obj.bootState = 2) (hrel : s.boot.released = some t0)
  (hlive : s.boot.dead = false) (hidle : s.power.measuring = none)
include hstate hrel hlive hidle

theorem hubAlive_verifying :
    hubAlive u r s = if (s.startUp u).boot.dead = true then s.startUp u
      else
        let t := (((s.startUp u).identitySteps r).beginMount).layPorts
        ((t.modBoot fun b => { b with released := none }).set Obj.bootFailStreak 0).setBootState 3 :=
  if_neg (by simp [hstate, hrel, hlive, hidle])

end Alive

theorem watchdogExpiry_due {t0 : Nat} (hrel : s.boot.released = some t0) (hdue : t0 + 60000000000 ≤ s.gtc) :
    watchdogExpiry f s =
      let streak := min 3 (s.get Obj.bootFailStreak + 1)
      let t := ((s.stopMeasurement true).restart 3).set Obj.bootFailStreak streak
      if 3 ≤ streak then t.enterRecovery 12 else t.bootFrom f := by
  simp only [watchdogExpiry, hrel]
  exact if_neg (Nat.not_lt.mpr hdue)

end Boot

/-- Settles O41: each command by the branch that its guards pick. -/
theorem bootSequenceComplete : Obligations.BootSequenceComplete := by
  refine ⟨fun s f hoff hpwrgd hfail hhalt => ⟨fun h => ?_, fun hsfdp hbytes hfour hcounters => ?_⟩,
    fun s hstate hnew => ⟨fun h => ?_, fun h => ?_⟩, fun s u r t0 hstate hrel hlive hidle => ⟨fun h => ?_, fun h => ?_⟩,
    fun s f t0 hrel hdue => ?_⟩
  all_goals refine congrArg Host.Outcome.next ?_
  · exact (resetRelease_powered hoff hpwrgd hfail hhalt).trans (bootFrom_unusable (not_flashUsable h))
  · exact (resetRelease_powered hoff hpwrgd hfail hhalt).trans
      (bootFrom_usable (flashUsable_iff.mpr ⟨hsfdp, hbytes, hfour, hcounters⟩) (by simp [hoff]))
  · exact (bootBodyRead_verifying hstate hnew).trans (if_neg (by simp [h]))
  · exact (bootBodyRead_verifying hstate hnew).trans (if_pos h)
  · exact (hubAlive_verifying hstate hrel hlive hidle).trans (if_pos h)
  · exact (hubAlive_verifying hstate hrel hlive hidle).trans (if_neg (by simp [h]))
  · exact watchdogExpiry_due hrel hdue

end Sys2Proof.Machine
end

section
/-! ROM recovery (R464, R466, R467): attempts, BEACONs, the PHY types of port 0, and the transfer of an image. -/

namespace Sys2Proof.Machine

/-- The clock's second, in ticks. -/
theorem ticks_giga (n : Nat) : n * giga = n * 1000000000 := rfl

section Recovery
variable {s : State} (hstate : s.get Obj.bootState = 1)

/-! ## Attempts -/

section Attempt
variable (hidle : s.recoveryBusy = false)
include hstate hidle

theorem recoveryAttempt_due {f : BootFlash}
    (hwait : ∀ t, s.boot.attemptSince = some t → t + attemptTicks (min (s.get Obj.recoveryAttempts) 7) ≤ s.gtc) :
    recoveryAttempt f s =
      let u := (s.countW 32 Obj.recoveryAttempts 1).noteBootFlash f
      let result := if flashUsable f = true then u.imageResult u.slotImage else 11
      if result = 0 then u.bootFrom f
      else (u.set Obj.recoveryFault result).modBoot fun b => { b with attemptSince := some u.gtc, beacons := 0 } := by
  have hdue : s.boot.attemptSince.all (fun t => t + attemptTicks (min (s.get Obj.recoveryAttempts) 7) ≤ s.gtc) = true :=
    (Option.all_eq_true ..).mpr fun t h => decide_eq_true (hwait t h)
  unfold recoveryAttempt
  dsimp only
  rw [if_neg (by simp [hstate, hidle, hdue])]
  simp only [ite_not]
  rfl

theorem beacon_due {t : Nat} (hsince : s.boot.attemptSince = some t) (hleft : s.boot.beacons < 10)
    (hdue : t + s.boot.beacons * giga ≤ s.gtc) :
    beacon s = (s.sendRecovery allNodes 1 0 (leBytes 16 myUid ++ leBytes 1 (s.get Obj.recoveryFault) ++
      leBytes 1 (s.get Obj.fuseSecurityVersion) ++ leBytes 1 (s.get Obj.stepping) ++ zeros 1)).modBoot
        fun b => { b with beacons := b.beacons + 1 } := by
  simp only [beacon, hsince]
  exact if_neg (by simp [hstate, hidle, hleft, hdue])

end Attempt

include hstate

theorem recoveryLinkTry_due (hdown : s.get (inst Obj.portState 0) < 2) (hdue : s.boot.phySince + 5 * giga ≤ s.gtc) :
    recoveryLinkTry s = s.modBoot fun b => { b with phy := (b.phy + 1) % 3, phySince := s.gtc } :=
  if_neg (by simp [hstate, hdown, hdue])

/-! ## The transfer of an image -/

theorem recoveryOffer_fits {server n digest : Nat} (hup : 2 ≤ s.get (inst Obj.portState 0)) (hidle : s.recoveryBusy = false)
    (hlow : 20480 ≤ n) (hhigh : n ≤ 50331648) :
    recoveryOffer server n digest s =
      s.modBoot fun b => { b with transfer := some { server := server, length := n, digest := digest, last := s.gtc } } :=
  if_neg (by simp only [hstate, hidle, ne_eq, not_true_eq_false, Bool.false_eq_true, false_or]; omega)

/-- A transfer with one more piece of its image. -/
def RecoveryTransfer.take (t : RecoveryTransfer) (off : Nat) (data : Bytes) (now : Nat) : RecoveryTransfer :=
  { t with pieces := t.pieces ++ [(off, data)], unacked := t.unacked + 1, last := now, acked := false }

section Data
variable {off : Nat} {data : Bytes} {t : RecoveryTransfer} (ht : s.boot.transfer = some t) (hpos : 0 < data.length)
  (hlen : data.length ≤ 4096) (hfit : off + data.length ≤ t.length)
include ht hpos hlen hfit

theorem recoveryData_unacked (hfew : (t.take off data s.gtc).unacked < 16) :
    recoveryData t.server off data s =
      let u := t.take off data s.gtc
      if u.count = u.length then s.recoveredImage u else s.modBoot fun b => { b with transfer := some u } := by
  have hfew : ¬ 16 ≤ t.unacked + 1 := Nat.not_le.mpr hfew
  simp only [recoveryData, ht]
  rw [if_neg (by simp [hstate, hpos.ne', hlen, hfit])]
  simp only [if_neg hfew, if_neg (Nat.succ_ne_zero t.unacked)]
  rfl

theorem recoveryData_sixteenth (hmany : 16 ≤ (t.take off data s.gtc).unacked) :
    recoveryData t.server off data s =
      let u := t.take off data s.gtc
      let r := s.sendRecovery t.server 4 u.count []
      if u.count = u.length then r.recoveredImage { u with unacked := 0 }
      else r.modBoot fun b => { b with transfer := some { u with unacked := 0 } } := by
  have hmany : 16 ≤ t.unacked + 1 := hmany
  simp only [recoveryData, ht]
  rw [if_neg (by simp [hstate, hpos.ne', hlen, hfit])]
  simp only [if_pos hmany]
  rfl

end Data

omit hstate

section Timers
variable {t : RecoveryTransfer} (ht : s.boot.transfer = some t)
include ht

theorem recoveryAck_due (hnew : t.acked = false) (hdue : t.last + 2000000 ≤ s.gtc) :
    recoveryAck s = (s.sendRecovery t.server 4 t.count []).modBoot fun b => { b with transfer := some { t with acked := true } } := by
  simp only [recoveryAck, ht]
  exact if_neg (by simp [hnew, hdue])

theorem recoveryTimeout_due (hdue : t.last + 5 * giga ≤ s.gtc) :
    recoveryTimeout s = s.modBoot fun b => { b with transfer := none } := by
  simp only [recoveryTimeout, ht]
  exact if_neg (Nat.not_lt.mpr hdue)

end Timers

end Recovery

/-- Settles O42: each command by the branch that its guards pick, DATA by whether an ACK is due. -/
theorem recoveryComplete : Obligations.RecoveryComplete := by
  refine ⟨fun s f hstate hidle hwait => ?_, fun n => rfl, fun s t hstate hidle hsince hleft hdue => ?_, fun s hstate hdown hdue => ?_,
    fun s server n digest hstate hup hidle hlow hhigh => ?_, fun s server off data t hstate ht hserver hpos hlen hfit => ?_, fun s t ht => rfl,
    fun s t ht hnew hdue => ?_, fun s t ht hdue => ?_⟩
  · exact congrArg Host.Outcome.next (recoveryAttempt_due hstate hidle hwait)
  · exact congrArg Host.Outcome.next (beacon_due hstate hidle hsince hleft (by rwa [ticks_giga]))
  · exact congrArg Host.Outcome.next (recoveryLinkTry_due hstate hdown (by rwa [ticks_giga]))
  · exact congrArg Host.Outcome.next (recoveryOffer_fits hstate hup hidle hlow hhigh)
  · subst hserver
    refine ⟨fun hfew hpart => ?_, fun hmany hpart => ?_, fun hfew hwhole => ?_, fun hmany hwhole => ?_⟩
    · exact congrArg Host.Outcome.next ((recoveryData_unacked hstate ht hpos hlen hfit hfew).trans (if_neg hpart))
    · exact congrArg Host.Outcome.next ((recoveryData_sixteenth hstate ht hpos hlen hfit hmany).trans (if_neg hpart))
    · exact congrArg Host.Outcome.next ((recoveryData_unacked hstate ht hpos hlen hfit hfew).trans (if_pos hwhole))
    · exact congrArg Host.Outcome.next ((recoveryData_sixteenth hstate ht hpos hlen hfit hmany).trans (if_pos hwhole))
  · exact congrArg Host.Outcome.next (recoveryAck_due ht hnew hdue)
  · exact congrArg Host.Outcome.next (recoveryTimeout_due ht (by rwa [ticks_giga]))

end Sys2Proof.Machine
end

section
/-! Firmware (R464, R466, R477 to R479, R500): staging, checking, installing, REBOOT and COMMIT_SVN. -/

namespace Sys2Proof.Machine

/-- A command object's write that is accepted has the effect of its owner. -/
theorem next_accepted {s t : State} {k v : Nat} {eff : State → State} (ha : Accepts s k v) (h : eff s = t) :
    (.next (writeCommand k v eff s) : Host.Outcome State Fault Refusal) = .next t :=
  congrArg Host.Outcome.next ((writeCommand_accepted ha).trans h)

section Firmware
variable {s : State}

theorem get_setBootState_ne {k : Nat} (h : k ∉ eventCounters) (hne : k ≠ Obj.bootState) (v : Nat) :
    (s.setBootState v).get k = s.get k :=
  ((postEvent_postsOnly ..).get k h).trans (State.get_set_ne _ _ _ _ hne)

theorem get_setBootState (v : Nat) : (s.setBootState v).get Obj.bootState = v :=
  ((postEvent_postsOnly ..).get _ (by decide)).trans (State.get_set_self ..)

theorem setBootState_boot (v : Nat) : (s.setBootState v).boot = s.boot := (postEvent_postsOnly ..).boot

theorem setAll_boot (l : List (Nat × Nat)) (s : State) : (s.setAll l).boot = s.boot := by rw [State.setAll_rest]

/-! ## Staging and the check of an image -/

theorem mayStage_of_ne (h1 : s.get Obj.fwState ≠ 1) (h3 : s.get Obj.fwState ≠ 3) : s.mayStage = true := by
  simp [State.mayStage, h1, h3]

theorem mayStage_of_busy (h : s.get Obj.fwState = 1 ∨ s.get Obj.fwState = 3) : s.mayStage = false := by
  obtain h | h := h <;> simp [State.mayStage, h]

theorem stageImage_free (h : s.mayStage = true) : stageImage s = s.checkImage (s.blob Obj.fwImage) := if_pos h

theorem stageImage_busy (h : s.mayStage = false) : stageImage s = s.fwBusy := if_neg (by simp [h])

theorem stageObject_busy (h : s.mayStage = false) : stageObject s = s.fwBusy := if_pos (.inl (by simp [h]))

section Object
variable (h : s.mayStage = true) (hstate : s.get Obj.bootState ≠ 1)
include h hstate

theorem stageObject_sealed {b : Bytes} (hb : s.sealedObject (s.get Obj.fwSourceObject) = some b) : stageObject s = s.checkImage b := by
  unfold stageObject
  rw [if_neg (by simp [h, hstate]), hb]

theorem stageObject_absent (hb : s.sealedObject (s.get Obj.fwSourceObject) = none) :
    stageObject s = ((s.modBoot fun x => { x with staged := none }).setAll
      [(Obj.fwState, 0), (Obj.fwLastResult, 9), (Obj.fwStagedDigest, 0), (Obj.fwStagedVersion, 0)]).ok := by
  unfold stageObject
  rw [if_neg (by simp [h, hstate]), hb]

end Object

theorem fwCheckComplete_checking {b : Bytes} (hb : s.boot.checking = some b) :
    fwCheckComplete s =
      let t := (s.modBoot fun x => { x with checking := none }).set Obj.fwLastResult (s.imageResult b)
      if s.imageResult b = 0 then
        (t.modBoot fun x => { x with staged := some (fwWhole b) }).setAll [(Obj.fwState, 2), (Obj.fwStagedDigest, imageDigest b),
          (Obj.fwStagedVersion, field b 8 2 * 2 ^ 48 + field b 0x0A 2 * 2 ^ 32 + field b 0x0C 2 * 2 ^ 16 + field b 0x0E 2)]
      else if (t.set Obj.fwState 0).get Obj.bootState = 1 then (t.set Obj.fwState 0).set Obj.recoveryFault (s.imageResult b)
      else t.set Obj.fwState 0 := by
  simp only [fwCheckComplete, hb]

/-! ## Installing -/

theorem install_ready (hstate : s.get Obj.fwState = 2 ∨ s.get Obj.fwState = 5) (hstaged : s.boot.staged.isSome = true)
    (hempty : s.allEmpty = true) :
    install s = if s.isolated ≠ [] then (s.modBoot fun x => { x with waiting := some 3 }).ok else s.beginInstall.ok :=
  if_neg (not_not_intro ⟨hstate, hstaged, hempty⟩)

theorem install_late (h : (s.get Obj.fwState = 1 ∨ s.get Obj.fwState = 3) ∨ s.allEmpty = false) : install s = s.fwBusy := by
  refine if_pos ?_
  rintro ⟨hstate, -, hempty⟩
  obtain h | h := h
  · omega
  · simp [h] at hempty

/-- The unit as a successful install leaves it, before a boot of the new image. -/
def State.installed (s : State) (b : Bytes) : State :=
  (s.modBoot fun x => { x with slot := some b }).setAll [(Obj.fwState, 4), (Obj.fwLastResult, 0), (Obj.fwInstallProgress, b.length)]

/-- The unit as a failed install leaves it, before its result in recovery. -/
def State.installFailed (s : State) (b : Bytes) (n : Nat) : State :=
  s.setAll [(Obj.fwState, 5), (Obj.fwLastResult, 8), (Obj.fwInstallProgress, min n b.length)]

theorem installed_bootState (b : Bytes) : (s.installed b).get Obj.bootState = s.get Obj.bootState :=
  State.get_setAll_ne _ (s.modBoot _) _ (by simp [Obj.fwState, Obj.fwLastResult, Obj.fwInstallProgress, Obj.bootState])

theorem installFailed_bootState (b : Bytes) (n : Nat) : (s.installFailed b n).get Obj.bootState = s.get Obj.bootState :=
  State.get_setAll_ne _ _ _ (by simp [Obj.fwState, Obj.fwLastResult, Obj.fwInstallProgress, Obj.bootState])

/-- The new image is booted from recovery: port 0 is taken down again (R466). -/
def State.bootInstalled (t : State) : State :=
  (((t.set Obj.bootCause 4).setAll [(inst Obj.portState 0, 0)]).setPort 0 {}).setBootState 2

section Installing
variable {b : Bytes} {n : Nat} (hb : s.boot.staged = some b) (hstate : s.get Obj.fwState = 3)
include hb hstate

theorem installComplete_done :
    installComplete true n s = if s.get Obj.bootState = 1 then (s.installed b).bootInstalled else s.installed b := by
  simp only [installComplete, hb]
  rw [if_neg (not_not_intro hstate), if_neg (by simp), ← installed_bootState (s := s) b]
  rfl

theorem installComplete_failed :
    installComplete false n s =
      if s.get Obj.bootState = 1 then (s.installFailed b n).set Obj.recoveryFault 8 else s.installFailed b n := by
  simp only [installComplete, hb]
  rw [if_neg (not_not_intro hstate), if_pos (by simp), ← installFailed_bootState (s := s) b n]
  rfl

end Installing

section BootInstalled
variable {t : State}

theorem bootInstalled_boot : t.bootInstalled.boot = t.boot := by
  rw [State.bootInstalled, setBootState_boot]
  rfl

theorem bootInstalled_bootState : t.bootInstalled.get Obj.bootState = 2 := get_setBootState 2

/-- Booting an installed image changes four kinds of object alone. -/
theorem bootInstalled_get {k : Nat} (hcounter : k ∉ eventCounters) (hstate : k ≠ Obj.bootState) :
    t.bootInstalled.get k = ((t.set Obj.bootCause 4).set (inst Obj.portState 0) 0).get k :=
  get_setBootState_ne hcounter hstate 2

end BootInstalled

/-! ## REBOOT and COMMIT_SVN -/

theorem rebootCommand_free (h1 : s.get Obj.fwState ≠ 1) (h3 : s.get Obj.fwState ≠ 3) (hempty : s.allEmpty = true)
    (hstate : s.get Obj.bootState = 3) :
    rebootCommand s = if s.isolated ≠ [] then (s.modBoot fun x => { x with waiting := some 4 }).ok else s.ok.reboot :=
  if_neg (by simp [h1, h3, hempty, hstate])

theorem rebootCommand_late (h : (s.get Obj.fwState = 1 ∨ s.get Obj.fwState = 3) ∨ s.allEmpty = false) : rebootCommand s = s.fwBusy := by
  refine if_pos ?_
  obtain (h | h) | h := h
  · exact .inl h
  · exact .inr (.inl h)
  · exact .inr (.inr (.inl (by simp [h])))

theorem commitSvn_running (hstate : s.get Obj.bootState = 3) (burned : Nat) :
    commitSvn burned s =
      let need := s.get Obj.fwSecurityVersion - s.get Obj.fuseSecurityVersion
      ((s.set Obj.fuseSecurityVersion (s.get Obj.fuseSecurityVersion + min need burned)).set
        Obj.fwLastResult (if need ≤ burned then 0 else 10)).ok := by
  refine (if_neg (not_not_intro hstate)).trans ?_
  dsimp only
  simp only [← Nat.not_le, ite_not]

theorem commitSvn_late (hstate : s.get Obj.bootState ≠ 3) (burned : Nat) : commitSvn burned s = s.fwBusy := if_pos hstate

end Firmware

/-- Settles O43: each command by the branch that its guards pick; what an install in recovery leaves is read off the objects it sets. -/
theorem firmwareCommandsComplete : Obligations.FirmwareCommandsComplete := by
  refine ⟨fun s h1 h3 => ⟨fun ha => ?_, fun b ha hstate hb => ?_, fun ha hstate hb => ?_⟩, fun s b hb => ?_,
    fun s ha hstate hstaged hempty => ⟨fun hopen => ?_, fun hshut => ?_⟩,
    fun s n b hb hstate hboot => ⟨?_, ?_⟩, fun s n b hb hstate hboot => ⟨?_, ?_⟩,
    fun s ha h1 h3 hempty hstate => ⟨fun hopen => ?_, fun hshut => ?_⟩, fun s burned ha hstate => ?_,
    fun s burned => ⟨fun hbusy => ⟨fun ha => ?_, fun ha => ?_, fun ha => ?_, fun ha => ?_⟩, fun hslots => ⟨fun ha => ?_, fun ha => ?_⟩,
      fun hstate ha => ?_⟩⟩
  · exact next_accepted ha (stageImage_free (mayStage_of_ne h1 h3))
  · exact next_accepted ha (stageObject_sealed (mayStage_of_ne h1 h3) hstate hb)
  · exact next_accepted ha (stageObject_absent (mayStage_of_ne h1 h3) hstate hb)
  · exact congrArg Host.Outcome.next (fwCheckComplete_checking hb)
  · exact next_accepted ha ((install_ready hstate hstaged hempty).trans (if_neg (by simp [hopen])))
  · exact next_accepted ha ((install_ready hstate hstaged hempty).trans (if_pos hshut))
  · exact congrArg Host.Outcome.next ((installComplete_done hb hstate).trans (if_neg hboot))
  · exact congrArg Host.Outcome.next ((installComplete_failed hb hstate).trans (if_neg hboot))
  · refine ⟨_, congrArg Host.Outcome.next ((installComplete_done hb hstate).trans (if_pos hboot)), ?_, ?_, ?_, bootInstalled_bootState, ?_⟩
    · rw [bootInstalled_boot, State.installed, setAll_boot]
      rfl
    · rw [bootInstalled_get (by decide) (by decide), State.get_set_ne _ _ _ _ (by decide), State.get_set_ne _ _ _ _ (by decide)]
      simp [State.installed, State.setAll_cons, State.get_set, Obj.fwState, Obj.fwLastResult, Obj.fwInstallProgress]
    · rw [bootInstalled_get (by decide) (by decide), State.get_set_ne _ _ _ _ (by decide), State.get_set_self]
    · rw [bootInstalled_get (by decide) (by decide), State.get_set_self]
  · refine ⟨_, congrArg Host.Outcome.next ((installComplete_failed hb hstate).trans (if_pos hboot)), setAll_boot .., ?_, ?_,
      State.get_set_self ..⟩
    · simp [State.installFailed, State.setAll_cons, State.get_set, Obj.fwState, Obj.fwLastResult, Obj.fwInstallProgress, Obj.recoveryFault]
    · simp [State.installFailed, State.setAll_cons, State.get_set, Obj.fwLastResult, Obj.fwInstallProgress, Obj.recoveryFault]
  · exact next_accepted ha ((rebootCommand_free h1 h3 hempty hstate).trans (if_neg (by simp [hopen])))
  · exact next_accepted ha ((rebootCommand_free h1 h3 hempty hstate).trans (if_pos hshut))
  · exact next_accepted ha (commitSvn_running hstate burned)
  · exact next_accepted ha (stageImage_busy (mayStage_of_busy hbusy))
  · exact next_accepted ha (stageObject_busy (mayStage_of_busy hbusy))
  · exact next_accepted ha (install_late (.inl hbusy))
  · exact next_accepted ha (rebootCommand_late (.inl hbusy))
  · exact next_accepted ha (install_late (.inr hslots))
  · exact next_accepted ha (rebootCommand_late (.inr hslots))
  · exact next_accepted ha (commitSvn_late hstate burned)

end Sys2Proof.Machine
end

section
/-! The identity (R468, R469, R475, R476, R480, R483, R485): BIND_BOOT_FLASH, quotes, MEASURE and the list of revoked UIDs. -/

namespace Sys2Proof.Machine

section Identity
variable {s : State}

/-! ## The binding -/

/-- May a boot flash be bound now (R483)? -/
def State.mayBind (s : State) : Prop := (s.get Obj.identityState = 2 ∨ s.get Obj.identityState = 5) ∧ s.get Obj.bindingCount < 16

theorem lt_of_find? {l : List Nat} {n c : Nat} (h : l.find? (fun c => decide (c < n)) = some c) : c < n := by
  simpa using List.find?_some h

section Bind
variable {l : List Nat} {a : Bool}

theorem bindBootFlash_free {c : Nat} (h : s.mayBind) (hc : l.find? (fun c => decide (c < bindingIndexes)) = some c) :
    bindBootFlash l a s = ((s.set Obj.bindingCount (s.get Obj.bindingCount + 1)).identitySteps
      { value := some c, advanced := a }).syncConns.ok := by
  obtain ⟨hstate, hleft⟩ := h
  unfold bindBootFlash
  dsimp only
  rw [if_neg (by simp [hstate, hleft]), hc]

theorem bindBootFlash_noCounter (hc : l.find? (fun c => decide (c < bindingIndexes)) = none) : bindBootFlash l a s = s.refused 0 := by
  unfold bindBootFlash
  dsimp only
  rw [hc]
  exact ite_self _

theorem bindBootFlash_refused (h : ¬ s.mayBind) : bindBootFlash l a s = s.refused 0 :=
  if_pos (by rwa [← Nat.not_lt, ← not_and_or])

end Bind

section Steps
variable {c : Nat} (hc : c < bindingIndexes)
include hc

theorem identitySteps_certified : s.identitySteps { value := some c, advanced := true } = s.certify c :=
  (if_neg (Nat.not_le.mpr hc)).trans (if_neg (by simp))

theorem identitySteps_failed :
    s.identitySteps { value := some c, advanced := false } =
      s.setAll [(Obj.identityState, 3), (Obj.identityIndexesLeft, bindingIndexes - 1 - c + s.laterIndexes)] :=
  (if_neg (Nat.not_le.mpr hc)).trans (if_pos (by simp))

end Steps

/-- A certified unit's identity is ready, under the index of its binding and counter. -/
theorem certify_get (s : State) (c : Nat) :
    (s.certify c).get Obj.identityState = 1 ∧ (s.certify c).get Obj.identityIndex = (s.get Obj.bindingCount - 1) * 2 ^ 32 + c := by
  simp [State.certify, State.setAll_cons, State.get_set, Obj.identityState, Obj.identityIndex, Obj.identityIndexesLeft,
    Obj.bootKeyIndexesLeft]

/-! ## Quotes -/

section Quote
variable (hidle : s.boot.quoting = none)

theorem quoteCommand_quoting (h : s.boot.quoting.isSome = true) : quoteCommand s = (s.set Obj.quoteLastResult 3).refused 0 := if_pos h

include hidle

theorem quoteCommand_notReady (h : s.get Obj.identityState ≠ 1) : quoteCommand s = (s.set Obj.quoteLastResult 1).refused 0 :=
  (if_neg (by simp [hidle])).trans (if_pos (by simp [State.credentialReady, h]))

theorem quoteCommand_ready (h : s.get Obj.identityState = 1) :
    quoteCommand s = if 65535 < s.boot.nextIndex then (s.set Obj.quoteLastResult 2).refused 0
      else ((s.modBoot fun b => { b with
        quoting := some (s.quoteBody, s.boot.nextIndex)
        nextIndex := s.boot.nextIndex + 1 }).set Obj.bootKeyIndexesLeft (65535 - s.boot.nextIndex)).ok :=
  (if_neg (by simp [hidle])).trans (if_neg (by simp [State.credentialReady, h]))

end Quote

/-- The quote of a body signed under a key index. -/
def State.signedQuote (s : State) (body : Bytes) (i : Nat) : Bytes :=
  body ++ padTo 2692 (Config.bootSign s.boot.keyDraw i body) ++ s.blob Obj.bootCertificate ++ identityCertificate

theorem quoteComplete_quoting {body : Bytes} {i : Nat} (h : s.boot.quoting = some (body, i)) :
    quoteComplete s = (((s.modBoot fun b => { b with quoting := none }).setBlob Obj.quote (s.signedQuote body i)).set
      Obj.quoteLastResult 0).countW 32 Obj.quotesIssued 1 := by
  simp only [quoteComplete, h]
  rfl

/-! ## The list of revoked UIDs -/

section Revoke

theorem revokeAdd_listed (h : s.get Obj.revokeUid ∈ s.revokedList) : revokeAdd s = s.ok := if_pos (List.contains_iff_mem.mpr h)

theorem revokeAdd_absent (h : s.get Obj.revokeUid ∉ s.revokedList) :
    revokeAdd s = if 256 ≤ s.revokedList.length then s.refused 0
      else ((s.setRevoked (s.revokedList ++ [s.get Obj.revokeUid]) 1 (s.get Obj.revokeUid)).closeRevoked (s.get Obj.revokeUid)).ok :=
  if_neg (by simpa using h)

theorem revokeRemove_listed (h : s.get Obj.revokeUid ∈ s.revokedList) :
    revokeRemove s = (s.setRevoked (s.revokedList.filter (· != s.get Obj.revokeUid)) 2 (s.get Obj.revokeUid)).ok :=
  if_pos (List.contains_iff_mem.mpr h)

theorem revokeRemove_absent (h : s.get Obj.revokeUid ∉ s.revokedList) : revokeRemove s = s.refused 0 := if_neg (by simpa using h)

end Revoke

end Identity

/-- Settles O44: each command by the branch that its guards pick; what a binding and a signed quote show is read off the objects they
set. -/
theorem identityCommandsComplete : Obligations.IdentityCommandsComplete := by
  refine ⟨rfl, fun s l a ha hstate hleft => ⟨fun c hc => ⟨?_, fun hadvanced => ?_, fun hadvanced => ?_⟩, fun hnone => ?_⟩,
    fun s l a ha h => ?_, fun s ha => ⟨fun h => ?_, fun hidle h => ?_, fun hidle h hover => ?_, fun hidle h hleft => ?_⟩,
    fun s body i h => ⟨_, congrArg Host.Outcome.next (quoteComplete_quoting h), rfl, ?_, ?_, fun k hresult hissued => ?_⟩, fun s ha => ?_,
    fun s => ⟨fun ha habsent hroom => ?_, fun ha hlisted => ?_, fun ha habsent hfull => ?_, fun ha hlisted => ?_, fun ha habsent => ?_,
      fun ha => ?_⟩⟩
  · exact next_accepted ha (bindBootFlash_free ⟨hstate, hleft⟩ hc)
  · subst hadvanced
    rw [identitySteps_certified (lt_of_find? hc)]
    refine ⟨(certify_get _ c).1, (certify_get _ c).2.trans ?_⟩
    rw [State.get_set_self, Nat.add_sub_cancel]
  · subst hadvanced
    rw [identitySteps_failed (lt_of_find? hc)]
    simp [State.setAll_cons, State.get_set, Obj.identityState, Obj.identityIndexesLeft]
  · exact next_accepted ha (bindBootFlash_noCounter hnone)
  · refine next_accepted ha (bindBootFlash_refused fun hbind => ?_)
    obtain ⟨hstate, hleft⟩ := hbind
    omega
  · exact next_accepted ha (quoteCommand_quoting h)
  · exact next_accepted ha (quoteCommand_notReady hidle h)
  · exact next_accepted ha ((quoteCommand_ready hidle h).trans (if_pos hover))
  · exact next_accepted ha ((quoteCommand_ready hidle h).trans (if_neg (Nat.not_lt.mpr hleft)))
  · exact (State.get_countW ..).trans ((if_neg (by decide)).trans (State.get_set_self ..))
  · exact (State.blob_setBlob ..).trans (if_pos rfl)
  · exact (State.get_countW ..).trans ((if_neg hissued).trans (State.get_set_ne _ _ _ _ hresult))
  · exact congrArg Host.Outcome.next (writeCommand_accepted ha)
  · exact next_accepted ha ((revokeAdd_absent habsent).trans (if_neg (Nat.not_le.mpr hroom)))
  · exact next_accepted ha (revokeAdd_listed hlisted)
  · exact next_accepted ha ((revokeAdd_absent habsent).trans (if_pos hfull))
  · exact next_accepted ha (revokeRemove_listed hlisted)
  · exact next_accepted ha (revokeRemove_absent habsent)
  · exact congrArg Host.Outcome.next (writeCommand_accepted ha)

end Sys2Proof.Machine
end

section
/-! The frames of the bus that a unit takes (R486, R489, R490), and the CONTROL frames and claims (R488, R492 to R494, R506, R507, R509). -/

namespace Sys2Proof.Machine

section Hear
variable {s : State} {f : BusFrame} {eff : State → State}

/-! ## Frames -/

theorem hear_busOff (h : s.bus.busOff = true) : hear f eff s = s := if_pos h

theorem hear_illegal (hon : s.bus.busOff = false) (h : frameLegal f = false) : hear f eff s = s.bump Obj.busFramesDiscarded :=
  (if_neg (by simp [hon])).trans (if_pos (by simp [h]))

theorem hear_forAnother (hlegal : frameLegal f = true) (hall : f.dest ≠ 127) (hown : f.dest ≠ s.get Obj.busAddress) : hear f eff s = s := by
  by_cases hon : s.bus.busOff = true
  · exact hear_busOff hon
  · exact (if_neg hon).trans ((if_neg (by simp [hlegal])).trans (if_pos ⟨hall, hown⟩))

theorem hear_taken (hon : s.bus.busOff = false) (hlegal : frameLegal f = true) (hdest : f.dest = 127 ∨ f.dest = s.get Obj.busAddress) :
    hear f eff s = eff (s.bump Obj.busFramesReceived) :=
  (if_neg (by simp [hon])).trans ((if_neg (by simp [hlegal])).trans (if_neg fun h => hdest.elim h.1 h.2))

/-- A frame's effect on a unit starts with the unit's hearing it. -/
def Hears (f : BusFrame) (act : State → State) : Prop := ∃ eff, ∀ s, act s = hear f eff s

theorem control_hears (op : Nat) (fields : List (Nat × Nat)) (legal : Bool) : Hears f (control f op fields legal eff) :=
  ⟨fun t => if f.function = 0 ∧ (f.dest = 127 ↔ op ≠ 4) ∧ controlOp op fields f.payload ∧ legal then eff t else t, fun _ => rfl⟩

/-- What a request frame that the unit takes does. -/
def takeRequest (f : BusFrame) (command : Nat) (act : BusRequest → State → State) (s : State) : State :=
  let r := requestOf f.payload
  let need := if 3 ≤ r.command ∧ r.command ≤ 6 then 24 else 16
  if f.function ≠ 3 ∨ ¬ s.addressed ∨ f.payload.length < need ∨ r.num ≠ f.tag then s
  else if r.command = 0 ∨ 7 < r.command ∨ reservedSet f.payload then s.abortTransfer r.num r.key 0x0002 0
  else if r.command ≠ command then s
  else if command ≠ 7 ∧ (s.transfer r.num).isSome then s.abortTransfer r.num r.key 0x0003 0
  else act r s

theorem request_hears (command : Nat) (act : BusRequest → State → State) : Hears f (request f command act) :=
  ⟨takeRequest f command act, fun _ => rfl⟩

/-- Every command of a frame hears it, whatever it does with one that it takes. -/
theorem exec_hears {o : Outside} {c : Instr}
    (h : c ∈ [.walk f, .walkEnd f, .rateSwitch f, .eventAck f, .helloQuery f, .claimReceived f, .bdpRead f, .bdpWrite f o, .segWrite f,
      .segRead f, .stageWrite f, .stageRead f, .bdpAbort f, .segment f o, .segReadResponse f, .block f o, .blockAck f]) :
    ∃ act, Hears f act ∧ ∀ s, exec c s = .next (act s) := by
  simp only [List.mem_cons, List.not_mem_nil, or_false] at h
  rcases h with rfl | rfl | rfl | rfl | rfl | rfl | rfl | rfl | rfl | rfl | rfl | rfl | rfl | rfl | rfl | rfl | rfl
  case inr.inr.inr.inr.inr.inl => exact ⟨_, ⟨_, fun _ => rfl⟩, fun _ => rfl⟩
  iterate 5 exact ⟨_, control_hears .., fun _ => rfl⟩
  iterate 7 exact ⟨_, request_hears .., fun _ => rfl⟩
  all_goals exact ⟨_, ⟨_, fun _ => rfl⟩, fun _ => rfl⟩

/-- A legal frame comes from the manager, from an address, or from the unaddressed as a CLAIM or HELLO. -/
theorem src_of_frameLegal (h : frameLegal f = true) : f.src = 0 ∨ f.src ≤ 120 ∨ f.src = 125 ∧ f.function = 2 := by
  by_cases h0 : f.src = 0
  · exact .inl h0
  · refine .inr ?_
    simp only [frameLegal, if_neg h0, Bool.and_eq_true, Bool.or_eq_true, decide_eq_true_eq, beq_iff_eq] at h
    obtain ⟨-, ⟨-, hsrc⟩, -⟩ := h
    exact hsrc

/-- A CLAIM or HELLO is for every unit. -/
theorem dest_of_claim (h : frameLegal f = true) (hf : f.function = 2) : f.dest = 127 := by
  by_cases h0 : f.src = 0
  · simp [frameLegal, h0, hf, managerFunctions] at h
  · simp only [frameLegal, if_neg h0, hf, if_true, Bool.and_eq_true, beq_iff_eq] at h
    obtain ⟨-, -, hdest⟩ := h
    exact hdest

/-! ## CONTROL frames -/

section Control
variable {op : Nat} {fields : List (Nat × Nat)} {legal : Bool}

/-- A CONTROL frame that keeps its operation's format and is addressed as R492 says acts. -/
theorem control_taken (hon : s.bus.busOff = false) (hlegal : frameLegal f = true) (hf : f.function = 0)
    (hdest : f.dest = 127 ∨ f.dest = s.get Obj.busAddress) (hall : f.dest = 127 ↔ op ≠ 4) (hop : controlOp op fields f.payload = true)
    (hfields : legal = true) : control f op fields legal eff s = eff (s.bump Obj.busFramesReceived) :=
  (hear_taken hon hlegal hdest).trans (if_pos ⟨hf, hall, hop, hfields⟩)

end Control

end Hear

/-- A frame received is no part of what a HELLO says. -/
theorem sendHello_bump (s : State) :
    let t := s.bump Obj.busFramesReceived
    t.sendHello = (t.modBus fun b => { b with lastHello := s.gtc }).sendFrame 2 127 125 claimTag (s.claimPayload 2) := by
  have hpayload : State.claimPayload ((s.bump Obj.busFramesReceived).modBus fun b => { b with lastHello := s.gtc }) 2 =
      s.claimPayload 2 := by
    have hget (k : Nat) (h : k ≠ Obj.busFramesReceived) :
        State.get ((s.bump Obj.busFramesReceived).modBus fun b => { b with lastHello := s.gtc }) k = s.get k :=
      (State.get_bump ..).trans (if_neg h)
    simp only [State.claimPayload, hget Obj.chainInLevel (by decide), hget Obj.bootState (by decide), hget Obj.stepping (by decide)]
    rfl
  exact congrArg (State.sendFrame _ 2 127 125 claimTag) hpayload

theorem not_ackedBy (n seq : Nat) : (!ackedBy n seq) = decide (32767 < (n + 65535 - seq) % 65535) := by
  simp only [ackedBy, ← Nat.not_le, decide_not]

/-! ## Claims and the data rate -/

theorem claimReceived_next {s : State} {f : BusFrame} (hon : s.bus.busOff = false) (hlegal : frameLegal f = true) (hf : f.function = 2)
    (hclaim : byteAt f.payload 0 = 1) (hwalk : s.bus.walkTick.isSome = true) (hsrc : f.src = s.bus.next) :
    claimReceived f s =
      let t := (s.bump Obj.busFramesReceived).modBus fun b => { b with next := s.bus.next + 1, claimTick := none }
      if s.bus.claimTick.isSome = true then t.noteConflict else t :=
  (hear_taken hon hlegal (.inl (dest_of_claim hlegal hf))).trans (if_pos ⟨hf, hclaim, hwalk, hsrc⟩)

theorem rateSwitchApply_due {s : State} {rate due : Nat} (h : s.bus.rateSwitch = some (rate, due)) (hdue : due ≤ s.gtc) :
    rateSwitchApply s = (s.modBus fun b => { b with rate := rate, rateSwitch := none }).flushEvents := by
  simp only [rateSwitchApply, h]
  exact if_neg (Nat.not_lt.mpr hdue)

/-- Settles O45: every command of a frame hears it, and a CONTROL frame that is taken acts by its operation. -/
theorem busControlComplete : Obligations.BusControlComplete := by
  refine ⟨fun s f o c hc => ?_, fun s f hon hlegal hf => ⟨fun hall => ⟨fun hop hlow hhigh => ?_, fun hop hhigh => ?_, fun hop hrate => ?_,
    fun hop => ?_⟩, fun hown hnotAll hop hn => ?_⟩, fun s f hon hlegal hf hclaim hwalk hsrc => ⟨fun hfree => ?_, fun hheld => ?_⟩,
    fun s rate due h hdue => ?_, fun f => src_of_frameLegal⟩
  · obtain ⟨act, ⟨eff, hact⟩, hexec⟩ := exec_hears hc
    simp only [hexec, hact]
    exact ⟨fun h => congrArg Host.Outcome.next (hear_busOff h), fun hon h => congrArg Host.Outcome.next (hear_illegal hon h),
      fun hlegal hall hown => congrArg Host.Outcome.next (hear_forAnother hlegal hall hown)⟩
  · exact congrArg Host.Outcome.next (control_taken hon hlegal hf (.inl hall) (by simp [hall]) hop (by simp [hlow, hhigh]))
  · exact congrArg Host.Outcome.next (control_taken hon hlegal hf (.inl hall) (by simp [hall]) hop (by simp [hhigh]))
  · exact congrArg Host.Outcome.next (control_taken hon hlegal hf (.inl hall) (by simp [hall]) hop (List.contains_iff_mem.mpr hrate))
  · refine congrArg Host.Outcome.next ((control_taken hon hlegal hf (.inl hall) (by simp [hall]) hop rfl).trans ?_)
    have hstate : (s.bump Obj.busFramesReceived).get Obj.busAddressState = s.get Obj.busAddressState :=
      (State.get_bump ..).trans (if_neg (by decide))
    by_cases h : s.get Obj.busAddressState = 1
    · rw [if_pos (hstate.trans h), if_pos (by simp [State.addressed, hstate, h])]
    · rw [if_neg (hstate.trans_ne h), if_neg (by simp [State.addressed, hstate, h])]
      exact sendHello_bump s
  · refine congrArg Host.Outcome.next ((control_taken hon hlegal hf (.inr hown) (by simp [hnotAll]) hop (by simp [hn])).trans ?_)
    simp only [not_ackedBy]
  · exact congrArg Host.Outcome.next ((claimReceived_next hon hlegal hf hclaim hwalk hsrc).trans (if_neg (by simp [hfree])))
  · exact congrArg Host.Outcome.next ((claimReceived_next hon hlegal hf hclaim hwalk hsrc).trans (if_pos hheld))
  · exact congrArg Host.Outcome.next (rateSwitchApply_due h hdue)

end Sys2Proof.Machine
end

section
/-! Requests of the dictionary protocol (R495 to R503, R514): reads, writes, the transfers they open, and their end by the manager. -/

namespace Sys2Proof.Machine

section Request
variable {s : State} {f : BusFrame}

/-! ## What a request frame does -/

/-- A request of a length reaches a unit that has an address, under its own TAG (R495). -/
def Comes (s : State) (f : BusFrame) (need : Nat) : Prop :=
  s.bus.busOff = false ∧ frameLegal f = true ∧ (f.dest = 127 ∨ f.dest = s.get Obj.busAddress) ∧
    f.function = 3 ∧ s.get Obj.busAddressState = 1 ∧ need ≤ f.payload.length ∧ (requestOf f.payload).num = f.tag

/-- A request for a command that sets no reserved field reaches a unit. -/
def Asks (s : State) (f : BusFrame) (command : Nat) : Prop :=
  Comes s f (if 3 ≤ command ∧ command ≤ 6 then 24 else 16) ∧ (requestOf f.payload).command = command ∧ reservedSet f.payload = false

theorem addressed_bump (h : s.get Obj.busAddressState = 1) : (s.bump Obj.busFramesReceived).addressed = true :=
  beq_iff_eq.mpr (((State.get_bump ..).trans (if_neg (by decide))).trans h)

theorem Comes.taken {need : Nat} (h : Comes s f need)
    (hneed : (if 3 ≤ (requestOf f.payload).command ∧ (requestOf f.payload).command ≤ 6 then 24 else 16) ≤ need)
    (command : Nat) (act : BusRequest → State → State) :
    request f command act s =
      let r := requestOf f.payload
      let t := s.bump Obj.busFramesReceived
      if r.command = 0 ∨ 7 < r.command ∨ reservedSet f.payload = true then t.abortTransfer r.num r.key 0x0002 0
      else if r.command ≠ command then t
      else if command ≠ 7 ∧ (t.transfer r.num).isSome then t.abortTransfer r.num r.key 0x0003 0
      else act r t := by
  obtain ⟨hon, hlegal, hdest, hf, hstate, hlen, hnum⟩ := h
  refine (hear_taken hon hlegal hdest).trans (if_neg ?_)
  rintro (hf' | haddr | hshort | htag)
  · exact hf' hf
  · exact haddr (addressed_bump hstate)
  · omega
  · exact htag hnum

theorem request_unknown (h : Comes s f 24)
    (hbad : (requestOf f.payload).command = 0 ∨ 7 < (requestOf f.payload).command ∨ reservedSet f.payload = true) (command : Nat)
    (act : BusRequest → State → State) :
    request f command act s =
      (s.bump Obj.busFramesReceived).abortTransfer (requestOf f.payload).num (requestOf f.payload).key 0x0002 0 :=
  (h.taken (by split <;> omega) command act).trans (if_pos hbad)

section Asked
variable {command : Nat} (h : Asks s f command) (hlow : 1 ≤ command) (hhigh : command ≤ 7)
include h hlow hhigh

theorem Asks.taken (act : BusRequest → State → State) :
    request f command act s =
      let r := requestOf f.payload
      let t := s.bump Obj.busFramesReceived
      if command ≠ 7 ∧ (s.transfer r.num).isSome then t.abortTransfer r.num r.key 0x0003 0 else act r t := by
  obtain ⟨hcomes, hcommand, hreserved⟩ := h
  refine (hcomes.taken (by rw [hcommand]) command act).trans ((if_neg ?_).trans (if_neg (not_not_intro hcommand)))
  rintro (h0 | h7 | hset)
  · omega
  · omega
  · simp [hreserved] at hset

theorem request_open (h7 : command ≠ 7) (hopen : (s.transfer (requestOf f.payload).num).isSome = true) (act : BusRequest → State → State) :
    request f command act s =
      (s.bump Obj.busFramesReceived).abortTransfer (requestOf f.payload).num (requestOf f.payload).key 0x0003 0 :=
  (h.taken hlow hhigh act).trans (if_pos ⟨h7, hopen⟩)

theorem request_new (hnew : s.transfer (requestOf f.payload).num = none) (act : BusRequest → State → State) :
    request f command act s = act (requestOf f.payload) (s.bump Obj.busFramesReceived) :=
  (h.taken hlow hhigh act).trans (if_neg (by simp [hnew]))

end Asked

/-! ## The commands -/

/-- Every command of the protocol is a request for its number. -/
theorem exec_requests {o : Outside} {c : Instr} {n : Nat} (h : (c, n) ∈ [(.bdpRead f, 1), (.bdpWrite f o, 2), (.segWrite f, 3),
    (.segRead f, 4), (.stageWrite f, 5), (.stageRead f, 6), (Instr.bdpAbort f, 7)]) :
    ∃ act, ∀ s, exec c s = .next (request f n act s) := by
  simp only [List.mem_cons, List.not_mem_nil, or_false, Prod.mk.injEq] at h
  rcases h with ⟨rfl, rfl⟩ | ⟨rfl, rfl⟩ | ⟨rfl, rfl⟩ | ⟨rfl, rfl⟩ | ⟨rfl, rfl⟩ | ⟨rfl, rfl⟩ | ⟨rfl, rfl⟩
  all_goals exact ⟨_, fun _ => rfl⟩

theorem exec_openWrite {c : Instr} {n : Nat} {sv : Service} {ws : WriteService}
    (h : (c, n, sv, ws) ∈ [(Instr.segWrite f, 3, Service.segWrite, WriteService.segmented), (.stageWrite f, 5, .stageWrite, .staged)]) :
    1 ≤ n ∧ n ≤ 7 ∧ exec c s = .next (openWrite f n sv ws s) := by
  simp only [List.mem_cons, List.not_mem_nil, or_false, Prod.mk.injEq] at h
  rcases h with ⟨rfl, rfl, rfl, rfl⟩ | ⟨rfl, rfl, rfl, rfl⟩ <;> exact ⟨by decide, by decide, rfl⟩

theorem exec_openRead {c : Instr} {n : Nat} {sv : Service}
    (h : (c, n, sv) ∈ [(Instr.segRead f, 4, Service.segRead), (.stageRead f, 6, .stageRead)]) :
    1 ≤ n ∧ n ≤ 7 ∧ (sv.staged = true ↔ n = 6) ∧ exec c s = .next (openRead f n sv s) := by
  simp only [List.mem_cons, List.not_mem_nil, or_false, Prod.mk.injEq] at h
  rcases h with ⟨rfl, rfl, rfl⟩ | ⟨rfl, rfl, rfl⟩ <;> exact ⟨by decide, by decide, by decide, rfl⟩

section Read
variable (h : Asks s f 1) (hnew : s.transfer (requestOf f.payload).num = none)
include h hnew

theorem bdpRead_value {v : Bytes} (hv : readObject (s.bump Obj.busFramesReceived) (requestOf f.payload).key 0 0 = .ok v) :
    bdpRead f s =
      let r := requestOf f.payload
      let t := s.bump Obj.busFramesReceived
      if 48 < (t.valueOf r.key).length then t.abortTransfer r.num r.key 0x0013 0
      else State.respond { ((t.noteRead r.key).bump Obj.transfersCompleted) with answer := { data := t.valueOf r.key } }
        r.num r.key 0 (t.valueOf r.key).length 0 (t.valueOf r.key) := by
  rw [bdpRead, request_new h (by decide) (by decide) hnew]
  simp only [hv]

theorem bdpRead_error {e : Nat × Nat} (he : readObject (s.bump Obj.busFramesReceived) (requestOf f.payload).key 0 0 = .error e) :
    bdpRead f s = (s.bump Obj.busFramesReceived).abortTransfer (requestOf f.payload).num (requestOf f.payload).key e.1 e.2 := by
  rw [bdpRead, request_new h (by decide) (by decide) hnew]
  simp only [he]

end Read

section Write
variable {o : Outside} (h : Asks s f 2) (hnew : s.transfer (requestOf f.payload).num = none)
  (hlen : (requestOf f.payload).len ≤ (requestOf f.payload).data.length)
include h hnew hlen

theorem bdpWrite_error {e : Nat × Nat}
    (he : requestAbort (s.bump Obj.busFramesReceived) (some .expedited) (requestOf f.payload).key 0 (requestOf f.payload).len = some e) :
    bdpWrite f o s = (s.bump Obj.busFramesReceived).abortTransfer (requestOf f.payload).num (requestOf f.payload).key e.1 e.2 := by
  rw [bdpWrite, request_new h (by decide) (by decide) hnew]
  simp only [if_pos hlen, he]

theorem bdpWrite_carriedOut
    (hok : requestAbort (s.bump Obj.busFramesReceived) (some .expedited) (requestOf f.payload).key 0 (requestOf f.payload).len = none) :
    bdpWrite f o s =
      let r := requestOf f.payload
      (writeObject o (some .expedited) r.key 0 (r.data.take r.len) (s.bump Obj.busFramesReceived)).answerWrite r.num r.key r.len := by
  rw [bdpWrite, request_new h (by decide) (by decide) hnew]
  simp only [if_pos hlen, hok]

end Write

section Opening
variable {n : Nat} (h : Asks s f n) (hlow : 1 ≤ n) (hhigh : n ≤ 7) (hnew : s.transfer (requestOf f.payload).num = none)
include h hlow hhigh hnew

theorem openWrite_error {sv : Service} {ws : WriteService} {e : Nat × Nat}
    (he : requestAbort (s.bump Obj.busFramesReceived) (some ws) (requestOf f.payload).key (requestOf f.payload).offset
      (requestOf f.payload).len = some e) :
    openWrite f n sv ws s =
      (s.bump Obj.busFramesReceived).abortTransfer (requestOf f.payload).num (requestOf f.payload).key e.1 e.2 := by
  rw [openWrite, request_new h hlow hhigh hnew]
  simp only [he]

theorem openWrite_opens {sv : Service} {ws : WriteService}
    (hok : requestAbort (s.bump Obj.busFramesReceived) (some ws) (requestOf f.payload).key (requestOf f.payload).offset
      (requestOf f.payload).len = none) :
    openWrite f n sv ws s =
      let r := requestOf f.payload
      let t := s.bump Obj.busFramesReceived
      if s.transferRoom sv = true then t.openTransfer (r.opens sv [] r.len (t.get Obj.blockFrames) s.gtc)
      else t.abortTransfer r.num r.key 0x0003 0 := by
  rw [openWrite, request_new h hlow hhigh hnew]
  simp only [hok, ite_not]
  rfl

theorem openRead_error {sv : Service} {e : Nat × Nat}
    (he : readObject (s.bump Obj.busFramesReceived) (requestOf f.payload).key (requestOf f.payload).offset (requestOf f.payload).len =
      .error e) :
    openRead f n sv s =
      (s.bump Obj.busFramesReceived).abortTransfer (requestOf f.payload).num (requestOf f.payload).key e.1 e.2 := by
  rw [openRead, request_new h hlow hhigh hnew]
  simp only [he]

theorem openRead_opens {sv : Service} {v : Bytes}
    (hv : readObject (s.bump Obj.busFramesReceived) (requestOf f.payload).key (requestOf f.payload).offset (requestOf f.payload).len = .ok v)
    (hpos : 0 < (requestOf f.payload).len) (hmax : (requestOf f.payload).len ≤ 65536)
    (hdomain : sv.staged = true → ((findRow (requestOf f.payload).key).map fun x => x.ty.isDomain).getD false = true)
    (hroom : s.transferRoom sv = true) :
    openRead f n sv s =
      let r := requestOf f.payload
      let t := s.bump Obj.busFramesReceived
      let x := r.opens sv v v.length (t.get Obj.blockFrames) s.gtc
      let u : State := { ((t.noteRead r.key).respond r.num r.key 0 v.length 0 (leBytes 4 r.offset ++ zeros 4)) with answer := { data := v } }
      if v = [] then u.bump Obj.transfersCompleted
      else if sv.staged = true then (u.openTransfer x).sendBlock x else (u.openTransfer x).sendSegment x := by
  rw [openRead, request_new h hlow hhigh hnew]
  simp only [hv]
  have hroom : (s.bump Obj.busFramesReceived).transferRoom sv = true := hroom
  have hfits : (if sv.staged = true then !(((findRow (requestOf f.payload).key).map fun x => x.ty.isDomain).getD false) ||
      (requestOf f.payload).len == 0
    else decide (65536 < (requestOf f.payload).len) ||
      (((findRow (requestOf f.payload).key).map fun x => x.ty.isDomain).getD false && (requestOf f.payload).len == 0)) = false := by
    split
    case isTrue hstaged => simp [hdomain hstaged, hpos.ne']
    case isFalse => simp [hmax, hpos.ne']
  rw [if_neg (by rw [hfits]; decide), if_neg (not_not_intro hroom)]
  rfl

end Opening

theorem bdpAbort_asked (h : Asks s f 7) :
    bdpAbort f s =
      let t := s.bump Obj.busFramesReceived
      if (s.transfer (requestOf f.payload).num).isSome = true then (t.dropTransfer (requestOf f.payload).num).bump Obj.transfersAborted
      else t :=
  (h.taken (by decide) (by decide) _).trans (if_neg (by simp))

theorem bdpTimeout_idle {n : Nat} {x : Transfer} (hx : s.transfer n = some x) (hdue : x.last + s.get Obj.bdpTimeoutTicks ≤ s.gtc) :
    bdpTimeout n s = (s.dropTransfer n).abortTransfer n x.key 0x0001 0 := by
  simp only [bdpTimeout, hx]
  exact if_neg (Nat.not_lt.mpr hdue)

end Request

/-- Settles O46: each command is a request for its number, which a request frame that asks for it carries out. -/
theorem dictionaryProtocolComplete : Obligations.DictionaryProtocolComplete := by
  refine ⟨fun s f o => ⟨fun c hc hcomes hbad => ?_, fun c n hc hasks hopen => ?_,
    fun hasks hnew => ⟨fun v hv hshort => ?_, fun v hv hlong => ?_, fun e he => ?_⟩,
    fun hasks hnew hlen => ⟨fun e he => ?_, fun hok => ?_⟩,
    fun c n sv ws hc hasks hnew => ⟨fun e he => ?_, fun hok hroom => ?_, fun hok hroom => ?_⟩,
    fun c n sv v hc hasks hnew hv hpos hmax hdomain hroom => ?_, fun c n sv e hc hasks hnew he => ?_, fun hasks hopen => ?_,
    fun hasks hnew => ?_⟩, fun s n x hx hdue => congrArg Host.Outcome.next (bdpTimeout_idle hx hdue)⟩
  · obtain ⟨n, hn⟩ : ∃ n, (c, n) ∈ [(.bdpRead f, 1), (.bdpWrite f o, 2), (.segWrite f, 3), (.segRead f, 4), (.stageWrite f, 5),
        (.stageRead f, 6), (Instr.bdpAbort f, 7)] := by
      simp only [List.mem_cons, List.not_mem_nil, or_false] at hc
      rcases hc with rfl | rfl | rfl | rfl | rfl | rfl | rfl <;> simp
    obtain ⟨act, hact⟩ := exec_requests hn
    exact (hact s).trans (congrArg Host.Outcome.next (request_unknown hcomes hbad n act))
  · obtain ⟨act, hact⟩ := exec_requests (List.mem_append_left [(Instr.bdpAbort f, 7)] hc)
    obtain ⟨hlow, hhigh⟩ : 1 ≤ n ∧ n ≤ 6 := by
      simp only [List.mem_cons, List.not_mem_nil, or_false, Prod.mk.injEq] at hc
      omega
    exact (hact s).trans (congrArg Host.Outcome.next (request_open hasks hlow (by omega) (by omega) hopen act))
  · exact congrArg Host.Outcome.next ((bdpRead_value hasks hnew hv).trans (if_neg (Nat.not_lt.mpr hshort)))
  · exact congrArg Host.Outcome.next ((bdpRead_value hasks hnew hv).trans (if_pos hlong))
  · exact congrArg Host.Outcome.next (bdpRead_error hasks hnew he)
  · exact congrArg Host.Outcome.next (bdpWrite_error hasks hnew hlen he)
  · exact congrArg Host.Outcome.next (bdpWrite_carriedOut hasks hnew hlen hok)
  · obtain ⟨hlow, hhigh, hexec⟩ := exec_openWrite hc
    exact hexec.trans (congrArg Host.Outcome.next (openWrite_error hasks hlow hhigh hnew he))
  · obtain ⟨hlow, hhigh, hexec⟩ := exec_openWrite hc
    exact hexec.trans (congrArg Host.Outcome.next ((openWrite_opens hasks hlow hhigh hnew hok).trans (if_neg (by simp [hroom]))))
  · obtain ⟨hlow, hhigh, hexec⟩ := exec_openWrite hc
    exact hexec.trans (congrArg Host.Outcome.next ((openWrite_opens hasks hlow hhigh hnew hok).trans (if_pos hroom)))
  · obtain ⟨hlow, hhigh, hstaged, hexec⟩ := exec_openRead hc
    refine hexec.trans (congrArg Host.Outcome.next ?_)
    refine (openRead_opens hasks hlow hhigh hnew hv hpos hmax (fun h => hdomain (hstaged.mp h)) hroom).trans ?_
    simp only [hstaged]
    rfl
  · obtain ⟨hlow, hhigh, -, hexec⟩ := exec_openRead hc
    exact hexec.trans (congrArg Host.Outcome.next (openRead_error hasks hlow hhigh hnew he))
  · exact congrArg Host.Outcome.next ((bdpAbort_asked hasks).trans (if_pos hopen))
  · exact congrArg Host.Outcome.next ((bdpAbort_asked hasks).trans (if_neg (by simp only [hnew]; decide)))

end Sys2Proof.Machine
end

section
/-! The data of open transfers (R497 to R499, R501, R503, R507): SEGMENT and BLOCK frames, and the manager's answers to those of a
read. -/

namespace Sys2Proof.Machine

section Data
variable {s : State} {f : BusFrame} {o : Outside} {x : Transfer} (hon : s.bus.busOff = false) (hlegal : frameLegal f = true)
  (hdest : f.dest = 127 ∨ f.dest = s.get Obj.busAddress)
include hon hlegal hdest

/-! ## SEGMENTs -/

/-- A SEG_WRITE with the data of one more SEGMENT. -/
def Transfer.joinSegment (x : Transfer) (p : Bytes) (now : Nat) : Transfer :=
  { x with data := x.data ++ ((p.drop 2).take 62).take (x.length - x.data.length), next := x.next + 1, last := now }

section Segment
variable (hf : f.function = 5) (hx : s.transfer (byteAt f.payload 0) = some x) (hsv : x.service = .segWrite) (hlen : 3 ≤ f.payload.length)
include hf hx hsv hlen

theorem segment_outOfOrder (htag : f.tag ≠ x.next % 2048) :
    segment f o s = ((s.bump Obj.busFramesReceived).dropTransfer x.num).abortTransfer x.num x.key 0x0004 0 := by
  have hx : (s.bump Obj.busFramesReceived).transfer (byteAt f.payload 0) = some x := hx
  rw [segment, hear_taken hon hlegal hdest]
  simp only [hx]
  rw [if_neg (by simp [hf, hsv, hlen]), if_pos htag]

theorem segment_inOrder (htag : f.tag = x.next % 2048) :
    segment f o s =
      let t := s.bump Obj.busFramesReceived
      let y := x.joinSegment f.payload s.gtc
      if bit (byteAt f.payload 1) 0 = true ∧ y.data.length = x.length then t.completeWrite o .segmented y
      else if bit (byteAt f.payload 1) 0 = true ∨ y.data.length = x.length then
        (t.dropTransfer x.num).abortTransfer x.num x.key 0x0013 0
      else (t.putTransfer y).respond x.num x.key 0 y.data.length 0 [] := by
  have hx : (s.bump Obj.busFramesReceived).transfer (byteAt f.payload 0) = some x := hx
  rw [segment, hear_taken hon hlegal hdest]
  simp only [hx]
  rw [if_neg (by simp [hf, hsv, hlen]), if_neg (not_not_intro htag)]
  rfl

end Segment

theorem segReadResponse_answered (hf : f.function = 4) (hx : s.transfer (byteAt f.payload 1) = some x) (hlen : 16 ≤ f.payload.length)
    (htag : x.num = f.tag) (hsv : x.service = .segRead) :
    segReadResponse f s =
      let t := s.bump Obj.busFramesReceived
      let y : Transfer := { x with next := x.next + 1, last := s.gtc }
      if byteAt f.payload 0 ≠ 0 then (t.dropTransfer x.num).bump Obj.transfersAborted
      else if x.data.length ≤ 62 * (x.next + 1) then (t.dropTransfer x.num).bump Obj.transfersCompleted
      else (t.putTransfer y).sendSegment y := by
  have hx : (s.bump Obj.busFramesReceived).transfer (byteAt f.payload 1) = some x := hx
  rw [segReadResponse, hear_taken hon hlegal hdest]
  simp only [hx]
  rw [if_neg (by simp [hf, htag, hsv, hlen])]
  rfl

/-! ## BLOCKs -/

/-- A STAGE_WRITE with the data of one BLOCK frame, taken only where it is the next of its block. -/
def Transfer.joinBlock (x : Transfer) (i : Nat) (p : Bytes) (now : Nat) : Transfer :=
  { x with
    data := if i = x.next then x.data ++ (padTo 64 p).take (x.length - x.data.length) else x.data
    next := if i = x.next then x.next + 1 else x.next
    last := now }

theorem block_inBlock (hf : f.function = 6) (hx : s.stagedTransfer .stageWrite = some x) (hblock : f.tag / 64 = x.block % 32) :
    block f o s =
      let t := s.bump Obj.busFramesReceived
      let y := x.joinBlock (f.tag % 64) f.payload s.gtc
      if f.tag % 64 + 1 < y.frames then t.putTransfer y
      else if y.next < y.frames then (t.putTransfer y).ackBlock y else t.takeBlock o y := by
  have hx : (s.bump Obj.busFramesReceived).stagedTransfer .stageWrite = some x := hx
  rw [block, hear_taken hon hlegal hdest]
  simp only [hx]
  rw [if_neg (by simp [hf, hblock])]
  rfl

theorem blockAck_inBlock (hf : f.function = 7) (hx : s.stagedTransfer .stageRead = some x) (hblock : f.tag / 64 = x.block % 32)
    (hlen : 8 ≤ f.payload.length) (hcount : byteAt f.payload 0 ≤ x.frames) :
    blockAck f s =
      let t := s.bump Obj.busFramesReceived
      let again : Transfer := { x with next := byteAt f.payload 0, last := s.gtc }
      let y : Transfer := { x with block := x.block + 1, next := 0, last := s.gtc }
      if byteAt f.payload 0 < x.frames then (t.putTransfer again).sendBlock again
      else if x.length ≤ 64 * (x.block + 1) * x.blockFrames then (t.dropTransfer x.num).bump Obj.transfersCompleted
      else (t.putTransfer y).sendBlock y := by
  have hx : (s.bump Obj.busFramesReceived).stagedTransfer .stageRead = some x := hx
  rw [blockAck, hear_taken hon hlegal hdest]
  simp only [hx]
  rw [if_neg (by simp [hf, hblock, hlen, hcount])]
  rfl

end Data

/-- Settles O47: each frame in order by what the transfer then holds; a completed write by its CRC. -/
theorem transferDataComplete : Obligations.TransferDataComplete := by
  refine ⟨fun s f o x hon hlegal hdest => ⟨fun hf hx hsv hlen => ⟨fun htag => ?_, fun htag hlast hwhole => ?_, fun htag hlast => ?_,
      fun htag hlast hpart => ?_⟩, fun hf hx hlen htag hsv => ?_, fun hf hx hblock => ?_, fun hf hx hblock hlen => ?_⟩,
    fun s o ws x => ⟨fun h => if_pos h, fun h => if_neg (not_not_intro h)⟩⟩
  · exact congrArg Host.Outcome.next (segment_outOfOrder hon hlegal hdest hf hx hsv hlen htag)
  · exact congrArg Host.Outcome.next ((segment_inOrder hon hlegal hdest hf hx hsv hlen htag).trans (if_pos ⟨hlast, hwhole⟩))
  · refine congrArg Host.Outcome.next ((segment_inOrder hon hlegal hdest hf hx hsv hlen htag).trans ((if_neg ?_).trans (if_pos ?_))) <;>
      rw [hlast, decide_eq_true_iff]
    · exact fun h => h.1 h.2
    · exact (em _).symm
  · refine congrArg Host.Outcome.next ((segment_inOrder hon hlegal hdest hf hx hsv hlen htag).trans ((if_neg ?_).trans (if_neg ?_)))
    · exact fun h => hpart h.2
    · rintro (h | h)
      · exact Bool.false_ne_true (hlast.symm.trans h)
      · exact hpart h
  · have hans := segReadResponse_answered hon hlegal hdest hf hx hlen htag hsv
    exact ⟨fun h => congrArg Host.Outcome.next (hans.trans (if_pos h)),
      fun h hover => congrArg Host.Outcome.next (hans.trans ((if_neg (not_not_intro h)).trans (if_pos hover))),
      fun h hmore => congrArg Host.Outcome.next (hans.trans ((if_neg (not_not_intro h)).trans (if_neg (Nat.not_le.mpr hmore))))⟩
  · have hin := block_inBlock (o := o) hon hlegal hdest hf hx hblock
    exact ⟨fun h => congrArg Host.Outcome.next (hin.trans (if_pos h)),
      fun h hpart => congrArg Host.Outcome.next (hin.trans ((if_neg (Nat.not_lt.mpr h)).trans (if_pos hpart))),
      fun h hwhole => congrArg Host.Outcome.next (hin.trans ((if_neg (Nat.not_lt.mpr h)).trans (if_neg (Nat.not_lt.mpr hwhole))))⟩
  · have hin (h : byteAt f.payload 0 ≤ x.frames) := blockAck_inBlock hon hlegal hdest hf hx hblock hlen h
    exact ⟨fun h => congrArg Host.Outcome.next ((hin h.le).trans (if_pos h)),
      fun h hover => congrArg Host.Outcome.next ((hin h.le).trans ((if_neg h.not_lt).trans (if_pos hover))),
      fun h hmore => congrArg Host.Outcome.next ((hin h.le).trans ((if_neg h.not_lt).trans (if_neg (Nat.not_le.mpr hmore))))⟩

end Sys2Proof.Machine
end

section
/-! The chain and the controller (R486, R493, R494, R505, R506, R509): claims of a walking unit, CHAIN_IN, conflicts, HELLO, repeats of
events and errors of the controller. -/

namespace Sys2Proof.Machine

section Chain
variable {s : State}

/-! ## Claims -/

theorem claimEligible_of {w h : Nat} (hwalk : s.bus.walkTick = some w) (hhigh : s.bus.chainHighSince = some h) (hon : s.bus.busOff = false)
    (hrate : s.bus.rateSwitch = none) (hclaim : s.bus.claimTick = none) (hback : s.bus.backoffUntil = none)
    (hsettled : w + 1000000 ≤ s.gtc) (hturn : h ≤ w + 1000000 ∨ h + 10000 ≤ s.gtc) : s.claimEligible = true := by
  have hturn : decide (h ≤ w + walkSettle) || decide (h + 10000 ≤ s.gtc) := by
    simp only [Bool.or_eq_true, decide_eq_true_eq]
    exact hturn
  simp only [State.claimEligible, State.mayTransmit, hwalk, hhigh, hon, hrate, hclaim, hback, hturn, Bool.not_false, Option.isNone_none,
    Bool.true_and, Bool.and_true]
  exact decide_eq_true hsettled

/-- The unit with its CLAIM of NEXT sent (R493 step 5). -/
def State.claimed (s : State) : State :=
  (s.sendFrame 2 127 s.bus.next claimTag (s.claimPayload 1)).modBus fun b => { b with claimTick := some s.gtc }

section Eligible
variable (h : s.claimEligible = true)
include h

theorem walkEligible_beyond (hnext : 120 < s.bus.next) (e : ClaimEnd) (contested : Bool) :
    walkEligible e contested s = ((s.modBus fun b => { b with walkTick := none }).driveChain true).sendHello :=
  (if_neg (not_not_intro h)).trans (if_pos hnext)

variable (hnext : s.bus.next ≤ 120)
include hnext

theorem walkEligible_sent (contested : Bool) :
    walkEligible .sent contested s = if contested = true then s.claimed.noteConflict else s.claimed := by
  have hgtc : (s.sendFrame 2 127 s.bus.next claimTag (s.claimPayload 1)).gtc = s.gtc := (sendFrame_postsOnly ..).gtc
  refine (if_neg (not_not_intro h)).trans ((if_neg (Nat.not_lt.mpr hnext)).trans ?_)
  dsimp only
  rw [hgtc]
  rfl

theorem walkEligible_lost (contested : Bool) : walkEligible .lost contested s = s.noteConflict :=
  (if_neg (not_not_intro h)).trans (if_neg (Nat.not_lt.mpr hnext))

theorem walkEligible_collided (contested : Bool) :
    walkEligible .collided contested s = (s.modBus fun b => { b with backoffUntil := some (s.gtc + s.free % 1000000) }).useFree :=
  (if_neg (not_not_intro h)).trans (if_neg (Nat.not_lt.mpr hnext))

end Eligible

theorem claimHoldExpiry_held {t : Nat} (ht : s.bus.claimTick = some t) (hdue : t + 100000 ≤ s.gtc) :
    claimHoldExpiry s =
      let u := s.setAll [(Obj.busAddress, s.bus.next), (Obj.busAddressState, 1), (Obj.chainPosition, s.bus.next - s.bus.base + 1)]
      ((u.modBus fun b => { b with walkTick := none, claimTick := none }).driveChain true).flushEvents := by
  simp only [claimHoldExpiry, ht]
  exact if_neg (Nat.not_lt.mpr hdue)

theorem claimBackoff_over {t : Nat} (ht : s.bus.backoffUntil = some t) (hdue : t ≤ s.gtc) :
    claimBackoff s = s.modBus fun b => { b with backoffUntil := none } := by
  simp only [claimBackoff, ht]
  exact if_neg (Nat.not_lt.mpr hdue)

/-! ## CHAIN_IN -/

/-- CHAIN_IN low, before what it makes of the chain. -/
def State.chainInLow (s : State) : State := (s.set Obj.chainInLevel 0).modBus fun b => { b with chainHighSince := none }

/-- CHAIN_IN high, before what it makes of the chain. -/
def State.chainInHigh (s : State) : State :=
  (s.set Obj.chainInLevel 1).modBus fun b => { b with chainHighSince := some (b.chainHighSince.getD s.gtc) }

theorem chainInLow_get {k : Nat} (h : k ≠ Obj.chainInLevel) : s.chainInLow.get k = s.get k :=
  (State.get_congr (s := s.set Obj.chainInLevel 0) rfl k).trans (State.get_set_ne _ _ _ _ h)

theorem chainInHigh_get {k : Nat} (h : k ≠ Obj.chainInLevel) : s.chainInHigh.get k = s.get k :=
  (State.get_congr (s := s.set Obj.chainInLevel 1) rfl k).trans (State.get_set_ne _ _ _ _ h)

theorem chainInFall_eq :
    chainInFall s = if s.get Obj.busAddressState = 1 ∧ s.get Obj.chainBroken = 0 then (s.chainInLow.set Obj.chainBroken 1).postBus 1
      else s.chainInLow := by
  rw [← chainInLow_get (s := s) (show Obj.busAddressState ≠ Obj.chainInLevel by decide),
    ← chainInLow_get (s := s) (show Obj.chainBroken ≠ Obj.chainInLevel by decide)]
  simp only [chainInFall, State.addressed, beq_iff_eq]
  rfl

theorem chainInRise_eq :
    chainInRise s = if s.get Obj.chainBroken = 1 then (s.chainInHigh.set Obj.chainBroken 0).postBus 2 else s.chainInHigh := by
  rw [← chainInHigh_get (s := s) (show Obj.chainBroken ≠ Obj.chainInLevel by decide)]
  rfl

/-! ## Conflicts, HELLO and the controller -/

theorem addressConflict_own {f : BusFrame} (hon : s.bus.busOff = false) (hstate : s.get Obj.busAddressState = 1)
    (hlegal : frameLegal f = true) (hsrc : f.src = s.get Obj.busAddress) :
    addressConflict f s =
      ((s.setAll [(Obj.busAddress, 125), (Obj.busAddressState, 2), (Obj.chainPosition, 0)]).noteConflict).sendHello :=
  if_neg (by simp [hon, State.addressed, hstate, hlegal, hsrc])

theorem hello_due (hstate : s.get Obj.busAddressState ≠ 1) (hon : s.bus.busOff = false) (hrate : s.bus.rateSwitch = none)
    (hdue : s.bus.lastHello + giga ≤ s.gtc) : hello s = s.sendHello :=
  if_neg (by simp [State.addressed, hstate, State.mayTransmit, hon, hrate, hdue])

theorem eventRepeat_flowing (h : s.eventsFlow = true) :
    eventRepeat s = ((s.bus.events.filter s.repeatDue).foldl (fun (u : State) e => u.sendEvent e) s).modBus fun b =>
      { b with events := b.events.map fun e => if s.repeatDue e = true then { e with sentAt := some s.gtc } else e } := if_pos h

theorem eventRepeat_held (h : s.eventsFlow = false) : eventRepeat s = s := if_neg (by simp [h])

theorem busOffRecovery_off (h : s.bus.busOff = true) :
    busOffRecovery s = State.flushEvents
      (((s.modBus fun b => { b with busOff := false }).setAll [(Obj.transmitErrorCount, 0), (Obj.receiveErrorCount, 0)]).postBus 3) :=
  if_pos h

theorem errorFrame_on (hon : s.bus.busOff = false) (tec rec_ : Nat) (off : Bool) :
    errorFrame tec rec_ off s =
      let t := (s.bump Obj.busErrorFrames).setAll [(Obj.transmitErrorCount, min tec 255), (Obj.receiveErrorCount, min rec_ 255)]
      if off = true then (t.modBus fun b => { b with busOff := true }).countW 32 Obj.busOffCount 1 else t :=
  if_neg (by simp [hon])

end Chain

/-- Settles O48: each command by the branch that its guards pick. -/
theorem chainAndControllerComplete : Obligations.ChainAndControllerComplete := by
  refine ⟨fun s e contested w h hwalk hhigh hon hrate hclaim hback hsettled hturn => ?_, fun s => rfl, fun s t ht hdue => ?_,
    fun s t ht hdue => ?_, fun s => ⟨fun hstate hbroken => ?_, fun h => ?_, fun hbroken => ?_, fun hbroken => ?_⟩,
    fun s f hon hstate hlegal hsrc => ?_, fun s hstate hon hrate hdue => ?_, fun s h => ?_, fun s h => ?_, fun s h => ?_,
    fun s tec rec_ hon => ⟨?_, ?_⟩⟩
  · have he := claimEligible_of hwalk hhigh hon hrate hclaim hback hsettled hturn
    exact ⟨fun hnext => congrArg Host.Outcome.next (walkEligible_beyond he hnext e contested), fun hnext =>
      ⟨congrArg Host.Outcome.next ((walkEligible_sent he hnext false).trans (if_neg (by decide))),
        congrArg Host.Outcome.next (walkEligible_sent he hnext true), congrArg Host.Outcome.next (walkEligible_lost he hnext contested),
        congrArg Host.Outcome.next (walkEligible_collided he hnext contested)⟩⟩
  · exact congrArg Host.Outcome.next (claimHoldExpiry_held ht hdue)
  · exact congrArg Host.Outcome.next (claimBackoff_over ht hdue)
  · exact congrArg Host.Outcome.next (chainInFall_eq.trans (if_pos ⟨hstate, hbroken⟩))
  · exact congrArg Host.Outcome.next (chainInFall_eq.trans (if_neg fun both => h.elim (absurd both.1) (absurd both.2)))
  · exact congrArg Host.Outcome.next (chainInRise_eq.trans (if_pos hbroken))
  · exact congrArg Host.Outcome.next (chainInRise_eq.trans (if_neg hbroken))
  · exact congrArg Host.Outcome.next (addressConflict_own hon hstate hlegal hsrc)
  · exact congrArg Host.Outcome.next (hello_due hstate hon hrate (by rwa [show giga = 1000000000 from rfl]))
  · exact congrArg Host.Outcome.next (eventRepeat_flowing h)
  · exact congrArg Host.Outcome.next (eventRepeat_held h)
  · exact congrArg Host.Outcome.next (busOffRecovery_off h)
  · exact congrArg Host.Outcome.next ((errorFrame_on hon tec rec_ false).trans (if_neg (by decide)))
  · exact congrArg Host.Outcome.next ((errorFrame_on hon tec rec_ true).trans (if_pos rfl))

end Sys2Proof.Machine
end

section
/-! A write to an object (R500, R511 to R514, R516, R518, R519): the checks in order, and what the object's type and owner make of it. -/

namespace Sys2Proof.Machine

section Write
variable {s : State} {o : Outside} {k off : Nat} {v : Bytes}

/-! ## The checks -/

theorem writeObject_aborted {sv : Option WriteService} {e : Nat × Nat} (h : requestAbort s sv k off v.length = some e) :
    writeObject o sv k off v s = s.refuse e.1 e.2 := by
  simp only [writeObject, h]

theorem lengthAbort_fixed {ty : ObjType} {n : Nat} (hn : ty.size = some n) (off len : Nat) :
    lengthAbort ty off len = if off = 0 ∧ n = len then none else some (0x0013, 0) := by
  cases ty
  case str => cases hn
  case domain => cases hn
  all_goals exact if_congr (and_congr_right fun _ => by rw [hn, Option.some.injEq]) rfl rfl

section Row
variable {r : ObjRow} (ha : accessWrite s k = none) (hr : findRow k = some r)
include ha hr

theorem requestAbort_row (off len : Nat) : requestAbort s none k off len = lengthAbort r.ty off len := by
  simp only [requestAbort, ha, hr, Option.bind_none]

theorem writeObject_length {e : Nat × Nat} (h : lengthAbort r.ty off v.length = some e) : writeObject o none k off v s = s.refuse e.1 e.2 :=
  writeObject_aborted ((requestAbort_row ha hr off v.length).trans h)

/-! ## By type -/

theorem writeObject_domain {m : Nat} (hty : r.ty = .domain m) :
    writeObject o none k off v s = if m < off + v.length then s.refuse 0x0019 0
      else if persistFull s k = true then s.refuse 0x0018 0 else domainWrite k off v s := by
  by_cases h : m < off + v.length
  · rw [if_pos h, writeObject_length ha hr (e := (0x0019, 0)) (by rw [hty]; exact if_pos h)]
  · have hl : requestAbort s none k off v.length = none := (requestAbort_row ha hr off v.length).trans (by rw [hty]; exact if_neg h)
    simp only [writeObject, hl, hr, hty, if_neg h]

theorem writeObject_str {m : Nat} (hty : r.ty = .str m) :
    writeObject o none k off v s = if off = 0 then if persistFull s k = true then s.refuse 0x0018 0 else stringWrite k m v s
      else s.refuse 0x0013 0 := by
  by_cases h : off = 0
  · have hl : requestAbort s none k off v.length = none := (requestAbort_row ha hr off v.length).trans (by rw [hty]; exact if_pos h)
    simp only [writeObject, hl, hr, hty, if_pos h]
  · rw [if_neg h, writeObject_length ha hr (e := (0x0013, 0)) (by rw [hty]; exact if_neg h)]

theorem writeObject_misfit {n : Nat} (hn : r.ty.size = some n) (h : off ≠ 0 ∨ n ≠ v.length) :
    writeObject o none k off v s = s.refuse 0x0013 0 :=
  writeObject_length ha hr (e := (0x0013, 0)) ((lengthAbort_fixed hn off v.length).trans (if_neg (by omega)))

theorem writeObject_fixed {n : Nat} (hn : r.ty.size = some n) (hoff : off = 0) (hlen : n = v.length) :
    writeObject o none k off v s = if (r.inRange (leNat v) && relationOk s k (leNat v)) = true then
        if persistFull s k = true then s.refuse 0x0018 0 else ownerWrite o k (leNat v) s
      else s.refuse 0x0014 (rangeReason k) := by
  have hl : requestAbort s none k off v.length = none :=
    (requestAbort_row ha hr off v.length).trans ((lengthAbort_fixed hn off v.length).trans (if_pos ⟨hoff, hlen⟩))
  by_cases hok : (r.inRange (leNat v) && relationOk s k (leNat v)) = true <;> cases hty : r.ty
  case pos.str => simp [hty, ObjType.size] at hn
  case pos.domain => simp [hty, ObjType.size] at hn
  case neg.str => simp [hty, ObjType.size] at hn
  case neg.domain => simp [hty, ObjType.size] at hn
  all_goals simp only [writeObject, hl, hr, hty, valueAbort, hok, Bool.false_eq_true, if_true, if_false]

end Row

theorem stringWrite_eq {m : Nat} :
    stringWrite k m v s = if v.length ≤ m ∧ (0 : Byte) ∉ v ∧ wellFormed v = true then ((s.setBlob k v).recordWrite k v).ok
      else s.refuse 0x0014 0 := by
  simp only [stringWrite, List.contains_iff_mem]

/-! ## By owner -/

section Owner
variable {n : Nat} (hnone : (owners o).findSome? (fun e => (instOf e.1 e.2.1 k).map fun i => e.2.2 i n) = none)
include hnone

theorem ownerWrite_free (h : stepRestricted k = none) : ownerWrite o k n s = s.accept k n := by
  simp only [ownerWrite, hnone, h]

theorem ownerWrite_step {slot : Nat} (h : stepRestricted k = some slot) :
    ownerWrite o k n s = if s.stepOpen slot = true then s.accept k n else s.refused 0x801A := by
  simp only [ownerWrite, hnone, h]
  rfl

end Owner

theorem not_stepOpen {slot : Nat} (hstep : s.stepState slot ≠ 1) (hjob : s.jobState slot ≠ 2) : ¬ s.stepOpen slot = true := by
  rw [stepOpen_iff]
  exact fun h => h.elim hstep hjob

/-! ## Windows -/

theorem domainWrite_window {slot : Nat} (h : instOf Obj.manifestImage 64 k = some slot) :
    domainWrite k off v s = stagingWrite slot off v s := by
  simp only [domainWrite, h]

theorem objectDataWrite_unopened (h : ∀ w ∈ s.objectWindows, w.object ≠ s.get Obj.objectSelect) :
    domainWrite Obj.objectData off v s = s.refused 0x5012 := by
  have hwindow : instOf Obj.manifestImage 64 Obj.objectData = none := by decide
  simp only [domainWrite, hwindow, if_true]
  exact if_neg (by simpa using h)

end Write

/-- Settles O49: the check that fails first decides, then the object's type, its owner, and for a window the state of its slot or
object. -/
theorem registerWriteComplete : Obligations.RegisterWriteComplete := by
  refine ⟨fun s o k off v e h => congrArg Host.Outcome.next (writeObject_aborted h), fun s o k off v r ha hr => ⟨fun m hty => ?_,
      fun m hty => ?_, fun n hn => ⟨fun h => ?_, fun hoff hlen hbad => ?_, fun hoff hlen hrange hrel hfull => ?_,
      fun hoff hlen hrange hrel hroom => ?_⟩⟩,
    fun s o k v hnone => ⟨ownerWrite_free hnone, fun slot h hopen => ?_, fun slot h hstep hjob => ?_⟩,
    fun s k v => ⟨?_, fun j hj => ?_, rfl, ?_, ?_⟩,
    fun s slot off k v h => ⟨fun hstate hopen => ?_, fun hshut => ?_⟩, fun s off v h => objectDataWrite_unopened h⟩
  · have hw := writeObject_domain (o := o) (off := off) (v := v) ha hr hty
    exact ⟨fun h => congrArg Host.Outcome.next (hw.trans (if_pos h)),
      fun h hfull => congrArg Host.Outcome.next (hw.trans ((if_neg (Nat.not_lt.mpr h)).trans (if_pos hfull))),
      fun h hroom => congrArg Host.Outcome.next (hw.trans ((if_neg (Nat.not_lt.mpr h)).trans (if_neg (by simp [hroom]))))⟩
  · have hw := writeObject_str (o := o) (off := off) (v := v) ha hr hty
    refine ⟨fun h => congrArg Host.Outcome.next (hw.trans (if_neg h)), fun h hroom => congrArg Host.Outcome.next ?_⟩
    exact hw.trans ((if_pos h).trans ((if_neg (by simp [hroom])).trans stringWrite_eq))
  · exact congrArg Host.Outcome.next (writeObject_misfit ha hr hn h)
  · refine congrArg Host.Outcome.next ((writeObject_fixed ha hr hn hoff hlen).trans (if_neg ?_))
    obtain h | h := hbad <;> simp [h]
  · exact congrArg Host.Outcome.next ((writeObject_fixed ha hr hn hoff hlen).trans ((if_pos (by simp [hrange, hrel])).trans (if_pos hfull)))
  · exact congrArg Host.Outcome.next ((writeObject_fixed ha hr hn hoff hlen).trans
      ((if_pos (by simp [hrange, hrel])).trans (if_neg (by simp [hroom]))))
  · exact (ownerWrite_step hnone h).trans (if_pos (stepOpen_iff.mpr hopen))
  · exact (ownerWrite_step hnone h).trans (if_neg (not_stepOpen hstep hjob))
  · exact (accept_get s k v k).trans (if_pos rfl)
  · exact (accept_get s k v j).trans (if_neg hj)
  · rw [accept_rest]
  · rw [accept_rest]
  · exact (domainWrite_window h).trans (if_pos ⟨hstate, hopen⟩)
  · refine (domainWrite_window h).trans (if_neg fun both => ?_)
    obtain ⟨hstate, hopen⟩ := both
    obtain h | h := hshut
    · exact h hstate
    · exact Bool.false_ne_true (h.symm.trans hopen)

end Sys2Proof.Machine
end

section
/-! The persistent area (R500, R515 to R519, R523): a record is committed, the area is compacted, and RESTORE_DEFAULTS. -/

namespace Sys2Proof.Machine

/-! ## Committing a record -/

section Place
variable (p : Persist)

theorem place_eq (n : Nat) :
    p.place n = { p with
      erased := if p.fill + n ≤ 65536 then p.erased else p.erased - 1
      fill := if p.fill + n ≤ 65536 then p.fill + n else n } := by
  rw [Persist.place, persistBlock]
  split <;> rfl

theorem fits_iff (n : Nat) : p.fits n = true ↔ p.fill + n ≤ 65536 ∨ 0 < p.erased := by
  rw [Persist.fits, Bool.or_eq_true, decide_eq_true_eq, decide_eq_true_eq, persistBlock]

/-- What committing a record leaves: the record stands last, under the next SEQ. -/
theorem commit_records (k : Nat) (v : Bytes) :
    (p.commit k v).records = p.records ++ [{ seq := p.nextSeq, key := k, value := v, committed := true }] := rfl

theorem commit_nextSeq (k : Nat) (v : Bytes) : (p.commit k v).nextSeq = p.nextSeq + 1 := rfl

theorem commit_pending (k : Nat) (v : Bytes) : (p.commit k v).pending = p.pending := by
  rw [Persist.commit, place_eq]

end Place

theorem installing_iff {s : State} : s.installing = true ↔ s.get Obj.fwState = 3 := beq_iff_eq

theorem persistCommit_waits {s : State} {n : Nat} (h : s.get Obj.fwState = 3 ∨ s.persist.pending = []) : persistCommit n s = s := by
  obtain h | h := h
  · exact if_pos (installing_iff.mpr h)
  · simp only [persistCommit, h]
    exact ite_self _

section Commit
variable {s : State} {n k tick : Nat} {v : Bytes} {rest : List (Nat × Bytes × Nat)} (hrun : s.get Obj.fwState ≠ 3)
  (hp : s.persist.pending = (k, v, tick) :: rest)
include hrun hp

theorem persistCommit_next :
    persistCommit n s = if s.persist.fits (recordBytes v) = true then
        if 3 ≤ n then State.countW { s with persist := { s.persist with pending := rest } } 32 Obj.persistErrors 1
        else { s with persist := { s.persist.commit k v with pending := rest } }
      else s := by
  unfold persistCommit
  rw [if_neg (mt installing_iff.mp hrun)]
  simp only [hp]
  cases s.persist.fits (recordBytes v) <;> rfl

end Commit

/-! ## Compaction -/

/-- Objects are committed one after the other, each with its value. -/
def Persist.commitAll (p : Persist) (value : Nat → Bytes) (keys : List Nat) : Persist := keys.foldl (fun q k => q.commit k (value k)) p

section CommitAll
variable (value : Nat → Bytes)

theorem commitAll_pending (keys : List Nat) (p : Persist) : (p.commitAll value keys).pending = p.pending := by
  induction keys generalizing p with
  | nil => rfl
  | cons k keys ih => exact (ih _).trans (commit_pending p k _)

theorem mem_commitAll_of_mem {r : PersistRecord} (keys : List Nat) (p : Persist) (h : r ∈ p.records) :
    r ∈ (p.commitAll value keys).records := by
  induction keys generalizing p with
  | nil => exact h
  | cons k keys ih => exact ih _ (List.mem_append_left _ h)

/-- A record after the commits stood before, or is one of them under a later SEQ. -/
theorem mem_commitAll {r : PersistRecord} (keys : List Nat) (p : Persist) (h : r ∈ (p.commitAll value keys).records) :
    r ∈ p.records ∨ (r.committed = true ∧ p.nextSeq ≤ r.seq ∧ r.key ∈ keys ∧ r.value = value r.key) := by
  induction keys generalizing p with
  | nil => exact .inl h
  | cons k keys ih =>
    obtain h | ⟨hcommitted, hseq, hkey, hvalue⟩ := ih _ h
    · obtain h | h := List.mem_append.mp h
      · exact .inl h
      · rw [List.mem_singleton.mp h]
        exact .inr ⟨rfl, Nat.le_refl _, List.mem_cons_self, rfl⟩
    · exact .inr ⟨hcommitted, Nat.le_of_succ_le hseq, List.mem_cons_of_mem _ hkey, hvalue⟩

theorem exists_commitAll {k : Nat} (keys : List Nat) (p : Persist) (h : k ∈ keys) :
    ∃ r ∈ (p.commitAll value keys).records, r.key = k ∧ r.value = value k := by
  induction keys generalizing p with
  | nil => cases h
  | cons j keys ih =>
    obtain rfl | h := List.mem_cons.mp h
    · exact ⟨_, mem_commitAll_of_mem value keys _ (List.mem_append_right _ (List.mem_singleton_self _)), rfl, rfl⟩
    · exact ih _ h

end CommitAll

/-- The better of two records of an object. -/
def laterRecord (k : Nat) (best : Option PersistRecord) (r : PersistRecord) : Option PersistRecord :=
  if r.key == k && r.committed then
    (match best with
    | some b => if b.seq < r.seq then some r else best
    | none => some r)
  else best

theorem laterRecord_mem {k : Nat} {best : Option PersistRecord} {r b : PersistRecord} (h : laterRecord k best r = some b) :
    best = some b ∨ b = r ∧ r.key = k ∧ r.committed = true := by
  unfold laterRecord at h
  split at h
  case isFalse => exact .inl h
  case isTrue hr =>
    have hr : r.key = k ∧ r.committed = true := by simpa using hr
    cases best with
    | none => exact .inr ⟨(Option.some.inj h).symm, hr⟩
    | some c =>
      dsimp only at h
      split at h
      · exact .inr ⟨(Option.some.inj h).symm, hr⟩
      · exact .inl h

/-- The record whose value an object takes is one of its committed records. -/
theorem foldl_laterRecord_mem {k : Nat} {b : PersistRecord} (l : List PersistRecord) (best : Option PersistRecord)
    (h : l.foldl (laterRecord k) best = some b) : best = some b ∨ b ∈ l ∧ b.key = k ∧ b.committed = true := by
  induction l generalizing best with
  | nil => exact .inl h
  | cons r l ih =>
    obtain h | ⟨hmem, hb⟩ := ih _ h
    · obtain h | ⟨rfl, hb⟩ := laterRecord_mem h
      · exact .inl h
      · exact .inr ⟨List.mem_cons_self, hb⟩
    · exact .inr ⟨List.mem_cons_of_mem _ hmem, hb⟩

theorem committedValue_eq (p : Persist) (k : Nat) :
    committedValue p k = (p.records.foldl (laterRecord k) none).map PersistRecord.value := rfl

theorem mem_keys_of_committedValue {p : Persist} {k : Nat} {v : Bytes} (h : committedValue p k = some v) : k ∈ p.keys := by
  rw [committedValue_eq, Option.map_eq_some_iff] at h
  obtain ⟨b, hb, -⟩ := h
  obtain h | ⟨hmem, hkey, hcommitted⟩ := foldl_laterRecord_mem p.records none hb
  · cases h
  · rw [Persist.keys, List.mem_eraseDups]
    exact List.mem_map.mpr ⟨b, List.mem_filter.mpr ⟨hmem, hcommitted⟩, hkey⟩

/-- The objects whose records compaction keeps. -/
def Persist.kept (p : Persist) : List Nat :=
  p.keys.filter fun k => (findRow k).isSome && (committedValue p k).isSome && committedValue p k != some (defaultBytes k)

theorem mem_kept {p : Persist} {k : Nat} :
    k ∈ p.kept ↔ (findRow k).isSome = true ∧ ∃ v, committedValue p k = some v ∧ v ≠ defaultBytes k := by
  simp only [Persist.kept, List.mem_filter, Bool.and_eq_true, bne_iff_ne, Option.isSome_iff_exists (x := committedValue p k)]
  constructor
  · rintro ⟨-, ⟨hrow, v, hv⟩, hne⟩
    exact ⟨hrow, v, hv, fun h => hne (h ▸ hv)⟩
  · rintro ⟨hrow, v, hv, hne⟩
    exact ⟨mem_keys_of_committedValue hv, ⟨hrow, v, hv⟩, fun h => hne (Option.some.inj (hv.symm.trans h))⟩

/-- The area as compaction leaves it: the records kept alone, under new SEQs in erased blocks. -/
def Persist.compacted (p : Persist) : Persist :=
  Persist.commitAll { p with records := [], erased := 239, fill := 0 } (fun k => (committedValue p k).getD []) p.kept

section Compaction
variable {s : State} {n : Nat} (hrun : s.get Obj.fwState ≠ 3) (hfull : s.persist.erased * 65536 + (65536 - s.persist.fill) < 131072)
include hrun hfull

theorem persistCompaction_due :
    persistCompaction n s = if 3 ≤ n then s.countW 32 Obj.persistErrors 1
      else State.countW { s with persist := s.persist.compacted } 32 Obj.persistCompactions 1 := by
  have hinst : s.installing = false := Bool.eq_false_iff.mpr (mt installing_iff.mp hrun)
  have hfree : ¬ 131072 ≤ s.persist.freeBytes := Nat.not_le.mpr hfull
  exact if_neg (by simp [hinst, hfree])

end Compaction

theorem compacted_records {p : Persist} {r : PersistRecord} (h : r ∈ p.compacted.records) :
    r.committed = true ∧ p.nextSeq ≤ r.seq ∧ committedValue p r.key = some r.value ∧ r.value ≠ defaultBytes r.key := by
  obtain h | ⟨hcommitted, hseq, hkey, hvalue⟩ := mem_commitAll _ _ _ h
  · cases h
  · obtain ⟨-, v, hv, hne⟩ := mem_kept.mp hkey
    have hvalue : r.value = v := hvalue.trans (by rw [hv]; rfl)
    exact ⟨hcommitted, hseq, hvalue ▸ hv, hvalue ▸ hne⟩

theorem exists_compacted {p : Persist} {k : Nat} {v : Bytes} (hrow : (findRow k).isSome = true) (hv : committedValue p k = some v)
    (hne : v ≠ defaultBytes k) : ∃ r ∈ p.compacted.records, r.key = k ∧ r.value = v := by
  obtain ⟨r, hr, hkey, hvalue⟩ := exists_commitAll (fun k => (committedValue p k).getD []) p.kept
    { p with records := [], erased := 239, fill := 0 } (mem_kept.mpr ⟨hrow, v, hv, hne⟩)
  exact ⟨r, hr, hkey, hvalue.trans (by rw [hv]; rfl)⟩

/-! ## RESTORE_DEFAULTS -/

/-- A record is written where the area has room for it. -/
def Persist.rewrite (q : Persist) (r : PersistRecord) : Persist := { q.place (recordBytes r.value) with records := q.records ++ [r] }

theorem foldl_rewrite (l : List PersistRecord) (q : Persist) :
    (l.foldl Persist.rewrite q).records = q.records ++ l ∧ (l.foldl Persist.rewrite q).pending = q.pending := by
  induction l generalizing q with
  | nil => exact ⟨(List.append_nil _).symm, rfl⟩
  | cons r l ih =>
    obtain ⟨hrecords, hpending⟩ := ih (q.rewrite r)
    refine ⟨hrecords.trans (List.append_assoc ..), hpending.trans ?_⟩
    rw [Persist.rewrite, place_eq]

/-- The area with the records of RevokedUids alone. -/
def Persist.defaultsRestored (p : Persist) : Persist :=
  (p.records.filter fun r => r.key == Obj.revokedUids).foldl Persist.rewrite
    { p with records := [], erased := 239, fill := 0, pending := p.pending.filter fun e => e.1 == Obj.revokedUids }

theorem restoreDefaults_awake {s : State} (h : s.get Obj.powerState ≠ 2) :
    restoreDefaults s = if s.allEmpty = true then State.ok { s with persist := s.persist.defaultsRestored } else s.refused 0x801A := by
  refine (if_neg h).trans ?_
  cases s.allEmpty <;> rfl

theorem restoreDefaults_retain {s : State} (h : s.get Obj.powerState = 2) : restoreDefaults s = s.refused 0 := if_pos h

/-- Settles O50: what compaction and RESTORE_DEFAULTS leave is proved of the fold that writes the records kept. -/
theorem persistenceComplete : Obligations.PersistenceComplete := by
  refine ⟨fun s n k tick v rest hrun hp => ⟨fun hfits hfew => ?_, fun hfits hmany => ?_, fun hlong hnone => ?_⟩,
    fun s n h => congrArg Host.Outcome.next (persistCommit_waits h),
    fun s n hrun hfull => ⟨fun hmany => ?_, fun hfew => ⟨_, congrArg Host.Outcome.next ((persistCompaction_due hrun hfull).trans
      (if_neg (Nat.not_le.mpr hfew))), commitAll_pending .., ?_, fun r => compacted_records, fun k v => exists_compacted⟩⟩,
    fun s ha hawake => ⟨fun hempty => ?_, fun hslots => ?_⟩, fun s ha hretain => ?_⟩
  · refine congrArg Host.Outcome.next ((persistCommit_next hrun hp).trans ((if_pos ((fits_iff ..).mpr hfits)).trans
      ((if_neg (Nat.not_le.mpr hfew)).trans ?_)))
    rw [Persist.commit, place_eq]
    rfl
  · exact congrArg Host.Outcome.next ((persistCommit_next hrun hp).trans ((if_pos ((fits_iff ..).mpr hfits)).trans (if_pos hmany)))
  · refine congrArg Host.Outcome.next ((persistCommit_next hrun hp).trans (if_neg (mt (fits_iff ..).mp ?_)))
    exact fun h => h.elim (Nat.not_le.mpr hlong) hnone.not_gt
  · exact congrArg Host.Outcome.next ((persistCompaction_due hrun hfull).trans (if_pos hmany))
  · exact (State.get_countW ..).trans (if_pos rfl)
  · obtain ⟨hrecords, hpending⟩ := foldl_rewrite (s.persist.records.filter fun r => r.key == Obj.revokedUids)
      { s.persist with records := [], erased := 239, fill := 0, pending := s.persist.pending.filter fun e => e.1 == Obj.revokedUids }
    exact ⟨_, next_accepted ha ((restoreDefaults_awake hawake).trans (if_pos hempty)), rfl, rfl,
      rfl, hrecords, hpending⟩
  · exact next_accepted ha ((restoreDefaults_awake hawake).trans (if_neg (by simp [hslots])))
  · exact next_accepted ha (restoreDefaults_retain hretain)

end Sys2Proof.Machine
end

section
/-! The performance counters (R526, R527, R530 to R534): writes of control words and values, CLEAR_ALL and STOP_ALL, and snapshots. -/

namespace Sys2Proof.Machine

/-! ## Control words -/

section ControlWord
variable {b n w : Nat}

theorem controlOk_of {units : Option Nat} {slot : Bool} (hreserved : bits w 28 2 = 0) (hhigh : bits w 12 4 = 0)
    (hchain : ¬ (bit w 30 = true ∧ n % 2 = 0)) (hevent : eventFilter b (bits w 0 12) = some (units, slot))
    (hfilter : bits w 24 4 = 0 ∨ (bits w 24 4 = 1 ∧ slot = true ∧ bits w 16 8 < 64) ∨
      (bits w 24 4 = 2 ∧ ∃ u, units = some u ∧ bits w 16 8 < u)) : controlOk b n w = true := by
  have hchain : (!(ctrlChain w && n % 2 == 0)) = true := by
    rw [Bool.not_eq_true', Bool.eq_false_iff, ctrlChain, ne_eq, Bool.and_eq_true, beq_iff_eq]
    exact hchain
  simp only [controlOk, hreserved, hhigh, hchain, ctrlEvent, hevent, ctrlKind, ctrlValue]
  obtain hkind | ⟨hkind, hslot, hvalue⟩ | ⟨hkind, u, hu, hvalue⟩ := hfilter
  · simp [hkind]
  · simp [hkind, hslot, hvalue]
  · simp [hkind, hu, hvalue]

theorem not_controlOk (h : bits w 28 2 ≠ 0 ∨ bits w 12 4 ≠ 0 ∨ (bit w 30 = true ∧ n % 2 = 0) ∨ eventFilter b (bits w 0 12) = none) :
    controlOk b n w = false := by
  obtain h | h | ⟨hchain, hn⟩ | h := h
  · simp [controlOk, h]
  · simp [controlOk, h]
  · simp [controlOk, ctrlChain, hchain, hn]
  · simp [controlOk, ctrlEvent, h]

end ControlWord

/-! ## CLEAR_ALL and STOP_ALL -/

theorem mem_allCounters {b n : Nat} : (b, n) ∈ allCounters ↔ b < 8 ∧ n < bankCounterCount b := by
  simp [allCounters]

/-- The counters are marked as programmed anew. -/
def State.reprogrammed (s : State) : State := { s with counters := { s.counters with reprogrammed := true } }

/-- A counter's control word, value and overflow are zeroed. -/
def clearCounter (t : State) (c : Nat × Nat) : State :=
  ((t.set (ctrKey Obj.counterControl c.1 c.2) 0).set (ctrKey Obj.counterValue c.1 c.2) 0).set (ctrKey Obj.counterOverflowed c.1 c.2) 0

/-- A counter's ENABLE bit is cleared. -/
def stopCounter (t : State) (c : Nat × Nat) : State :=
  t.set (ctrKey Obj.counterControl c.1 c.2) (t.get (ctrKey Obj.counterControl c.1 c.2) % 2 ^ 31)

/-- Is an object one that CLEAR_ALL zeroes of a counter? -/
def ofCounter (k : Nat) (c : Nat × Nat) : Prop :=
  k = ctrKey Obj.counterControl c.1 c.2 ∨ k = ctrKey Obj.counterValue c.1 c.2 ∨ k = ctrKey Obj.counterOverflowed c.1 c.2

theorem clearCounter_get_of {t : State} {c : Nat × Nat} {k : Nat} (h : t.get k = 0 ∨ ofCounter k c) : (clearCounter t c).get k = 0 := by
  simp only [clearCounter, State.get_set]
  split
  · rfl
  · split
    · rfl
    · split
      · rfl
      next hover hvalue hcontrol =>
        obtain h | h | h | h := h
        · exact h
        · exact absurd h hcontrol
        · exact absurd h hvalue
        · exact absurd h hover

theorem clearCounter_get_ne {t : State} {c : Nat × Nat} {k : Nat} (h : ¬ ofCounter k c) : (clearCounter t c).get k = t.get k := by
  simp only [ofCounter, not_or] at h
  obtain ⟨hcontrol, hvalue, hover⟩ := h
  rw [clearCounter, State.get_set_ne _ _ _ _ hover, State.get_set_ne _ _ _ _ hvalue, State.get_set_ne _ _ _ _ hcontrol]

theorem foldl_clearCounter_get (l : List (Nat × Nat)) (t : State) (k : Nat) :
    ((t.get k = 0 ∨ ∃ c ∈ l, ofCounter k c) → (l.foldl clearCounter t).get k = 0) ∧
      ((∀ c ∈ l, ¬ ofCounter k c) → (l.foldl clearCounter t).get k = t.get k) := by
  induction l generalizing t with
  | nil => exact ⟨fun h => h.elim id (by simp), fun _ => rfl⟩
  | cons c l ih =>
    refine ⟨fun h => (ih (clearCounter t c)).1 ?_, fun h => ?_⟩
    · obtain h | ⟨d, hd, hk⟩ := h
      · exact .inl (clearCounter_get_of (.inl h))
      · obtain rfl | hd := List.mem_cons.mp hd
        · exact .inl (clearCounter_get_of (.inr hk))
        · exact .inr ⟨d, hd, hk⟩
    · exact ((ih _).2 fun d hd => h d (List.mem_cons_of_mem _ hd)).trans (clearCounter_get_ne (h c List.mem_cons_self))

theorem foldl_stopCounter_get (l : List (Nat × Nat)) (t : State) (k : Nat) :
    ((t.get k % 2 ^ 31 = t.get k ∨ ∃ c ∈ l, k = ctrKey Obj.counterControl c.1 c.2) →
      (l.foldl stopCounter t).get k = t.get k % 2 ^ 31) ∧
      ((∀ c ∈ l, k ≠ ctrKey Obj.counterControl c.1 c.2) → (l.foldl stopCounter t).get k = t.get k) := by
  induction l generalizing t with
  | nil => exact ⟨fun h => h.elim Eq.symm (by simp), fun _ => rfl⟩
  | cons c l ih =>
    have hget : (stopCounter t c).get k = if k = ctrKey Obj.counterControl c.1 c.2 then t.get k % 2 ^ 31 else t.get k := by
      rw [stopCounter, State.get_set]
      split
      next h => rw [h]
      next => rfl
    refine ⟨fun h => ?_, fun h => ?_⟩
    · have hstop : (stopCounter t c).get k % 2 ^ 31 = t.get k % 2 ^ 31 := by
        rw [hget]
        split
        · exact Nat.mod_mod _ _
        · rfl
      rw [← hstop]
      refine (ih (stopCounter t c)).1 ?_
      by_cases hk : k = ctrKey Obj.counterControl c.1 c.2
      · rw [hget, if_pos hk]
        exact .inl (Nat.mod_mod _ _)
      · rw [hget, if_neg hk]
        obtain h | ⟨d, hd, hkey⟩ := h
        · exact .inl h
        · obtain rfl | hd := List.mem_cons.mp hd
          · exact absurd hkey hk
          · exact .inr ⟨d, hd, hkey⟩
    · rw [← (if_neg (h c List.mem_cons_self) : (if k = ctrKey Obj.counterControl c.1 c.2 then t.get k % 2 ^ 31 else t.get k) = t.get k), ← hget]
      exact (ih _).2 fun d hd => h d (List.mem_cons_of_mem _ hd)

theorem foldl_clearCounter_counters (l : List (Nat × Nat)) (t : State) : (l.foldl clearCounter t).counters = t.counters := by
  induction l generalizing t with
  | nil => rfl
  | cons c l ih => exact ih _

theorem foldl_stopCounter_counters (l : List (Nat × Nat)) (t : State) : (l.foldl stopCounter t).counters = t.counters := by
  induction l generalizing t with
  | nil => rfl
  | cons c l ih => exact ih _

theorem counterCommandWrite_clear (s : State) : counterCommandWrite 1 s = (allCounters.foldl clearCounter s.reprogrammed).ok := by
  unfold counterCommandWrite
  rw [if_pos rfl]
  rfl

theorem counterCommandWrite_stop (s : State) : counterCommandWrite 2 s = (allCounters.foldl stopCounter s.reprogrammed).ok := by
  unfold counterCommandWrite
  rw [if_neg (by decide)]
  rfl

theorem clearAll_counters (s : State) : (counterCommandWrite 1 s).counters = s.reprogrammed.counters := by
  rw [counterCommandWrite_clear, State.ok_counters, foldl_clearCounter_counters]

theorem stopAll_counters (s : State) : (counterCommandWrite 2 s).counters = s.reprogrammed.counters := by
  rw [counterCommandWrite_stop, State.ok_counters, foldl_stopCounter_counters]

theorem clearAll_answer (s : State) : (counterCommandWrite 1 s).answer = {} := by
  rw [counterCommandWrite_clear]
  rfl

theorem stopAll_answer (s : State) : (counterCommandWrite 2 s).answer = {} := by
  rw [counterCommandWrite_stop]
  rfl

theorem clearAll_zero {k b n : Nat} (hb : b < 8) (hn : n < bankCounterCount b) (hk : ofCounter k (b, n)) (s : State) :
    (counterCommandWrite 1 s).get k = 0 := by
  rw [counterCommandWrite_clear, State.get_ok]
  exact (foldl_clearCounter_get allCounters s.reprogrammed k).1 (.inr ⟨(b, n), mem_allCounters.mpr ⟨hb, hn⟩, hk⟩)

theorem clearAll_other {k : Nat} (h : ∀ b n, b < 8 → n < bankCounterCount b → ¬ ofCounter k (b, n)) (s : State) :
    (counterCommandWrite 1 s).get k = s.get k := by
  rw [counterCommandWrite_clear, State.get_ok]
  refine (foldl_clearCounter_get allCounters s.reprogrammed k).2 fun c hc => ?_
  obtain ⟨hb, hn⟩ := mem_allCounters.mp hc
  exact h c.1 c.2 hb hn

theorem stopAll_control {b n : Nat} (hb : b < 8) (hn : n < bankCounterCount b) (s : State) :
    (counterCommandWrite 2 s).get (ctrKey Obj.counterControl b n) = s.get (ctrKey Obj.counterControl b n) % 2 ^ 31 := by
  rw [counterCommandWrite_stop, State.get_ok]
  exact (foldl_stopCounter_get allCounters s.reprogrammed _).1 (.inr ⟨(b, n), mem_allCounters.mpr ⟨hb, hn⟩, rfl⟩)

theorem stopAll_other {k : Nat} (h : ∀ b n, b < 8 → n < bankCounterCount b → k ≠ ctrKey Obj.counterControl b n) (s : State) :
    (counterCommandWrite 2 s).get k = s.get k := by
  rw [counterCommandWrite_stop, State.get_ok]
  refine (foldl_stopCounter_get allCounters s.reprogrammed k).2 fun c hc => ?_
  obtain ⟨hb, hn⟩ := mem_allCounters.mp hc
  exact h c.1 c.2 hb hn

/-! ## Snapshots -/

section Snapshot
variable {s : State}

theorem takeSnapshot_notDue (h : s.gtc % s.get Obj.snapshotTicks ≠ 0) : takeSnapshot s = s := if_pos h

variable (hdue : s.gtc % s.get Obj.snapshotTicks = 0)
include hdue

theorem takeSnapshot_missed (h : s.get Obj.snapshotEnable = 0) :
    takeSnapshot s = State.bump { s with counters := { s.counters with missed := s.counters.missed + 1 } } Obj.snapshotsMissed :=
  (if_neg (not_not_intro hdue)).trans (if_pos h)

theorem takeSnapshot_taken (h : s.get Obj.snapshotEnable ≠ 0) :
    takeSnapshot s =
      let c := s.counters
      let r : SnapRec :=
        { seq := s.get Obj.snapshotSeq + 1, tick := s.gtc
          bytes := snapshotBytes s (s.get Obj.snapshotSeq + 1) ((c.ring.getLast?.map SnapRec.tick).getD 0) }
      let ring := c.ring.drop (c.ring.length + 1 - s.get Obj.snapshotRingEntries) ++ [r]
      let t : State := { s with counters := { c with ring := ring, missed := 0, stepped := false, reprogrammed := false } };
      (List.range 16).foldl (portBandwidth (s.get Obj.bandwidthWindowSnapshots) (windowRange ring.reverse))
        (t.set Obj.snapshotSeq (s.get Obj.snapshotSeq + 1)) := by
  refine (if_neg (not_not_intro hdue)).trans ((if_neg h).trans ?_)
  dsimp only
  rw [State.get_set_ne _ _ _ _ (by decide)]
  rfl

end Snapshot

/-- Settles O51: control words by the conditions of R526; CLEAR_ALL and STOP_ALL by what their folds over all counters leave. -/
theorem counterCommandsComplete : Obligations.CounterCommandsComplete := by
  refine ⟨fun s b n w ha => ⟨fun hreserved hhigh hchain hfilter => ?_, fun h => ?_⟩, fun s b n v ha => ?_,
    fun s ha => ⟨_, congrArg Host.Outcome.next (writeCommand_accepted ha), clearAll_answer s, clearAll_counters s, fun b n hb hn => ?_,
      fun k hk => clearAll_other (fun b n hb hn h => ?_) s⟩,
    fun s ha => ⟨_, congrArg Host.Outcome.next (writeCommand_accepted ha), stopAll_answer s, stopAll_counters s,
      fun b n hb hn => stopAll_control hb hn s, fun k hk => stopAll_other hk s⟩,
    fun s hdue => ⟨fun h => congrArg Host.Outcome.next (takeSnapshot_missed hdue h),
      fun h => congrArg Host.Outcome.next (takeSnapshot_taken hdue h)⟩, fun s h => congrArg Host.Outcome.next (takeSnapshot_notDue h)⟩
  · obtain ⟨units, slot, hevent, hfilter⟩ := hfilter
    exact next_accepted ha (if_pos (controlOk_of hreserved hhigh hchain hevent hfilter))
  · exact next_accepted ha (if_neg (by simp [not_controlOk h]))
  · exact congrArg Host.Outcome.next (writeCommand_accepted ha)
  · exact ⟨clearAll_zero hb hn (.inl rfl) s, clearAll_zero hb hn (.inr (.inl rfl)) s, clearAll_zero hb hn (.inr (.inr rfl)) s⟩
  · obtain ⟨hcontrol, hvalue, hover⟩ := hk b n hb hn
    exact h.elim hcontrol (Or.rec hvalue hover)

end Sys2Proof.Machine
end

section
/-! Self-test on request (R538 to R544, R551, R552): logic BIST of islands, and the march tests of arrays. -/

namespace Sys2Proof.Machine

section Selftest
variable {s : State}

/-! ## Conditions -/

theorem not_all_iff {α : Type} {l : List α} {p : α → Bool} {q : α → Prop} (h : ∀ a, p a = false ↔ q a) :
    (¬ l.all p = true) ↔ ∃ a ∈ l, q a := by
  simp [h]

theorem clockOk_eq_false (r : IslandReading) : clockOk r = false ↔ r.locked = false := Iff.rfl

theorem temperatureOk_eq_false (r : IslandReading) : temperatureOk r = false ↔ r.coldest < 0 ∨ 420 < r.hottest := by
  rw [temperatureOk, decide_eq_false_iff_not, not_and_or, Int.not_le, Int.not_le]

theorem holdUpOk_eq_false (r : IslandReading) :
    s.holdUpOk r = false ↔ (r.domain = 15 ∨ r.domain = 17) ∧ s.get Obj.holdUpGate ≠ 1 := by
  rw [State.holdUpOk, Bool.or_eq_false_iff, Bool.and_eq_false_iff, bne_eq_false_iff_eq, bne_eq_false_iff_eq, beq_eq_false_iff_ne]

theorem testConditions_eq (l : List IslandReading) : s.testConditions l =
    if ∃ r ∈ l, r.locked = false then 3 else if ∃ r ∈ l, s.voltageOk r = false then 4
    else if ∃ r ∈ l, r.coldest < 0 ∨ 420 < r.hottest then 5
    else if ∃ r ∈ l, (r.domain = 15 ∨ r.domain = 17) ∧ s.get Obj.holdUpGate ≠ 1 then 6 else 0 :=
  if_congr (not_all_iff clockOk_eq_false) rfl (if_congr (not_all_iff fun _ => Iff.rfl) rfl
    (if_congr (not_all_iff temperatureOk_eq_false) rfl (if_congr (not_all_iff fun r => holdUpOk_eq_false r) rfl rfl)))

theorem testing_iff : s.testing = true ↔ s.selftest.command ≠ 0 := bne_iff_ne

/-! ## Logic BIST -/

section Lbist
variable {l : List IslandReading}

theorem lbist_slots (h : s.allEmpty = false) : lbist l s = s.refused 0x801A := if_pos (by simp [h])

variable (hempty : s.allEmpty = true)
include hempty

theorem lbist_busy (h : s.selftest.command ≠ 0) : lbist l s = s.testBusy :=
  (if_neg (not_not_intro hempty)).trans (if_pos (testing_iff.mpr h))

theorem lbist_idle (h : s.selftest.command = 0) :
    lbist l s =
      let islands := testIslands.filter fun d => bit (s.get Obj.selftestIslandMask) (d - 1)
      let result := s.testConditions (islands.map (readingOf l))
      let t : State := { s with selftest := { command := 1, queue := islands } }
      if result ≠ 0 then (s.set Obj.selftestLastResult result).ok else ((t.set Obj.selftestState 1).startIslands 13).endTest.ok :=
  (if_neg (not_not_intro hempty)).trans (if_neg (mt testing_iff.mp (not_not_intro h)))

end Lbist

section Island
variable {r : IslandReading} {failing : List Nat} {since : Nat}

/-- An island is open again after its test. -/
def State.reopenIsland (s : State) (d : Nat) : State :=
  ({ s with isolated := s.isolated.filter (· != d) } : State).modTest fun x => { x with testing := x.testing.filter fun y => y.1 != d }

variable (hd : s.selftest.testing.find? (fun t => t.1 == r.domain) = some (r.domain, since))
include hd

theorem lbistIslandComplete_cut (h : s.selftest.stopping = true ∨ s.testConditions [r] ≠ 0) :
    lbistIslandComplete r failing s =
      (((s.reopenIsland r.domain).modTest fun x =>
        { x with result := if s.testConditions [r] = 0 then x.result else s.testConditions [r] }).startIslands 13).endTest := by
  have hcut : (s.selftest.stopping || s.testConditions [r] != 0) = true := by simpa using h
  simp only [lbistIslandComplete, hd, hcut, not_true_eq_false, false_and, if_false, if_true]
  rfl

theorem lbistIslandComplete_tested (hgo : s.selftest.stopping = false) (hcode : s.testConditions [r] = 0)
    (hdue : since + s.lbistTicks r.domain ≤ s.gtc) :
    lbistIslandComplete r failing s =
      let d := r.domain
      let bad := (failing.filter (· < islandPartitions d)).eraseDups
      let u := ((s.reopenIsland d).setAll [(inst Obj.lbistFailedPartitions (d - 1), bad.length),
        (inst Obj.lbistLastTick (d - 1), s.gtc)]).failIsland d bad false
      if islandPartitions d - 1 ∈ bad then (u.noteDeviceFailure d).reboot
      else ((u.modTest fun x => { x with result := if bad = [] then x.result else 1 }).startIslands 13).endTest := by
  have hcut : (s.selftest.stopping || s.testConditions [r] != 0) = false := by simp [hgo, hcode]
  simp only [lbistIslandComplete, hd, hcut]
  rw [if_neg fun h => Nat.not_lt.mpr hdue h.2]
  simp only [Bool.false_eq_true, if_false, List.contains_iff_mem]
  rfl

end Island

/-! ## March tests -/

/-- A march begins over the arrays selected. -/
def State.startMarch (s : State) (command : Nat) : State :=
  let t : Selftest := { command := command, arrays := s.maskedArrays.map fun a => (a, 0, s.gtc) }
  ((State.set { s with selftest := t } Obj.selftestState 1).endTest).ok

theorem marchPreserve_eq : marchPreserve s = if s.selftest.command ≠ 0 then s.testBusy else s.startMarch 2 := if_congr testing_iff rfl rfl

theorem marchDestructive_slots (h : s.allEmpty = false) : marchDestructive s = s.refused 0x801A := if_pos (by simp [h])

section Destructive
variable (hempty : s.allEmpty = true) (hidle : s.selftest.command = 0)
include hempty hidle

theorem marchDestructive_idle :
    marchDestructive s = if s.maskedArrays.all (fun a => a == 0 || decide (16 ≤ a)) = true then s.startMarch 3 else s.refused 0 :=
  (if_neg (not_not_intro hempty)).trans ((if_neg (mt testing_iff.mp (not_not_intro hidle))).trans (ite_not ..))

end Destructive

theorem selftestStop_testing (h : s.selftest.command ≠ 0) :
    selftestStop s = (s.modTest fun t => { t with stopping := true, queue := [], arrays := [] }).endTest.ok :=
  if_neg (not_not_intro (testing_iff.mpr h))

theorem selftestStop_idle (h : s.selftest.command = 0) : selftestStop s = s.ok := if_pos (mt testing_iff.mp (not_not_intro h))

theorem marchWordTest_due {a word last : Nat} {banks : List Nat} (ha : s.selftest.arrays.find? (fun x => x.1 == a) = some (a, word, last))
    (hcommand : s.selftest.command = 2)
    (hdue : s.get Obj.marchPreserveCycles * (domainRatio (arrayDomain a)).2 ≤ (s.gtc - last) * (domainRatio (arrayDomain a)).1) :
    marchWordTest a banks s =
      let next := (word + 1) % arrayBankWords a
      let t := s.modTest fun x => { x with arrays := x.arrays.map fun y => if y.1 = a then (a, next, s.gtc) else y }
      State.spareRows (if next = 0 then t.set (inst Obj.marchLastTick a) s.gtc else t) a (banks.map fun b => (b, word / 4)) := by
  simp only [marchWordTest, ha]
  exact if_neg fun h => h.elim (absurd hcommand) (Nat.not_lt.mpr hdue)

theorem marchComplete_running {a : Nat} {rows : List (Nat × Nat)} (hcommand : s.selftest.command = 3)
    (ha : ∃ x ∈ s.selftest.arrays, x.1 = a) :
    marchComplete a rows s =
      let t := s.modTest fun x => { x with arrays := x.arrays.filter fun y => y.1 != a }
      ((t.set (inst Obj.marchLastTick a) s.gtc).spareRows a rows).endTest :=
  if_neg fun h => h.elim (absurd hcommand) fun h => h (by simpa using ha)

end Selftest

/-- Settles O52: each command by the branch that its guards pick. -/
theorem selftestCommandsComplete : Obligations.SelftestCommandsComplete := by
  refine ⟨fun s l ha => ⟨fun hslots => ?_, fun hempty hbusy => ?_, fun hempty hidle => ⟨fun hfails => ?_, fun hholds => ?_⟩⟩,
    fun s l => (testConditions_eq l).trans ?_, fun s r failing since hd => ⟨fun hcut => ?_, fun hgo hcode hdue => ?_⟩,
    fun s => ⟨fun ha hidle => ?_, fun ha hbusy => ?_, fun ha hempty hidle hspares => ?_, fun ha hempty hidle hholds => ?_, fun ha hslots => ?_,
      fun ha hbusy => ?_, fun ha hidle => ?_⟩,
    fun s a word last banks ha hcommand hdue => congrArg Host.Outcome.next (marchWordTest_due ha hcommand hdue),
    fun s a rows hcommand ha => congrArg Host.Outcome.next (marchComplete_running hcommand ha)⟩
  · exact next_accepted ha (lbist_slots hslots)
  · exact next_accepted ha (lbist_busy hempty hbusy)
  · exact next_accepted ha ((lbist_idle hempty hidle).trans (if_pos hfails))
  · exact next_accepted ha ((lbist_idle hempty hidle).trans (if_neg (not_not_intro hholds)))
  · congr
  · exact congrArg Host.Outcome.next (lbistIslandComplete_cut hd hcut)
  · exact congrArg Host.Outcome.next (lbistIslandComplete_tested hd hgo hcode hdue)
  · exact next_accepted ha (marchPreserve_eq.trans (if_neg (not_not_intro hidle)))
  · exact next_accepted ha (marchPreserve_eq.trans (if_pos hbusy))
  · exact next_accepted ha ((marchDestructive_idle hempty hidle).trans
      (if_pos (by simpa using hspares)))
  · exact next_accepted ha ((marchDestructive_idle hempty hidle).trans
      (if_neg (by simpa using hholds)))
  · exact next_accepted ha (marchDestructive_slots hslots)
  · exact next_accepted ha (selftestStop_testing hbusy)
  · exact next_accepted ha (selftestStop_idle hidle)

end Sys2Proof.Machine
end

section
/-! Ageing and the rails (R549, R550, R553, R555, R559 to R561): path delay samples, the margin planner, the steps of the core rails, and
the telemetry of the rails. -/

namespace Sys2Proof.Machine

section Ageing
variable {s : State}

/-! ## Path delays and the plan -/

/-- What a sampled island shows (R549). -/
def showDelay (t : State) (e : Nat × Nat) : State :=
  ((t.set (inst Obj.pathDelayPs (e.1 - 1)) e.2).seti 32 (inst Obj.slackPs (e.1 - 1)) ((islandPeriodPs e.1 : Int) - e.2)).seti 32
    (inst Obj.ageingPs (e.1 - 1)) ((e.2 : Int) - Config.baselineDelayPs e.1)

theorem pathDelaySample_due {l : List (Nat × Nat)} (hdue : s.gtc % 1000000 = 0) (hruns : s.hubRuns = true)
    (hl : ∀ e ∈ l, e.1 ∈ testIslands) :
    pathDelaySample l s =
      let t := l.foldl showDelay s
      let short := (l.filter fun e => decide (t.slackOf e.1 < (t.get Obj.floorSlackPs : Int))).map fun e => islandRail e.1
      (short.eraseDups.foldl (fun (t : State) r => if t.railTested r = true then t
        else t.planRail r (min (t.get (inst Obj.railPlannedMv r) + 5) (t.get (inst Obj.railMaxMv r)))) t).showAgeing := by
  have hall : l.filter (fun e => testIslands.contains e.1) = l :=
    List.filter_eq_self.mpr fun e he => List.contains_iff_mem.mpr (hl e he)
  refine (if_neg (by simp [hdue, hruns])).trans ?_
  dsimp only
  rw [hall]
  rfl

section PlanRail
variable {rail mv : Nat}

theorem planRail_same (h : mv = s.get (inst Obj.railPlannedMv rail)) : s.planRail rail mv = s := if_pos h

theorem planRail_other (h : mv ≠ s.get (inst Obj.railPlannedMv rail)) :
    s.planRail rail mv = ((s.set (inst Obj.railPlannedMv rail) mv).recordWrite (inst Obj.railPlannedMv rail) (leBytes 2 mv)).countW 32
      (if s.get (inst Obj.railPlannedMv rail) < mv then Obj.voltageRaises else Obj.voltageLowers) 1 := if_neg h

end PlanRail

theorem marginPlan_due (hruns : s.hubRuns = true) (hdue : s.power.lastPlan + s.get Obj.planIntervalTicks ≤ s.gtc) : marginPlan s = s.plan :=
  if_pos ⟨hruns, hdue⟩

section PlanOne
variable {rail : Nat} {x : Int} (hx : s.railSlack rail = some x) (hfree : s.railTested rail = false)
include hx hfree

theorem planOne_sampled :
    s.planOne rail =
      let target : Int := s.get Obj.targetSlackPs
      let now := s.get (inst Obj.railPlannedMv rail)
      if x < target then s.planRail rail (min (now + 5 * ceilDiv (target - x).toNat 6) (s.get (inst Obj.railMaxMv rail)))
      else if target + 12 ≤ x then s.planRail rail (max (now - 5) (s.get (inst Obj.railMinMv rail)))
      else s := by
  simp only [State.planOne, hx]
  exact if_neg (by simp [hfree])

end PlanOne

/-! ## Steps and telemetry -/

/-- Where a core rail is to stand: its plan, within its limits (R560). -/
def State.railWanted (s : State) (rail : Nat) : Nat :=
  max (s.get (inst Obj.railMinMv rail)) (min (s.get (inst Obj.railMaxMv rail)) (s.get (inst Obj.railPlannedMv rail)))

theorem avsStep_there {rail : Nat} (h : s.railNow rail = s.railWanted rail) : avsStep rail s = s := if_pos (.inr (.inl h))

theorem avsStep_away {rail : Nat} (hrail : rail < 8) (hruns : s.hubRuns = true) (hfree : s.railTested rail = false)
    (hdue : ∀ t, findKey rail s.power.stepTicks = some t → t + 10000 ≤ s.gtc) (h : s.railNow rail ≠ s.railWanted rail) :
    avsStep rail s = s.writeRail rail (if s.railNow rail < s.railWanted rail then min (s.railWanted rail) (s.railNow rail + 5)
      else max (s.railWanted rail) (s.railNow rail - 5)) := by
  have hdue : (findKey rail s.power.stepTicks).all (fun t => t + 10000 ≤ s.gtc) = true :=
    (Option.all_eq_true ..).mpr fun t ht => decide_eq_true (hdue t ht)
  refine if_neg ?_
  rintro (hr | hn | hh | ht | hd)
  · omega
  · exact h hn
  · exact hh hruns
  · exact Bool.false_ne_true (hfree.symm.trans ht)
  · exact hd hdue

theorem pmbusPoll_due (hruns : s.hubRuns = true) (hdue : s.power.lastPoll + s.get Obj.powerPollTicks ≤ s.gtc) (l : List RailReading) :
    pmbusPoll l s =
      let t := ((List.range 15).zip l).foldl (fun (t : State) e => t.setAll [(inst Obj.railVoutMv e.1, e.2.vout),
        (inst Obj.railIoutMa e.1, e.2.iout), (inst Obj.railPoutMw e.1, e.2.pout), (inst Obj.railStatusWord e.1, e.2.status)])
        (s.modPower fun p => { p with lastPoll := s.gtc })
      let w := ((List.range 15).map fun r => t.get (inst Obj.railPoutMw r)).sum / 1000
      t.setAll [(Obj.powerInputW, w), (Obj.powerPeakW, max w (t.get Obj.powerPeakW))] :=
  if_neg (by simp [hruns, hdue])

theorem pmbAlert_running (hruns : s.hubRuns = true) (l : List Nat) :
    pmbAlert l s = ((List.range 15).zip l).foldl (fun (t : State) e =>
      let t := t.set (inst Obj.railStatusWord e.1) e.2
      if e.2 = 0 then t
      else (t.countW 32 (inst Obj.railFaults e.1) 1).send (.board 2 (t.get (inst Obj.railPmbusAddress e.1)) 0)) s :=
  if_neg (not_not_intro hruns)

end Ageing

/-- Settles O53: each command by the branch that its guards pick. -/
theorem ageingAndRailsComplete : Obligations.AgeingAndRailsComplete := by
  refine ⟨fun s l hdue hruns hl => congrArg Host.Outcome.next (pathDelaySample_due hdue hruns hl),
    fun s rail mv => ⟨planRail_same, fun h => ?_, fun h => ?_⟩,
    fun s => ⟨fun hruns hdue => congrArg Host.Outcome.next (marginPlan_due hruns hdue),
      fun ha => congrArg Host.Outcome.next (writeCommand_accepted ha)⟩,
    fun s rail x hx hfree => ⟨fun h => ?_, fun h => ?_, fun hlow hhigh => ?_⟩,
    fun s rail hrail hruns hfree hdue => ⟨fun h => ?_, fun h => ?_, fun h => congrArg Host.Outcome.next (avsStep_there h)⟩,
    fun s l hruns hdue => congrArg Host.Outcome.next (pmbusPoll_due hruns hdue l),
    fun s l hruns => congrArg Host.Outcome.next (pmbAlert_running hruns l)⟩
  · rw [planRail_other h.ne', if_pos h]
  · rw [planRail_other h.ne, if_neg h.not_gt]
  · exact (planOne_sampled hx hfree).trans (if_pos h)
  · exact (planOne_sampled hx hfree).trans ((if_neg (by omega)).trans (if_pos h))
  · exact (planOne_sampled hx hfree).trans ((if_neg (Int.not_lt.mpr hlow)).trans (if_neg (Int.not_le.mpr hhigh)))
  · refine congrArg Host.Outcome.next ((avsStep_away hrail hruns hfree hdue (Nat.ne_of_lt h)).trans ?_)
    exact congrArg (s.writeRail rail) (if_pos h)
  · refine congrArg Host.Outcome.next ((avsStep_away hrail hruns hfree hdue (Nat.ne_of_gt h)).trans ?_)
    exact congrArg (s.writeRail rail) (if_neg (Nat.not_lt.mpr (Nat.le_of_lt h)))

end Sys2Proof.Machine
end

section
/-! Power (R563 to R569, R573, R575): loss and return of power, resets, RETAIN and its end, and SHUTDOWN. -/

namespace Sys2Proof.Machine

section Power
variable {s : State}

/-! ## Resets and the loss of power -/

theorem resetAssert_eq :
    resetAssert s =
      let t := s.stopMeasurement true
      let t := (if t.mounted = true ∧ t.power.halted = false then t.powerFailFlush else t).restart 1
      (((t.drive .chainOut false).drive .retainReq false).drive .powerOffReqN true).drive .thermTripN true := by
  simp only [resetAssert, Bool.not_eq_true]

theorem pwrgdFall_retained (hstate : s.get Obj.powerState = 2) (hreq : s.power.retainReq = true) :
    pwrgdFall s = s.modPower fun p => { p with pwrgd := false } := if_pos ⟨hstate, hreq⟩

/-- The unit as the loss of PWRGD leaves it, before the objects of the bus controller are shown again (R564). -/
def State.powerLost (s : State) : State :=
  { s.storeLoss.restart (s.get Obj.bootCause) with
    gtc := s.gtc
    bus := s.bus
    power := { pwrgd := false, failN := s.power.failN, offReqN := s.power.offReqN, thermTripN := s.power.thermTripN, halted := s.power.halted } }

theorem pwrgdFall_lost (h : s.get Obj.powerState ≠ 2 ∨ s.power.retainReq = false) :
    pwrgdFall s = s.powerLost.setAll (s.dict.filter fun e => busKey e.1) :=
  if_neg fun both => h.elim (absurd both.1) fun h => Bool.false_ne_true (h.symm.trans both.2)

theorem restart_rest (t : State) (cause : Nat) : t.restart cause = { State.reset with
    dict := (t.restart cause).dict
    pending := t.pending, freeCount := t.freeCount, answer := t.answer, sent := t.sent
    persist := { t.persist with pending := [] }
    lanesUsed := t.lanesUsed
    repair := { t.repair with rows := [] }
    store := t.store.afterReset
    durableStore := t.durableStore.afterReset
    cache := t.keptSegments
    boot := { slot := t.boot.slot } } := by
  unfold State.restart
  dsimp only [State.set]
  rw [State.setAll_rest]

theorem storeLoss_boot : s.storeLoss.boot = s.boot := by
  unfold State.storeLoss
  dsimp only
  split <;> rfl

section Fail
variable (hon : s.power.failN = true) (hlive : s.power.halted = false)
include hon hlive

theorem pwrFail_falls :
    pwrFail s =
      let t := s.modPower fun p => { p with failN := false }
      if s.get Obj.powerState = 2 then t.powerOff
      else ((t.stopMeasurement false).abandonTest).dataPathReset.modPower fun p => { p with course := .flush } :=
  if_neg (by simp [hon, hlive])

end Fail

theorem flushComplete_flushing (h : s.power.course = .flush) :
    flushComplete s =
      let t := (if s.mounted = true then s.powerFailFlush else s).powerOff
      if t.power.tripAfter = true then t.trip else t := if_neg (not_not_intro h)

/-! ## RETAIN and SHUTDOWN -/

/-- Nothing is being checked, installed or tested (R565, R568). -/
def State.quiet (s : State) : Prop := s.get Obj.fwState ≠ 1 ∧ s.get Obj.fwState ≠ 3 ∧ s.selftest.command = 0

theorem powerQuiet_iff : s.powerQuiet = true ↔ s.quiet := by
  simp [State.powerQuiet, State.quiet, State.testing, and_assoc]

theorem retainCommand_course (h : s.power.course ≠ .none) : retainCommand s = s.powerRefused 2 := if_pos h

section Idle
variable (hidle : s.power.course = .none)
include hidle

theorem retainCommand_begins (hslots : ∀ i ∈ allSlots, s.jobState i = 0 ∨ 6 ≤ s.jobState i)
    (hobjects : ∀ o ∈ s.store.objects, o.st = 2) (hquiet : s.quiet) :
    retainCommand s = ((s.closeNetwork.modPower fun p => { p with course := .entering }).set Obj.powerLastResult 0).ok := by
  refine (if_neg (not_not_intro hidle)).trans (if_neg (not_not_intro ?_))
  simp only [Bool.and_eq_true, List.all_eq_true, Bool.or_eq_true, beq_iff_eq, decide_eq_true_eq, powerQuiet_iff]
  exact ⟨⟨hslots, hobjects⟩, hquiet⟩

theorem retainCommand_refused (h : (∃ i ∈ allSlots, 1 ≤ s.jobState i ∧ s.jobState i ≤ 5) ∨ ¬ s.quiet) :
    retainCommand s = s.powerRefused 1 := by
  refine (if_neg (not_not_intro hidle)).trans (if_pos ?_)
  simp only [Bool.and_eq_true, List.all_eq_true, Bool.or_eq_true, beq_iff_eq, decide_eq_true_eq, powerQuiet_iff]
  rintro ⟨⟨hslots, -⟩, hquiet⟩
  obtain ⟨i, hi, hlow, hhigh⟩ | h := h
  · have hstate := hslots i hi
    omega
  · exact h hquiet

theorem shutdownCommand_idle :
    shutdownCommand s = if (s.allEmpty && s.powerQuiet) = true then
        ((s.modPower fun p => { p with course := .shutdown }).set Obj.powerLastResult 0).ok
      else s.powerRefused 1 := (if_neg (not_not_intro hidle)).trans (ite_not ..)

end Idle

theorem shutdownCommand_course (h : s.power.course ≠ .none) : shutdownCommand s = s.powerRefused 2 := if_pos h

theorem shutdownComplete_ending (h : s.power.course = .shutdown) :
    shutdownComplete s = (if s.mounted = true then s.finishStripes.writeCheckpoint.powerFailFlush else s).powerOff :=
  if_neg (not_not_intro h)

theorem retainEntered_reached (hcourse : s.power.course = .entering) (hcampaign : s.store.campaign = none) :
    retainEntered s =
      let t := (s.makeDurable.writeRail 7 (s.get Obj.retainSramMv)).modPower fun p =>
        { p with course := .retained, selfRefresh := true, retainReq := true }
      let t := (t.drive .retainReq true).countW 32 Obj.retainEntries 1
      State.set (if t.get Obj.syncSource = 1 then t.sourceLost else t) Obj.powerState 2 :=
  if_neg (by simp [hcourse, hcampaign])

section Retained
variable (hcourse : s.power.course = .retained) (hlive : s.power.halted = false)
include hcourse hlive

theorem wakeCommand_retained : wakeCommand s = (s.set Obj.powerLastResult 0).ok.wake := if_pos ⟨hcourse, by simp [hlive]⟩

theorem wakeFall_retained : wakeFall s = s.wake := if_pos ⟨hcourse, by simp [hlive]⟩

end Retained

theorem wakeCommand_idle (hidle : s.power.course = .none) : wakeCommand s = s.powerRefused 1 :=
  (if_neg (by simp [hidle])).trans (congrArg s.powerRefused (if_pos hidle))

theorem pwrgdRise_waking (h : s.power.course = .waking) : pwrgdRise s = (s.modPower fun p => { p with pwrgd := true }).finishWake := if_pos h

theorem pwrgdRise_other (h : s.power.course ≠ .waking) : pwrgdRise s = s.modPower fun p => { p with pwrgd := true } := if_neg h

end Power

/-- Settles O54: each command by the branch that its guards pick; what the loss of PWRGD leaves is read off the reset state. -/
theorem powerCommandsComplete : Obligations.PowerCommandsComplete := by
  refine ⟨fun s => congrArg Host.Outcome.next resetAssert_eq,
    fun s => ⟨fun hstate hreq => congrArg Host.Outcome.next (pwrgdFall_retained hstate hreq), fun h => ?_⟩,
    fun s hon hlive => ⟨fun h => ?_, fun h => ?_⟩, fun s h => congrArg Host.Outcome.next (flushComplete_flushing h), fun s => ⟨rfl, rfl, rfl⟩,
    fun s => ⟨fun ha hidle hslots hobjects hquiet => ?_, fun ha hidle h => ?_, fun ha hbusy => ?_, fun ha hidle hempty hquiet => ?_,
      fun ha hidle h => ?_, fun ha hbusy => ?_, fun h => congrArg Host.Outcome.next (shutdownComplete_ending h)⟩,
    fun s hcourse hcampaign => congrArg Host.Outcome.next (retainEntered_reached hcourse hcampaign),
    fun s hcourse hlive => ⟨fun ha => ?_, congrArg Host.Outcome.next (wakeFall_retained hcourse hlive)⟩, fun s ha hidle => ?_, fun s => rfl,
    fun s => ⟨fun h => congrArg Host.Outcome.next (pwrgdRise_waking h), fun h => congrArg Host.Outcome.next (pwrgdRise_other h)⟩⟩
  · refine ⟨_, congrArg Host.Outcome.next (pwrgdFall_lost h), ?_⟩
    rw [State.setAll_rest, State.powerLost, restart_rest, storeLoss_boot]
    exact ⟨rfl, rfl, rfl, rfl, rfl, rfl, rfl⟩
  · exact congrArg Host.Outcome.next ((pwrFail_falls hon hlive).trans (if_pos h))
  · exact congrArg Host.Outcome.next ((pwrFail_falls hon hlive).trans (if_neg h))
  · exact next_accepted ha (retainCommand_begins hidle hslots hobjects hquiet)
  · exact next_accepted ha (retainCommand_refused hidle h)
  · exact next_accepted ha (retainCommand_course hbusy)
  · exact next_accepted ha ((shutdownCommand_idle hidle).trans
      (if_pos (by rw [hempty, powerQuiet_iff.mpr hquiet]; rfl)))
  · refine next_accepted ha ((shutdownCommand_idle hidle).trans (if_neg ?_))
    rw [Bool.and_eq_true, powerQuiet_iff]
    rintro ⟨hempty, hquiet⟩
    exact h.elim (fun h => Bool.false_ne_true (h.symm.trans hempty)) (absurd hquiet)
  · exact next_accepted ha (shutdownCommand_course hbusy)
  · exact next_accepted ha (wakeCommand_retained hcourse hlive)
  · exact next_accepted ha (wakeCommand_idle hidle)

end Sys2Proof.Machine
end
